-- ==== Sys2Proof/Word.lean ====
section
/-! DEFINITION. The word types of the GZ4816 model and their plainest arithmetic.
Register fields and wire bytes are bit vectors; counts, addresses, times and instance numbers are natural numbers. -/

namespace Sys2Proof

/-- One byte on a wire or in a record. -/
abbrev Byte := BitVec 8

/-- A 16-bit value (TAG, SEQ, limp-map entry). -/
abbrev Half := BitVec 16

/-- One 32-bit register word (spec/00, "Registers"). -/
abbrev Word := BitVec 32

/-- A 64-bit value (device time, channel masks, axis positions). -/
abbrev Dword := BitVec 64

/-- A map from numbers to values kept as a list of pairs with rising keys; a key that is not
listed holds the value a default function gives it (see Machine/Sparse.lean). -/
abbrev Sparse (α : Type) := List (Nat × α)

/-- The word holding the natural number `n` modulo 2^32. -/
abbrev word (n : Nat) : Word := BitVec.ofNat 32 n

end Sys2Proof
end

