-- ==== Sys2Proof/Syntax.lean ====
section
/-! DEFINITION. The commands of the block: one constructor for each row of spec/opcode_table.json.
The 87 Ruesk opcodes (spec/04, R80) carry the packet header's fields and their parameters; the
other rows are register and sideband accesses, transport messages, pin and supply events, bus
frames, and the ends of timers, with what the outside world brings to them as operands. -/

namespace Sys2Proof

/-- The header fields of a Ruesk packet that a command keeps (spec/04, R77). -/
structure Hdr where
  hc : Fin 8
  tag : Half := 0
  fence : Bool := false
  notify : Bool := false
  wake : Bool := false
  atomic : Bool := false
  prio : BitVec 2 := 0
  deriving DecidableEq, Repr

/-- One SPI frame as HC0 sends it: its whole bytes, the SCK period in ns, and whether CS_N fell
again too soon after the last frame (spec/04, R69 to R73; spec/20, R447, R448). -/
structure SpiFrame where
  bytes : List Byte
  periodNs : Nat := 20
  soon : Bool := false
  deriving DecidableEq, Repr

/-- A CAN frame (spec/13, R283, R289): identifier, 29-bit flag, format code 0 Classical, 1 FD,
2 XL, remote flag, bit-rate switch, the XL header's fields, and the data bytes. -/
structure CanFrame where
  ident : Nat
  ext : Bool := false
  fmt : Nat := 0
  rtr : Bool := false
  brs : Bool := false
  esi : Bool := false
  sdt : Byte := 0
  vcid : Byte := 0
  af : Word := 0
  sec : Bool := false
  data : List Byte := []
  deriving DecidableEq, Repr

/-- The kinds of error of a CAN frame (ISO 11898-1). -/
inductive CanErrKind
  | bit | stuff | form | crc | ack
  deriving DecidableEq, Repr

/-- The place in a CAN frame of an error; `header` is the part of an XL frame's data phase before its data that is neither DLC nor stuff
count (ISO 11898-1; spec/13, R293). -/
inductive CanPlace
  | arbitration | control | header | dlc | stuffCount | data | crc | ack | eof
  deriving DecidableEq, Repr

/-- An error of a CAN frame: its kind and place; and that nothing answered it where ISO 11898-1 then leaves a counter alone (no dominant
bit in an error-passive port's flag after an ACK error; the stuff bit of a stuff error in arbitration seen dominant). -/
structure CanFault where
  kind : CanErrKind
  place : CanPlace
  quiet : Bool := false
  deriving DecidableEq, Repr

/-- What befell a frame on a CAN bus: the port lost arbitration with it, or met an error in a frame of its own or in one that it receives
(spec/13, R282, R291). -/
inductive CanUpset
  | lost
  | own (e : CanFault)
  | received (e : CanFault)
  deriving DecidableEq, Repr

/-- A message arriving for one of HC1 to HC7 (spec/04, R91, R95): its kind code, its bytes, the
4-byte freshness counter and 8-byte tag of an authenticated flow, and for an Ethernet binding the
source address and UDP port it came from (spec/05, R97). -/
structure TransportMsg where
  kind : BitVec 2
  bytes : List Byte
  counter : Word := 0
  mac : Dword := 0
  srcIp : Word := 0
  srcPort : Half := 0
  deriving DecidableEq, Repr

/-- An Ethernet frame as the switch receives it (spec/14, R299, R308): addresses, the VLAN tag if
there is one, the EtherType, the bytes after it, and whether its FCS is good. -/
structure EthFrame where
  dst : Nat
  src : Nat
  vlan : Option Half := none
  etype : Half
  payload : List Byte
  good : Bool := true
  deriving DecidableEq, Repr

/-- A Ridge link frame (spec/14, R314): TYPE, the source and destination cluster numbers, whether it
is a broadcast, the hop count, FIRST and LAST, PCP, and its payload, whose length is LENGTH. -/
structure RidgeFrame where
  ftype : Byte
  src : BitVec 2
  dst : BitVec 2 := 0
  bcast : Bool := true
  hops : Nat := 0
  first : Bool := true
  last : Bool := true
  pcp : Nat := 0
  payload : List Byte
  deriving DecidableEq, Repr

/-- What a TRAIN frame of a peer says (spec/14, R314, R316): its cluster number, part code and protocol version. -/
structure TrainFrame where
  cluster : BitVec 2
  part : Word
  version : Byte
  deriving DecidableEq, Repr

/-- What a poll receives in one token slot (spec/18, R400 to R402): whether a RESPONSE and a REPORT came, whether the
RESPONSE's STS passes its correlation test, the distance of its first paths, whether a second frame or peak was seen, the
times measured here and reported by the token, and the REPORT's count and tag. Times are in ps. -/
structure PollAnswer where
  token : Fin 8
  response : Bool := true
  report : Bool := true
  stsOk : Bool := true
  pathGap : Nat := 0
  collided : Bool := false
  tround1 : Nat := 0
  treply2 : Nat := 0
  treply1 : Nat := 0
  tround2 : Nat := 0
  count : Word := 0
  tag : List Byte := []
  deriving DecidableEq, Repr

/-- The commands of the block. -/
inductive Instr where
  -- SPI frames and transports, spec/04
  | statusPoll (b : Byte)
  | spiRegRead (f : SpiFrame)
  | spiRegWrite (f : SpiFrame)
  | packetPush (f : SpiFrame)
  | ringPull (f : SpiFrame)
  | packetMessage (hc : Fin 8) (m : TransportMsg)
  | ringAck (hc : Fin 8) (m : TransportMsg)
  | recordsResend (hc : Fin 8) (events : Bool)
  | canSegmentTimeout (hc : Fin 8)
  -- System, group 0x0_
  | nop (h : Hdr)
  | barrier (h : Hdr)
  | abort (h : Hdr) (target : Half)
  | getStatus (h : Hdr)
  | getInfo (h : Hdr)
  | limpRelease (h : Hdr)
  | limpMapProgram (h : Hdr) (entries : List Half) (bases : Half) (coast : Half)
  | sysReset (h : Hdr) (scope : Byte)
  | ownGrant (h : Hdr) (kind : Byte) (first count : Half) (dest : Byte)
  | ownRelease (h : Hdr) (kind : Byte) (first count : Half)
  | quotaSet (h : Hdr) (hc item : Byte) (value : Word)
  | hcClose (h : Hdr) (hc : Byte)
  -- Outputs, group 0x1_
  | chOn (h : Hdr) (mask : Dword)
  | chOff (h : Hdr) (mask : Dword)
  | chSetDuty (h : Hdr) (ch base : Byte) (duty : Half) (phase : Byte)
  | chPulse (h : Hdr) (ch : Byte) (width : Word)
  | chStartProfile (h : Hdr) (ch profile : Byte) (pset : Half)
  | chConfig (h : Hdr) (ch : Byte) (record : List Word)
  | chStatus (h : Hdr) (ch : Byte)
  | chClearLatch (h : Hdr) (mask : Dword)
  | chDisable (h : Hdr) (mask : Dword)
  | chFollowLh (h : Hdr) (ch lhsel inv : Byte)
  | bankBase (h : Hdr) (bank : Byte) (freq : Half)
  | motorTarget (h : Hdr) (bridge axis : Byte) (duty : Half) (target : Dword)
  | motorStop (h : Hdr) (bridge mode : Byte)
  -- Crank and Sprocket, group 0x2_
  | axisConfig (h : Hdr) (axis : Byte) (record : List Word)
  | axisWrite (h : Hdr) (axis : Byte) (pos : Dword)
  | axisRead (h : Hdr) (axis : Byte)
  | axisPublish (h : Hdr) (axis enable : Byte)
  | spkArm (h : Hdr) (slot : Half) (record : List Word)
  | spkCancel (h : Hdr) (first count : Half)
  | spkRead (h : Hdr) (slot : Half)
  | leadRead (h : Hdr) (ch : Byte)
  | leadSet (h : Hdr) (ch : Byte) (table : List Word)
  | timeRead (h : Hdr)
  -- Networks, group 0x3_
  | canConfig (h : Hdr) (port : Byte) (record : List Word)
  | canState (h : Hdr) (port state : Byte)
  | canTx (h : Hdr) (port txq : Byte) (frame : List Byte)
  | canFilter (h : Hdr) (pair : Half) (port queue : Byte) (mask pattern : Word)
  | canRxPull (h : Hdr) (port queue : Byte)
  | canRxAck (h : Hdr) (port queue : Byte) (count : Half)
  | flowAdd (h : Hdr) (flow : Half) (record : List Word)
  | flowRemove (h : Hdr) (flow : Half)
  | ethConfig (h : Hdr) (port : Byte) (record : List Word)
  | netStats (h : Hdr) (port kind : Byte)
  | ridgeState (h : Hdr) (link : Byte)
  -- Events and faults, group 0x4_
  | evtClassSet (h : Hdr) (cls enable count wake : Byte) (time : Half)
  | evtGdis (h : Hdr) (disable : Byte)
  | hostSleep (h : Hdr) (sleep : Byte)
  | faultRead (h : Hdr) (index : Half) (count : Byte)
  | faultHandled (h : Hdr) (fault : Word)
  | faultClear (h : Hdr) (kind : Byte) (src : Half)
  | faultReaction (h : Hdr) (kind reaction action : Byte) (time quiet : Half)
  -- Keys and immobiliser, group 0x5_
  | keyRootWrite (h : Hdr) (root : Byte) (key : List Byte)
  | keyStage (h : Hdr) (slot : Byte) (wrapped : List Byte)
  | keyVerify (h : Hdr) (slot : Byte) (nonce : List Byte)
  | keyCommit (h : Hdr) (slot : Byte)
  | keyChallenge (h : Hdr) (slot : Byte) (nonce : List Byte)
  | lifecycleSet (h : Hdr) (state : Byte) (auth : List Byte)
  | immEnroll (h : Hdr) (token : Byte) (record : List Byte)
  | immRevoke (h : Hdr) (token : Byte)
  | immState (h : Hdr)
  -- Update, group 0x6_
  | updateBegin (h : Hdr) (size : Word)
  | updateData (h : Hdr) (offset : Word) (data : List Byte)
  | updateEnd (h : Hdr)
  | updateConfirm (h : Hdr)
  | updateStatus (h : Hdr)
  | updateCancel (h : Hdr)
  | configBegin (h : Hdr) (size : Word)
  | configData (h : Hdr) (offset : Word) (data : List Byte)
  | configEnd (h : Hdr)
  -- Power, group 0x7_
  | domainSet (h : Hdr) (mask : Word) (state : Byte)
  | wakeConfig (h : Hdr) (source : Byte) (record : List Word)
  | nmConfig (h : Hdr) (port : Byte) (record : List Word)
  | pwrStatus (h : Hdr)
  -- Inputs and field bank, group 0x8_
  | swinConfig (h : Hdr) (input : Byte) (record : List Word)
  | swinRead (h : Hdr)
  | analogRead (h : Hdr) (input : Byte)
  | fieldOut (h : Hdr) (mask value : Half)
  | fieldRead (h : Hdr)
  | fieldConfig (h : Hdr) (ch : Byte) (record : List Word)
  -- Expert register window, group 0xE_
  | regRead (h : Hdr) (addr : Word) (count : Byte)
  | regWrite (h : Hdr) (addr data : Word)
  | regModify (h : Hdr) (addr mask value : Word)
  -- Register accesses of their own rows
  | registerWrite (hc : Fin 8) (addr : Nat) (data : Word)
  | channelCfgWrite (hc : Fin 8) (ch : Fin 64) (k : Fin 8) (data : Word)
  | axisCfgWrite (hc : Fin 8) (axis k : Fin 8) (data : Word)
  | cmptestRun (hc : Fin 8) (bank : Fin 8)
  | requireOwnerWrite (hc : Fin 8) (data : Word)
  | compatWakesrcRead (hc : Fin 8)
  -- Clockless sideband, spec/15
  | sidebandAddressMatch (addr : BitVec 7)
  | sidebandPointerWrite (bytes : List Byte)
  | sidebandWrite (bytes : List Byte)
  | sidebandRead (words : Nat)
  -- Supplies, starts and Coast hold, spec/03
  | vsupValid
  | vsupBelowAonHold
  | vsupDip
  | vsupOvervoltage
  | vbatUndervoltage (group : Fin 2)
  | vbatUvRecovery (group : Fin 2)
  | vbatDegraded (group : Fin 2)
  | vbatOvervoltage (group : Fin 2)
  | vioLow
  | vioRise
  | limpMapApply (bank : Fin 8)
  | basicService
  | fullService (loadOk : List Bool)
  | deviceResetStart
  | rstPin
  | watchdog
  | lockstep
  | resynchronisation (eccOk : Bool) (codeOk : List Bool)
  | coastExpiry
  | bankLinkLoss (bank : Fin 8)
  | bankLinkReturn (bank : Fin 8)
  | bankCoastExpiry (bank : Fin 8)
  | lhInputChange (lh : Fin 4) (high : Bool)
  -- Protection and measurement, spec/06 and spec/07
  | currentLimit (ch : Fin 64)
  | shortHard (ch : Fin 64) (i v : Half)
  | overcurrent (ch : Fin 64) (i v : Half)
  | inrushRegimeEnd (ch : Fin 64)
  | overtempDt (ch : Fin 64) (i v : Half)
  | overtempAbs (ch : Fin 64) (i v : Half)
  | wireModelUpdate (ch : Fin 64) (i v : Half)
  | segImbalance (ch : Fin 64) (seg : Fin 3) (i v : Half)
  | cmpMismatch (ch : Fin 64) (func : Fin 5) (copyB : Bool) (i v : Half)
  | selftestStart (ch : Fin 64)
  | selftestEnd (ch : Fin 64) (pass : Bool) (func : Fin 5) (copyB : Bool)
  | restart (ch : Fin 64)
  | restartAgeOut (ch : Fin 64)
  | bankTempWarn (bank : Fin 8)
  | bankTempWarnEnd (bank : Fin 8)
  | edgeDelayMeasured (ch : Fin 64) (on : Bool) (delay : Half)
  | clampPulseEnd (ch : Fin 64) (energy : Half)
  | dissipationEstimate (means : List Nat)
  | senseAdc (bank : Fin 8) (aux : Bool)
  | openLoadOn (ch : Fin 64)
  | openLoadOff (ch : Fin 64)
  | offTestWindow (ch : Fin 64)
  | shortToBat (ch : Fin 64)
  -- Drive modes, spec/08
  | pwmPeriodEnd (ch : Fin 64)
  | baseFrameEnd (bank : Fin 8)
  | pulseEnd (ch : Fin 64) (width : Word)
  | rampEnd (ch : Fin 64)
  | arrivalConfirmed (ch : Fin 64) (latency : Half)
  | peakPhaseEnd (ch : Fin 64)
  | rippleCount (bridge : Fin 8) (filled : Bool)
  | motionEnd (bridge : Fin 8)
  | targetCrossing (bridge : Fin 8)
  | brakeEnd (bridge : Fin 8)
  | stall (bridge : Fin 8)
  | parkEdge (bridge : Fin 8)
  | parkTimeout (bridge : Fin 8)
  | pinchDetection (bridge : Fin 8)
  | lockTimeLimit (bridge : Fin 8)
  | ucodeIdlePoint (bank : Fin 8)
  | ucodeCrc (bank : Fin 8)
  -- Crank and Sprocket, spec/09 and spec/10
  | trackerTick
  | encoderCount (axis : Fin 8) (a b : Bool)
  | standstill (axis : Fin 8)
  | crankSource (axis : Fin 8)
  | extrapolationEnd (axis : Fin 8)
  | axisBroadcast
  | sprocketFire (slot : Fin 4096)
  | spkGrantReturn (slot : Fin 4096)
  -- Headroom governor, spec/11
  | grantExpiry (ch : Fin 64)
  | deferralLimit (req : Nat)
  | droopFreeze (group : Fin 2)
  | droopFreezeEnd (group : Fin 2)
  | epochBoundary
  | memberLost (group : Fin 2) (member : Fin 4)
  | fbHoldEnd (group : Fin 2)
  | membersRelinked (group : Fin 2)
  -- Inputs and field bank, spec/12
  | swinDebouncedChange (input : Fin 40) (closed : Bool)
  | staticWakeInput (input : Fin 8) (level : Bool)
  | fiDebouncedChange (input : Fin 16) (active : Bool)
  | fqOverload (fq : Fin 16)
  | fqThermal (fq : Fin 16)
  | fqCooled (fq : Fin 16)
  | fieldLink (rejected : Nat)
  | fieldPower
  | fieldLinkReturn (fi : Half) (rejected : Nat)
  | fieldLpUv
  | fieldLpRecovery
  | fieldLpOv
  | v5outOverload
  -- CAN ports, spec/13
  | canFrameReceived (port : Fin 6) (f : CanFrame) (age : Nat)
  | acfMaxWait (flow : Fin 512)
  | canTxComplete (port : Fin 6) (age delay : Nat)
  | canBusError (port : Fin 6) (e : CanUpset) (more age delay : Nat)
  | backoffEnd (port : Fin 6)
  | busoffRecoveryStart (port : Fin 6)
  | busoffRecovered (port : Fin 6)
  | timeMasterSync (port : Fin 6)
  | timeMasterRoleChange (port : Fin 6) (master : Bool)
  -- Network management and wake, spec/15
  | nmPeriod (port : Fin 6)
  | nmAgreement (port : Fin 6)
  | waitBusSleepEnd (port : Fin 6)
  | canWakeFrame (port : Fin 6) (f : CanFrame)
  | falseWakeCheck (port : Fin 6)
  | wakeSuspendEnd (port : Fin 6)
  -- Frame switch, Ethernet ports and Ridge links, spec/14
  | ethFrameReceived (port : Fin 4) (f : EthFrame)
  | egressAge (port : Fin 6)
  | plcaBeaconLoss (port : Fin 4)
  | netLink (port : Fin 4) (up plcaOk : Bool)
  | gptpSyncReceived (offset rate : Int) (pdelay : Nat)
  | gptpSyncLoss
  | ridgeFrameReceived (link : Fin 2) (bytes : List Byte)
  | timeExchange (link : Fin 2) (master : BitVec 2) (offset : Int) (delay : Nat)
  | alignmentLoss
  | ridgeTraining (link : Fin 2) (came : List Bool) (peer : TrainFrame) (acked swapped : Bool)
  | ridgeDown (link : Fin 2)
  | faultSummaryBroadcast
  -- Power domains and wake, spec/15
  | domainEntryComplete (d : Fin 24)
  | domainExitComplete (d : Fin 24) (eccOk loadOk : Bool)
  | wakeTimerExpiry
  -- Event hub and Scree, spec/16 and spec/17
  | eventRelease (hc : Fin 8) (cls : Fin 24)
  | faultReport (msg : Word)
  | retestComplete (msg : Word) (transient : Bool)
  | reactionTimerExpiry (msg : Word)
  | quietPoint (msg : Word)
  | faultSummaryWrite
  -- Key store and immobiliser, spec/18
  | remask
  | rngHealthTest (pass : Bool)
  | pollStart
  | pollDecision (answers : List PollAnswer)
  | pollRetry
  | releaseFrame
  | parkedPoll (answers : List PollAnswer)
  | parkMode
  -- Firmware and configuration update, spec/19
  | lockLapsed (config : Bool)
  | copyBlock (ok : Bool)
  | trialRuntimeWrite
  | trialRuntimeLimit
  | fallbackRepair
  | udsSessionControl (data : List Byte)
  | udsEcuReset (data : List Byte)
  | udsReadDataById (data : List Byte)
  | udsRequestSeed (data : List Byte)
  | udsSendKey (data : List Byte)
  | udsSecurityLockEnd
  | udsRoutineControl (data : List Byte)
  | udsRequestDownload (data : List Byte)
  | udsTransferData (data : List Byte)
  | udsTransferExit (data : List Byte)
  | udsTesterPresent (data : List Byte)
  -- Rows added at the table's end
  | rstPinRelease
  | vbatDegradedEnd (group : Fin 2)
  | currentSample (bank : Fin 8) (slot : Fin 8) (code : BitVec 14) (on edge settling : Bool) (segs : List (BitVec 10))
  | auxiliaryScan (bank : Fin 8) (vout tch : List (BitVec 12)) (vbat tcase : BitVec 12)
  | flashWriteComplete
  | frameErrorWake (port : Fin 6)
  | udsSessionTimeout
  deriving DecidableEq, Repr

end Sys2Proof
end

