-- ==== Sys2Proof/Decode.lean ====
section
/-! DEFINITION. The command that a word spells by the bits of spec/opcode_table.json. No row of the
table gives bits (its rows carry an empty field list), so no word spells a command. Ruesk packets, the
block's own wire format, are read in Machine/Operands.lean. -/

namespace Sys2Proof

/-- The command that the `nbits` bits of `w` spell by the opcode table: none, as no row gives bits. -/
def decodeTableWord (_nbits _w : Nat) : Option Instr := none

end Sys2Proof
end

