-- ==== Sys2Proof/Config.lean ====
section
/-! DEFINITION. What the spec leaves open, as constants without a body: nothing can be proved of
their values. Each is applied to what it depends on, or to the counter of free values drawn. -/

namespace Sys2Proof.Config

/-- A free natural number: the n-th value drawn (log 4). -/
opaque freeNat : Nat → Nat

/-- A free bit (log 4). -/
opaque freeBool : Nat → Bool

/-- A free byte, for the bytes of seeds and nonces (log 4). -/
opaque freeByte : Nat → Nat → BitVec 8

/-- Whether an inexact quotient of two integers is rounded up: the spec gives no rounding (log 10). -/
opaque roundUp : Int → Int → Bool

/-- Whether the quadrature sequence in which A leads B counts up: the spec gives no sign (log 10). -/
opaque quadPositive : Bool

/-- AES-CMAC with a key of 16 or 32 bytes over a message, 16 bytes (log 5). -/
opaque aesCmac : List (BitVec 8) → List (BitVec 8) → List (BitVec 8)

/-- AES key unwrapping with integrity check: the key data, or none where the check fails (log 5). -/
opaque aesUnwrap : List (BitVec 8) → List (BitVec 8) → Option (List (BitVec 8))

/-- AES-CCM encryption and tag: key, nonce, header, payload (log 5). -/
opaque aesCcm : List (BitVec 8) → List (BitVec 8) → List (BitVec 8) → List (BitVec 8) → List (BitVec 8)

/-- SHA-256 (log 5). -/
opaque sha256 : List (BitVec 8) → List (BitVec 8)

/-- ECDSA verification: public key, message, signature (log 5). -/
opaque ecdsaVerify : List (BitVec 8) → List (BitVec 8) → List (BitVec 8) → Bool

/-- The 8-byte device identity DEVID of OTP (spec/18, R384). -/
opaque deviceId : BitVec 64

/-- The device unique root in OTP, and the test root published with the debug kit (spec/18, R385, R386). -/
opaque deviceRoot : List (BitVec 8)
@[inherit_doc deviceRoot] opaque testRoot : List (BitVec 8)

/-- The initial state that a configuration gives a domain: 0 On, 1 Retention, else Off; no record of the spec holds it (spec/15, R327; log
6). -/
opaque domainInit : Nat → BitVec 2

/-- The Ridge protocol version of the device (spec/14, R314, R316; log 19). -/
opaque ridgeVersion : BitVec 8

/-- The part code that GET_INFO reports (spec/19, R418; log 30). -/
opaque partCode : BitVec 32

/-- The public key of vendor `k` in the ROM (spec/19, R418; log 30). -/
opaque vendorKey : Nat → List (BitVec 8)

/-- The firmware image the device is delivered with: its VERSION, its SVN, its KEYIDX, the keys it revokes, and the versions
of its sections (spec/19, R417, R418; log 30). -/
opaque factoryVersion : BitVec 32
@[inherit_doc factoryVersion] opaque factorySvn : Nat
@[inherit_doc factoryVersion] opaque factoryKey : Nat
@[inherit_doc factoryVersion] opaque factoryRevoke : Nat
@[inherit_doc factoryVersion] opaque factorySection : Nat → BitVec 32

/-- The key-array sector that a record lies in: slots 0 to 63, the roots at 64 and 65, enrolments from 66 (spec/20, R453; log 101). -/
opaque keySector : Nat → Nat

/-- The lateness of an event whose axis stands short of its target (spec/10, R230; log 100). -/
opaque lateAtRest : Nat → Nat

/-- What an open test port drives on TDO (log 96). -/
opaque testOut : Nat → Bool → Bool → Bool → Bool

/-- The configuration's epoch for gPTP time, in ns: no register or record of the spec holds it (spec/14, R306; log 105). -/
opaque asEpoch : BitVec 64

end Sys2Proof.Config
end

