-- ==== Sys2Proof/Machine/RegKind.lean ====
section
/-! DEFINITION. The registers of the 24-bit register space (spec/01, R22) by name: one constructor
for each register table of the spec, its instances told apart by index. -/

namespace Sys2Proof

/-- The registers, named after the headings of the register tables. -/
inductive RegKind where
  | sysCoastcfg | sysLimpctl | sysLimpmap | sysLimpbase | pwrRstcause | pwrStart
  | pwrCoast | sysHifcfg | sysHifstat | hcBind | hcAddr1 | hcAddr2
  | hcState | hcQuota | hcUse | hcRing | hcOwnch | hcRefused
  | sysPoolstat | sysPortq | bankInfo | bankMeas | bankPdiss | bankOlcfg
  | bankSense | chCfg | chState | chI | chVt | chDelay
  | chDiag | chSeg | chClamp | sysPdiss | bankTwarn | bankProtstat
  | bankCmptest | chProt | chTrip | chTriptime | chI2t | chTripcnt
  | bankPwmbase | bankUcode | bankFollow | bankPwm | bankArrival | bankMotor
  | bankPinch | chPset | axCfg | axStat | axPoslo | axPoshi
  | axVel | axSnaptime | axDiag | axRef | axReftime | crankTimelo
  | crankTimehi | crankTsync | crankPublish | spkStat | spkMisscnt | spkLoad
  | spkFree | spkLead | spkLeadstat | spkSlot | govMap | govBudget
  | govReserve | govDroop | govStat | govWait | govFlags | govCnt
  | govPeak | govCtl | govCluster | swinCfg | ainCfg | swinState
  | swinChg | ana | swinWet | fqCfg | fiCfg | fqState
  | fqFault | fqLatch | fiState | fiChg | fieldStat | fieldLp
  | canCfg | canState | canRxstat | canRxdrop | canTxstat | canErrcnt
  | canSoflo | canSofhi | canTdc | canCollId | canCollCnt | canPairsel
  | canPairmask | canPairmatch | canPairinfo | canRxwin | netCtl | netFlowstat
  | netSlow | netMachi | netMaclo | netIpv4 | netAsofflo | netAsoffhi
  | netAsstat | netVlan | flowInfo | flowCnt | phyCfg | phyStat
  | phyDrop | rdgCfg | rdgStat | rdgErr | rdgCluster | pwrDomstate
  | pwrWakesrc | pwrWakeinfo | pwrSlept | pwrInh | pwrTimer | pwrSbreq
  | pwrSbstat | pwrFw | pwrNmstat | pwrWakecfg | pwrNm | saveStat
  | saveDom | compatWakesrc | evtClass | evtCtl | evtPend | evtStat
  | evtHeld | evtHub | screeStat | screeCnt | screeActcnt | screeOwnsum
  | screePeer | screeKind | screeQuiet | screeSum | keyLc | keyDevid
  | keyCfg | keyStat | keyCachecnt | keySlot | keySlotver | immCfg0
  | immCfg1 | immCfg2 | immRelid | immCtl | immStat | immTok
  | immCnt | immFresh | immPark | updFwstat | updNext | updTrial
  | updVer | updPolicy | updSrc | updCfgstat | updCfgnext | updCfgver
  | updCfgcrc | updUds | updUdsreq | updUdsrsp | updJournal
  deriving DecidableEq, Repr

/-- One register: its table and up to three instance numbers. -/
structure RegAt where
  kind : RegKind
  i : Nat := 0
  j : Nat := 0
  k : Nat := 0
  deriving DecidableEq, Repr

/-- The row of a register table: base address, three (count, stride) pairs, and the masks of its
RW, RWL, RO, W1C, RC and WO bits (spec/00, R4). Bits in no mask are reserved and read 0 (R6). -/
structure RegDesc where
  kind : RegKind
  base : Nat
  n1 : Nat
  s1 : Nat
  n2 : Nat
  s2 : Nat
  n3 : Nat
  s3 : Nat
  rw : Nat
  rwl : Nat
  ro : Nat
  w1c : Nat
  rc : Nat
  wo : Nat
  deriving DecidableEq, Repr

/-- A field of a register: the register's address and the field's highest and lowest bit. -/
structure Fld where
  addr : Nat
  hi : Nat
  lo : Nat
  deriving DecidableEq, Repr

end Sys2Proof
end

