-- ==== Sys2Proof/Machine/RegMap.lean ====
section
/-! DEFINITION. The register tables of the spec: every register's address and access masks, block
by block (spec/01, R22), and every named field. The masks and bit ranges are those of the tables
of the chapters named beside them. -/

namespace Sys2Proof

/-- The registers of the Sys block. -/
def regsSys : List RegDesc :=
  [ ⟨.sysCoastcfg, 0x100, 1, 0x0, 1, 0x0, 1, 0x0, 0x3FFF, 0x0, 0x0, 0x0, 0x0, 0x0⟩,
    ⟨.sysLimpctl, 0x104, 1, 0x0, 1, 0x0, 1, 0x0, 0x0, 0x0, 0x0, 0x0, 0x0, 0x1⟩,
    ⟨.sysLimpmap, 0x200, 32, 0x4, 1, 0x0, 1, 0x0, 0x0, 0x0, 0xFFFFFFFF, 0x0, 0x0, 0x0⟩,
    ⟨.sysLimpbase, 0x280, 1, 0x0, 1, 0x0, 1, 0x0, 0x0, 0x0, 0xFFFF, 0x0, 0x0, 0x0⟩,
    ⟨.sysHifcfg, 0x300, 1, 0x0, 1, 0x0, 1, 0x0, 0x3, 0x0, 0x0, 0x0, 0x0, 0x0⟩,
    ⟨.sysHifstat, 0x304, 1, 0x0, 1, 0x0, 1, 0x0, 0x0, 0x0, 0xFF00, 0x0, 0xFFFF0000, 0x0⟩,
    ⟨.sysPoolstat, 0x400, 1, 0x0, 1, 0x0, 1, 0x0, 0x0, 0x0, 0x1FFF, 0x0, 0x1FFF0000, 0x0⟩,
    ⟨.sysPortq, 0x410, 12, 0x4, 1, 0x0, 1, 0x0, 0xFFFFFFFF, 0x0, 0x0, 0x0, 0x0, 0x0⟩,
    ⟨.sysPdiss, 0x500, 1, 0x0, 1, 0x0, 1, 0x0, 0xFFFF0000, 0x0, 0xFFFF, 0x0, 0x0, 0x0⟩ ]

/-- The registers of the Hc block. -/
def regsHc : List RegDesc :=
  [ ⟨.hcBind, 0x10000, 8, 0x1000, 1, 0x0, 1, 0x0, 0x0, 0x0, 0xFFFFC000, 0x0, 0x0, 0x0⟩,
    ⟨.hcAddr1, 0x10004, 8, 0x1000, 1, 0x0, 1, 0x0, 0x0, 0x0, 0xFFFFFFFF, 0x0, 0x0, 0x0⟩,
    ⟨.hcAddr2, 0x10008, 8, 0x1000, 1, 0x0, 1, 0x0, 0x0, 0x0, 0xFFFFFFFF, 0x0, 0x0, 0x0⟩,
    ⟨.hcState, 0x10010, 8, 0x1000, 1, 0x0, 1, 0x0, 0x0, 0x0, 0x7, 0x0, 0x0, 0x0⟩,
    ⟨.hcQuota, 0x10020, 8, 0x1000, 8, 0x4, 1, 0x0, 0x1FFF, 0x0, 0x0, 0x0, 0x0, 0x0⟩,
    ⟨.hcUse, 0x10040, 8, 0x1000, 8, 0x4, 1, 0x0, 0x0, 0x0, 0x1FFF, 0x0, 0x0, 0x0⟩,
    ⟨.hcRing, 0x10060, 8, 0x1000, 1, 0x0, 1, 0x0, 0x0, 0x0, 0xFFFF01FF, 0x0, 0x0, 0x0⟩,
    ⟨.hcOwnch, 0x10064, 8, 0x1000, 2, 0x4, 1, 0x0, 0x0, 0x0, 0xFFFFFFFF, 0x0, 0x0, 0x0⟩,
    ⟨.hcRefused, 0x1006C, 8, 0x1000, 1, 0x0, 1, 0x0, 0x0, 0x0, 0x0, 0x0, 0xFFFFFFFF, 0x0⟩ ]

/-- The registers of the Evt block. -/
def regsEvt : List RegDesc :=
  [ ⟨.evtClass, 0x20000, 8, 0x400, 32, 0x4, 1, 0x0, 0xC0FFFFFF, 0x0, 0x0, 0x0, 0x0, 0x0⟩,
    ⟨.evtCtl, 0x20080, 8, 0x400, 1, 0x0, 1, 0x0, 0x1, 0x0, 0x0, 0x0, 0x0, 0x0⟩,
    ⟨.evtPend, 0x20084, 8, 0x400, 1, 0x0, 1, 0x0, 0x0, 0x0, 0xFFFFFFFF, 0x0, 0x0, 0x0⟩,
    ⟨.evtStat, 0x20088, 8, 0x400, 1, 0x0, 1, 0x0, 0x0, 0x0, 0x0, 0x0, 0xFFFFFFFF, 0x0⟩,
    ⟨.evtHeld, 0x2008C, 8, 0x400, 1, 0x0, 1, 0x0, 0x0, 0x0, 0x1FF01FF, 0x0, 0x0, 0x0⟩,
    ⟨.evtHub, 0x22000, 1, 0x0, 1, 0x0, 1, 0x0, 0x0, 0x0, 0x3FF, 0x0, 0xFFFF0000, 0x0⟩ ]

/-- The registers of the Scree block. -/
def regsScree : List RegDesc :=
  [ ⟨.screeStat, 0x30000, 1, 0x0, 1, 0x0, 1, 0x0, 0x0, 0x0, 0xFFFFF00E, 0x0, 0x0, 0x0⟩,
    ⟨.screeCnt, 0x30004, 1, 0x0, 1, 0x0, 1, 0x0, 0x0, 0x0, 0x0, 0x0, 0xFFFFFFFF, 0x0⟩,
    ⟨.screeActcnt, 0x30008, 1, 0x0, 1, 0x0, 1, 0x0, 0x0, 0x0, 0x0, 0x0, 0xFFFFFFFF, 0x0⟩,
    ⟨.screeOwnsum, 0x30010, 1, 0x0, 1, 0x0, 1, 0x0, 0x0, 0x0, 0xFFFFFFFF, 0x0, 0x0, 0x0⟩,
    ⟨.screePeer, 0x30020, 4, 0x4, 1, 0x0, 1, 0x0, 0x0, 0x0, 0xFFFFFFFF, 0x0, 0x0, 0x0⟩,
    ⟨.screeKind, 0x30100, 64, 0x4, 1, 0x0, 1, 0x0, 0xFFFFFF00, 0x0, 0xFF, 0x0, 0x0, 0x0⟩,
    ⟨.screeQuiet, 0x30200, 64, 0x4, 1, 0x0, 1, 0x0, 0xFFFF, 0x0, 0x0, 0x0, 0x0, 0x0⟩,
    ⟨.screeSum, 0x30300, 64, 0x4, 1, 0x0, 1, 0x0, 0x0, 0x0, 0xFFFFFFFF, 0x0, 0x0, 0x0⟩ ]

/-- The registers of the Bank block. -/
def regsBank : List RegDesc :=
  [ ⟨.bankInfo, 0x40000, 8, 0x2000, 1, 0x0, 1, 0x0, 0x0, 0x0, 0xE00, 0x0, 0x0, 0x0⟩,
    ⟨.bankMeas, 0x40004, 8, 0x2000, 1, 0x0, 1, 0x0, 0x0, 0x0, 0xFFF0FFF, 0x0, 0x0, 0x0⟩,
    ⟨.bankPdiss, 0x40008, 8, 0x2000, 1, 0x0, 1, 0x0, 0x0, 0x0, 0xFFFF, 0x0, 0xFFFF0000, 0x0⟩,
    ⟨.bankOlcfg, 0x4000C, 8, 0x2000, 1, 0x0, 1, 0x0, 0xF, 0x0, 0x0, 0x0, 0x0, 0x0⟩,
    ⟨.bankSense, 0x40010, 8, 0x2000, 1, 0x0, 1, 0x0, 0x0, 0x0, 0x3, 0x0, 0xFF00, 0x0⟩,
    ⟨.bankTwarn, 0x40100, 8, 0x2000, 1, 0x0, 1, 0x0, 0xFF, 0x0, 0x10000, 0x0, 0x0, 0x0⟩,
    ⟨.bankProtstat, 0x40104, 8, 0x2000, 1, 0x0, 1, 0x0, 0x0, 0x0, 0x0, 0x0, 0xFFFFFFFF, 0x0⟩,
    ⟨.bankCmptest, 0x40108, 8, 0x2000, 1, 0x0, 1, 0x0, 0x0, 0x0, 0xFF, 0x0, 0x0, 0x100⟩,
    ⟨.bankPwmbase, 0x41000, 8, 0x2000, 1, 0x0, 1, 0x0, 0x3FFFFF, 0x0, 0x80000000, 0x0, 0x0, 0x0⟩,
    ⟨.bankUcode, 0x41004, 8, 0x2000, 1, 0x0, 1, 0x0, 0x0, 0x0, 0xFFFF000F, 0x0, 0x0, 0x0⟩,
    ⟨.bankFollow, 0x41008, 8, 0x2000, 1, 0x0, 1, 0x0, 0x0, 0x0, 0xFFFFFFFF, 0x0, 0x0, 0x0⟩,
    ⟨.bankPwm, 0x41010, 8, 0x2000, 8, 0x4, 1, 0x0, 0x3FFFFF, 0x0, 0xC0000000, 0x0, 0x0, 0x0⟩,
    ⟨.bankArrival, 0x41030, 8, 0x2000, 8, 0x4, 1, 0x0, 0x0, 0x0, 0xFFFF, 0x0, 0xFF000000, 0x0⟩,
    ⟨.bankMotor, 0x41050, 8, 0x2000, 4, 0x4, 1, 0x0, 0x0, 0x0, 0xFF0F0000, 0x0, 0xFFFF, 0x0⟩,
    ⟨.bankPinch, 0x41060, 8, 0x2000, 4, 0x4, 1, 0x0, 0x0, 0x0, 0x3F, 0x0, 0xFFFF0000, 0x0⟩ ]

/-- The registers of the Ch block. -/
def regsCh : List RegDesc :=
  [ ⟨.chCfg, 0x50000, 64, 0x100, 8, 0x4, 1, 0x0, 0xFFFFFFFF, 0x0, 0x0, 0x0, 0x0, 0x0⟩,
    ⟨.chState, 0x50020, 64, 0x100, 1, 0x0, 1, 0x0, 0x0, 0x0, 0x1FFF, 0x0, 0x0, 0x0⟩,
    ⟨.chI, 0x50024, 64, 0x100, 1, 0x0, 1, 0x0, 0x0, 0x0, 0x3FFF3FFF, 0x0, 0x0, 0x0⟩,
    ⟨.chVt, 0x50028, 64, 0x100, 1, 0x0, 1, 0x0, 0x0, 0x0, 0xFFF0FFF, 0x0, 0x0, 0x0⟩,
    ⟨.chDelay, 0x5002C, 64, 0x100, 1, 0x0, 1, 0x0, 0x0, 0x0, 0xFFFFFFFF, 0x0, 0x0, 0x0⟩,
    ⟨.chDiag, 0x50030, 64, 0x100, 1, 0x0, 1, 0x0, 0x0, 0x0, 0x700, 0x7, 0x0, 0x0⟩,
    ⟨.chSeg, 0x50034, 64, 0x100, 1, 0x0, 1, 0x0, 0x0, 0x0, 0x3FFFFFFF, 0x0, 0x0, 0x0⟩,
    ⟨.chClamp, 0x50038, 64, 0x100, 1, 0x0, 1, 0x0, 0x0, 0x0, 0xFFFF0000, 0x0, 0xFFFF, 0x0⟩,
    ⟨.chProt, 0x50040, 64, 0x100, 1, 0x0, 1, 0x0, 0x0, 0x0, 0xFFF0FFFF, 0x0, 0x0, 0x0⟩,
    ⟨.chTrip, 0x50044, 64, 0x100, 1, 0x0, 1, 0x0, 0x0, 0x0, 0xFFFFFFFF, 0x0, 0x0, 0x0⟩,
    ⟨.chTriptime, 0x50048, 64, 0x100, 1, 0x0, 1, 0x0, 0x0, 0x0, 0xFFFFFFFF, 0x0, 0x0, 0x0⟩,
    ⟨.chI2t, 0x5004C, 64, 0x100, 1, 0x0, 1, 0x0, 0x0, 0x0, 0xFFFF, 0x0, 0xFFFF0000, 0x0⟩,
    ⟨.chTripcnt, 0x50050, 64, 0x100, 1, 0x0, 1, 0x0, 0x0, 0x0, 0x0, 0x0, 0xFFFFFFFF, 0x0⟩,
    ⟨.chPset, 0x50080, 64, 0x100, 4, 0x20, 8, 0x4, 0xFFFFFFFF, 0x0, 0x0, 0x0, 0x0, 0x0⟩ ]

/-- The registers of the Crank block. -/
def regsCrank : List RegDesc :=
  [ ⟨.axCfg, 0x60000, 8, 0x100, 8, 0x4, 1, 0x0, 0xFFFFFFFF, 0x0, 0x0, 0x0, 0x0, 0x0⟩,
    ⟨.axStat, 0x60020, 8, 0x100, 1, 0x0, 1, 0x0, 0x0, 0x0, 0xFF00007F, 0x0, 0x0, 0x0⟩,
    ⟨.axPoslo, 0x60024, 8, 0x100, 1, 0x0, 1, 0x0, 0x0, 0x0, 0xFFFFFFFF, 0x0, 0x0, 0x0⟩,
    ⟨.axPoshi, 0x60028, 8, 0x100, 1, 0x0, 1, 0x0, 0x0, 0x0, 0xFFFFFFFF, 0x0, 0x0, 0x0⟩,
    ⟨.axVel, 0x6002C, 8, 0x100, 1, 0x0, 1, 0x0, 0x0, 0x0, 0xFFFFFFFF, 0x0, 0x0, 0x0⟩,
    ⟨.axSnaptime, 0x60030, 8, 0x100, 1, 0x0, 1, 0x0, 0x0, 0x0, 0xFFFFFFFF, 0x0, 0x0, 0x0⟩,
    ⟨.axDiag, 0x60034, 8, 0x100, 1, 0x0, 1, 0x0, 0x0, 0x0, 0x0, 0x0, 0xFFFFFFFF, 0x0⟩,
    ⟨.axRef, 0x60038, 8, 0x100, 1, 0x0, 1, 0x0, 0x0, 0x0, 0xFFFFFFFF, 0x0, 0x0, 0x0⟩,
    ⟨.axReftime, 0x6003C, 8, 0x100, 1, 0x0, 1, 0x0, 0x0, 0x0, 0xFFFFFFFF, 0x0, 0x0, 0x0⟩,
    ⟨.crankTimelo, 0x61000, 1, 0x0, 1, 0x0, 1, 0x0, 0x0, 0x0, 0xFFFFFFFF, 0x0, 0x0, 0x0⟩,
    ⟨.crankTimehi, 0x61004, 1, 0x0, 1, 0x0, 1, 0x0, 0x0, 0x0, 0xFFFFFFFF, 0x0, 0x0, 0x0⟩,
    ⟨.crankTsync, 0x61008, 1, 0x0, 1, 0x0, 1, 0x0, 0x0, 0x0, 0xFFFFFF3B, 0x0, 0x4, 0x0⟩,
    ⟨.crankPublish, 0x6100C, 1, 0x0, 1, 0x0, 1, 0x0, 0x0, 0x0, 0xFF, 0x0, 0x0, 0x0⟩ ]

/-- The registers of the Spk block. -/
def regsSpk : List RegDesc :=
  [ ⟨.spkStat, 0x68000, 1, 0x0, 1, 0x0, 1, 0x0, 0x0, 0x0, 0x1FFF1FFF, 0x0, 0x0, 0x0⟩,
    ⟨.spkMisscnt, 0x68004, 1, 0x0, 1, 0x0, 1, 0x0, 0x0, 0x0, 0x0, 0x0, 0xFFFFFFFF, 0x0⟩,
    ⟨.spkLoad, 0x68008, 1, 0x0, 1, 0x0, 1, 0x0, 0x0, 0x0, 0x0, 0x0, 0xFFFFFFFF, 0x0⟩,
    ⟨.spkFree, 0x68800, 128, 0x4, 1, 0x0, 1, 0x0, 0x0, 0x0, 0xFFFFFFFF, 0x0, 0x0, 0x0⟩,
    ⟨.spkLead, 0x69000, 64, 0x20, 8, 0x4, 1, 0x0, 0xFFFFFFFF, 0x0, 0x0, 0x0, 0x0, 0x0⟩,
    ⟨.spkLeadstat, 0x69800, 64, 0x4, 1, 0x0, 1, 0x0, 0x0, 0x0, 0x0, 0x0, 0xFFFFFFFF, 0x0⟩,
    ⟨.spkSlot, 0x6C000, 4096, 0x4, 1, 0x0, 1, 0x0, 0x0, 0x0, 0xFFFF033F, 0x0, 0x0, 0x0⟩ ]

/-- The registers of the Gov block. -/
def regsGov : List RegDesc :=
  [ ⟨.govMap, 0x70000, 2, 0x40, 1, 0x0, 1, 0x0, 0x30FFF00, 0x0, 0x0, 0x0, 0x0, 0x0⟩,
    ⟨.govBudget, 0x70004, 2, 0x40, 1, 0x0, 1, 0x0, 0xFFFFFFFF, 0x0, 0x0, 0x0, 0x0, 0x0⟩,
    ⟨.govReserve, 0x70008, 2, 0x40, 1, 0x0, 1, 0x0, 0xFFFF, 0x0, 0x0, 0x0, 0x0, 0x0⟩,
    ⟨.govDroop, 0x7000C, 2, 0x40, 1, 0x0, 1, 0x0, 0xFFFFFF, 0x0, 0x0, 0x0, 0x0, 0x0⟩,
    ⟨.govStat, 0x70010, 2, 0x40, 1, 0x0, 1, 0x0, 0x0, 0x0, 0xFFFFFFFF, 0x0, 0x0, 0x0⟩,
    ⟨.govWait, 0x70014, 2, 0x40, 1, 0x0, 1, 0x0, 0x0, 0x0, 0xFF00FFFF, 0x0, 0x0, 0x0⟩,
    ⟨.govFlags, 0x70018, 2, 0x40, 1, 0x0, 1, 0x0, 0x0, 0x0, 0xF, 0x0, 0x0, 0x0⟩,
    ⟨.govCnt, 0x7001C, 2, 0x40, 1, 0x0, 1, 0x0, 0x0, 0x0, 0x0, 0x0, 0xFFFFFFFF, 0x0⟩,
    ⟨.govPeak, 0x70020, 2, 0x40, 1, 0x0, 1, 0x0, 0x0, 0x0, 0x0, 0x0, 0xFFFFFFFF, 0x0⟩,
    ⟨.govCtl, 0x70080, 1, 0x0, 1, 0x0, 1, 0x0, 0xFF, 0x0, 0x0, 0x0, 0x0, 0x0⟩,
    ⟨.govCluster, 0x70084, 1, 0x0, 1, 0x0, 1, 0x0, 0x0, 0x0, 0xFF, 0x0, 0xFFFF0000, 0x0⟩ ]

/-- The registers of the Swin block. -/
def regsSwin : List RegDesc :=
  [ ⟨.swinCfg, 0x80000, 40, 0x4, 1, 0x0, 1, 0x0, 0xFFFFFFFF, 0x0, 0x0, 0x0, 0x0, 0x0⟩,
    ⟨.ainCfg, 0x800A0, 4, 0x4, 1, 0x0, 1, 0x0, 0xFFFFFFFF, 0x0, 0x0, 0x0, 0x0, 0x0⟩,
    ⟨.swinState, 0x80100, 2, 0x4, 1, 0x0, 1, 0x0, 0x0, 0x0, 0xFFFFFFFF, 0x0, 0x0, 0x0⟩,
    ⟨.swinChg, 0x80108, 2, 0x4, 1, 0x0, 1, 0x0, 0x0, 0x0, 0x0, 0xFFFFFFFF, 0x0, 0x0⟩,
    ⟨.ana, 0x80200, 44, 0x4, 1, 0x0, 1, 0x0, 0x0, 0x0, 0x3FF, 0x0, 0x0, 0x0⟩,
    ⟨.swinWet, 0x80300, 1, 0x0, 1, 0x0, 1, 0x0, 0x0, 0x0, 0xFFFF, 0x0, 0x0, 0x0⟩ ]

/-- The registers of the Field block. -/
def regsField : List RegDesc :=
  [ ⟨.fqCfg, 0x88000, 16, 0x4, 1, 0x0, 1, 0x0, 0xFFFFFFFF, 0x0, 0x0, 0x0, 0x0, 0x0⟩,
    ⟨.fiCfg, 0x88040, 16, 0x4, 1, 0x0, 1, 0x0, 0xFFFFFFFF, 0x0, 0x0, 0x0, 0x0, 0x0⟩,
    ⟨.fqState, 0x88080, 1, 0x0, 1, 0x0, 1, 0x0, 0x0, 0x0, 0xFFFFFFFF, 0x0, 0x0, 0x0⟩,
    ⟨.fqFault, 0x88084, 1, 0x0, 1, 0x0, 1, 0x0, 0x0, 0x0, 0xFFFFFFFF, 0x0, 0x0, 0x0⟩,
    ⟨.fqLatch, 0x88088, 1, 0x0, 1, 0x0, 1, 0x0, 0x0, 0x0, 0xFFFF, 0x0, 0x0, 0x0⟩,
    ⟨.fiState, 0x8808C, 1, 0x0, 1, 0x0, 1, 0x0, 0x0, 0x0, 0xFFFFFFFF, 0x0, 0x0, 0x0⟩,
    ⟨.fiChg, 0x88090, 1, 0x0, 1, 0x0, 1, 0x0, 0x0, 0x0, 0x0, 0xFFFF, 0x0, 0x0⟩,
    ⟨.fieldStat, 0x88094, 1, 0x0, 1, 0x0, 1, 0x0, 0x0, 0x0, 0xF, 0x0, 0xFFFF0000, 0x0⟩,
    ⟨.fieldLp, 0x88098, 1, 0x0, 1, 0x0, 1, 0x0, 0x0, 0x0, 0x3FF, 0x0, 0x0, 0x0⟩ ]

/-- The registers of the Can block. -/
def regsCan : List RegDesc :=
  [ ⟨.canCfg, 0x90000, 6, 0x2000, 8, 0x4, 1, 0x0, 0xFFFFFFFF, 0x0, 0x0, 0x0, 0x0, 0x0⟩,
    ⟨.canState, 0x90020, 6, 0x2000, 1, 0x0, 1, 0x0, 0x0, 0x0, 0xFFFF8F03, 0x0, 0x0, 0x0⟩,
    ⟨.canRxstat, 0x90024, 6, 0x2000, 1, 0x0, 1, 0x0, 0x0, 0x0, 0x0, 0x0, 0xFFFFFFFF, 0x0⟩,
    ⟨.canRxdrop, 0x90028, 6, 0x2000, 1, 0x0, 1, 0x0, 0x0, 0x0, 0x0, 0x0, 0xFFFFFFFF, 0x0⟩,
    ⟨.canTxstat, 0x9002C, 6, 0x2000, 1, 0x0, 1, 0x0, 0x0, 0x0, 0xFFF00000, 0x0, 0xFFFFF, 0x0⟩,
    ⟨.canErrcnt, 0x90030, 6, 0x2000, 1, 0x0, 1, 0x0, 0x0, 0x0, 0x0, 0x0, 0xFFFFFFFF, 0x0⟩,
    ⟨.canSoflo, 0x90034, 6, 0x2000, 1, 0x0, 1, 0x0, 0x0, 0x0, 0xFFFFFFFF, 0x0, 0x0, 0x0⟩,
    ⟨.canSofhi, 0x90038, 6, 0x2000, 1, 0x0, 1, 0x0, 0x0, 0x0, 0xFFFFFFFF, 0x0, 0x0, 0x0⟩,
    ⟨.canTdc, 0x9003C, 6, 0x2000, 1, 0x0, 1, 0x0, 0x0, 0x0, 0xFF, 0x0, 0xFF00, 0x0⟩,
    ⟨.canCollId, 0x90040, 6, 0x2000, 16, 0x8, 1, 0x0, 0x0, 0x0, 0xFFFFFFFF, 0x0, 0x0, 0x0⟩,
    ⟨.canCollCnt, 0x90044, 6, 0x2000, 16, 0x8, 1, 0x0, 0x0, 0x0, 0xFF00, 0x0, 0xFFFF0000, 0x0⟩,
    ⟨.canPairsel, 0x900D0, 6, 0x2000, 1, 0x0, 1, 0x0, 0x3FF, 0x0, 0x0, 0x0, 0x0, 0x0⟩,
    ⟨.canPairmask, 0x900D4, 6, 0x2000, 1, 0x0, 1, 0x0, 0x0, 0x0, 0xFFFFFFFF, 0x0, 0x0, 0x0⟩,
    ⟨.canPairmatch, 0x900D8, 6, 0x2000, 1, 0x0, 1, 0x0, 0x0, 0x0, 0xFFFFFFFF, 0x0, 0x0, 0x0⟩,
    ⟨.canPairinfo, 0x900DC, 6, 0x2000, 1, 0x0, 1, 0x0, 0x0, 0x0, 0xFF000000, 0x0, 0x0, 0x0⟩,
    ⟨.canRxwin, 0x91000, 6, 0x2000, 516, 0x4, 1, 0x0, 0x0, 0x0, 0xFFFFFFFF, 0x0, 0x0, 0x0⟩ ]

/-- The registers of the Netsw block. -/
def regsNetsw : List RegDesc :=
  [ ⟨.netCtl, 0xA0000, 1, 0x0, 1, 0x0, 1, 0x0, 0x30FFF, 0x0, 0x0, 0x0, 0x0, 0x0⟩,
    ⟨.netFlowstat, 0xA0004, 1, 0x0, 1, 0x0, 1, 0x0, 0x0, 0x0, 0xFFFFF000, 0x0, 0xFFF, 0x0⟩,
    ⟨.netSlow, 0xA0008, 1, 0x0, 1, 0x0, 1, 0x0, 0x0, 0x0, 0x0, 0x0, 0xFFFFFFFF, 0x0⟩,
    ⟨.netMachi, 0xA0010, 1, 0x0, 1, 0x0, 1, 0x0, 0x0, 0x0, 0xFFFFFFFF, 0x0, 0x0, 0x0⟩,
    ⟨.netMaclo, 0xA0014, 1, 0x0, 1, 0x0, 1, 0x0, 0x0, 0x0, 0xFFFFFFFF, 0x0, 0x0, 0x0⟩,
    ⟨.netIpv4, 0xA0018, 1, 0x0, 1, 0x0, 1, 0x0, 0x0, 0x0, 0xFFFFFFFF, 0x0, 0x0, 0x0⟩,
    ⟨.netAsofflo, 0xA0020, 1, 0x0, 1, 0x0, 1, 0x0, 0x0, 0x0, 0xFFFFFFFF, 0x0, 0x0, 0x0⟩,
    ⟨.netAsoffhi, 0xA0024, 1, 0x0, 1, 0x0, 1, 0x0, 0x0, 0x0, 0xFFFFFFFF, 0x0, 0x0, 0x0⟩,
    ⟨.netAsstat, 0xA0028, 1, 0x0, 1, 0x0, 1, 0x0, 0x0, 0x0, 0xFFFFFF03, 0x0, 0x0, 0x0⟩,
    ⟨.netVlan, 0xA0100, 64, 0x4, 1, 0x0, 1, 0x0, 0x8FFF3FFF, 0x0, 0x0, 0x0, 0x0, 0x0⟩,
    ⟨.flowInfo, 0xA1000, 512, 0x8, 1, 0x0, 1, 0x0, 0x0, 0x0, 0xFFFFFFFF, 0x0, 0x0, 0x0⟩,
    ⟨.flowCnt, 0xA1004, 512, 0x8, 1, 0x0, 1, 0x0, 0x0, 0x0, 0x0, 0x0, 0xFFFFFFFF, 0x0⟩ ]

/-- The registers of the Phy block. -/
def regsPhy : List RegDesc :=
  [ ⟨.phyCfg, 0xB0000, 4, 0x400, 4, 0x4, 1, 0x0, 0xFFFFFFFF, 0x0, 0x0, 0x0, 0x0, 0x0⟩,
    ⟨.phyStat, 0xB0010, 4, 0x400, 1, 0x0, 1, 0x0, 0x0, 0x0, 0xFF000007, 0x0, 0x0, 0x0⟩,
    ⟨.phyDrop, 0xB0014, 4, 0x400, 1, 0x0, 1, 0x0, 0x0, 0x0, 0x0, 0x0, 0xFFFFFFFF, 0x0⟩ ]

/-- The registers of the Ridge block. -/
def regsRidge : List RegDesc :=
  [ ⟨.rdgCfg, 0xB8000, 2, 0x100, 3, 0x4, 1, 0x0, 0xFFFFFFFF, 0x0, 0x0, 0x0, 0x0, 0x0⟩,
    ⟨.rdgStat, 0xB8010, 2, 0x100, 1, 0x0, 1, 0x0, 0x0, 0x0, 0xFFFF003F, 0x0, 0x0, 0x0⟩,
    ⟨.rdgErr, 0xB8014, 2, 0x100, 1, 0x0, 1, 0x0, 0x0, 0x0, 0x0, 0x0, 0xFFFFFFFF, 0x0⟩,
    ⟨.rdgCluster, 0xB8200, 1, 0x0, 1, 0x0, 1, 0x0, 0x0, 0x0, 0x3, 0x0, 0x0, 0x0⟩ ]

/-- The registers of the Pwr block. -/
def regsPwr : List RegDesc :=
  [ ⟨.pwrRstcause, 0xC0000, 1, 0x0, 1, 0x0, 1, 0x0, 0x0, 0x0, 0xFF0000, 0x3FF, 0x0, 0x0⟩,
    ⟨.pwrStart, 0xC0004, 1, 0x0, 1, 0x0, 1, 0x0, 0x0, 0x0, 0xFFF007F, 0x0, 0x0, 0x0⟩,
    ⟨.pwrCoast, 0xC0008, 1, 0x0, 1, 0x0, 1, 0x0, 0x0, 0x0, 0x3FFFFF03, 0x0, 0x0, 0x0⟩,
    ⟨.pwrDomstate, 0xC0100, 2, 0x4, 1, 0x0, 1, 0x0, 0x0, 0x0, 0xFFFFFFFF, 0x0, 0x0, 0x0⟩,
    ⟨.pwrWakesrc, 0xC0108, 1, 0x0, 1, 0x0, 1, 0x0, 0x0, 0x0, 0x0, 0xFFFFFFFF, 0x0, 0x0⟩,
    ⟨.pwrWakeinfo, 0xC010C, 1, 0x0, 1, 0x0, 1, 0x0, 0x0, 0x0, 0xFF000000, 0x0, 0xFF0000, 0x0⟩,
    ⟨.pwrSlept, 0xC0110, 1, 0x0, 1, 0x0, 1, 0x0, 0x0, 0x0, 0xFFFFFFFF, 0x0, 0x0, 0x0⟩,
    ⟨.pwrInh, 0xC0118, 2, 0x4, 1, 0x0, 1, 0x0, 0xFFFFFF, 0x0, 0x0, 0x0, 0x0, 0x0⟩,
    ⟨.pwrTimer, 0xC0120, 1, 0x0, 1, 0x0, 1, 0x0, 0x0, 0x0, 0xFFFFFFFF, 0x0, 0x0, 0x0⟩,
    ⟨.pwrSbreq, 0xC0124, 1, 0x0, 1, 0x0, 1, 0x0, 0x0, 0x0, 0x0, 0x0, 0x0, 0xFFFFFF⟩,
    ⟨.pwrSbstat, 0xC0128, 1, 0x0, 1, 0x0, 1, 0x0, 0x0, 0x0, 0x0, 0x0, 0xFFFFFFFF, 0x0⟩,
    ⟨.pwrFw, 0xC0140, 6, 0x4, 1, 0x0, 1, 0x0, 0x0, 0x0, 0xF3FFFF, 0x0, 0xFF080000, 0x0⟩,
    ⟨.pwrNmstat, 0xC0160, 6, 0x4, 1, 0x0, 1, 0x0, 0x0, 0x0, 0x7, 0x0, 0x0, 0x0⟩,
    ⟨.pwrWakecfg, 0xC0200, 22, 0x10, 4, 0x4, 1, 0x0, 0xFFFFFFFF, 0x0, 0x0, 0x0, 0x0, 0x0⟩,
    ⟨.pwrNm, 0xC0400, 6, 0x10, 4, 0x4, 1, 0x0, 0xFFFFFFFF, 0x0, 0x0, 0x0, 0x0, 0x0⟩ ]

/-- The registers of the Save block. -/
def regsSave : List RegDesc :=
  [ ⟨.saveStat, 0xC8000, 1, 0x0, 1, 0x0, 1, 0x0, 0x0, 0x0, 0x1FFF, 0x0, 0xFFFF0000, 0x0⟩,
    ⟨.saveDom, 0xC8100, 24, 0x4, 1, 0x0, 1, 0x0, 0x0, 0x0, 0x80001FFF, 0x0, 0x0, 0x0⟩ ]

/-- The registers of the Key block. -/
def regsKey : List RegDesc :=
  [ ⟨.keyLc, 0xD0000, 1, 0x0, 1, 0x0, 1, 0x0, 0x0, 0x0, 0xFFFF01FF, 0x0, 0x0, 0x0⟩,
    ⟨.keyDevid, 0xD0004, 2, 0x4, 1, 0x0, 1, 0x0, 0x0, 0x0, 0xFFFFFFFF, 0x0, 0x0, 0x0⟩,
    ⟨.keyCfg, 0xD000C, 1, 0x0, 1, 0x0, 1, 0x0, 0x7F, 0x0, 0x0, 0x0, 0x0, 0x0⟩,
    ⟨.keyStat, 0xD0010, 1, 0x0, 1, 0x0, 1, 0x0, 0x0, 0x0, 0xFF00070F, 0x0, 0x0, 0x0⟩,
    ⟨.keyCachecnt, 0xD0014, 1, 0x0, 1, 0x0, 1, 0x0, 0x0, 0x0, 0x0, 0x0, 0xFFFFFFFF, 0x0⟩,
    ⟨.keySlot, 0xD0100, 64, 0x4, 1, 0x0, 1, 0x0, 0x0, 0x0, 0xF80000FF, 0x0, 0x0, 0x0⟩,
    ⟨.keySlotver, 0xD0200, 64, 0x4, 1, 0x0, 1, 0x0, 0x0, 0x0, 0xFFFFFFFF, 0x0, 0x0, 0x0⟩ ]

/-- The registers of the Imm block. -/
def regsImm : List RegDesc :=
  [ ⟨.immCfg0, 0xD8000, 1, 0x0, 1, 0x0, 1, 0x0, 0xFFFFFFFF, 0x0, 0x0, 0x0, 0x0, 0x0⟩,
    ⟨.immCfg1, 0xD8004, 1, 0x0, 1, 0x0, 1, 0x0, 0xFFFFFFFF, 0x0, 0x0, 0x0, 0x0, 0x0⟩,
    ⟨.immCfg2, 0xD8008, 1, 0x0, 1, 0x0, 1, 0x0, 0xFBFEFFFF, 0x0, 0x0, 0x0, 0x0, 0x0⟩,
    ⟨.immRelid, 0xD800C, 1, 0x0, 1, 0x0, 1, 0x0, 0xDFFFFFFF, 0x0, 0x0, 0x0, 0x0, 0x0⟩,
    ⟨.immCtl, 0xD8010, 1, 0x0, 1, 0x0, 1, 0x0, 0x1, 0x0, 0x0, 0x0, 0x0, 0x0⟩,
    ⟨.immStat, 0xD8014, 1, 0x0, 1, 0x0, 1, 0x0, 0x0, 0x0, 0x8000FFFF, 0x0, 0x0, 0x0⟩,
    ⟨.immTok, 0xD8020, 8, 0x4, 1, 0x0, 1, 0x0, 0x0, 0x0, 0xFF003FFF, 0x0, 0x0, 0x0⟩,
    ⟨.immCnt, 0xD8040, 1, 0x0, 1, 0x0, 1, 0x0, 0x0, 0x0, 0x0, 0x0, 0xFFFFFFFF, 0x0⟩,
    ⟨.immFresh, 0xD8044, 1, 0x0, 1, 0x0, 1, 0x0, 0x0, 0x0, 0xFFFFFFFF, 0x0, 0x0, 0x0⟩,
    ⟨.immPark, 0xD8048, 1, 0x0, 1, 0x0, 1, 0x0, 0x0, 0x0, 0xFFFFFFFF, 0x0, 0x0, 0x0⟩ ]

/-- The registers of the Upd block. -/
def regsUpd : List RegDesc :=
  [ ⟨.updFwstat, 0xE0000, 1, 0x0, 1, 0x0, 1, 0x0, 0x0, 0x0, 0xF00FFFFF, 0x0, 0x0, 0x0⟩,
    ⟨.updNext, 0xE0004, 1, 0x0, 1, 0x0, 1, 0x0, 0x0, 0x0, 0xFFFFFFFF, 0x0, 0x0, 0x0⟩,
    ⟨.updTrial, 0xE0008, 1, 0x0, 1, 0x0, 1, 0x0, 0x0, 0x0, 0xFFFFFF03, 0x0, 0x0, 0x0⟩,
    ⟨.updVer, 0xE0010, 3, 0x4, 1, 0x0, 1, 0x0, 0x0, 0x0, 0xFFFFFFFF, 0x0, 0x0, 0x0⟩,
    ⟨.updPolicy, 0xE0020, 1, 0x0, 1, 0x0, 1, 0x0, 0x0, 0x1, 0x3F0F00, 0x0, 0x0, 0x0⟩,
    ⟨.updSrc, 0xE0024, 1, 0x0, 1, 0x0, 1, 0x0, 0xFF, 0x0, 0x0, 0x0, 0x0, 0x0⟩,
    ⟨.updCfgstat, 0xE0030, 1, 0x0, 1, 0x0, 1, 0x0, 0x0, 0x0, 0xF0070003, 0x0, 0x0, 0x0⟩,
    ⟨.updCfgnext, 0xE0034, 1, 0x0, 1, 0x0, 1, 0x0, 0x0, 0x0, 0xFFFFFFFF, 0x0, 0x0, 0x0⟩,
    ⟨.updCfgver, 0xE0038, 1, 0x0, 1, 0x0, 1, 0x0, 0x0, 0x0, 0xFFFFFFFF, 0x0, 0x0, 0x0⟩,
    ⟨.updCfgcrc, 0xE003C, 1, 0x0, 1, 0x0, 1, 0x0, 0x0, 0x0, 0xFFFFFFFF, 0x0, 0x0, 0x0⟩,
    ⟨.updUds, 0xE0040, 1, 0x0, 1, 0x0, 1, 0x0, 0xFFFCFFFF, 0x0, 0x0, 0x0, 0x0, 0x0⟩,
    ⟨.updUdsreq, 0xE0044, 1, 0x0, 1, 0x0, 1, 0x0, 0xFFFFFFFF, 0x0, 0x0, 0x0, 0x0, 0x0⟩,
    ⟨.updUdsrsp, 0xE0048, 1, 0x0, 1, 0x0, 1, 0x0, 0xFFFFFFFF, 0x0, 0x0, 0x0, 0x0, 0x0⟩,
    ⟨.updJournal, 0xE0050, 1, 0x0, 1, 0x0, 1, 0x0, 0x0, 0x0, 0xFFFF0000, 0x0, 0xFFFF, 0x0⟩ ]

/-- The registers of the Compat block. -/
def regsCompat : List RegDesc :=
  [ ⟨.compatWakesrc, 0xF0000, 1, 0x0, 1, 0x0, 1, 0x0, 0x0, 0x0, 0x0, 0x0, 0xFFF, 0x0⟩ ]

/-- The block an address lies in, as the rows of its registers; none in a gap (spec/01, R17, R22). -/
def blockRegs (a : Nat) : Option (List RegDesc) :=
  if 0x0 ≤ a ∧ a < 0x10000 then some regsSys
  else if 0x10000 ≤ a ∧ a < 0x18000 then some regsHc
  else if 0x20000 ≤ a ∧ a < 0x30000 then some regsEvt
  else if 0x30000 ≤ a ∧ a < 0x40000 then some regsScree
  else if 0x40000 ≤ a ∧ a < 0x50000 then some regsBank
  else if 0x50000 ≤ a ∧ a < 0x54000 then some regsCh
  else if 0x60000 ≤ a ∧ a < 0x68000 then some regsCrank
  else if 0x68000 ≤ a ∧ a < 0x70000 then some regsSpk
  else if 0x70000 ≤ a ∧ a < 0x80000 then some regsGov
  else if 0x80000 ≤ a ∧ a < 0x88000 then some regsSwin
  else if 0x88000 ≤ a ∧ a < 0x90000 then some regsField
  else if 0x90000 ≤ a ∧ a < 0x9C000 then some regsCan
  else if 0xA0000 ≤ a ∧ a < 0xB0000 then some regsNetsw
  else if 0xB0000 ≤ a ∧ a < 0xB8000 then some regsPhy
  else if 0xB8000 ≤ a ∧ a < 0xC0000 then some regsRidge
  else if 0xC0000 ≤ a ∧ a < 0xC8000 then some regsPwr
  else if 0xC8000 ≤ a ∧ a < 0xD0000 then some regsSave
  else if 0xD0000 ≤ a ∧ a < 0xD8000 then some regsKey
  else if 0xD8000 ≤ a ∧ a < 0xE0000 then some regsImm
  else if 0xE0000 ≤ a ∧ a < 0xF0000 then some regsUpd
  else if 0xF0000 ≤ a ∧ a < 0x100000 then some regsCompat
  else none

/-- The instance numbers of address `a` in a register's row, if `a` is one of its addresses. -/
def RegDesc.find (d : RegDesc) (a : Nat) : Option RegAt :=
  if a < d.base then none else
  let o := a - d.base
  let i := if d.s1 = 0 then 0 else o / d.s1
  let o1 := o - i * d.s1
  let j := if d.s2 = 0 then 0 else o1 / d.s2
  let o2 := o1 - j * d.s2
  let k := if d.s3 = 0 then 0 else o2 / d.s3
  if i < d.n1 ∧ j < d.n2 ∧ k < d.n3 ∧ o2 - k * d.s3 = 0 then some ⟨d.kind, i, j, k⟩ else none

/-- The first row of a list that holds address `a`. -/
def findReg (l : List RegDesc) (a : Nat) : Option (RegDesc × RegAt) :=
  match l with
  | [] => none
  | d :: rest =>
    match d.find a with
    | some r => some (d, r)
    | none => findReg rest a

/-- The register at address `a`, if the address is assigned. -/
def regAt (a : Nat) : Option (RegDesc × RegAt) :=
  match blockRegs a with
  | some l => findReg l a
  | none => none

/-! SYS_COASTCFG (spec/03, R67) -/
def sysCoastcfg_coastTime : Fld := ⟨0x100, 13, 0⟩
/-! SYS_LIMPCTL (spec/03, R67) -/
def sysLimpctl_release : Fld := ⟨0x104, 0, 0⟩
/-! SYS_LIMPMAPn (spec/03, R67) -/
def sysLimpmap_odd (n : Nat) : Fld := ⟨0x200 + n * 0x4, 31, 16⟩
def sysLimpmap_even (n : Nat) : Fld := ⟨0x200 + n * 0x4, 15, 0⟩
/-! SYS_LIMPBASE (spec/03, R67) -/
def sysLimpbase_base : Fld := ⟨0x280, 15, 0⟩
/-! PWR_RSTCAUSE (spec/03, R67) -/
def pwrRstcause_sysStarts : Fld := ⟨0xC0000, 23, 16⟩
def pwrRstcause_verone : Fld := ⟨0xC0000, 9, 9⟩
def pwrRstcause_resetStorm : Fld := ⟨0xC0000, 8, 8⟩
def pwrRstcause_sysCmd : Fld := ⟨0xC0000, 7, 7⟩
def pwrRstcause_scree : Fld := ⟨0xC0000, 6, 6⟩
def pwrRstcause_lockstep : Fld := ⟨0xC0000, 5, 5⟩
def pwrRstcause_watchdog : Fld := ⟨0xC0000, 4, 4⟩
def pwrRstcause_rstPin : Fld := ⟨0xC0000, 3, 3⟩
def pwrRstcause_deviceCmd : Fld := ⟨0xC0000, 2, 2⟩
def pwrRstcause_vsupDip : Fld := ⟨0xC0000, 1, 1⟩
def pwrRstcause_powerOn : Fld := ⟨0xC0000, 0, 0⟩
/-! PWR_START (spec/03, R67) -/
def pwrStart_tFull : Fld := ⟨0xC0004, 27, 16⟩
def pwrStart_mapblank : Fld := ⟨0xC0004, 6, 6⟩
def pwrStart_mapslot : Fld := ⟨0xC0004, 5, 4⟩
def pwrStart_limp : Fld := ⟨0xC0004, 3, 3⟩
def pwrStart_phase : Fld := ⟨0xC0004, 2, 0⟩
/-! PWR_COAST (spec/03, R67) -/
def pwrCoast_elapsed : Fld := ⟨0xC0008, 29, 16⟩
def pwrCoast_bankCoast : Fld := ⟨0xC0008, 15, 8⟩
def pwrCoast_expired : Fld := ⟨0xC0008, 1, 1⟩
def pwrCoast_active : Fld := ⟨0xC0008, 0, 0⟩
/-! SYS_HIFCFG (spec/04, R96) -/
def sysHifcfg_rdwait : Fld := ⟨0x300, 1, 0⟩
/-! SYS_HIFSTAT (spec/04, R96) -/
def sysHifstat_frameErr : Fld := ⟨0x304, 31, 16⟩
def sysHifstat_lastStatus : Fld := ⟨0x304, 15, 8⟩
/-! HCn_BIND (spec/05, R119) -/
def hcBind_transport (n : Nat) : Fld := ⟨0x10000 + n * 0x1000, 31, 29⟩
def hcBind_auth (n : Nat) : Fld := ⟨0x10000 + n * 0x1000, 28, 28⟩
def hcBind_keyslot (n : Nat) : Fld := ⟨0x10000 + n * 0x1000, 27, 22⟩
def hcBind_port (n : Nat) : Fld := ⟨0x10000 + n * 0x1000, 21, 19⟩
def hcBind_peerCluster (n : Nat) : Fld := ⟨0x10000 + n * 0x1000, 18, 17⟩
def hcBind_peerHc (n : Nat) : Fld := ⟨0x10000 + n * 0x1000, 16, 14⟩
/-! HCn_ADDR1 (spec/05, R119) -/
def hcAddr1_addr (n : Nat) : Fld := ⟨0x10004 + n * 0x1000, 31, 0⟩
/-! HCn_ADDR1 (spec/05, R119) -/
def hcAddr2_addr (n : Nat) : Fld := ⟨0x10008 + n * 0x1000, 31, 0⟩
/-! HCn_STATE (spec/05, R119) -/
def hcState_sleep (n : Nat) : Fld := ⟨0x10010 + n * 0x1000, 2, 2⟩
def hcState_overQuota (n : Nat) : Fld := ⟨0x10010 + n * 0x1000, 1, 1⟩
def hcState_closed (n : Nat) : Fld := ⟨0x10010 + n * 0x1000, 0, 0⟩
/-! HCn_QUOTAk (spec/05, R119) -/
def hcQuota_value (n k : Nat) : Fld := ⟨0x10020 + n * 0x1000 + k * 0x4, 12, 0⟩
/-! HCn_USEk (spec/05, R119) -/
def hcUse_use (n k : Nat) : Fld := ⟨0x10040 + n * 0x1000 + k * 0x4, 12, 0⟩
/-! HCn_RING (spec/05, R119) -/
def hcRing_queued (n : Nat) : Fld := ⟨0x10060 + n * 0x1000, 31, 24⟩
def hcRing_cring (n : Nat) : Fld := ⟨0x10060 + n * 0x1000, 23, 16⟩
def hcRing_ering (n : Nat) : Fld := ⟨0x10060 + n * 0x1000, 8, 0⟩
/-! HCn_OWNCH0 (spec/05, R119) -/
def hcOwnch_mask (n k : Nat) : Fld := ⟨0x10064 + n * 0x1000 + k * 0x4, 31, 0⟩
/-! HCn_REFUSED (spec/05, R119) -/
def hcRefused_discard (n : Nat) : Fld := ⟨0x1006C + n * 0x1000, 31, 16⟩
def hcRefused_refused (n : Nat) : Fld := ⟨0x1006C + n * 0x1000, 15, 0⟩
/-! SYS_POOLSTAT (spec/05, R119) -/
def sysPoolstat_lowest : Fld := ⟨0x400, 28, 16⟩
def sysPoolstat_free : Fld := ⟨0x400, 12, 0⟩
/-! SYS_PORTQn (spec/05, R119) -/
def sysPortq_qb (n : Nat) : Fld := ⟨0x410 + n * 0x4, 31, 16⟩
def sysPortq_qa (n : Nat) : Fld := ⟨0x410 + n * 0x4, 15, 0⟩
/-! BANKn_INFO (spec/06, R146) -/
def bankInfo_die (n : Nat) : Fld := ⟨0x40000 + n * 0x2000, 11, 10⟩
def bankInfo_feed (n : Nat) : Fld := ⟨0x40000 + n * 0x2000, 9, 9⟩
/-! BANKn_MEAS (spec/06, R146) -/
def bankMeas_tcase (n : Nat) : Fld := ⟨0x40004 + n * 0x2000, 27, 16⟩
def bankMeas_vbat (n : Nat) : Fld := ⟨0x40004 + n * 0x2000, 11, 0⟩
/-! BANKn_PDISS (spec/06, R146) -/
def bankPdiss_peak (n : Nat) : Fld := ⟨0x40008 + n * 0x2000, 31, 16⟩
def bankPdiss_mean (n : Nat) : Fld := ⟨0x40008 + n * 0x2000, 15, 0⟩
/-! BANKn_OLCFG (spec/06, R146) -/
def bankOlcfg_ipu (n : Nat) : Fld := ⟨0x4000C + n * 0x2000, 3, 2⟩
def bankOlcfg_vol (n : Nat) : Fld := ⟨0x4000C + n * 0x2000, 1, 0⟩
/-! BANKn_SENSE (spec/06, R146) -/
def bankSense_errcnt (n : Nat) : Fld := ⟨0x40010 + n * 0x2000, 15, 8⟩
def bankSense_auxValid (n : Nat) : Fld := ⟨0x40010 + n * 0x2000, 1, 1⟩
def bankSense_curValid (n : Nat) : Fld := ⟨0x40010 + n * 0x2000, 0, 0⟩
/-! CHn_CFGk (spec/06, R146) -/
def chCfg_word (n k : Nat) : Fld := ⟨0x50000 + n * 0x100 + k * 0x4, 31, 0⟩
/-! CHn_STATE (spec/06, R146) -/
def chState_flags (n : Nat) : Fld := ⟨0x50020 + n * 0x100, 12, 8⟩
def chState_state (n : Nat) : Fld := ⟨0x50020 + n * 0x100, 7, 0⟩
/-! CHn_I (spec/06, R146) -/
def chI_mean (n : Nat) : Fld := ⟨0x50024 + n * 0x100, 29, 16⟩
def chI_sample (n : Nat) : Fld := ⟨0x50024 + n * 0x100, 13, 0⟩
/-! CHn_VT (spec/06, R146) -/
def chVt_tch (n : Nat) : Fld := ⟨0x50028 + n * 0x100, 27, 16⟩
def chVt_vout (n : Nat) : Fld := ⟨0x50028 + n * 0x100, 11, 0⟩
/-! CHn_DELAY (spec/06, R146) -/
def chDelay_toff (n : Nat) : Fld := ⟨0x5002C + n * 0x100, 31, 16⟩
def chDelay_ton (n : Nat) : Fld := ⟨0x5002C + n * 0x100, 15, 0⟩
/-! CHn_DIAG (spec/06, R146) -/
def chDiag_stbLive (n : Nat) : Fld := ⟨0x50030 + n * 0x100, 10, 10⟩
def chDiag_oloffLive (n : Nat) : Fld := ⟨0x50030 + n * 0x100, 9, 9⟩
def chDiag_olonLive (n : Nat) : Fld := ⟨0x50030 + n * 0x100, 8, 8⟩
def chDiag_stb (n : Nat) : Fld := ⟨0x50030 + n * 0x100, 2, 2⟩
def chDiag_oloff (n : Nat) : Fld := ⟨0x50030 + n * 0x100, 1, 1⟩
def chDiag_olon (n : Nat) : Fld := ⟨0x50030 + n * 0x100, 0, 0⟩
/-! CHn_SEG (spec/06, R146) -/
def chSeg_segc (n : Nat) : Fld := ⟨0x50034 + n * 0x100, 29, 20⟩
def chSeg_segb (n : Nat) : Fld := ⟨0x50034 + n * 0x100, 19, 10⟩
def chSeg_sega (n : Nat) : Fld := ⟨0x50034 + n * 0x100, 9, 0⟩
/-! CHn_CLAMP (spec/06, R146) -/
def chClamp_last (n : Nat) : Fld := ⟨0x50038 + n * 0x100, 31, 16⟩
def chClamp_over (n : Nat) : Fld := ⟨0x50038 + n * 0x100, 15, 0⟩
/-! SYS_PDISS (spec/06, R146) -/
def sysPdiss_limit : Fld := ⟨0x500, 31, 16⟩
def sysPdiss_mean : Fld := ⟨0x500, 15, 0⟩
/-! BANKn_TWARN (spec/07, R168) -/
def bankTwarn_active (n : Nat) : Fld := ⟨0x40100 + n * 0x2000, 16, 16⟩
def bankTwarn_level (n : Nat) : Fld := ⟨0x40100 + n * 0x2000, 7, 0⟩
/-! BANKn_PROTSTAT (spec/07, R168) -/
def bankProtstat_mismatch (n : Nat) : Fld := ⟨0x40104 + n * 0x2000, 31, 24⟩
def bankProtstat_selftestFail (n : Nat) : Fld := ⟨0x40104 + n * 0x2000, 23, 16⟩
def bankProtstat_held (n : Nat) : Fld := ⟨0x40104 + n * 0x2000, 15, 8⟩
def bankProtstat_trips (n : Nat) : Fld := ⟨0x40104 + n * 0x2000, 7, 0⟩
/-! BANKn_CMPTEST (spec/07, R168) -/
def bankCmptest_run (n : Nat) : Fld := ⟨0x40108 + n * 0x2000, 8, 8⟩
def bankCmptest_pass (n : Nat) : Fld := ⟨0x40108 + n * 0x2000, 7, 0⟩
/-! CHn_PROT (spec/07, R168) -/
def chProt_cause (n : Nat) : Fld := ⟨0x50040 + n * 0x100, 31, 28⟩
def chProt_restarts (n : Nat) : Fld := ⟨0x50040 + n * 0x100, 27, 24⟩
def chProt_latched (n : Nat) : Fld := ⟨0x50040 + n * 0x100, 23, 23⟩
def chProt_backoff (n : Nat) : Fld := ⟨0x50040 + n * 0x100, 22, 20⟩
def chProt_coolLeft (n : Nat) : Fld := ⟨0x50040 + n * 0x100, 15, 0⟩
/-! CHn_TRIP (spec/07, R168) -/
def chTrip_iTrip (n : Nat) : Fld := ⟨0x50044 + n * 0x100, 31, 16⟩
def chTrip_voutTrip (n : Nat) : Fld := ⟨0x50044 + n * 0x100, 15, 0⟩
/-! CHn_TRIPTIME (spec/07, R168) -/
def chTriptime_time (n : Nat) : Fld := ⟨0x50048 + n * 0x100, 31, 0⟩
/-! CHn_I2T (spec/07, R168) -/
def chI2t_trips (n : Nat) : Fld := ⟨0x5004C + n * 0x100, 31, 16⟩
def chI2t_theta (n : Nat) : Fld := ⟨0x5004C + n * 0x100, 15, 0⟩
/-! CHn_TRIPCNT (spec/07, R168) -/
def chTripcnt_shorts (n : Nat) : Fld := ⟨0x50050 + n * 0x100, 31, 16⟩
def chTripcnt_other (n : Nat) : Fld := ⟨0x50050 + n * 0x100, 15, 0⟩
/-! BANKn_PWMBASE (spec/08, R194) -/
def bankPwmbase_pending (n : Nat) : Fld := ⟨0x41000 + n * 0x2000, 31, 31⟩
def bankPwmbase_period (n : Nat) : Fld := ⟨0x41000 + n * 0x2000, 21, 0⟩
/-! BANKn_UCODE (spec/08, R194) -/
def bankUcode_version (n : Nat) : Fld := ⟨0x41004 + n * 0x2000, 31, 16⟩
def bankUcode_swapPending (n : Nat) : Fld := ⟨0x41004 + n * 0x2000, 3, 3⟩
def bankUcode_store (n : Nat) : Fld := ⟨0x41004 + n * 0x2000, 2, 2⟩
def bankUcode_crcOk (n : Nat) : Fld := ⟨0x41004 + n * 0x2000, 1, 1⟩
def bankUcode_loaded (n : Nat) : Fld := ⟨0x41004 + n * 0x2000, 0, 0⟩
/-! BANKn_PWMk (spec/08, R194) -/
def bankPwm_pending (n k : Nat) : Fld := ⟨0x41010 + n * 0x2000 + k * 0x4, 31, 31⟩
def bankPwm_clamped (n k : Nat) : Fld := ⟨0x41010 + n * 0x2000 + k * 0x4, 30, 30⟩
def bankPwm_div (n k : Nat) : Fld := ⟨0x41010 + n * 0x2000 + k * 0x4, 21, 20⟩
def bankPwm_phase (n k : Nat) : Fld := ⟨0x41010 + n * 0x2000 + k * 0x4, 19, 12⟩
def bankPwm_duty (n k : Nat) : Fld := ⟨0x41010 + n * 0x2000 + k * 0x4, 11, 0⟩
/-! BANKn_ARRIVALk (spec/08, R194) -/
def bankArrival_noarr (n k : Nat) : Fld := ⟨0x41030 + n * 0x2000 + k * 0x4, 31, 24⟩
def bankArrival_last (n k : Nat) : Fld := ⟨0x41030 + n * 0x2000 + k * 0x4, 15, 0⟩
/-! BANKn_MOTORb (spec/08, R194) -/
def bankMotor_endcode (n b : Nat) : Fld := ⟨0x41050 + n * 0x2000 + b * 0x4, 31, 24⟩
def bankMotor_norm (n b : Nat) : Fld := ⟨0x41050 + n * 0x2000 + b * 0x4, 19, 19⟩
def bankMotor_mstate (n b : Nat) : Fld := ⟨0x41050 + n * 0x2000 + b * 0x4, 18, 16⟩
def bankMotor_filled (n b : Nat) : Fld := ⟨0x41050 + n * 0x2000 + b * 0x4, 15, 0⟩
/-! BANKn_PINCHb (spec/08, R194) -/
def bankPinch_events (n b : Nat) : Fld := ⟨0x41060 + n * 0x2000 + b * 0x4, 31, 16⟩
def bankPinch_learned (n b : Nat) : Fld := ⟨0x41060 + n * 0x2000 + b * 0x4, 5, 0⟩
/-! CHn_PSETk (spec/08, R194) -/
def chPset_word (n k j : Nat) : Fld := ⟨0x50080 + n * 0x100 + k * 0x20 + j * 0x4, 31, 0⟩
/-! CRANK_AXn_CFGk (spec/09, R215) -/
def axCfg_word (n k : Nat) : Fld := ⟨0x60000 + n * 0x100 + k * 0x4, 31, 0⟩
/-! CRANK_AXn_STAT (spec/09, R215) -/
def axStat_jumps (n : Nat) : Fld := ⟨0x60020 + n * 0x100, 31, 24⟩
def axStat_resumed (n : Nat) : Fld := ⟨0x60020 + n * 0x100, 6, 6⟩
def axStat_saturated (n : Nat) : Fld := ⟨0x60020 + n * 0x100, 5, 5⟩
def axStat_published (n : Nat) : Fld := ⟨0x60020 + n * 0x100, 4, 4⟩
def axStat_dir (n : Nat) : Fld := ⟨0x60020 + n * 0x100, 3, 3⟩
def axStat_state (n : Nat) : Fld := ⟨0x60020 + n * 0x100, 2, 0⟩
/-! CRANK_AXn_POSLO (spec/09, R215) -/
def axPoslo_pos (n : Nat) : Fld := ⟨0x60024 + n * 0x100, 31, 0⟩
/-! CRANK_AXn_POSLO (spec/09, R215) -/
def axPoshi_pos (n : Nat) : Fld := ⟨0x60028 + n * 0x100, 31, 0⟩
/-! CRANK_AXn_VEL (spec/09, R215) -/
def axVel_vel (n : Nat) : Fld := ⟨0x6002C + n * 0x100, 31, 0⟩
/-! CRANK_AXn_SNAPTIME (spec/09, R215) -/
def axSnaptime_time (n : Nat) : Fld := ⟨0x60030 + n * 0x100, 31, 0⟩
/-! CRANK_AXn_DIAG (spec/09, R215) -/
def axDiag_qerr (n : Nat) : Fld := ⟨0x60034 + n * 0x100, 31, 16⟩
def axDiag_overrun (n : Nat) : Fld := ⟨0x60034 + n * 0x100, 15, 0⟩
/-! CRANK_AXn_REF (spec/09, R215) -/
def axRef_value (n : Nat) : Fld := ⟨0x60038 + n * 0x100, 31, 0⟩
/-! CRANK_AXn_REF (spec/09, R215) -/
def axReftime_value (n : Nat) : Fld := ⟨0x6003C + n * 0x100, 31, 0⟩
/-! CRANK_TIMELO (spec/09, R215) -/
def crankTimelo_time : Fld := ⟨0x61000, 31, 0⟩
/-! CRANK_TIMELO (spec/09, R215) -/
def crankTimehi_time : Fld := ⟨0x61004, 31, 0⟩
/-! CRANK_TSYNC (spec/09, R215) -/
def crankTsync_rate : Fld := ⟨0x61008, 31, 16⟩
def crankTsync_offset : Fld := ⟨0x61008, 15, 8⟩
def crankTsync_master : Fld := ⟨0x61008, 5, 4⟩
def crankTsync_coarse : Fld := ⟨0x61008, 3, 3⟩
def crankTsync_stepped : Fld := ⟨0x61008, 2, 2⟩
def crankTsync_isMaster : Fld := ⟨0x61008, 1, 1⟩
def crankTsync_aligned : Fld := ⟨0x61008, 0, 0⟩
/-! CRANK_PUBLISH (spec/09, R215) -/
def crankPublish_axes : Fld := ⟨0x6100C, 7, 0⟩
/-! SPK_STAT (spec/10, R236) -/
def spkStat_armed : Fld := ⟨0x68000, 28, 16⟩
def spkStat_free : Fld := ⟨0x68000, 12, 0⟩
/-! SPK_MISSCNT (spec/10, R236) -/
def spkMisscnt_late : Fld := ⟨0x68004, 31, 16⟩
def spkMisscnt_skipped : Fld := ⟨0x68004, 15, 0⟩
/-! SPK_LOAD (spec/10, R236) -/
def spkLoad_peak : Fld := ⟨0x68008, 31, 16⟩
def spkLoad_overload : Fld := ⟨0x68008, 15, 0⟩
/-! SPK_FREEk (spec/10, R236) -/
def spkFree_free (k : Nat) : Fld := ⟨0x68800 + k * 0x4, 31, 0⟩
/-! SPK_LEADn_Wk (spec/10, R236) -/
def spkLead_word (n k : Nat) : Fld := ⟨0x69000 + n * 0x20 + k * 0x4, 31, 0⟩
/-! SPK_LEADSTATn (spec/10, R236) -/
def spkLeadstat_reject (n : Nat) : Fld := ⟨0x69800 + n * 0x4, 31, 24⟩
def spkLeadstat_reseed (n : Nat) : Fld := ⟨0x69800 + n * 0x4, 23, 16⟩
def spkLeadstat_updates (n : Nat) : Fld := ⟨0x69800 + n * 0x4, 15, 0⟩
/-! SPK_SLOTn (spec/10, R236) -/
def spkSlot_firings (n : Nat) : Fld := ⟨0x6C000 + n * 0x4, 31, 16⟩
def spkSlot_last (n : Nat) : Fld := ⟨0x6C000 + n * 0x4, 9, 8⟩
def spkSlot_owner (n : Nat) : Fld := ⟨0x6C000 + n * 0x4, 5, 3⟩
def spkSlot_state (n : Nat) : Fld := ⟨0x6C000 + n * 0x4, 2, 0⟩
/-! GOV_GRPg_MAP (spec/11, R251) -/
def govMap_boardfeed (g : Nat) : Fld := ⟨0x70000 + g * 0x40, 25, 24⟩
def govMap_members (g : Nat) : Fld := ⟨0x70000 + g * 0x40, 19, 16⟩
def govMap_comfortMax (g : Nat) : Fld := ⟨0x70000 + g * 0x40, 15, 8⟩
/-! GOV_GRPg_BUDGET (spec/11, R251) -/
def govBudget_budget (g : Nat) : Fld := ⟨0x70004 + g * 0x40, 31, 16⟩
def govBudget_fixed (g : Nat) : Fld := ⟨0x70004 + g * 0x40, 15, 0⟩
/-! GOV_GRPg_RESERVE (spec/11, R251) -/
def govReserve_reserve (g : Nat) : Fld := ⟨0x70008 + g * 0x40, 15, 0⟩
/-! GOV_GRPg_DROOP (spec/11, R251) -/
def govDroop_hyst (g : Nat) : Fld := ⟨0x7000C + g * 0x40, 23, 16⟩
def govDroop_level (g : Nat) : Fld := ⟨0x7000C + g * 0x40, 15, 0⟩
/-! GOV_GRPg_STAT (spec/11, R251) -/
def govStat_share (g : Nat) : Fld := ⟨0x70010 + g * 0x40, 31, 16⟩
def govStat_used (g : Nat) : Fld := ⟨0x70010 + g * 0x40, 15, 0⟩
/-! GOV_GRPg_WAIT (spec/11, R251) -/
def govWait_count (g : Nat) : Fld := ⟨0x70014 + g * 0x40, 31, 24⟩
def govWait_demand (g : Nat) : Fld := ⟨0x70014 + g * 0x40, 15, 0⟩
/-! GOV_GRPg_FLAGS (spec/11, R251) -/
def govFlags_fallback (g : Nat) : Fld := ⟨0x70018 + g * 0x40, 3, 3⟩
def govFlags_hold (g : Nat) : Fld := ⟨0x70018 + g * 0x40, 2, 2⟩
def govFlags_frozen (g : Nat) : Fld := ⟨0x70018 + g * 0x40, 1, 1⟩
def govFlags_overdraw (g : Nat) : Fld := ⟨0x70018 + g * 0x40, 0, 0⟩
/-! GOV_GRPg_CNT (spec/11, R251) -/
def govCnt_deferrals (g : Nat) : Fld := ⟨0x7001C + g * 0x40, 31, 16⟩
def govCnt_expired (g : Nat) : Fld := ⟨0x7001C + g * 0x40, 15, 0⟩
/-! GOV_GRPg_PEAK (spec/11, R251) -/
def govPeak_freezes (g : Nat) : Fld := ⟨0x70020 + g * 0x40, 31, 16⟩
def govPeak_peakuse (g : Nat) : Fld := ⟨0x70020 + g * 0x40, 15, 0⟩
/-! GOV_CTL (spec/11, R251) -/
def govCtl_fbHold : Fld := ⟨0x70080, 7, 0⟩
/-! GOV_CLUSTER (spec/11, R251) -/
def govCluster_skipped : Fld := ⟨0x70084, 31, 16⟩
def govCluster_lost : Fld := ⟨0x70084, 7, 4⟩
def govCluster_linked : Fld := ⟨0x70084, 3, 0⟩
/-! SWIN_CFGn (spec/12, R275) -/
def swinCfg_word (n : Nat) : Fld := ⟨0x80000 + n * 0x4, 31, 0⟩
/-! SWIN_CFGn (spec/12, R275) -/
def ainCfg_word (n : Nat) : Fld := ⟨0x800A0 + n * 0x4, 31, 0⟩
/-! SWIN_STATE0 (spec/12, R275) -/
def swinState_state (k : Nat) : Fld := ⟨0x80100 + k * 0x4, 31, 0⟩
/-! SWIN_CHG0 (spec/12, R275) -/
def swinChg_chg (k : Nat) : Fld := ⟨0x80108 + k * 0x4, 31, 0⟩
/-! ANAm (spec/12, R275) -/
def ana_code (m : Nat) : Fld := ⟨0x80200 + m * 0x4, 9, 0⟩
/-! SWIN_WET (spec/12, R275) -/
def swinWet_cont : Fld := ⟨0x80300, 15, 8⟩
def swinWet_group : Fld := ⟨0x80300, 7, 0⟩
/-! FQ_CFGn (spec/12, R275) -/
def fqCfg_word (n : Nat) : Fld := ⟨0x88000 + n * 0x4, 31, 0⟩
/-! FQ_CFGn (spec/12, R275) -/
def fiCfg_word (n : Nat) : Fld := ⟨0x88040 + n * 0x4, 31, 0⟩
/-! FQ_STATE (spec/12, R275) -/
def fqState_on : Fld := ⟨0x88080, 31, 16⟩
def fqState_cmd : Fld := ⟨0x88080, 15, 0⟩
/-! FQ_FAULT (spec/12, R275) -/
def fqFault_thermal : Fld := ⟨0x88084, 31, 16⟩
def fqFault_limit : Fld := ⟨0x88084, 15, 0⟩
/-! FQ_LATCH (spec/12, R275) -/
def fqLatch_latched : Fld := ⟨0x88088, 15, 0⟩
/-! FI_STATE (spec/12, R275) -/
def fiState_raw : Fld := ⟨0x8808C, 31, 16⟩
def fiState_state : Fld := ⟨0x8808C, 15, 0⟩
/-! FI_CHG (spec/12, R275) -/
def fiChg_chg : Fld := ⟨0x88090, 15, 0⟩
/-! FIELD_STAT (spec/12, R275) -/
def fieldStat_linkerr : Fld := ⟨0x88094, 31, 16⟩
def fieldStat_lpOv : Fld := ⟨0x88094, 3, 3⟩
def fieldStat_lpUv : Fld := ⟨0x88094, 2, 2⟩
def fieldStat_powerOk : Fld := ⟨0x88094, 1, 1⟩
def fieldStat_linkOk : Fld := ⟨0x88094, 0, 0⟩
/-! FIELD_LP (spec/12, R275) -/
def fieldLp_vlp : Fld := ⟨0x88098, 9, 0⟩
/-! CANn_CFGk (spec/13, R297) -/
def canCfg_word (n k : Nat) : Fld := ⟨0x90000 + n * 0x2000 + k * 0x4, 31, 0⟩
/-! CANn_STATE (spec/13, R297) -/
def canState_tec (n : Nat) : Fld := ⟨0x90020 + n * 0x2000, 31, 23⟩
def canState_rec (n : Nat) : Fld := ⟨0x90020 + n * 0x2000, 22, 15⟩
def canState_errstate (n : Nat) : Fld := ⟨0x90020 + n * 0x2000, 11, 10⟩
def canState_tmActive (n : Nat) : Fld := ⟨0x90020 + n * 0x2000, 9, 9⟩
def canState_backoff (n : Nat) : Fld := ⟨0x90020 + n * 0x2000, 8, 8⟩
def canState_state (n : Nat) : Fld := ⟨0x90020 + n * 0x2000, 1, 0⟩
/-! CANn_RXSTAT (spec/13, R297) -/
def canRxstat_nomatch (n : Nat) : Fld := ⟨0x90024 + n * 0x2000, 31, 16⟩
def canRxstat_stored (n : Nat) : Fld := ⟨0x90024 + n * 0x2000, 15, 0⟩
/-! CANn_RXDROP (spec/13, R297) -/
def canRxdrop_dropB (n : Nat) : Fld := ⟨0x90028 + n * 0x2000, 31, 16⟩
def canRxdrop_dropA (n : Nat) : Fld := ⟨0x90028 + n * 0x2000, 15, 0⟩
/-! CANn_TXSTAT (spec/13, R297) -/
def canTxstat_q0 (n : Nat) : Fld := ⟨0x9002C + n * 0x2000, 31, 26⟩
def canTxstat_q1 (n : Nat) : Fld := ⟨0x9002C + n * 0x2000, 25, 20⟩
def canTxstat_txfDrop (n : Nat) : Fld := ⟨0x9002C + n * 0x2000, 19, 16⟩
def canTxstat_retries (n : Nat) : Fld := ⟨0x9002C + n * 0x2000, 15, 0⟩
/-! CANn_ERRCNT (spec/13, R297) -/
def canErrcnt_busoff (n : Nat) : Fld := ⟨0x90030 + n * 0x2000, 31, 16⟩
def canErrcnt_errframes (n : Nat) : Fld := ⟨0x90030 + n * 0x2000, 15, 0⟩
/-! CANn_SOFLO (spec/13, R297) -/
def canSoflo_time (n : Nat) : Fld := ⟨0x90034 + n * 0x2000, 31, 0⟩
/-! CANn_SOFLO (spec/13, R297) -/
def canSofhi_time (n : Nat) : Fld := ⟨0x90038 + n * 0x2000, 31, 0⟩
/-! CANn_TDC (spec/13, R297) -/
def canTdc_over (n : Nat) : Fld := ⟨0x9003C + n * 0x2000, 15, 8⟩
def canTdc_delay (n : Nat) : Fld := ⟨0x9003C + n * 0x2000, 7, 0⟩
/-! CANn_COLLk_ID (spec/13, R297) -/
def canCollId_id (n k : Nat) : Fld := ⟨0x90040 + n * 0x2000 + k * 0x8, 31, 0⟩
/-! CANn_COLLk_ID (spec/13, R297) -/
def canCollCnt_total (n k : Nat) : Fld := ⟨0x90044 + n * 0x2000 + k * 0x8, 31, 16⟩
def canCollCnt_window (n k : Nat) : Fld := ⟨0x90044 + n * 0x2000 + k * 0x8, 15, 8⟩
/-! CANn_PAIRSEL (spec/13, R297) -/
def canPairsel_pair (n : Nat) : Fld := ⟨0x900D0 + n * 0x2000, 9, 0⟩
/-! CANn_PAIRMASK (spec/13, R297) -/
def canPairmask_value (n : Nat) : Fld := ⟨0x900D4 + n * 0x2000, 31, 0⟩
/-! CANn_PAIRMASK (spec/13, R297) -/
def canPairmatch_value (n : Nat) : Fld := ⟨0x900D8 + n * 0x2000, 31, 0⟩
/-! CANn_PAIRINFO (spec/13, R297) -/
def canPairinfo_used (n : Nat) : Fld := ⟨0x900DC + n * 0x2000, 31, 31⟩
def canPairinfo_owner (n : Nat) : Fld := ⟨0x900DC + n * 0x2000, 30, 28⟩
def canPairinfo_port (n : Nat) : Fld := ⟨0x900DC + n * 0x2000, 27, 25⟩
def canPairinfo_queue (n : Nat) : Fld := ⟨0x900DC + n * 0x2000, 24, 24⟩
/-! CANn_RXWIN (spec/13, R297) -/
def canRxwin_word (n j : Nat) : Fld := ⟨0x91000 + n * 0x2000 + j * 0x4, 31, 0⟩
/-! NETSW_CTL (spec/14, R319) -/
def netCtl_learn : Fld := ⟨0xA0000, 17, 17⟩
def netCtl_evict : Fld := ⟨0xA0000, 16, 16⟩
def netCtl_idleMin : Fld := ⟨0xA0000, 11, 0⟩
/-! NETSW_FLOWSTAT (spec/14, R319) -/
def netFlowstat_used : Fld := ⟨0xA0004, 31, 22⟩
def netFlowstat_pinned : Fld := ⟨0xA0004, 21, 12⟩
def netFlowstat_refused : Fld := ⟨0xA0004, 11, 0⟩
/-! NETSW_SLOW (spec/14, R319) -/
def netSlow_dropped : Fld := ⟨0xA0008, 31, 16⟩
def netSlow_handled : Fld := ⟨0xA0008, 15, 0⟩
/-! NETSW_MACHI (spec/14, R319) -/
def netMachi_value : Fld := ⟨0xA0010, 31, 0⟩
/-! NETSW_MACHI (spec/14, R319) -/
def netMaclo_value : Fld := ⟨0xA0014, 31, 0⟩
/-! NETSW_MACHI (spec/14, R319) -/
def netIpv4_value : Fld := ⟨0xA0018, 31, 0⟩
/-! NETSW_ASOFFLO (spec/14, R319) -/
def netAsofflo_offset : Fld := ⟨0xA0020, 31, 0⟩
/-! NETSW_ASOFFLO (spec/14, R319) -/
def netAsoffhi_offset : Fld := ⟨0xA0024, 31, 0⟩
/-! NETSW_ASSTAT (spec/14, R319) -/
def netAsstat_rate : Fld := ⟨0xA0028, 31, 8⟩
def netAsstat_gm : Fld := ⟨0xA0028, 1, 1⟩
def netAsstat_synced : Fld := ⟨0xA0028, 0, 0⟩
/-! NETSW_VLANk (spec/14, R319) -/
def netVlan_valid (k : Nat) : Fld := ⟨0xA0100 + k * 0x4, 31, 31⟩
def netVlan_vid (k : Nat) : Fld := ⟨0xA0100 + k * 0x4, 27, 16⟩
def netVlan_members (k : Nat) : Fld := ⟨0xA0100 + k * 0x4, 13, 7⟩
def netVlan_untag (k : Nat) : Fld := ⟨0xA0100 + k * 0x4, 6, 0⟩
/-! NETSW_FLOWn_INFO (spec/14, R319) -/
def flowInfo_used (n : Nat) : Fld := ⟨0xA1000 + n * 0x8, 31, 31⟩
def flowInfo_pin (n : Nat) : Fld := ⟨0xA1000 + n * 0x8, 30, 30⟩
def flowInfo_learned (n : Nat) : Fld := ⟨0xA1000 + n * 0x8, 29, 29⟩
def flowInfo_owner (n : Nat) : Fld := ⟨0xA1000 + n * 0x8, 28, 26⟩
def flowInfo_kind (n : Nat) : Fld := ⟨0xA1000 + n * 0x8, 25, 22⟩
def flowInfo_idle (n : Nat) : Fld := ⟨0xA1000 + n * 0x8, 21, 0⟩
/-! NETSW_FLOWn_INFO (spec/14, R319) -/
def flowCnt_hits (n : Nat) : Fld := ⟨0xA1004 + n * 0x8, 31, 16⟩
def flowCnt_drop (n : Nat) : Fld := ⟨0xA1004 + n * 0x8, 15, 8⟩
def flowCnt_gap (n : Nat) : Fld := ⟨0xA1004 + n * 0x8, 7, 0⟩
/-! PHY_Pp_CFGk (spec/14, R319) -/
def phyCfg_word (p k : Nat) : Fld := ⟨0xB0000 + p * 0x400 + k * 0x4, 31, 0⟩
/-! PHY_Pp_STAT (spec/14, R319) -/
def phyStat_sqi (p : Nat) : Fld := ⟨0xB0010 + p * 0x400, 31, 24⟩
def phyStat_plcaOk (p : Nat) : Fld := ⟨0xB0010 + p * 0x400, 2, 2⟩
def phyStat_role (p : Nat) : Fld := ⟨0xB0010 + p * 0x400, 1, 1⟩
def phyStat_link (p : Nat) : Fld := ⟨0xB0010 + p * 0x400, 0, 0⟩
/-! PHY_Pp_DROP (spec/14, R319) -/
def phyDrop_quota (p : Nat) : Fld := ⟨0xB0014 + p * 0x400, 31, 16⟩
def phyDrop_age (p : Nat) : Fld := ⟨0xB0014 + p * 0x400, 15, 0⟩
/-! RDG_Ll_CFG0 (spec/14, R319) -/
def rdgCfg_word (l k : Nat) : Fld := ⟨0xB8000 + l * 0x100 + k * 0x4, 31, 0⟩
/-! RDG_Ll_STAT (spec/14, R319) -/
def rdgStat_delay (l : Nat) : Fld := ⟨0xB8010 + l * 0x100, 31, 16⟩
def rdgStat_state (l : Nat) : Fld := ⟨0xB8010 + l * 0x100, 5, 0⟩
/-! RDG_Ll_ERR (spec/14, R319) -/
def rdgErr_crc (l : Nat) : Fld := ⟨0xB8014 + l * 0x100, 31, 20⟩
def rdgErr_retrain (l : Nat) : Fld := ⟨0xB8014 + l * 0x100, 19, 12⟩
def rdgErr_quota (l : Nat) : Fld := ⟨0xB8014 + l * 0x100, 11, 6⟩
def rdgErr_age (l : Nat) : Fld := ⟨0xB8014 + l * 0x100, 5, 0⟩
/-! RDG_CLUSTER (spec/14, R319) -/
def rdgCluster_number : Fld := ⟨0xB8200, 1, 0⟩
/-! PWR_WAKESRC (spec/15, R348) -/
def pwrWakesrc_src : Fld := ⟨0xC0108, 31, 0⟩
/-! PWR_WAKEINFO (spec/15, R348) -/
def pwrWakeinfo_first : Fld := ⟨0xC010C, 31, 24⟩
def pwrWakeinfo_count : Fld := ⟨0xC010C, 23, 16⟩
/-! PWR_SLEPT (spec/15, R348) -/
def pwrSlept_ms : Fld := ⟨0xC0110, 31, 0⟩
/-! PWR_INH0 (spec/15, R348) -/
def pwrInh_domains (k : Nat) : Fld := ⟨0xC0118 + k * 0x4, 23, 0⟩
/-! PWR_TIMER (spec/15, R348) -/
def pwrTimer_left : Fld := ⟨0xC0120, 31, 0⟩
/-! PWR_SBREQ (spec/15, R348) -/
def pwrSbreq_req : Fld := ⟨0xC0124, 23, 0⟩
/-! PWR_SBSTAT (spec/15, R348) -/
def pwrSbstat_ignored : Fld := ⟨0xC0128, 31, 16⟩
def pwrSbstat_matches : Fld := ⟨0xC0128, 15, 0⟩
/-! PWR_FWn (spec/15, R348) -/
def pwrFw_total (n : Nat) : Fld := ⟨0xC0140 + n * 0x4, 31, 24⟩
def pwrFw_consec (n : Nat) : Fld := ⟨0xC0140 + n * 0x4, 23, 20⟩
def pwrFw_errwake (n : Nat) : Fld := ⟨0xC0140 + n * 0x4, 19, 19⟩
def pwrFw_tight (n : Nat) : Fld := ⟨0xC0140 + n * 0x4, 17, 17⟩
def pwrFw_susp (n : Nat) : Fld := ⟨0xC0140 + n * 0x4, 16, 16⟩
def pwrFw_suspLeft (n : Nat) : Fld := ⟨0xC0140 + n * 0x4, 15, 0⟩
/-! PWR_NMSTATn (spec/15, R348) -/
def pwrNmstat_state (n : Nat) : Fld := ⟨0xC0160 + n * 0x4, 2, 0⟩
/-! PWR_WAKECFGs_Wk (spec/15, R348) -/
def pwrWakecfg_word (s k : Nat) : Fld := ⟨0xC0200 + s * 0x10 + k * 0x4, 31, 0⟩
/-! PWR_NMn_Wk (spec/15, R348) -/
def pwrNm_word (n k : Nat) : Fld := ⟨0xC0400 + n * 0x10 + k * 0x4, 31, 0⟩
/-! SAVE_STAT (spec/15, R348) -/
def saveStat_eccerr : Fld := ⟨0xC8000, 31, 16⟩
def saveStat_used : Fld := ⟨0xC8000, 12, 0⟩
/-! SAVE_DOMd (spec/15, R348) -/
def saveDom_valid (d : Nat) : Fld := ⟨0xC8100 + d * 0x4, 31, 31⟩
def saveDom_size (d : Nat) : Fld := ⟨0xC8100 + d * 0x4, 12, 0⟩
/-! COMPAT_WAKESRC (spec/15, R348) -/
def compatWakesrc_pwrup : Fld := ⟨0xF0000, 11, 11⟩
def compatWakesrc_timer : Fld := ⟨0xF0000, 10, 10⟩
def compatWakesrc_can1 : Fld := ⟨0xF0000, 9, 9⟩
def compatWakesrc_can0 : Fld := ⟨0xF0000, 8, 8⟩
def compatWakesrc_wk : Fld := ⟨0xF0000, 7, 0⟩
/-! EVT_HCn_CLASSc (spec/16, R362) -/
def evtClass_enable (n c : Nat) : Fld := ⟨0x20000 + n * 0x400 + c * 0x4, 31, 31⟩
def evtClass_wake (n c : Nat) : Fld := ⟨0x20000 + n * 0x400 + c * 0x4, 30, 30⟩
def evtClass_count (n c : Nat) : Fld := ⟨0x20000 + n * 0x400 + c * 0x4, 23, 16⟩
def evtClass_time (n c : Nat) : Fld := ⟨0x20000 + n * 0x400 + c * 0x4, 15, 0⟩
/-! EVT_HCn_CTL (spec/16, R362) -/
def evtCtl_gdis (n : Nat) : Fld := ⟨0x20080 + n * 0x400, 0, 0⟩
/-! EVT_HCn_PEND (spec/16, R362) -/
def evtPend_class (n : Nat) : Fld := ⟨0x20084 + n * 0x400, 31, 0⟩
/-! EVT_HCn_STAT (spec/16, R362) -/
def evtStat_lost (n : Nat) : Fld := ⟨0x20088 + n * 0x400, 31, 16⟩
def evtStat_masked (n : Nat) : Fld := ⟨0x20088 + n * 0x400, 15, 0⟩
/-! EVT_HCn_HELD (spec/16, R362) -/
def evtHeld_pending (n : Nat) : Fld := ⟨0x2008C + n * 0x400, 24, 16⟩
def evtHeld_inring (n : Nat) : Fld := ⟨0x2008C + n * 0x400, 8, 0⟩
/-! EVT_HUB (spec/16, R362) -/
def evtHub_hubdrop : Fld := ⟨0x22000, 31, 16⟩
def evtHub_backlog : Fld := ⟨0x22000, 9, 0⟩
/-! SCREE_STAT (spec/17, R382) -/
def screeStat_uncleared : Fld := ⟨0x30000, 31, 22⟩
def screeStat_latched : Fld := ⟨0x30000, 21, 12⟩
def screeStat_limp : Fld := ⟨0x30000, 3, 3⟩
def screeStat_pin : Fld := ⟨0x30000, 2, 2⟩
def screeStat_any : Fld := ⟨0x30000, 1, 1⟩
/-! SCREE_CNT (spec/17, R382) -/
def screeCnt_reports : Fld := ⟨0x30004, 31, 16⟩
def screeCnt_unlogged : Fld := ⟨0x30004, 15, 0⟩
/-! SCREE_ACTCNT (spec/17, R382) -/
def screeActcnt_actions : Fld := ⟨0x30008, 31, 16⟩
def screeActcnt_transient : Fld := ⟨0x30008, 15, 0⟩
/-! SCREE_OWNSUM (spec/17, R382) -/
def screeOwnsum_word : Fld := ⟨0x30010, 31, 0⟩
/-! SCREE_PEERn (spec/17, R382) -/
def screePeer_word (n : Nat) : Fld := ⟨0x30020 + n * 0x4, 31, 0⟩
/-! SCREE_KINDk (spec/17, R382) -/
def screeKind_pin (k : Nat) : Fld := ⟨0x30100 + k * 0x4, 31, 31⟩
def screeKind_action (k : Nat) : Fld := ⟨0x30100 + k * 0x4, 30, 28⟩
def screeKind_reaction (k : Nat) : Fld := ⟨0x30100 + k * 0x4, 27, 26⟩
def screeKind_time (k : Nat) : Fld := ⟨0x30100 + k * 0x4, 25, 16⟩
def screeKind_rmax (k : Nat) : Fld := ⟨0x30100 + k * 0x4, 15, 8⟩
def screeKind_recov (k : Nat) : Fld := ⟨0x30100 + k * 0x4, 7, 0⟩
/-! SCREE_QUIETk (spec/17, R382) -/
def screeQuiet_quiet (k : Nat) : Fld := ⟨0x30200 + k * 0x4, 15, 0⟩
/-! SCREE_SUMk (spec/17, R382) -/
def screeSum_entries (k : Nat) : Fld := ⟨0x30300 + k * 0x4, 31, 8⟩
def screeSum_actions (k : Nat) : Fld := ⟨0x30300 + k * 0x4, 7, 0⟩
/-! KEY_LC (spec/18, R416) -/
def keyLc_made : Fld := ⟨0xD0000, 31, 24⟩
def keyLc_left : Fld := ⟨0xD0000, 23, 16⟩
def keyLc_debug : Fld := ⟨0xD0000, 8, 8⟩
def keyLc_state : Fld := ⟨0xD0000, 7, 0⟩
/-! KEY_DEVIDLO (spec/18, R416) -/
def keyDevid_devid (k : Nat) : Fld := ⟨0xD0004 + k * 0x4, 31, 0⟩
/-! KEY_CFG (spec/18, R416) -/
def keyCfg_remask : Fld := ⟨0xD000C, 6, 0⟩
/-! KEY_STAT (spec/18, R416) -/
def keyStat_cacheUsed : Fld := ⟨0xD0010, 31, 24⟩
def keyStat_staged : Fld := ⟨0xD0010, 10, 8⟩
def keyStat_testroot : Fld := ⟨0xD0010, 3, 3⟩
def keyStat_rngOk : Fld := ⟨0xD0010, 2, 2⟩
def keyStat_ownerRoot : Fld := ⟨0xD0010, 1, 1⟩
def keyStat_mfrRoot : Fld := ⟨0xD0010, 0, 0⟩
/-! KEY_CACHECNT (spec/18, R416) -/
def keyCachecnt_misses : Fld := ⟨0xD0014, 31, 16⟩
def keyCachecnt_hits : Fld := ⟨0xD0014, 15, 0⟩
/-! KEY_SLOTs (spec/18, R416) -/
def keySlot_state (s : Nat) : Fld := ⟨0xD0100 + s * 0x4, 31, 30⟩
def keySlot_stage (s : Nat) : Fld := ⟨0xD0100 + s * 0x4, 29, 28⟩
def keySlot_parent (s : Nat) : Fld := ⟨0xD0100 + s * 0x4, 27, 27⟩
def keySlot_usage (s : Nat) : Fld := ⟨0xD0100 + s * 0x4, 7, 0⟩
/-! KEY_SLOTVERs (spec/18, R416) -/
def keySlotver_version (s : Nat) : Fld := ⟨0xD0200 + s * 0x4, 31, 0⟩
/-! IMM_CFG0 (spec/18, R416) -/
def immCfg0_ch : Fld := ⟨0xD8000, 31, 31⟩
def immCfg0_dual : Fld := ⟨0xD8000, 30, 30⟩
def immCfg0_dmax : Fld := ⟨0xD8000, 29, 20⟩
def immCfg0_parkDmax : Fld := ⟨0xD8000, 19, 10⟩
def immCfg0_stopDays : Fld := ⟨0xD8000, 9, 4⟩
def immCfg0_relayThr : Fld := ⟨0xD8000, 3, 0⟩
/-! IMM_CFG1 (spec/18, R416) -/
def immCfg1_master : Fld := ⟨0xD8004, 31, 26⟩
def immCfg1_relslot : Fld := ⟨0xD8004, 25, 20⟩
def immCfg1_activePer : Fld := ⟨0xD8004, 19, 10⟩
def immCfg1_relPer : Fld := ⟨0xD8004, 9, 0⟩
/-! IMM_CFG2 (spec/18, R416) -/
def immCfg2_lossN : Fld := ⟨0xD8008, 31, 28⟩
def immCfg2_presence : Fld := ⟨0xD8008, 27, 27⟩
def immCfg2_reqsrc : Fld := ⟨0xD8008, 25, 20⟩
def immCfg2_port : Fld := ⟨0xD8008, 19, 17⟩
def immCfg2_antDelay : Fld := ⟨0xD8008, 15, 0⟩
/-! IMM_RELID (spec/18, R416) -/
def immRelid_ide : Fld := ⟨0xD800C, 31, 31⟩
def immRelid_brs : Fld := ⟨0xD800C, 30, 30⟩
def immRelid_id : Fld := ⟨0xD800C, 28, 0⟩
/-! IMM_CTL (spec/18, R416) -/
def immCtl_req : Fld := ⟨0xD8010, 0, 0⟩
/-! IMM_STAT (spec/18, R416) -/
def immStat_keysOk : Fld := ⟨0xD8014, 31, 31⟩
def immStat_state : Fld := ⟨0xD8014, 15, 0⟩
/-! IMM_TOKk (spec/18, R416) -/
def immTok_enrolled (k : Nat) : Fld := ⟨0xD8020 + k * 0x4, 31, 31⟩
def immTok_parkwake (k : Nat) : Fld := ⟨0xD8020 + k * 0x4, 30, 30⟩
def immTok_last (k : Nat) : Fld := ⟨0xD8020 + k * 0x4, 29, 28⟩
def immTok_invalid (k : Nat) : Fld := ⟨0xD8020 + k * 0x4, 27, 24⟩
def immTok_dist (k : Nat) : Fld := ⟨0xD8020 + k * 0x4, 13, 0⟩
/-! IMM_CNT (spec/18, R416) -/
def immCnt_polls : Fld := ⟨0xD8040, 31, 16⟩
def immCnt_rejected : Fld := ⟨0xD8040, 15, 8⟩
def immCnt_txfail : Fld := ⟨0xD8040, 7, 0⟩
/-! IMM_FRESH (spec/18, R416) -/
def immFresh_fresh : Fld := ⟨0xD8044, 31, 0⟩
/-! IMM_PARK (spec/18, R416) -/
def immPark_mode : Fld := ⟨0xD8048, 31, 30⟩
def immPark_clock : Fld := ⟨0xD8048, 29, 0⟩
/-! UPD_FWSTAT (spec/19, R442) -/
def updFwstat_locked : Fld := ⟨0xE0000, 31, 31⟩
def updFwstat_lockHc : Fld := ⟨0xE0000, 30, 28⟩
def updFwstat_reason : Fld := ⟨0xE0000, 19, 16⟩
def updFwstat_idle : Fld := ⟨0xE0000, 15, 8⟩
def updFwstat_state : Fld := ⟨0xE0000, 7, 0⟩
/-! UPD_NEXT (spec/19, R442) -/
def updNext_next : Fld := ⟨0xE0004, 31, 0⟩
/-! UPD_TRIAL (spec/19, R442) -/
def updTrial_runtime : Fld := ⟨0xE0008, 31, 16⟩
def updTrial_boots : Fld := ⟨0xE0008, 15, 8⟩
def updTrial_revert : Fld := ⟨0xE0008, 1, 1⟩
def updTrial_onTrial : Fld := ⟨0xE0008, 0, 0⟩
/-! UPD_VERn (spec/19, R442) -/
def updVer_version (n : Nat) : Fld := ⟨0xE0010 + n * 0x4, 31, 0⟩
/-! UPD_POLICY (spec/19, R442) -/
def updPolicy_svnmin : Fld := ⟨0xE0020, 21, 16⟩
def updPolicy_revoked : Fld := ⟨0xE0020, 11, 8⟩
def updPolicy_requireOwner : Fld := ⟨0xE0020, 0, 0⟩
/-! UPD_SRC (spec/19, R442) -/
def updSrc_sources : Fld := ⟨0xE0024, 7, 0⟩
/-! UPD_CFGSTAT (spec/19, R442) -/
def updCfgstat_locked : Fld := ⟨0xE0030, 31, 31⟩
def updCfgstat_lockHc : Fld := ⟨0xE0030, 30, 28⟩
def updCfgstat_stage : Fld := ⟨0xE0030, 18, 16⟩
def updCfgstat_apply : Fld := ⟨0xE0030, 1, 0⟩
/-! UPD_CFGNEXT (spec/19, R442) -/
def updCfgnext_value : Fld := ⟨0xE0034, 31, 0⟩
/-! UPD_CFGNEXT (spec/19, R442) -/
def updCfgver_value : Fld := ⟨0xE0038, 31, 0⟩
/-! UPD_CFGNEXT (spec/19, R442) -/
def updCfgcrc_value : Fld := ⟨0xE003C, 31, 0⟩
/-! UPD_UDS (spec/19, R442) -/
def updUds_enable : Fld := ⟨0xE0040, 31, 31⟩
def updUds_eth : Fld := ⟨0xE0040, 30, 30⟩
def updUds_hc : Fld := ⟨0xE0040, 29, 27⟩
def updUds_slot : Fld := ⟨0xE0040, 26, 21⟩
def updUds_port : Fld := ⟨0xE0040, 20, 18⟩
def updUds_udpport : Fld := ⟨0xE0040, 15, 0⟩
/-! UPD_UDSREQ (spec/19, R442) -/
def updUdsreq_id : Fld := ⟨0xE0044, 31, 0⟩
/-! UPD_UDSREQ (spec/19, R442) -/
def updUdsrsp_id : Fld := ⟨0xE0048, 31, 0⟩
/-! UPD_JOURNAL (spec/19, R442) -/
def updJournal_stage : Fld := ⟨0xE0050, 31, 24⟩
def updJournal_block : Fld := ⟨0xE0050, 23, 16⟩
def updJournal_resumes : Fld := ⟨0xE0050, 15, 0⟩

end Sys2Proof
end

