-- ==== Sys2Proof/Machine/Sparse.lean ====
section
/-! DEFINITION. Sparse maps: reading, writing and the canonical form (keys strictly rising, no
entry equal to the default value of its key), and the saturating and bit-field helpers that every
part of the machine uses. -/

namespace Sys2Proof

/-- What a sparse map with default function `d` holds at key `k`. -/
def Sparse.get {α : Type} (d : Nat → α) (m : Sparse α) (k : Nat) : α :=
  match m with
  | [] => d k
  | (j, v) :: rest => if j = k then v else Sparse.get d rest k

/-- The map without key `k`. -/
def Sparse.erase {α : Type} (m : Sparse α) (k : Nat) : Sparse α :=
  match m with
  | [] => []
  | (j, v) :: rest => if j = k then Sparse.erase rest k else (j, v) :: Sparse.erase rest k

/-- The map with `v` placed at key `k`, keys kept rising. -/
def Sparse.insert {α : Type} (m : Sparse α) (k : Nat) (v : α) : Sparse α :=
  match m with
  | [] => [(k, v)]
  | (j, w) :: rest =>
    if k < j then (k, v) :: (j, w) :: rest
    else if k = j then (k, v) :: rest
    else (j, w) :: Sparse.insert rest k v

/-- The map after writing `v` at `k`; writing the default value removes the entry. -/
def Sparse.set {α : Type} [DecidableEq α] (d : Nat → α) (m : Sparse α) (k : Nat) (v : α) : Sparse α :=
  if v = d k then Sparse.erase m k else Sparse.insert m k v

/-- Keys are above `lo`, strictly rising, and no entry holds its key's default value. -/
def Sparse.okFrom {α : Type} [DecidableEq α] (d : Nat → α) (lo : Nat) (m : Sparse α) : Bool :=
  match m with
  | [] => true
  | (j, v) :: rest => decide (lo ≤ j) && decide (v ≠ d j) && Sparse.okFrom d (j + 1) rest

/-- The canonical form of a sparse map. -/
def Sparse.wf {α : Type} [DecidableEq α] (d : Nat → α) (m : Sparse α) : Bool :=
  Sparse.okFrom d 0 m

/-- Addition of one that stops at `m` (counters that saturate). -/
def satInc (m n : Nat) : Nat := if n < m then n + 1 else m

/-- `n` held to at most `m`. -/
def satTo (m n : Nat) : Nat := if n ≤ m then n else m

/-- Bits `hi` to `lo` of a natural number. -/
def bits (n hi lo : Nat) : Nat := n / 2 ^ lo % 2 ^ (hi + 1 - lo)

/-- Whether bit `k` of `n` is set. -/
def bitOf (n k : Nat) : Bool := n / 2 ^ k % 2 == 1

/-- The number whose binary value is 1 for true. -/
def b2n (b : Bool) : Nat := if b then 1 else 0

/-- `n` with bits `hi` to `lo` replaced by `v` (taken modulo the field's width). -/
def setBits (n hi lo v : Nat) : Nat :=
  n - bits n hi lo * 2 ^ lo + v % 2 ^ (hi + 1 - lo) * 2 ^ lo

/-- Least number not below `n / d` (cells, microseconds started). -/
def ceilDiv (n d : Nat) : Nat := (n + d - 1) / d

/-- A byte as a number in two's complement width `w`, read as a signed integer. -/
def signed (w n : Nat) : Int := if n % 2 ^ w < 2 ^ (w - 1) then ((n % 2 ^ w : Nat) : Int) else ((n % 2 ^ w : Nat) : Int) - ((2 ^ w : Nat) : Int)

/-- The two's complement code of an integer in `w` bits. -/
def unsigned (w : Nat) (z : Int) : Nat := (z % ((2 ^ w : Nat) : Int)).toNat

/-- The number that a list of bytes spells, most significant byte first. -/
def beNat (bs : List Byte) : Nat := bs.foldl (fun a b => a * 256 + b.toNat) 0

/-- `n` as `k` bytes, most significant first. -/
def beBytes : Nat → Nat → List Byte
  | 0, _ => []
  | k + 1, n => BitVec.ofNat 8 (n / 256 ^ k) :: beBytes k n

/-- The 32-bit words of a byte list, four bytes a word, most significant byte first; a last
incomplete group is dropped. -/
def wordsOf : List Byte → List Word
  | a :: b :: c :: d :: rest => word (beNat [a, b, c, d]) :: wordsOf rest
  | _ => []

/-- The bytes of a list of words, most significant byte first. -/
def bytesOf (ws : List Word) : List Byte := ws.flatMap (fun w => beBytes 4 w.toNat)

/-- The k-th element of a list, or a default. -/
def nth {α : Type} (d : α) (l : List α) (k : Nat) : α := l.getD k d

/-- The list with its k-th element changed by `f` (the list unchanged where there is none). -/
def modNth {α : Type} (l : List α) (k : Nat) (f : α → α) : List α :=
  match l, k with
  | [], _ => []
  | x :: xs, 0 => f x :: xs
  | x :: xs, k + 1 => x :: modNth xs k f

/-- The list without its first element that satisfies `p`. -/
def dropFirst {α : Type} (p : α → Bool) (l : List α) : List α :=
  match l with
  | [] => []
  | x :: xs => if p x then xs else x :: dropFirst p xs

/-- An element put into a sorted list, after those it does not come before. -/
def sortIn {α : Type} (before : α → α → Bool) (x : α) : List α → List α
  | [] => [x]
  | y :: ys => if before x y then x :: y :: ys else y :: sortIn before x ys

/-- A list sorted by `before`; equal elements keep their order. -/
def sortBy {α : Type} (before : α → α → Bool) (l : List α) : List α := l.foldl (fun acc x => sortIn before x acc) []

/-- Whether a mask names index `k`. -/
def inMask (m : Nat) (k : Nat) : Bool := m.testBit k

end Sys2Proof
end

