-- ==== Sys2Proof/Machine/RegReset.lean ====
section
/-! DEFINITION. What each register holds before anything is written: the Reset column of the
register tables, OTP and CFG fields at the values the spec gives for a blank OTP and a blank
configuration, and 0 where the spec gives a CFG field no blank value (log 3). -/

namespace Sys2Proof

/-- The four channel classes (spec/06, R120). -/
inductive ChClass where
  | H | M | L | HB
  deriving DecidableEq, Repr

/-- The class of channel `n`, fixed by its silicon (spec/06, R120). -/
def chClass (n : Nat) : ChClass :=
  if n < 4 ∨ (8 ≤ n ∧ n < 12) then .H
  else if n < 8 ∨ (12 ≤ n ∧ n < 20) ∨ (24 ≤ n ∧ n < 28) then .M
  else if n < 48 then .L
  else .HB

/-- The class code of CH_STATUS (spec/06, R143). -/
def ChClass.code : ChClass → Nat
  | .H => 0 | .M => 1 | .L => 2 | .HB => 3

/-- The least LIMIT_STEADY of a class, 0.1 A (spec/07, R148). -/
def ChClass.steadyMin : ChClass → Nat
  | .H => 300 | .M => 120 | .L => 50 | .HB => 150

/-- The greatest LIMIT_STEADY of a class, 0.1 A (spec/07, R148). -/
def ChClass.steadyMax : ChClass → Nat
  | .H => 900 | .M => 400 | .L => 160 | .HB => 450

/-- The greatest LIMIT_INRUSH of a class, 0.1 A; 0 on a half-bridge (spec/07, R148). -/
def ChClass.inrushMax : ChClass → Nat
  | .H => 1500 | .M => 800 | .L => 300 | .HB => 0

/-- The blank LIMIT_INRUSH of a class, 0.1 A (spec/07, R148). -/
def ChClass.inrushBlank : ChClass → Nat
  | .H => 1000 | .M => 400 | .L => 150 | .HB => 0

/-- The blank BUDGET_I of a class, 0.1 A (spec/11, R239). -/
def ChClass.budgetBlank : ChClass → Nat
  | .H => 600 | .M => 400 | .L => 150 | .HB => 150

/-- The greatest BUDGET_I of a class, 0.1 A (spec/11, R239). -/
def ChClass.budgetMax : ChClass → Nat
  | .H => 1500 | .M => 800 | .L => 300 | .HB => 450

/-- The continuous rating of a class in 0.01 A (spec/06, R120). -/
def ChClass.continuous : ChClass → Nat
  | .H => 2500 | .M => 1000 | .L => 400 | .HB => 1200

/-- Word `k` of the blank channel record of channel `n` (spec/06, R454; spec/07, R148; spec/11, R239). -/
def chCfgBlank (n k : Nat) : Nat :=
  let c := chClass n
  match k with
  | 0 => 0x8001140A
  | 2 => c.steadyMin * 0x10000 + c.inrushBlank
  | 3 => (if c = .HB then 0 else 50) * 0x10000 + 60 * 0x100 + 15
  | 4 => 7 * 0x1000000
  | 5 => 300 * 0x10000
  | 6 => c.budgetBlank * 0x10000 + 50
  | _ => 0

/-- The fault kinds that exist (spec/17, R365). -/
def faultKinds : List Nat :=
  [0x01, 0x02, 0x03, 0x04, 0x05, 0x06, 0x07, 0x08, 0x09, 0x0A, 0x0B, 0x0C, 0x0D, 0x0E, 0x10, 0x11, 0x12, 0x13, 0x14,
   0x15, 0x18, 0x19, 0x1A, 0x1B, 0x1C, 0x1D, 0x1E, 0x1F, 0x20, 0x21, 0x22, 0x23, 0x24, 0x25, 0x26, 0x27, 0x28, 0x29,
   0x2A, 0x2B, 0x2C, 0x2D, 0x2E, 0x2F, 0x30, 0x31, 0x32, 0x33]

/-- The kinds whose blank PIN is 1 (spec/17, R365). -/
def pinKinds : List Nat :=
  [0x01, 0x02, 0x03, 0x04, 0x05, 0x06, 0x07, 0x08, 0x09, 0x11, 0x12, 0x13, 0x15, 0x18, 0x1B, 0x1C]

/-- The blank SCREE_KINDk word: PIN by its table, reaction NOTIFY or LOG for FALSE_WAKE, action
NONE, TIME 100, RMAX 10 (spec/17, R365, R382); 0 for a reserved kind. -/
def screeKindBlank (k : Nat) : Nat :=
  if k ∈ faultKinds then
    b2n (decide (k ∈ pinKinds)) * 0x80000000 + (if k = 0x2A then 0 else 1) * 0x4000000 + 100 * 0x10000 + 10 * 0x100
  else 0

/-- The image sizes of the power domains that SAVE_DOMd reads (spec/15, "Retention save list"). -/
def saveSize (d : Nat) : Nat :=
  match d with
  | 0 => 512 | 1 => 64 | 2 => 32 | 3 => 1024 | 4 => 512 | 5 => 512 | 6 => 128 | 7 => 128
  | 8 | 9 | 10 | 11 | 12 | 13 => 256
  | 14 | 15 | 16 | 17 | 18 | 19 | 20 | 21 => 384
  | 22 => 128 | 23 => 256
  | _ => 0

/-- The default quotas of a host context (spec/05, R109). -/
def quotaBlank (n item : Nat) : Nat :=
  if n = 0 then (match item with
    | 0 => 64 | 1 => 4096 | 2 => 256 | 3 => 100 | 4 => 100 | 5 => 200 | 6 => 1024 | 7 => 512 | _ => 0)
  else (match item with
    | 2 => 256 | 5 => 50 | _ => 0)

/-- The value a register holds until something is written to it. CRANK_TSYNC starts with IS_MASTER and ALIGNED at 1, as spec/09, R213, has
a device whose links are all down, and not at the 0 of its Reset column: DESIGN CHOICE (log 98). -/
def regReset (r : RegAt) : Nat :=
  match r.kind with
  | .sysCoastcfg => 500
  | .pwrRstcause => 1
  | .sysHifcfg => 1
  | .hcBind => if r.i = 0 then 0x20000000 else 0
  | .hcQuota => quotaBlank r.i r.j
  | .hcOwnch => if r.i = 0 then 0xFFFFFFFF else 0
  | .sysPoolstat => 6144 * 0x10000 + 6144
  | .sysPortq => if r.i < 6 then 128 * 0x10000 + 64 else if r.i < 8 then 768 else if r.i < 10 then 128 else 512
  | .bankInfo => r.i / 2 * 0x400 + r.i / 4 * 0x200
  | .chCfg => chCfgBlank r.i r.j
  | .sysPdiss => 600 * 0x10000
  | .bankTwarn => 120
  | .bankPwmbase => 500000
  | .bankPwm => 0xFFF
  | .spkFree => 0xFFFFFFFF
  | .spkLead => if r.j = 0 then 0x3060A020 else if r.j = 1 then 25 * 0x1000000 else 0xFFFFFFFF
  | .govMap => r.i * 0x1000000 + 50 * 0x100
  | .govBudget => 800 * 0x10000 + 800
  | .govReserve => 200
  | .govDroop => 10 * 0x10000
  | .govCtl => 20
  | .fqCfg => 0x38000000
  | .fiCfg => 0x50000000
  | .canState => 2
  | .canCfg => if r.j = 0 then 0x00830800 else if r.j = 1 then 0x033E1E3C else 0
  | .netCtl => 1 * 0x20000 + 300
  | .phyCfg => match r.j with
    | 1 => 0x10000
    | 2 => if r.i < 2 then 20 else 128 * 0x10000 + 20
    | 3 => if r.i < 2 then 0 else 32 * 0x10000
    | _ => 0
  | .rdgCfg => match r.j with
    | 1 => 0x10000
    | 2 => 20
    | _ => 0
  | .pwrInh => if r.i = 0 then 0x18 else 0
  | .saveStat => 7904
  | .saveDom => saveSize r.i
  | .compatWakesrc => 0x800
  | .evtClass => if r.j < 24 then 0x80010001 + (if r.j = 1 ∨ r.j = 3 ∨ r.j = 20 ∨ r.j = 21 then 0x40000000 else 0) else 0
  | .screeKind => screeKindBlank r.i
  | .screeQuiet => if r.i ∈ faultKinds then 100 else 0
  | .keyCfg => 8
  | .immCfg0 => 0x80000000 + 100 * 0x100000 + 300 * 0x400 + 21 * 0x10 + 3
  | .immCfg1 => 16 * 0x4000000 + 17 * 0x100000 + 100 * 0x400 + 100
  | .immCfg2 => 5 * 0x10000000
  | .updSrc => 1
  | _ => 0

/-- The value at address `a` until something is written there; 0 where no register is. -/
def regDefault (a : Nat) : Nat :=
  match regAt a with
  | some (_, r) => regReset r
  | none => 0

end Sys2Proof
end

