-- ==== Sys2Proof/Machine/State.lean ====
section
/-! DEFINITION. The state of the block: every register (one sparse map by address), every queue,
ring, timer and hidden state the spec names, and the queue of waiting commands. Times are in
ticks of 10 ns since the first power-up start (`now`), unless a field says otherwise. -/

namespace Sys2Proof.Machine

/-! ### Host contexts, completions and events (spec/04, spec/05, spec/16) -/

/-- A completion before its SEQ is given (spec/04, R78); `cont` holds four words a continuation record. -/
structure Compl where
  opc : Byte
  status : Byte
  tag : Half
  resync : Bool := false
  time : Word := 0
  result : Word := 0
  cont : List Word := []
  deriving DecidableEq, Repr

/-- An event before its SEQ is given (spec/16, R350). -/
structure EvRec where
  cls : Nat
  src : Nat
  code : Nat
  arg : Nat
  time : Word
  data : Word
  lost : Bool := false
  cont : List Word := []
  deriving DecidableEq, Repr

/-- A record group in a ring: its SEQ, whether a pull or a message has delivered it, when it was
last sent, and its content. -/
structure RingItem (α : Type) where
  seq : Half
  delivered : Bool := false
  sentAt : Nat := 0
  item : α
  deriving DecidableEq, Repr

/-- An accepted command that has not been dispatched, with the pool cells it holds (spec/05, R105). -/
structure QEntry where
  cmd : Instr
  cells : Nat := 1
  /-- Its place in the order of issue, and the commands of its context that stood before it then and hold a BARRIER. -/
  no : Nat := 0
  ahead : Nat := 0
  deriving DecidableEq, Repr

/-- An accepted packet whose opcode is not listed, or whose parameters are not those of its opcode: it waits its turn like any other
command, and completes with a status (spec/04, R75, R80). -/
structure BadPkt where
  hdr : Hdr
  opc : Nat
  status : Byte
  /-- Its place in the order of issue, and the pool cells it holds. -/
  no : Nat
  cells : Nat
  deriving DecidableEq, Repr

/-- A record or command waiting since a time. -/
structure Timed (α : Type) where
  at_ : Nat
  item : α
  deriving DecidableEq, Repr

/-- A register write that an earlier command or access of its context holds, or whose bank's link is lost: its place in the order of
issue, its address, the bits it writes and their values (spec/01, R7, R15; log 89). -/
structure LateWrite where
  no : Nat
  addr : Nat
  mask : Word
  data : Word
  deriving DecidableEq, Repr

/-! ### Outputs of the block -/

/-- What the block sends on its wires and buses, newest last. -/
inductive Sent where
  | records (hc : Nat) (events : Bool) (bytes : List Byte) (mac : Option (Word × Dword))
  | pushStatus (hc : Nat) (tag : Half) (status : Byte) (mac : Option (Word × Dword))
  | can (port : Nat) (f : CanFrame)
  | eth (port : Nat) (f : EthFrame)
  | ridge (link : Nat) (f : RidgeFrame)
  /-- A UDP datagram of an Ethernet command flow, to an IPv4 address and port (spec/04, R92). -/
  | udp (hc : Nat) (addr : Word) (port : Half) (payload : List Byte)
  /-- A POLL, or a FINAL, with its POLLCNT, the channel, and its STS key (spec/18, R399, R400). -/
  | uwb (final : Bool) (count channel : Nat) (sts : List Byte)
  | uds (bytes : List Byte)
  /-- A gPTP Sync with its Follow_Up, and the gPTP time in ns that it gives; a PLCA BEACON (spec/14, R303, R306). -/
  | sync (port : Nat) (time : Int)
  | beacon (port : Nat)
  /-- The acknowledge of the sideband's address match on the ninth clock (spec/15, R343). -/
  | sbAck
  deriving DecidableEq, Repr

/-- One host context (spec/05, R99, R110; spec/04, R92 to R95; spec/16, R353 to R361). Its registers
(binding, quotas, CLOSED, OVER_QUOTA, SLEEP, REFUSED) are in `regs`. -/
structure HostCtx where
  queue : List QEntry := []
  /-- Accepted packets that are no command, in the order of issue. -/
  bad : List BadPkt := []
  /-- Register writes that wait, oldest first. -/
  late : List LateWrite := []
  /-- Completions of class 0 not yet released, oldest first. -/
  cpend : List (Timed Compl) := []
  /-- Released completions waiting for room in the ring. -/
  cwait : List Compl := []
  cring : List (RingItem Compl) := []
  cseq : Half := 0
  epend : List (Timed EvRec) := []
  ering : List (RingItem EvRec) := []
  eseq : Half := 0
  /-- An event was dropped since the last record committed (R355). -/
  lost : Bool := false
  /-- Class 0 is due because a NOTIFY completion waits (R354, R357). -/
  notifyDue : Bool := false
  /-- Classes whose release condition was met while GDIS held it (R357). -/
  due : List Nat := []
  /-- The command-rate bucket (R110): tokens missing from it in thousandths, the microsecond it was
  last filled, and the microseconds at which the tokens of the last millisecond were taken. -/
  deficit : Nat := 0
  fillAt : Nat := 0
  takes : List Nat := []
  /-- Header of the last packet accepted over a transport, and when (R94). -/
  lastPkt : Option (Nat × Dword) := none
  /-- Bytes of a message whose CAN segments are arriving: kind, next segment number, bytes, time of the last (R92). -/
  segs : Option (Nat × Nat × List Byte × Nat) := none
  /-- Last freshness counter accepted and last one sent on an authenticated flow (R95). -/
  rxCount : Word := 0
  txCount : Word := 0
  /-- The flow's AUTH_FAIL counter (R95). -/
  authFail : Nat := 0
  /-- Source address and UDP port of the last message accepted (R97). -/
  reply : Word × Half := (0, 0)
  /-- Frames of its messages that wait for their CAN port or Ridge link (R92). -/
  out : List Sent := []
  deriving DecidableEq, Repr

/-- A dispatched command that has not completed, with what it has done so far. -/
structure Job where
  id : Nat
  hdr : Hdr
  cmd : Instr
  /-- The command's place in the order of issue. -/
  no : Nat := 0
  /-- Channels, domains or items done, as a mask. -/
  done : Nat := 0
  /-- Items still awaited, as a mask. -/
  wait : Nat := 0
  /-- Lowest failed item and its status. -/
  fail : Option (Nat × Byte) := none
  /-- Retransmissions, next offset or another count that the command's result gives. -/
  count : Nat := 0
  /-- Device time of the commit of its first resource (spec/04, R87). -/
  firstAt : Option Word := none
  /-- ABORTs that wait for the end of the atomic unit the command is in (spec/04, R89). -/
  aborts : List Hdr := []
  /-- The request was a UDS one: the bytes of its positive response, and when it came (spec/19, R440). -/
  uds : Option (List Byte × Nat) := none
  deriving DecidableEq, Repr

/-! ### Channels, bridges and banks (spec/06 to spec/08) -/

/-- What a channel's switches do (spec/06, R125; spec/06, R143). -/
inductive Drive where
  | off | on | pwm | low
  deriving DecidableEq, Repr

/-- Phases of a running profile (spec/08, R178). -/
inductive Phase where
  | ramp | lampHold | peak | valveHold | motion | park | braking | reversal
  deriving DecidableEq, Repr

/-- The arrival detector of VALVE_PH (spec/08, R185): the last samples, the highest mean M and the lowest mean since the dip began, both
as sums of five codes, when the lowest came, and the outcome. -/
structure Arrival where
  last : List Int := []
  top : Int := 0
  dip : Bool := false
  low : Int := 0
  lowAt : Nat := 0
  /-- Confirmed; barred by chopping before a dip had begun. -/
  found : Bool := false
  barred : Bool := false
  deriving DecidableEq, Repr

/-- A profile running on a channel or bridge: its copied parameter set and its progress (spec/08, R177). -/
structure Profile where
  code : Nat
  set : List Word
  phase : Phase
  startAt : Nat
  /-- The command that completes when the last transient phase ends; none for a rerun of a completed one or an action. -/
  job : Option Nat := none
  /-- First duty of a ramp, present hold duty of a valve. -/
  duty : Nat := 0
  /-- LAMP_SOFT's DUTY_END as CH_SET_DUTY may have changed it. -/
  dutyEnd : Nat := 0
  /-- VALVE_PH: chopping has begun; the output is chopped off now; the latency once arrival is confirmed. -/
  chopping : Bool := false
  chopOff : Bool := false
  arrival : Option Nat := none
  arrivalAt : Nat := 0
  det : Arrival := {}
  /-- VALVE_PH: the bank's VBAT code at the edge start (spec/10, R226). -/
  startV : Int := 0
  /-- WIPER: parking began at this time. -/
  parkAt : Option Nat := none
  deriving DecidableEq, Repr

/-- A pulse on a channel (spec/08, R175). -/
structure Pulse where
  width : Nat
  job : Option Nat
  startAt : Option Nat := none
  /-- The measured delay of its turn-on edge, 10 ns, once reported (spec/06, R124). -/
  onDelay : Option Nat := none
  deriving DecidableEq, Repr

/-- A pulse that has ended early with its output going off: its command completes when the off edge's delay has been measured (spec/08,
R175): the job, the instant of the on crossing where one was measured, and the start of the off edge. -/
structure PulseOut where
  job : Nat
  on : Option Nat
  off : Nat
  deriving DecidableEq, Repr

/-- LH following: input, inverted, and whether the limp map set it (spec/08, R173; spec/03, R54). -/
structure Follow where
  sel : Nat
  inv : Bool
  limp : Bool
  deriving DecidableEq, Repr

/-- One power channel. Its configuration record, measurements and counters are in `regs`. -/
structure Chan where
  cmdOn : Bool := false
  disabled : Bool := false
  latched : Bool := false
  /-- In COOLING: off by protection, waiting for restart; whether a trip came since the last turn-on edge,
  and the end of the minimum off time after it (R160). -/
  cooling : Bool := false
  tripped : Bool := false
  coolEnd : Nat := 0
  /-- Off and above a temperature level, until both temperature conditions of R160 hold (R154). -/
  hot : Bool := false
  cause : Nat := 0
  /-- Edge starts of the restarts of the last 10 s, newest first (R159). -/
  restarts : List Nat := []
  drive : Drive := .off
  /-- The last turn-on edge and the last turn-off edge. -/
  edgeAt : Nat := 0
  offAt : Nat := 0
  inrush : Bool := false
  /-- End of the inrush regime of the present turn-on (R149, R150). -/
  inrushEnd : Nat := 0
  limiting : Bool := false
  /-- The 200 µs timer of R150: the time it has gathered, and since when it runs; limiting has come in the present on time. -/
  limRun : Nat := 0
  limAt : Option Nat := none
  limOn : Bool := false
  /-- A self-test has passed since the last latch with cause COMPARATOR (R161). -/
  testOk : Bool := false
  /-- INRUSH_TIME as the last turn-on from OFF took it, ms (R149). -/
  inrTime : Nat := 0
  /-- The bank's VBAT code at the start of the last edge (spec/10, R226). -/
  edgeV : Int := 0
  /-- Switching edges since the last dissipation estimate (spec/06, R132). -/
  edges : Nat := 0
  /-- Valid samples of the averaging window of R135, newest first, with their times; signed sum and number
  of the on-time samples of the running PWM period, and the on-time mean code of the last one that had any. -/
  samples : List (Nat × Int) := []
  onSum : Int := 0
  onCnt : Nat := 0
  onMean : Int := 0
  /-- Sum of the squares of the codes of the running millisecond and their number (R155). -/
  sqSum : Nat := 0
  sqCnt : Nat := 0
  /-- The channel has driven in the running millisecond; when θ was last updated. -/
  drove : Bool := false
  thetaAt : Nat := 0
  /-- Since when each segment has carried less than 15 % (R157). -/
  segLow : List (Option Nat) := [none, none, none]
  /-- The mean code taken at the end of the last auxiliary scan (spec/06, R144). -/
  scanMean : Nat := 0
  /-- Duty, phase and divider in use; those written but not yet in use are in BANKn_PWMk (R171). -/
  duty : Nat := 0xFFF
  phase : Nat := 0
  div : Nat := 0
  /-- The low side of a half-bridge is the commanded drive. -/
  lowSide : Bool := false
  follow : Option Follow := none
  profile : Option Profile := none
  pulse : Option Pulse := none
  pulseOut : Option PulseOut := none
  /-- Wire state in units of 10^-9 of the trip level (R155). -/
  theta : Nat := 0
  /-- Comparator self-test in progress since this time; time of the last test. -/
  testAt : Option Nat := none
  testedAt : Nat := 0
  /-- The off-state test: when a window opened, and whether the window before it saw an open load (R139). -/
  olWindow : Option Nat := none
  olSeen : Bool := false
  /-- When the last window opened; since when the tested value has been below OLTHR, the off-state value above its threshold, and VOUT
  at 6.0 V or more (R138, R139). -/
  olOpened : Option Nat := none
  olLow : Option Nat := none
  volAt : Option Nat := none
  stbAt : Option Nat := none
  /-- The last scan of the open window saw VOUT above the threshold (R139). -/
  olVol : Bool := false
  /-- The CH_ON that commits when the channel's turn-on edge, not yet started, starts: its job, and the channel it names (spec/04, R87). -/
  edgeJob : Option (Nat × Nat) := none
  deriving DecidableEq, Repr

/-- Joint states of a bridge (spec/06, R127). -/
inductive BridgeState where
  | coast | forward | reverse | brakeLow | brakeHigh
  deriving DecidableEq, Repr

/-- MSTATE of a bridge (spec/08, R194). -/
inductive MState where
  | idle | running | decel | braking | pinch | park
  deriving DecidableEq, Repr

/-- A motor move by MOTOR_TARGET (spec/08, R188). -/
structure Move where
  axis : Nat
  target : Nat
  duty : Nat
  set : List Word
  job : Option Nat
  deriving DecidableEq, Repr

/-- One H-bridge (spec/08, R187 to R193). -/
structure Bridge where
  st : BridgeState := .coast
  /-- The state the bridge was commanded to (restart goes back to it). -/
  cmd : BridgeState := .coast
  mstate : MState := .idle
  move : Option Move := none
  brakeEnd : Option Nat := none
  /-- A brake to be followed by a pinch reversal, and the reversal's ripples left. -/
  reverseLeft : Option Nat := none
  pinchPos : Nat := 0
  counted : Nat := 0
  filled : Nat := 0
  lastFwd : Bool := true
  /-- A change between FORWARD and REVERSE passes through BRAKE_LOW: where it goes, and when (spec/06, R127). -/
  pass : Option (BridgeState × Nat) := none
  /-- When the bridge last left FORWARD or REVERSE. -/
  leftAt : Option Nat := none
  /-- The expected ripple rate, 10^-3 Hz; since when it has been below 20 Hz; the expected phase since the last count, 10^-9 ripples,
  and the time of the last sample (R187). -/
  fEst : Nat := 0
  slowAt : Option Nat := none
  phase : Nat := 0
  phaseAt : Nat := 0
  /-- Since when the current has been at or above STALL_I, and above the pinch reference by PINCH_DI (R188, R190); the samples of
  the last 250 µs with their times; the current measured at the start, and on entering the pinch zone, 10 mA. -/
  stallAt : Option Nat := none
  pinchAt : Option Nat := none
  recent : List (Nat × Int) := []
  startI : Option Int := none
  entryI : Option Int := none
  /-- WIPER: the ripples since the last park edge, whether one has come, and the ripples of the last cycle
  between two park edges. -/
  sincePark : Nat := 0
  parkSeen : Bool := false
  cycle : Nat := 0
  /-- End code to give when the motion is over. -/
  ending : Option Nat := none
  norm : Bool := false
  /-- Pinch reference currents of the 32 bins, 10 mA, where learned; the currents of the bins that the
  present closing run has passed. -/
  bins : List (Option Int) := []
  runBins : List (Option Int) := []
  deriving DecidableEq, Repr

/-- One bank's hidden state: link, converters, microcode stores, base change. -/
structure Bank where
  linkUp : Bool := true
  /-- The current and the auxiliary converter have failed their self-check (R133). -/
  curFail : Bool := false
  auxFail : Bool := false
  /-- The bank's own Coast hold: when the bank saw the loss (R63). -/
  coastAt : Option Nat := none
  /-- The COAST_TIME of that hold, ms. -/
  coastMs : Nat := 500
  /-- The bank's own limp entries are in force after its backup timer (R63). -/
  ownLimp : Bool := false
  /-- The time from which the bank is to apply its limp-map entries (R47, R48). -/
  limpDue : Option Nat := none
  newPeriod : Option Nat := none
  /-- Start of the running bank frame (spec/08, R169). -/
  frameAt : Nat := 0
  /-- The channel that the current converter samples next (spec/06, R134). -/
  slot : Nat := 0
  /-- Dissipation of the last milliseconds, newest first, and the clamp energy of the running one, µJ (spec/06, R132). -/
  diss : List Nat := []
  clampE : Nat := 0
  store : Nat := 0
  storeOk : Bool := false
  loaded : Bool := false
  pendingStore : Bool := false
  warnAt : Nat := 0
  deriving DecidableEq, Repr

/-! ### Headroom governor (spec/11) -/

/-- Who asked for budget (spec/11, R240). -/
inductive ReqSrc where
  | job (id : Nat)
  | spk (slot : Nat)
  | follow (ch : Nat)
  | restart (ch : Nat)
  | uv (ch : Nat)
  | pinch (bridge : Nat)
  | limp (ch : Nat)
  /-- An event's action on channel `ch` that has fired, on its way to the bank (spec/10, R223). -/
  | act (ch : Nat)
  deriving DecidableEq, Repr

/-- A request for inrush: its parts (channel, 0.1 A), its class (0 SAFETY, 1 WORK, 2 COMFORT), the
context charged, when it was made, its deferral limit, and whether a bank case warning holds it
outside the line (spec/07, R164). -/
structure Req where
  id : Nat
  src : ReqSrc
  parts : List (Nat × Nat)
  prio : Nat
  hc : Option Nat
  at_ : Nat
  limit : Option Nat
  held : Bool := false
  /-- One request for the whole list of parts (ATOMIC): granted whole. -/
  whole : Bool := false
  deriving DecidableEq, Repr

/-- A grant in force on one channel (spec/11, R242). -/
structure Grant where
  ch : Nat
  amount : Nat
  prio : Nat
  hc : Option Nat
  src : ReqSrc
  /-- When the channel's edge started; none while the grant waits to be used. -/
  edge : Option Nat := none
  at_ : Nat
  deriving DecidableEq, Repr

/-- What one member reported in an epoch (spec/11, R245). -/
structure Exchange where
  member : Nat
  share : Nat
  used : Nat
  wWork : Nat
  wComfort : Nat
  frozen : Bool
  aligned : Bool
  deriving DecidableEq, Repr

/-- One feed group's governor. The group's registers are in `regs`. -/
structure GovGroup where
  /-- The local share S, 0.1 A. -/
  share : Nat := 800
  frozenLocal : Bool := false
  /-- Members whose last report was frozen, and whether that freeze stands (R246); when each freeze began. -/
  frozenBy : Nat := 0
  frozenRemote : Bool := false
  frozenAt : Nat := 0
  remoteAt : Nat := 0
  fallback : Bool := false
  holdUntil : Option Nat := none
  /-- The budget in force Bf. -/
  bf : Nat := 800
  /-- Messages gathered for the running epoch, and the last complete epoch's. -/
  inbox : List Exchange := []
  last : List Exchange := []
  /-- Own report of the last boundary. -/
  own : Option Exchange := none
  /-- Complete epochs in a row with every member linked (R249). -/
  good : Nat := 0
  /-- Peers' BUDGET and FIXED reports at training (R247): member, BUDGET, MEMBERS, FIXED. -/
  peers : List (Nat × Nat × Nat × Nat) := []
  lost : Nat := 0
  /-- Epochs in a row without a member's message: (member, epochs). -/
  missed : List (Nat × Nat) := []
  deriving DecidableEq, Repr

/-! ### Scree (spec/17) -/

/-- States of a fault entry (R366). -/
inductive FState where
  | retest | open_ | handled | acted | latched | cleared
  deriving DecidableEq, Repr

/-- Classes of a fault entry (R377). -/
inductive FClass where
  | none | transient | persistent
  deriving DecidableEq, Repr

/-- One log entry (R366 to R379). -/
structure FEntry where
  slot : Nat
  msg : Word
  occ : Nat := 1
  st : FState := .retest
  cls : FClass := .none
  action : Nat := 0
  /-- The action and reaction fixed at creation. -/
  reaction : Nat
  planned : Nat
  recov : Nat
  first : Word
  last : Word
  /-- Times in ticks: creation, last report, end of the reaction, timer expiry, clearing. -/
  createdAt : Nat
  lastAt : Nat
  reactEnd : Option Nat := none
  timer : Option Nat := none
  clearedAt : Nat := 0
  /-- The timer escalated (R370). -/
  escalated : Bool := false
  /-- What the retest has watched since the report: the channel's next turn-on edge, a report of the same message within 100 µs of it,
  and that the source has recovered in time (R368). -/
  nextOn : Option Nat := none
  again : Bool := false
  recov10 : Bool := false
  deriving DecidableEq, Repr

/-! ### Supplies, one-time memory and power domains (spec/03, spec/15, spec/18) -/

/-- Regions of VSUP (spec/03, R44). -/
inductive VSup where
  | belowAon | notValid | valid
  deriving DecidableEq, Repr

/-- One programmed limp-map slot of OTP (spec/03, R51 to R56). -/
structure LimpSlot where
  entries : List Half
  bases : Half
  coast : Nat
  crcGood : Bool := true
  deriving DecidableEq, Repr

/-- One-time programmable memory. -/
structure Otp where
  slots : List (Option LimpSlot) := [none, none, none, none]
  /-- Lifecycle state code, and the transitions made (spec/18, R383, R384). -/
  lc : Nat := 0
  made : Nat := 0
  /-- Sideband address (spec/15, R342). -/
  sbAddr : Nat := 0x4A
  /-- UPD_POLICY: the lowest SVN accepted, the revoked vendor keys, and whether an owner tag is required (spec/19, R442). -/
  svnMin : Nat := 0
  revoked : Nat := 0
  requireOwner : Bool := false
  /-- Settings of a fault kind that were programmed otherwise than blank: the kind, its SCREE_KINDk word, its SCREE_QUIETk word (spec/17,
  R365). -/
  scree : List (Nat × Word × Word) := []
  deriving DecidableEq, Repr


/-- States of a power domain (spec/15, R320). -/
inductive DomState where
  | on | ret | off
  deriving DecidableEq, Repr

/-- One power domain: its state, the state an entry or an exit under way leads to, whether it has
begun, and when its image was saved. -/
structure Dom where
  st : DomState
  going : Option DomState := none
  begun : Bool := false
  since : Nat := 0
  /-- The state it had before the present exit: a return from Retention restores (R322). -/
  from_ : DomState := .off
  /-- What it goes to when the transition under way has ended (R324, R333). -/
  next : Option DomState := none
  /-- Back from Off before SYS was On: SYS is still to write its CFG values (R322). -/
  cfgDue : Bool := false
  deriving DecidableEq, Repr

/-! ### Crank and Sprocket (spec/09, spec/10) -/

/-- STATE of an axis (spec/09, R215). -/
inductive AxState where
  | noSource | init | tracking | standstill | reversing | extrapolating | sourceLost
  deriving DecidableEq, Repr

/-- One axis. Positions and velocities carry 16 fraction bits below the axis unit; velocity is in
units per second, for an ANGULAR axis in 2^-32 revolution per second (spec/09, R195, R206). -/
structure Axis where
  st : AxState := .noSource
  /-- The tracker position, held in the band of R207 for an edge source (R206). -/
  x : Int := 0
  v : Int := 0
  /-- Output position, in axis units (R207). -/
  out : Int := 0
  /-- DIR is reverse; consecutive counts (or measurements) against DIR. -/
  rev : Bool := false
  against : Nat := 0
  /-- Position of the last count or measurement, its device time, and how many have come since INIT. -/
  z : Int := 0
  tLast : Nat := 0
  n : Nat := 0
  /-- `tLast` is the stamp of a measurement of the present source (R199, R206, R208). -/
  stamped : Bool := false
  /-- A correction would have moved the output against DIR: it holds until the tracker has passed it again (R207). -/
  hold : Bool := false
  jumps : Nat := 0
  resumed : Bool := false
  saturated : Bool := false
  /-- Times of the last illegal quadrature steps within 1 s (R199). -/
  qerrs : List Nat := []
  /-- Levels of the source pair as decoded, and an edge of either that has not yet outlasted a POS pair's glitch filter, with its device
  time (R199). -/
  a : Bool := false
  b : Bool := false
  edgeA : Option Nat := none
  edgeB : Option Nat := none
  /-- What the last broadcasts of the axis carried, newest first (R204). -/
  sent : List (List Byte) := []
  /-- When a source was last heard or lost (`now`), for TIMEOUT and LOSS_T. -/
  heardAt : Nat := 0
  lostAt : Nat := 0
  /-- Base position and device time of a DEVICE_TIME source's last preset, or a Ridge peer's last state. -/
  baseX : Int := 0
  baseT : Nat := 0
  /-- The output position after the last tracker tick (spec/10, R220). -/
  outWas : Int := 0
  /-- POSHI, VEL and SNAPTIME captured by the last read of POSLO. -/
  snapHi : Word := 0
  snapVel : Word := 0
  snapTime : Word := 0
  deriving DecidableEq, Repr

/-- STATE of a slot that is not FREE (spec/10, R236). -/
inductive SlotState where
  | armed | requesting | deferred | done
  deriving DecidableEq, Repr

/-- One armed slot (spec/10, R216 to R234). -/
structure Slot where
  owner : Nat
  /-- The slot record as armed (R218). -/
  rec_ : List Word
  job : Nat
  st : SlotState := .armed
  /-- The present target: position or device time. -/
  target : Int
  /-- Firings left after the next; none for 0xFFFF. -/
  left : Option Nat
  firings : Nat := 0
  last : Nat := 0
  /-- It has been seen pending on its approach side with its condition not met, and DIR has not changed since (R220). -/
  ready : Bool := false
  /-- The target of its last firing; with ANYREV the position of the angle it last fired or was skipped for (R231, R233). -/
  lastP : Option Int := none
  granted : Option Nat := none
  /-- Why and when it is due: the miss reason, 0 when on time. -/
  due : Option (Nat × Nat) := none
  /-- The position of the angle that an ANYREV event is due for (R220, R230, R231). -/
  aim : Option Int := none
  deriving DecidableEq, Repr

/-- A fired action on its way to its bank: the slot as it fired, and when (spec/10, R223). -/
structure SpkAct where
  slot : Slot
  at_ : Nat
  deriving DecidableEq, Repr

/-- A firing on an axis whose target may not have been crossed yet (spec/10, R232): its target, the
direction of DIR at the firing, when it fired, and its lead in ticks. -/
structure Crossing where
  slot : Nat
  owner : Nat
  axis : Nat
  target : Int
  rev : Bool
  at_ : Nat
  lead : Int
  deriving DecidableEq, Repr


/-! ### CAN ports (spec/13) -/

/-- What a queued frame is. -/
inductive TxKind where
  /-- The frame of a CAN_TX that waits for its end. -/
  | cmd (job : Nat)
  /-- A TX_FRAME action of a slot, with the slot's owner. -/
  | spk (slot owner : Nat)
  /-- A gateway frame of a flow. -/
  | flow (n : Nat)
  /-- A time master's SYNC or FUP (R296). -/
  | sync (seq : Nat)
  | fup (seq : Nat)
  /-- A release or block frame (spec/18, R408). -/
  | rel (fresh : Nat)
  /-- A network-management message with its sleep-ready bit (spec/15, R339). -/
  | nm (ready : Bool)
  deriving DecidableEq, Repr

/-- A frame in a transmit queue (R289 to R294). -/
structure TxItem where
  id : Nat
  frame : CanFrame
  kind : TxKind
  /-- It holds one of the eight places kept for Sprocket. -/
  place : Bool := false
  /-- Failed attempts and identifier collisions; the end of a back-off. -/
  fails : Nat := 0
  colls : Nat := 0
  held : Option Nat := none
  /-- The SOF stamp of its last attempt (R291). -/
  sofAt : Nat := 0
  /-- Not sent again if it fails: the port's transmission is being disabled, or ABORTs wait for its end (spec/04, R87, R89; spec/05,
  R114). -/
  last : Bool := false
  aborts : List Hdr := []
  deriving DecidableEq, Repr

/-- A stored receive entry (R285 to R287). -/
structure RxEntry where
  pair : Nat
  owner : Nat
  frame : CanFrame
  time : Word
  drop : Bool
  /-- The delivery cursor has passed it. -/
  pulled : Bool := false
  deriving DecidableEq, Repr

/-- One CAN port. Its record, state, counters and stamps are in `regs`. -/
structure CanPort where
  q0 : List TxItem := []
  q1 : List TxItem := []
  /-- The frame in transmission, where one is known to be, and the state that a CAN_STATE puts the port in at its end, with that
  command (spec/04, R89; log 68). -/
  onAir : Option Nat := none
  stop : Option (Nat × Option Nat) := none
  /-- CANn_CFG1 as it stood when the port last left On: the nominal bit rate of its wake-up frame detector while it is Off (spec/15, R335). -/
  rate : Word := 0x033E1E3C
  rxA : List RxEntry := []
  rxB : List RxEntry := []
  /-- The next entry of a queue carries DROP; a drop has been reported since its last entry. -/
  dropA : Bool := false
  dropB : Bool := false
  toldA : Bool := false
  toldB : Bool := false
  /-- Words of the entry each context last pulled. -/
  win : Sparse (List Word) := []
  /-- For each entry of the collision table: times within the last second, and when it was last used. -/
  colls : Sparse (List Nat × Nat) := []
  boAt : Nat := 0
  recovering : Bool := false
  /-- Time master: next SEQ, last SYNC sent, last SYNC heard from another node. -/
  tmSeq : Nat := 0
  tmAt : Nat := 0
  tmHeard : Option Nat := none
  sofHi : Word := 0
  /-- Network management (spec/15, R339, R340): PWR_NMSTATn code, the last message sent, the last not-ready
  message received, whether a ready one has been sent, and the start of wait-bus-sleep. -/
  nmSt : Nat := 0
  nmAt : Nat := 0
  nmNotReady : Nat := 0
  nmSentReady : Bool := false
  nmWbs : Nat := 0
  /-- False-wake watch (spec/15, R341): since when, and whether a counting frame has come; end of a suspension. -/
  fwAt : Option Nat := none
  fwGood : Bool := false
  suspEnd : Nat := 0
  /-- A wake of the port's own detector, and any wake, brings the domain On now (spec/15, R336). -/
  fwWoke : Bool := false
  wakeTx : Bool := false
  deriving DecidableEq, Repr

/-- A filter pair (R284). Its owner is in `owners`. -/
structure Pair where
  port : Nat := 0
  queue : Nat := 0
  mask : Word := 0
  pattern : Word := 0
  deriving DecidableEq, Repr

/-! ### Frame switch and Ridge (spec/14) -/

/-- A flow context in use (R307 to R312). A learned one has no owner. -/
structure Flow where
  rec_ : List Word
  learned : Bool
  hitAt : Nat
  /-- CAN_TO_ACF: next NTSCF sequence number, messages of the open AVTPDU and when it was opened. -/
  seq : Nat := 0
  open_ : List (List Byte) := []
  openAt : Nat := 0
  /-- ACF_TO_CAN: the next sequence number expected. -/
  inSeq : Option Nat := none
  deriving DecidableEq, Repr

/-- One copy of a frame in an egress queue (R305). -/
structure Copy where
  port : Nat
  pcp : Nat
  since : Nat
  frame : EthFrame
  deriving DecidableEq, Repr

/-- A frame in the switch: its ingress port, its cells, and the copies not yet sent or dropped (spec/05, R105). -/
structure Fwd where
  ingress : Nat
  cells : Nat
  copies : List Copy
  deriving DecidableEq, Repr

/-- A network port's counters of NET_STATS (R318), by KIND and position: key 4 * KIND + index, and what a
Ridge link has gathered. -/
structure NetPort where
  stats : Sparse Nat := []
  /-- Segments of a DATA frame and of HOSTMSG messages by source cluster (R314, R315). -/
  data : List Byte := []
  host : Sparse (List Byte) := []
  lastTrain : Nat := 0
  /-- What the last TIME exchange on a Ridge link gave as the master of that side, and when; hops of the
  last broadcast of each cluster number (R213). -/
  master : Option Nat := none
  masterAt : Nat := 0
  hops : Sparse Nat := []
  /-- The last AXIS broadcast of each cluster number and axis: its hop count, what it carried, and the stamp of the one before (spec/09,
  R204). -/
  axSeen : Sparse (Option (Nat × List Byte × Nat)) := []
  /-- A Ridge link's last valid frame, its newest CRC errors, at most 16, its last frame sent and its last TIME frame sent (R314, R316). -/
  heardAt : Nat := 0
  crcAt : List Nat := []
  sentAt : Nat := 0
  timeAt : Nat := 0
  /-- The send stamp in the last TIME frame heard, and this device's time of hearing it (R314; spec/09, R213). -/
  timeHeard : Nat × Nat := (0, 0)
  /-- The last Sync sent on an MDI port (R306); the last BEACON of a T1S port that is known, sent or heard (R303). -/
  syncAt : Nat := 0
  beaconAt : Nat := 0
  deriving DecidableEq, Repr

/-! ### Key store and immobiliser (spec/18) -/

/-- One of the two key records of a slot (R394): the key, its USAGE and its VERSION, and whether its CRC is good. -/
structure KeyRec where
  key : List Byte
  usage : Nat
  version : Nat
  crcGood : Bool := true
  deriving DecidableEq, Repr

/-- A working slot in a key array: two records and the two copies of its version counter; a copy that is torn or was
never written is none (R394, R395). -/
structure KeySlot where
  recA : Option KeyRec := none
  recB : Option KeyRec := none
  copyA : Option Nat := none
  copyB : Option Nat := none
  deriving DecidableEq, Repr

/-- An enrolment (R405). -/
structure Tok where
  id : Dword
  treply : Nat
  tol : Nat
  typ : Nat
  parkWake : Bool
  deriving DecidableEq, Repr

/-- A key array: the level-0 roots, the working slots, the enrolments, and the release counter's high-water mark (R386,
R405, R409). -/
structure KeyArray where
  mfr : Option (List Byte) := none
  owner : Option (List Byte) := none
  slots : Sparse KeySlot := []
  toks : Sparse (Option Tok) := []
  mark : Nat := 0
  deriving DecidableEq, Repr

/-- A staged key, STAGED or VERIFIED (R392, R393). -/
structure Staged where
  slot : Nat
  key : List Byte
  usage : Nat
  version : Nat
  verified : Bool := false
  deriving DecidableEq, Repr

/-- The running writes of a KEY_COMMIT, by its job, and the step under way (R394). -/
structure KeyWrite where
  job : Nat
  key : Staged
  step : Nat := 1
  deriving DecidableEq, Repr

/-- The derived keys (R388): those of a slot with the slot's number. -/
inductive DKey where
  | array | lifecycle | kek (slot : Nat) | ownerImage | poll (slot : Nat) | token (slot : Nat) (id : Dword) | release (slot : Nat)
  deriving DecidableEq, Repr

/-- Two shares whose XOR is a key (R389). -/
structure Shares where
  a : List Byte := []
  b : List Byte := []
  deriving DecidableEq, Repr

/-- A cached derived key (R389). -/
structure CacheKey where
  name : DKey
  sh : Shares
  deriving DecidableEq, Repr

/-- States of a release (R406, R407). -/
inductive RelState where
  | blocked | released | ending
  deriving DecidableEq, Repr

/-- A poll under way: when it started, its POLLCNT, and the key K_POLL, the enrolments and their keys in force then (R400). -/
structure Poll where
  startAt : Nat
  count : Nat
  key : List Byte := []
  toks : List (Nat × Tok × List Byte)
  deriving DecidableEq, Repr

/-- What is kept of a token slot: the class code and distance of its last answer, the times and last reason of its INVALID
answers, and the parked polls it must still miss before its next wake (R402, R404, R413, R414). -/
structure TokStat where
  last : Nat := 0
  dist : Nat := 0
  invalid : List Nat := []
  hold : Nat := 0
  deriving DecidableEq, Repr

/-- The immobiliser (R400 to R414). -/
structure Imm where
  rel : RelState := .blocked
  bound : Option Nat := none
  /-- REASON of the next frame, the next frame's time, and the BLOCK frames left. -/
  reason : Nat := 0
  frameAt : Nat := 0
  blocks : Nat := 0
  /-- FRESH of the next frame; 2^32 once the last has been used (R409). -/
  fresh : Nat := 0
  /-- A request stands. -/
  req : Bool := false
  poll : Option Poll := none
  /-- Start of the last poll of the standing request. -/
  lastAt : Option Nat := none
  pollCnt : Nat := 0
  /-- Retries made in a row, rejected polls in a row, and the time of a retry that is due (R403). -/
  retries : Nat := 0
  rejRun : Nat := 0
  retryAt : Option Nat := none
  /-- Polls in a row without a VALID answer (R407), and the end of the release while UWB is Off. -/
  loss : Nat := 0
  absentAt : Option Nat := none
  /-- The configuration words and IMM_CTL as AON holds them while UWB is Off. -/
  held : List Word := []
  toks : Sparse TokStat := []
  /-- Park clock: its start and its rate in thousandths of the true rate; the last mode but 0; the last parked poll
  (R411, R413). -/
  parkAt : Nat := 0
  parkRate : Nat := 1000
  parkMode : Nat := 1
  parkPoll : Nat := 0
  deriving DecidableEq, Repr

/-! ### Firmware and configuration update (spec/19) -/

/-- What a flash area holds: nothing, the image the device was delivered with, the bytes of an image or of a part of
one, or an area that a copy has begun to overwrite. -/
inductive Area where
  | empty | delivered | bytes (b : List Byte) | torn
  deriving DecidableEq, Repr

/-- The levels of the test port's inputs (spec/02, R30, R34). -/
structure TestPins where
  ten : Bool := false
  tck : Bool := false
  tms : Bool := false
  tdi : Bool := false
  deriving DecidableEq, Repr

/-- What a copy is for (R430 to R432, R436): an update, with whether CONFIG_STAGING goes with it; a configuration
alone; a revert, with its cause; the restoring of a failed ACTIVE. -/
inductive CopyFor where
  | update (config : Bool)
  | config
  | revert (cause : Nat)
  | restore
  deriving DecidableEq, Repr

/-- A copy in progress: the stages still to do, in UPD_JOURNAL's codes, the blocks done of the first, and the failed
read-backs of the present block (R432). -/
structure Copying where
  why : CopyFor
  stages : List Nat
  block : Nat := 0
  tries : Nat := 0
  deriving DecidableEq, Repr

/-- The flash areas and the JOURNAL (R417). -/
structure Flash where
  active : Area := .delivered
  staging : Area := .empty
  fallback : Area := .empty
  cfgActive : Area := .empty
  cfgStaging : Area := .empty
  cfgFallback : Area := .empty
  /-- UPD_FWSTAT.STATE, and the download of STAGING: its SIZE, the next offset, and the context that began it. -/
  fwState : Nat := 0
  fwSize : Nat := 0
  fwNext : Nat := 0
  fwHc : Nat := 0
  reason : Nat := 0
  /-- UPD_CFGSTAT.STAGE and the download of CONFIG_STAGING. -/
  cfgStage : Nat := 0
  cfgSize : Nat := 0
  cfgNext : Nat := 0
  cfgHc : Nat := 0
  /-- Trial: BOOTS, RUNTIME as last written, the context that began its download, and the cause of a revert that is due. -/
  boots : Nat := 0
  runtime : Nat := 0
  trialHc : Nat := 0
  revert : Nat := 0
  copying : Option Copying := none
  /-- The FALLBACK repair is to be done (R435). -/
  repair : Bool := false
  /-- UPD_JOURNAL: last stage recorded, last block completed in it. -/
  stage : Nat := 0
  block : Nat := 0
  deriving DecidableEq, Repr

/-- A staging lock: its holder, and the ticks of SYS On since its last activity (R427). -/
structure StageLock where
  hc : Nat
  idle : Nat := 0
  deriving DecidableEq, Repr

/-- The UDS server (R440). -/
structure Uds where
  programming : Bool := false
  unlocked : Bool := false
  /-- The seed given out; failed keys in a row; the end of a lock of SecurityAccess. -/
  seed : Option (List Byte) := none
  fails : Nat := 0
  lockEnd : Option Nat := none
  /-- The download under way is a configuration; the last blockSequenceCounter and the answer it got. -/
  config : Bool := false
  active : Bool := false
  seq : Nat := 0
  answer : List Byte := []
  /-- Time of the last request. -/
  lastAt : Nat := 0
  deriving DecidableEq, Repr

/-- The whole state of the block, with every field's value right after reset as its default. -/
structure State where
  /-- Commands waiting to be taken, first in first out. -/
  pending : List Instr := []
  /-- Ticks of 10 ns that have passed. -/
  now : Nat := 0
  /-- One-time programmable memory. -/
  otp : Otp := {}
  /-- Device time, 64 bits (spec/09, R212), and how far a rate correction has run, in ns. -/
  devTime : Nat := 0
  /-- The register file: words that differ from their reset value, by address. -/
  regs : Sparse Word := []
  /-- How many free values have been drawn (the model's own field). -/
  freeCount : Nat := 0
  /-- Counter that names jobs and requests (the model's own field). -/
  nextId : Nat := 0
  /-- The place in the order of issue of the command that is being dispatched (the model's own field). -/
  issuing : Nat := 0
  /-- The context that had its turn last (spec/04, R82). -/
  turnHc : Nat := 7
  hcs : Sparse HostCtx := []
  owners : Sparse (Option Nat) := []
  jobs : List Job := []
  /-- Pool cells charged to CAN receive queues (2n, 2n + 1 for RXQ_A, RXQ_B of CANn) and switch ports (12 to 17) (spec/05, R105). -/
  portCells : Sparse Nat := []
  /-- Events waiting in the hub backlog, oldest first, each with the contexts it is offered to (spec/16, R358). -/
  backlog : List (List Nat × EvRec) := []
  /-- Events that found the backlog full while SYS was Off: how many named each context, which learns of them at SYS's return if it is bound
  then (spec/16, R351). -/
  lostFor : Sparse Nat := []
  /-- Messages and frames sent, newest last. -/
  sent : List Sent := []
  /-- Bytes of the last answer on SDO; level of SDO's CRCE flag (spec/04, R68, R70). -/
  sdo : List Byte := []
  crce : Bool := false
  /-- RDY terminal. -/
  rdy : Bool := false
  /-- AON holds IRQ_N low after a wake (spec/15, R331). -/
  aonIrq : Bool := false
  -- supplies and starts
  vsup : VSup := .valid
  powerLost : Bool := false
  /-- Feed groups in VBAT undervoltage, degraded and overvoltage regions: bit g. -/
  uvMask : Nat := 0
  degMask : Nat := 0
  /-- When the open-load tests of each bank last became free to run (spec/06, R137). -/
  olFrom : Sparse Nat := []
  vioOk : Bool := true
  t0 : Nat := 0
  /-- SYS runs (not in reset) and has finished its start (packets are served). -/
  sysUp : Bool := false
  serving : Bool := false
  /-- RST_N is held low. -/
  rstLow : Bool := false
  sysStartTimes : List Nat := []
  /-- A SYS_RESET of scope DEVICE begins its power-up start at this time. -/
  devResetAt : Option Nat := none
  /-- The Coast timer's start, the COAST_TIME in force, in ms, and whether the present SYS start's cause. -/
  coastAt : Option Nat := none
  coastTime : Nat := 500
  lhLevel : Nat := 0
  -- banks
  chans : Sparse Chan := []
  bridges : Sparse Bridge := []
  banks : Sparse Bank := []
  -- governor
  line : List Req := []
  grants : List Grant := []
  gov : Sparse GovGroup := []
  /-- Writes to GOV configuration registers that wait for the next epoch boundary (R247), oldest first. -/
  govPend : List (Nat × Word) := []
  -- networks
  ports : Sparse CanPort := []
  pairs : Sparse Pair := []
  /-- Each context's selected pair on a port: key 8 * port + context. -/
  pairSel : Sparse Nat := []
  flows : Sparse (Option Flow) := []
  /-- FLOW_TABLE_FULL has been posted since a context was last free (R310). -/
  fullTold : Bool := false
  fwd : List Fwd := []
  netPorts : Sparse NetPort := []
  /-- Frames SYS handled in the running second: its number and the count (R309). -/
  slowWin : Nat × Nat := (0, 0)
  /-- Frames with no flow that wait for SYS: ingress port, VID and PCP of each (R309). -/
  slowQ : List (Nat × Nat × Nat × EthFrame) := []
  /-- Good Syncs in a row, and when the last came (R306); AS_OFFSET's high word as captured. -/
  asGood : Nat := 0
  asAt : Nat := 0
  asHi : Word := 0
  /-- Full service came at this time. -/
  fullAt : Nat := 0
  -- Scree
  log : List FEntry := []
  inbox : List Word := []
  /-- Newest FAULT_SUMMARY record in flash: (kind, entries, actions) of kinds with counts; when last written (spec/17, R380). -/
  summaryFlash : List (Nat × Nat × Nat) := []
  summaryAt : Nat := 0
  summaryLoaded : Bool := false
  /-- Field outputs that have reported their overload since their turn-on (spec/12, R268). -/
  fqTold : Nat := 0
  /-- The debounced levels of the field inputs, before INV (spec/12, R271, R275). -/
  fiDeb : Nat := 0
  doms : Sparse Dom := []
  /-- Power and wake (spec/15): expiry of the wake timer, levels of the static wake comparators, when only AON
  was left On, the sideband's pointer and the bytes of its last read. -/
  wakeTimer : Option Nat := none
  wkLevel : Nat := 0
  hibAt : Option Nat := none
  sbPtr : Nat := 0
  sbOut : List Byte := []
  /-- SYS returns from Off: it runs to full service without a start (R322, R324). -/
  sysReturn : Bool := false
  /-- SYS is back from Off and at PHASE BASIC; full service is still to come (spec/15, R324). -/
  sysAgain : Bool := false
  /-- The sideband's address match holds SBCL low until SBI is On (spec/15, R343). -/
  sbHold : Bool := false
  -- key store and immobiliser
  /-- The production key array, and the debug array while the DEBUG overlay is on (spec/18, R385). -/
  keyArr : KeyArray := {}
  dbgArr : Option KeyArray := none
  /-- The test port's inputs; no row of the table moves them (spec/02, R34; log 96). -/
  testPins : TestPins := {}
  /-- The staged keys, at most four; the KEY_COMMIT being written (spec/18, R392, R394). -/
  staged : List Staged := []
  keyWrite : Option KeyWrite := none
  /-- Cached derived keys, the one used last in front; shares of the working keys and roots (key 64 MFR, 65 OWNER) in
  key-store RAM; the last re-mask and health test (spec/18, R389, R390). -/
  cache : List CacheKey := []
  ram : Sparse Shares := []
  remaskAt : Nat := 0
  rngAt : Option Nat := none
  /-- Times of the challenges answered in the last second (spec/18, R398). -/
  challenges : List Nat := []
  imm : Imm := {}
  -- update
  flash : Flash := {}
  /-- Erases of each 64 KB flash block, under bits [22:8] of its address, and of each key-array sector, under 0x8000 and up (spec/20,
  R453). -/
  erases : Sparse Nat := []
  /-- The configuration in force; empty for the blank one (spec/19, R422). -/
  cfgNow : Area := .empty
  fwLock : Option StageLock := none
  cfgLock : Option StageLock := none
  /-- Ticks of trial run time in PHASE FULL since RUNTIME was last written (spec/19, R434). -/
  runTicks : Nat := 0
  uds : Uds := {}
  -- Crank and Sprocket
  axes : Sparse Axis := []
  timeHi : Word := 0
  /-- 10 consecutive exchanges within 20 ns; when the last good one was; whether a step is due (spec/09, R213, R214). -/
  alignCount : Nat := 0
  alignAt : Nat := 0
  stepDue : Bool := true
  /-- Fraction of a tick, in 10^-8, that a rate correction has gathered. -/
  rateFrac : Int := 0
  slots : Sparse (Option Slot) := []
  /-- Due slots in the order in which they fire (spec/10, R222, R231), and the times of the firings of the last millisecond. -/
  dueQ : List Nat := []
  /-- Actions that have fired and whose edges have not started, in their order (spec/10, R223). -/
  acts : List SpkAct := []
  crossings : List Crossing := []
  /-- The last tracker tick made. -/
  tickAt : Nat := 0
  fireTimes : List Nat := []
  /-- Rejected lead measurements in a row on one side: key 4 * (4 * channel + entry) + band holds (side, values). -/
  leadRuns : Sparse (Bool × List Nat) := []
  /-- Completions of work that ended while SYS was down, written when it returns, with the slot each frees (spec/03, R64; spec/10, R235). -/
  later : List (Hdr × Compl × Option Nat) := []
  deriving DecidableEq, Repr

/-- The machine right after reset: the first instant of a power-up start with cause POWER_ON of a
blank device, VSUP just valid, PHASE AON_START, every queue and ring empty (spec/03, R47). Registers hold
what RegReset.lean gives them; PWR_RSTCAUSE shows the cause bit that the start itself sets (spec/03, R57, R67). -/
def State.reset : State := {}


/-- Faults: no behaviour the spec gives the block stops it, so no meaning raises one. -/
inductive Fault where
  /-- Raised by no meaning: every rejected access or command answers with a status and the block goes on. Safe. -/
  | none
  deriving DecidableEq, Repr

/-- Refusals. -/
inductive Refusal where
  /-- Raised by an arm of the dispatch that has no meaning yet, with the row's mnemonic. Safe: nothing can be proved of such a command. -/
  | notModelled (mnemonic : String)
  deriving DecidableEq, Repr

end Sys2Proof.Machine
end

