-- ==== Sys2Proof/Machine/Ops.lean ====
section
/-! DEFINITION. The named operations over the state: registers and their fields, the sparse parts
of the state, ownership, domains, free values, and the frame every command keeps. -/

namespace Sys2Proof.Machine

/-! ### Status codes (spec/04, R79) -/

/-- OK. -/
def St.ok : Byte := 0x00
/-- ACCEPTED, in a PUSH_STATUS only. -/
def St.accepted : Byte := 0x01
/-- COMPLETED_BEFORE_ABORT. -/
def St.tooLate : Byte := 0x02
/-- ABORTED. -/
def St.aborted : Byte := 0x03
/-- CANCELLED. -/
def St.cancelled : Byte := 0x04
/-- BUSY. -/
def St.busy : Byte := 0x10
/-- OVER_QUOTA. -/
def St.overQuota : Byte := 0x11
/-- NO_RESOURCE. -/
def St.noResource : Byte := 0x12
/-- NOT_OWNER. -/
def St.notOwner : Byte := 0x13
/-- FLUSHED. -/
def St.flushed : Byte := 0x14
/-- BAD_OPCODE. -/
def St.badOpcode : Byte := 0x20
/-- BAD_PARAM. -/
def St.badParam : Byte := 0x21
/-- BAD_STATE. -/
def St.badState : Byte := 0x22
/-- AUTH_FAIL. -/
def St.authFail : Byte := 0x30
/-- LOCKED. -/
def St.locked : Byte := 0x31

/-! ### Time -/

/-- Ticks of 10 ns in a microsecond. -/
def us (n : Nat) : Nat := n * 100
/-- Ticks of 10 ns in a millisecond. -/
def ms (n : Nat) : Nat := n * 100000
/-- Ticks of 10 ns in a second. -/
def sec (n : Nat) : Nat := n * 100000000

/-- Device time bits [31:0]. -/
def State.time32 (s : State) : Word := word s.devTime

/-! ### Registers (spec/00, R4 to R6) -/

/-- The word a register holds. -/
def State.rd (s : State) (a : Nat) : Word := Sparse.get (fun b => word (regDefault b)) s.regs a

/-- The state after storing a word in a register. -/
def State.wr (s : State) (a : Nat) (w : Word) : State :=
  { s with regs := Sparse.set (fun b => word (regDefault b)) s.regs a w }

/-- A field's value. -/
def State.get (s : State) (f : Fld) : Nat := bits (s.rd f.addr).toNat f.hi f.lo

/-- The state with a field set; bits beyond the field's width are dropped. -/
def State.put (s : State) (f : Fld) (v : Nat) : State :=
  s.wr f.addr (word (setBits (s.rd f.addr).toNat f.hi f.lo v))

/-- Whether a one-bit field is set. -/
def State.flag (s : State) (f : Fld) : Bool := s.get f == 1

/-- The state with a one-bit field set to a truth value. -/
def State.putB (s : State) (f : Fld) (b : Bool) : State := s.put f (b2n b)

/-- The state with a counter field raised by one, stopping at its greatest value. -/
def State.inc (s : State) (f : Fld) : State := s.put f (satInc (2 ^ (f.hi + 1 - f.lo) - 1) (s.get f))

/-- The state with a counter field raised by `n`, stopping at its greatest value. -/
def State.incBy (s : State) (f : Fld) (n : Nat) : State := s.put f (satTo (2 ^ (f.hi + 1 - f.lo) - 1) (s.get f + n))

/-! ### Sparse parts of the state -/

/-- Host context `n`. -/
def State.hc (s : State) (n : Nat) : HostCtx := Sparse.get (fun _ => {}) s.hcs n
/-- The state with host context `n` replaced. -/
def State.setHc (s : State) (n : Nat) (h : HostCtx) : State := { s with hcs := Sparse.set (fun _ => {}) s.hcs n h }
/-- The state with host context `n` changed by `f`. -/
def State.modHc (s : State) (n : Nat) (f : HostCtx → HostCtx) : State := s.setHc n (f (s.hc n))

/-- Channel `n`. -/
def State.ch (s : State) (n : Nat) : Chan := Sparse.get (fun _ => {}) s.chans n
/-- The state with channel `n` replaced. -/
def State.setCh (s : State) (n : Nat) (c : Chan) : State := { s with chans := Sparse.set (fun _ => {}) s.chans n c }
/-- The state with channel `n` changed by `f`. -/
def State.modCh (s : State) (n : Nat) (f : Chan → Chan) : State := s.setCh n (f (s.ch n))

/-- Bridge `k`. -/
def State.br (s : State) (k : Nat) : Bridge := Sparse.get (fun _ => {}) s.bridges k
/-- The state with bridge `k` changed by `f`. -/
def State.modBr (s : State) (k : Nat) (f : Bridge → Bridge) : State :=
  { s with bridges := Sparse.set (fun _ => {}) s.bridges k (f (s.br k)) }

/-- A bank at the first instant after reset: its limp entries are due at its stagger step (spec/03, R47). -/
def bankReset (b : Nat) : Bank := { limpDue := some (30000 + 20000 * b) }
/-- Bank `b`. -/
def State.bank (s : State) (b : Nat) : Bank := Sparse.get bankReset s.banks b
/-- The state with bank `b` changed by `f`. -/
def State.modBank (s : State) (b : Nat) (f : Bank → Bank) : State :=
  { s with banks := Sparse.set bankReset s.banks b (f (s.bank b)) }

/-- The governor of group `g`. -/
def State.grp (s : State) (g : Nat) : GovGroup := Sparse.get (fun _ => {}) s.gov g
/-- The state with group `g`'s governor changed by `f`. -/
def State.modGrp (s : State) (g : Nat) (f : GovGroup → GovGroup) : State :=
  { s with gov := Sparse.set (fun _ => {}) s.gov g (f (s.grp g)) }

/-- CAN port `n`. -/
def State.port (s : State) (n : Nat) : CanPort := Sparse.get (fun _ => {}) s.ports n
/-- The state with CAN port `n` changed by `f`. -/
def State.modPort (s : State) (n : Nat) (f : CanPort → CanPort) : State :=
  { s with ports := Sparse.set (fun _ => {}) s.ports n (f (s.port n)) }

/-- Flow context `n`. -/
def State.flow (s : State) (n : Nat) : Option Flow := Sparse.get (fun _ => none) s.flows n
/-- The state with flow context `n` set. -/
def State.setFlow (s : State) (n : Nat) (x : Option Flow) : State := { s with flows := Sparse.set (fun _ => none) s.flows n x }

/-- Network port `p`. -/
def State.net (s : State) (p : Nat) : NetPort := Sparse.get (fun _ => {}) s.netPorts p
/-- The state with network port `p` changed by `f`. -/
def State.modNet (s : State) (p : Nat) (f : NetPort → NetPort) : State :=
  { s with netPorts := Sparse.set (fun _ => {}) s.netPorts p (f (s.net p)) }

/-- An ISOLATE action of Scree on the block of a fault source stands (spec/17, R372). -/
def State.isolated (s : State) (src : Nat) : Bool :=
  s.log.any (fun e => e.action == 3 && e.st != .cleared && e.st != .retest && bits e.msg.toNat 31 22 == src)

/-! ### Power domains (spec/15, R320) -/

/-- Domain numbers (spec/15, "Domains"). -/
def Dm.aon : Nat := 0
/-- HIF. -/
def Dm.hif : Nat := 1
/-- SBI. -/
def Dm.sbi : Nat := 2
/-- SYS. -/
def Dm.sys : Nat := 3
/-- CRK. -/
def Dm.crk : Nat := 4
/-- NET. -/
def Dm.net : Nat := 5
/-- ETH. -/
def Dm.eth : Nat := 6
/-- T1S. -/
def Dm.t1s : Nat := 7
/-- CANn. -/
def Dm.can (n : Nat) : Nat := 8 + n
/-- BANKn. -/
def Dm.bank (n : Nat) : Nat := 14 + n
/-- FIELD. -/
def Dm.field : Nat := 22
/-- UWB. -/
def Dm.uwb : Nat := 23

/-- The state of each domain at the first instant of a power-up start: AON, CRK and the banks On,
the others not yet (spec/03, R47; log 6). -/
def domReset (d : Nat) : Dom :=
  if d = 0 ∨ d = 4 ∨ (14 ≤ d ∧ d < 22) then { st := .on } else { st := .off }

/-- Domain `d`. -/
def State.dom (s : State) (d : Nat) : Dom := Sparse.get domReset s.doms d
/-- The state with domain `d` changed by `f`. -/
def State.modDom (s : State) (d : Nat) (f : Dom → Dom) : State :=
  { s with doms := Sparse.set domReset s.doms d (f (s.dom d)) }
/-- Whether domain `d` is On. -/
def State.domOn (s : State) (d : Nat) : Bool := (s.dom d).st == .on

/-! ### Network ports (spec/14, R298, R302, R316) -/

/-- Link `l` is UP. -/
def State.ridgeUp (s : State) (l : Nat) : Bool := s.domOn Dm.net && s.get (rdgStat_state l) % 8 == 2

/-- Word `k` of a network port's record; word 3 of a Ridge port is 0. -/
def State.portWord (s : State) (p k : Nat) : Nat :=
  if p < 4 then (s.rd (phyCfg_word p k).addr).toNat
  else if k < 3 then (s.rd (rdgCfg_word (p - 4) k).addr).toNat else 0

/-- The link of a network port is up and its domain On. -/
def State.netUp (s : State) (p : Nat) : Bool :=
  s.domOn Dm.net &&
  (if p < 2 then s.domOn Dm.eth && s.flag (phyStat_link p)
   else if p < 4 then s.domOn Dm.t1s && s.flag (phyStat_link p)
   else s.ridgeUp (p - 4) && bitOf (s.portWord p 0) 26)

/-- Some network port can carry what the block sends over IP. -/
def State.ipOut (s : State) : Bool := (List.range 6).any s.netUp

/-! ### Ownership (spec/05, R101) -/

/-- The key of a resource in the ownership map. -/
def resKey (kind idx : Nat) : Nat := kind * 0x10000 + idx

/-- The owner of a resource when nothing has been handed over: HC0, or none for the kinds claimed
on use (R101). -/
def ownerDefault (key : Nat) : Option Nat :=
  let k := key / 0x10000
  if k = 2 ∨ k = 4 ∨ k = 5 then none else some 0

/-- The owner of a resource. -/
def State.owner (s : State) (kind idx : Nat) : Option Nat := Sparse.get ownerDefault s.owners (resKey kind idx)
/-- The state with a resource's owner set. -/
def State.setOwner (s : State) (kind idx : Nat) (o : Option Nat) : State :=
  { s with owners := Sparse.set ownerDefault s.owners (resKey kind idx) o }
/-- Whether a context owns a resource. -/
def State.owns (s : State) (hc kind idx : Nat) : Bool := s.owner kind idx == some hc

/-- HC0, or a context that holds the SYS block (R103, R111). -/
def State.sysHolder (s : State) (hc : Nat) : Bool := hc == 0 || s.owns hc 0x0A 0

/-! ### Free values -/

/-- A free natural number and the state that has drawn it (log 4). -/
def State.drawNat (s : State) : Nat × State := (Config.freeNat s.freeCount, { s with freeCount := s.freeCount + 1 })

/-- A free bit and the state that has drawn it (log 4). -/
def State.drawBool (s : State) : Bool × State := (Config.freeBool s.freeCount, { s with freeCount := s.freeCount + 1 })

/-- `n` free bytes and the state that has drawn them (log 4). -/
def State.drawBytes (s : State) (n : Nat) : List Byte × State :=
  ((List.range n).map (Config.freeByte s.freeCount), { s with freeCount := s.freeCount + 1 })

/-- A quotient rounded to one of its two neighbours, which one being left open; 0 for a zero divisor (log 10). -/
def rdiv (n d : Int) : Int :=
  if d = 0 then 0 else n / d + (if n % d = 0 then 0 else if Config.roundUp n d then 1 else 0)

/-- The quotient to the nearest integer; which way a half goes is left open (log 10). -/
def rnear (n d : Int) : Int :=
  if d = 0 then 0 else
  let q := n / d
  let r := n % d
  if 2 * r < d then q else if d < 2 * r then q + 1 else if Config.roundUp n d then q + 1 else q

/-- An integer wrapped into two's complement of width `w`. -/
def wrapS (w : Nat) (z : Int) : Int := signed w (unsigned w z)

/-- A fresh name for a job or a request. -/
def State.fresh (s : State) : Nat × State := (s.nextId, { s with nextId := s.nextId + 1 })

/-- The state after one more message or frame sent. -/
def State.emit (s : State) (x : Sent) : State := { s with sent := s.sent ++ [x] }

/-- A frame sent on a Ridge link, if it is UP. -/
def State.ridgeSend (s : State) (l : Nat) (f : RidgeFrame) : State :=
  if s.ridgeUp l then (s.emit (.ridge l f)).modNet (4 + l) (fun n => { n with sentAt := s.now }) else s

/-! ### What a command may change -/

/-- The outcome of a command whose effect is `f`: a next state in which the queue of waiting
commands, the time and the one-time memory are as before. Commands take no time (log 1). -/
def act (f : State → State) (s : State) : Host.Outcome State Fault Refusal :=
  .next { f s with pending := s.pending, now := s.now, otp := s.otp }

/-- One-time memory after a write: a bit once programmed stays. A programmed map slot keeps its content, a revoked key stays
revoked, REQUIRE_OWNER stays set, SVNMIN and the count of transitions do not fall (spec/03, R56; spec/18, R384; spec/19, R442). -/
def Otp.burn (old new : Otp) : Otp :=
  { new with
    slots := old.slots.zipIdx.map (fun p => match p.1 with | some x => some x | none => new.slots.getD p.2 none)
    made := max old.made new.made
    sbAddr := old.sbAddr
    scree := old.scree
    svnMin := max old.svnMin new.svnMin
    revoked := old.revoked ||| new.revoked
    requireOwner := old.requireOwner || new.requireOwner }

/-- The outcome of a command that may also write one-time memory. -/
def actOtp (f : State → State) (s : State) : Host.Outcome State Fault Refusal :=
  .next { f s with pending := s.pending, now := s.now, otp := s.otp.burn (f s).otp }

/-- `f` done for each number of a list, in order. -/
def forEach (l : List Nat) (f : Nat → State → State) (s : State) : State := l.foldl (fun t k => f k t) s

/-- The indexes below `n` that a mask names, rising. -/
def maskList (n m : Nat) : List Nat := (List.range n).filter (fun k => m.testBit k)

/-- The mask of a list of indexes. -/
def listMask (l : List Nat) : Nat := l.foldl (fun m k => m ||| 2 ^ k) 0

/-- The bank of a channel. -/
def bankOf (ch : Nat) : Nat := ch / 8
/-- The feed group of a channel: 0 A, 1 B (spec/06, BANKn_INFO.FEED). -/
def feedOf (ch : Nat) : Nat := ch / 32

end Sys2Proof.Machine
end

