-- ==== Sys2Proof/Machine/KeyOps.lean ====
section
/-! DEFINITION. The key store's arrays, slots, shares and derivations (spec/18, R386 to R397). -/

namespace Sys2Proof.Machine

/-! ### Slots (R394, R395, R397) -/

/-- The slot's version: the higher of its valid copies; none where neither is valid. -/
def KeySlot.version (k : KeySlot) : Option Nat :=
  match k.copyA, k.copyB with
  | some a, some b => some (max a b)
  | some a, none => some a
  | none, some b => some b
  | none, none => none

/-- A record is good and carries a version. -/
def KeyRec.carries (r : KeyRec) (v : Nat) : Bool := r.crcGood && r.version == v

/-- The record in use: the good one that carries the slot's version. -/
def KeySlot.live (k : KeySlot) : Option KeyRec :=
  k.version.bind (fun v =>
    match k.recA, k.recB with
    | some a, some b => if a.carries v then some a else if b.carries v then some b else none
    | some a, none => if a.carries v then some a else none
    | none, some b => if b.carries v then some b else none
    | none, none => none)

/-- Record A is the one in use. -/
def KeySlot.inA (k : KeySlot) : Bool :=
  match k.version, k.recA with
  | some v, some a => a.carries v
  | _, _ => false

/-- STATE of KEY_SLOTs: 0 EMPTY, 1 VALID, 2 FAULTY. -/
def KeySlot.code (k : KeySlot) : Nat := if k.version.isNone then 0 else if k.live.isSome then 1 else 2

/-- Both copies rewritten to the slot's version (R395). -/
def KeySlot.repair (k : KeySlot) : KeySlot := { k with copyA := k.version, copyB := k.version }

/-- The spare record replaced: the one that is not in use. -/
def KeySlot.setSpare (k : KeySlot) (r : KeyRec) : KeySlot := if k.inA then { k with recB := some r } else { k with recA := some r }

/-- Slot `n` of a key array. -/
def KeyArray.slot (a : KeyArray) (n : Nat) : KeySlot := Sparse.get (fun _ => {}) a.slots n
/-- A key array with slot `n` replaced. -/
def KeyArray.setSlot (a : KeyArray) (n : Nat) (k : KeySlot) : KeyArray := { a with slots := Sparse.set (fun _ => {}) a.slots n k }
/-- Enrolment `k` of a key array. -/
def KeyArray.tok (a : KeyArray) (k : Nat) : Option Tok := Sparse.get (fun _ => none) a.toks k
/-- A key array with enrolment `k` set. -/
def KeyArray.setTok (a : KeyArray) (k : Nat) (x : Option Tok) : KeyArray := { a with toks := Sparse.set (fun _ => none) a.toks k x }
/-- The root that parents slot `n`: MFR for slots 0 to 15, else OWNER. -/
def KeyArray.parent (a : KeyArray) (n : Nat) : Option (List Byte) := if n < 16 then a.mfr else a.owner
/-- A key array without the slots that a root parents. -/
def KeyArray.eraseSlots (a : KeyArray) (owner : Bool) : KeyArray :=
  { a with slots := a.slots.filter (fun p => decide (p.1 < 16) == owner) }

/-- The key array in use: the debug array while DEBUG is on (R385). -/
def State.ka (s : State) : KeyArray := s.dbgArr.getD s.keyArr
/-- The state with the key array in use changed. -/
def State.modKa (s : State) (f : KeyArray → KeyArray) : State :=
  match s.dbgArr with
  | some a => { s with dbgArr := some (f a) }
  | none => { s with keyArr := f s.keyArr }

/-! ### Shares (R389) -/

/-- Bytewise XOR. -/
def xorB (a b : List Byte) : List Byte := List.zipWith (fun x y => x ^^^ y) a b
/-- The key that two shares hold. -/
def Shares.key (x : Shares) : List Byte := xorB x.a x.b
/-- A key split by a mask. -/
def Shares.split (key mask : List Byte) : Shares := ⟨mask, xorB key mask⟩
/-- Both shares XORed with a value. -/
def Shares.remask (x : Shares) (m : List Byte) : Shares := ⟨xorB x.a m, xorB x.b m⟩

/-- The shares in RAM under a number: a slot, 64 for MFR, 65 for OWNER. -/
def State.shares (s : State) (n : Nat) : Shares := Sparse.get (fun _ => {}) s.ram n
/-- A key put into RAM under a fresh mask. -/
def State.loadKey (s : State) (n : Nat) (key : List Byte) : State :=
  let (m, t) := s.drawBytes key.length
  { t with ram := Sparse.set (fun _ => ({} : Shares)) t.ram n (Shares.split key m) }

/-- The roots and working keys of the array in use loaded into RAM. -/
def State.loadKeys (s : State) : State :=
  let t : State := { s with ram := [] }
  let t := forEach (List.range 64) (fun n u => match (u.ka.slot n).live with | some r => u.loadKey n r.key | none => u) t
  let t := match t.ka.mfr with | some k => t.loadKey 64 k | none => t
  match t.ka.owner with | some k => t.loadKey 65 k | none => t

/-- The working key of a slot for the use of USAGE bit `b`: none where the slot is not VALID or lacks the use (R397). -/
def State.useKey (s : State) (n b : Nat) : Option (List Byte) :=
  match (s.ka.slot n).live with
  | some r => if n < 64 ∧ bitOf r.usage b = true ∧ s.otp.lc ≠ 0 then some (s.shares n).key else none
  | none => none

/-! ### Derived keys (R387 to R389) -/

/-- ASCII bytes of a label. -/
def ascii (l : String) : List Byte := l.toList.map (fun c => BitVec.ofNat 8 c.toNat)

/-- NIST SP 800-108 counter mode with AES-256-CMAC (R387). -/
def kdf (parent label context : List Byte) (len : Nat) : List Byte :=
  let k := fun (i : Nat) => Config.aesCmac parent (beBytes 1 i ++ label ++ [0] ++ context ++ beBytes 2 len)
  (if len = 128 then k 1 else k 1 ++ k 2).take (len / 8)

/-- DEVID as eight bytes. -/
def devId : List Byte := beBytes 8 Config.deviceId.toNat

/-- LABEL, CONTEXT and L of a derived key (R388). -/
def DKey.spec : DKey → List Byte × List Byte × Nat
  | .array => (ascii "GZ4816 ARRAY", devId, 256)
  | .lifecycle => (ascii "GZ4816 LIFECYCLE", devId, 256)
  | .kek n => (ascii "GZ4816 KEK", devId ++ beBytes 1 n, 256)
  | .ownerImage => (ascii "GZ4816 OWNER IMAGE", [], 256)
  | .poll _ => (ascii "GZ4816 POLL", [], 128)
  | .token _ id => (ascii "GZ4816 TOKEN", beBytes 8 id.toNat, 128)
  | .release _ => (ascii "GZ4816 RELEASE", [], 128)

/-- The root of the tree in use (R385, R386). -/
def State.unique (s : State) : List Byte := if s.dbgArr.isSome then Config.testRoot else Config.deviceRoot

/-- The parent of a derived key, if the device has it and its usage allows it (R388, R397). -/
def State.parentOf (s : State) (d : DKey) : Option (List Byte) :=
  match d with
  | .array => some s.unique
  | .lifecycle => s.ka.mfr
  | .kek n => s.ka.parent n
  | .ownerImage => s.ka.owner
  | .poll n | .token n _ => s.useKey n 2
  | .release n => s.useKey n 3

/-- The derived key, by the derivation itself. -/
def State.derived (s : State) (d : DKey) : Option (List Byte) :=
  (s.parentOf d).map (fun p => kdf p d.spec.1 d.spec.2.1 d.spec.2.2)

/-- A derived key asked for: from the cache, or derived and put into it in place of the one used least recently; hits and
misses are counted (R389). -/
def State.derive (s : State) (d : DKey) : Option (List Byte) × State :=
  match s.parentOf d with
  | none => (none, s)
  | some p =>
    match s.cache.find? (fun c => c.name == d) with
    | some c =>
      (some c.sh.key, { s with cache := c :: s.cache.filter (fun x => x.name != d) }.inc keyCachecnt_hits)
    | none =>
      let key := kdf p d.spec.1 d.spec.2.1 d.spec.2.2
      let (m, t) := s.drawBytes key.length
      (some key, { t with cache := (({ name := d, sh := Shares.split key m } : CacheKey) :: t.cache).take 32 }.inc keyCachecnt_misses)

/-- The slot that a derived key comes from. -/
def DKey.slotOf : DKey → Option Nat
  | .poll n | .token n _ | .release n => some n
  | _ => none

/-- A derived key that a root or a slot's KEK gives. -/
def DKey.ofRoot (owner : Bool) : DKey → Bool
  | .lifecycle => !owner
  | .kek n => decide (n < 16) != owner
  | .ownerImage => owner
  | .poll n | .token n _ | .release n => decide (n < 16) != owner
  | .array => false

/-- The cache without the keys that `p` picks. -/
def State.uncache (s : State) (p : DKey → Bool) : State := { s with cache := s.cache.filter (fun c => !p c.name) }

/-- A key of the poll or of a token as the UWB baseband holds it: loaded whenever it changes, so that it needs no
derivation here and no key-store RAM (R412). -/
def State.baseKey (s : State) (n : Nat) (d : DKey) : Option (List Byte) :=
  match (s.ka.slot n).live with
  | some r => if bitOf r.usage 2 = true ∧ s.otp.lc ≠ 0 then some (kdf r.key d.spec.1 d.spec.2.1 d.spec.2.2) else none
  | none => none

/-- The key arrays need the array key: one use of it for each record read or written (R386; log 26). -/
def State.useArray (s : State) : State := (s.derive .array).2

/-- The index of a staged key. -/
def State.stagedOf (s : State) (n : Nat) : Option Staged := s.staged.find? (fun x => x.slot == n)

/-- Every staged key is discarded, and a commit that is under way stops (R396). -/
def State.unstage (s : State) : State := { s with staged := [], keyWrite := none }

end Sys2Proof.Machine
end

