-- ==== Sys2Proof/Machine/Hub.lean ====
section
/-! DEFINITION. The event hub, completions and rings, pool accounting and quotas (spec/16; spec/04,
R78, R88; spec/05, R99 to R113). -/

namespace Sys2Proof.Machine

/-! ### Sizes (spec/05, R105) -/

/-- Records of a completion group. -/
def Compl.recs (c : Compl) : Nat := 1 + c.cont.length / 4
/-- Records of an event group. -/
def EvRec.recs (e : EvRec) : Nat := 1 + e.cont.length / 4

/-- The opcode of a command; 0 for a row that is no opcode (spec/04, R80). -/
def opcOf : Instr → Nat
  | .nop .. => 0x00 | .barrier .. => 0x01 | .abort .. => 0x02 | .getStatus .. => 0x03 | .getInfo .. => 0x04
  | .limpRelease .. => 0x05 | .limpMapProgram .. => 0x06 | .sysReset .. => 0x07 | .ownGrant .. => 0x08
  | .ownRelease .. => 0x09 | .quotaSet .. => 0x0A | .hcClose .. => 0x0B
  | .chOn .. => 0x10 | .chOff .. => 0x11 | .chSetDuty .. => 0x12 | .chPulse .. => 0x13 | .chStartProfile .. => 0x14
  | .chConfig .. => 0x15 | .chStatus .. => 0x16 | .chClearLatch .. => 0x17 | .chDisable .. => 0x18
  | .chFollowLh .. => 0x19 | .bankBase .. => 0x1A | .motorTarget .. => 0x1B | .motorStop .. => 0x1C
  | .axisConfig .. => 0x20 | .axisWrite .. => 0x21 | .axisRead .. => 0x22 | .axisPublish .. => 0x23 | .spkArm .. => 0x24
  | .spkCancel .. => 0x25 | .spkRead .. => 0x26 | .leadRead .. => 0x27 | .leadSet .. => 0x28 | .timeRead .. => 0x29
  | .canConfig .. => 0x30 | .canState .. => 0x31 | .canTx .. => 0x32 | .canFilter .. => 0x33 | .canRxPull .. => 0x34
  | .canRxAck .. => 0x35 | .flowAdd .. => 0x36 | .flowRemove .. => 0x37 | .ethConfig .. => 0x38 | .netStats .. => 0x39
  | .ridgeState .. => 0x3A
  | .evtClassSet .. => 0x40 | .evtGdis .. => 0x41 | .hostSleep .. => 0x42 | .faultRead .. => 0x43 | .faultHandled .. => 0x44
  | .faultClear .. => 0x45 | .faultReaction .. => 0x46
  | .keyRootWrite .. => 0x50 | .keyStage .. => 0x51 | .keyVerify .. => 0x52 | .keyCommit .. => 0x53 | .keyChallenge .. => 0x54
  | .lifecycleSet .. => 0x55 | .immEnroll .. => 0x56 | .immRevoke .. => 0x57 | .immState .. => 0x58
  | .updateBegin .. => 0x60 | .updateData .. => 0x61 | .updateEnd .. => 0x62 | .updateConfirm .. => 0x63
  | .updateStatus .. => 0x64 | .updateCancel .. => 0x65 | .configBegin .. => 0x66 | .configData .. => 0x67 | .configEnd .. => 0x68
  | .domainSet .. => 0x70 | .wakeConfig .. => 0x71 | .nmConfig .. => 0x72 | .pwrStatus .. => 0x73
  | .swinConfig .. => 0x80 | .swinRead .. => 0x81 | .analogRead .. => 0x82 | .fieldOut .. => 0x83 | .fieldRead .. => 0x84
  | .fieldConfig .. => 0x85
  | .regRead .. => 0xE0 | .regWrite .. => 0xE1 | .regModify .. => 0xE2
  | _ => 0

/-- The packet header a command carries, if it is an opcode. -/
def hdrOf : Instr → Option Hdr
  | .nop h | .barrier h | .abort h _ | .getStatus h | .getInfo h | .limpRelease h | .limpMapProgram h _ _ _
  | .sysReset h _ | .ownGrant h _ _ _ _ | .ownRelease h _ _ _ | .quotaSet h _ _ _ | .hcClose h _
  | .chOn h _ | .chOff h _ | .chSetDuty h _ _ _ _ | .chPulse h _ _ | .chStartProfile h _ _ _ | .chConfig h _ _
  | .chStatus h _ | .chClearLatch h _ | .chDisable h _ | .chFollowLh h _ _ _ | .bankBase h _ _
  | .motorTarget h _ _ _ _ | .motorStop h _ _ | .axisConfig h _ _ | .axisWrite h _ _ | .axisRead h _
  | .axisPublish h _ _ | .spkArm h _ _ | .spkCancel h _ _ | .spkRead h _ | .leadRead h _ | .leadSet h _ _
  | .timeRead h | .canConfig h _ _ | .canState h _ _ | .canTx h _ _ _ | .canFilter h _ _ _ _ _ | .canRxPull h _ _
  | .canRxAck h _ _ _ | .flowAdd h _ _ | .flowRemove h _ | .ethConfig h _ _ | .netStats h _ _ | .ridgeState h _
  | .evtClassSet h _ _ _ _ _ | .evtGdis h _ | .hostSleep h _ | .faultRead h _ _ | .faultHandled h _
  | .faultClear h _ _ | .faultReaction h _ _ _ _ _ | .keyRootWrite h _ _ | .keyStage h _ _ | .keyVerify h _ _
  | .keyCommit h _ | .keyChallenge h _ _ | .lifecycleSet h _ _ | .immEnroll h _ _ | .immRevoke h _ | .immState h
  | .updateBegin h _ | .updateData h _ _ | .updateEnd h | .updateConfirm h | .updateStatus h | .updateCancel h
  | .configBegin h _ | .configData h _ _ | .configEnd h | .domainSet h _ _ | .wakeConfig h _ _ | .nmConfig h _ _
  | .pwrStatus h | .swinConfig h _ _ | .swinRead h | .analogRead h _ | .fieldOut h _ _ | .fieldRead h
  | .fieldConfig h _ _ | .regRead h _ _ | .regWrite h _ _ | .regModify h _ _ _ => some h
  | _ => none

/-- Records of the largest completion group of an opcode (spec/04, R75; spec/05, R105). -/
def maxRecs (opc : Nat) : Nat :=
  match opc with
  | 0x04 | 0x10 | 0x11 | 0x16 | 0x29 | 0x52 | 0x54 | 0x58 | 0x73 | 0x81 => 2
  | 0x22 | 0x26 | 0x27 | 0x39 | 0x64 => 3
  | 0x34 | 0x43 | 0xE0 => 16
  | _ => 1

/-- Event records a context holds unacknowledged, pending and in the ring (R105's E). -/
def HostCtx.evHeld (h : HostCtx) : Nat :=
  (h.epend.map (fun t => t.item.recs)).sum + (h.ering.map (fun r => r.item.recs)).sum

/-- Completion records a context holds: pending, waiting for room, and in the ring. -/
def HostCtx.cHeld (h : HostCtx) : Nat :=
  (h.cpend.map (fun t => t.item.recs)).sum + (h.cwait.map Compl.recs).sum + (h.cring.map (fun r => r.item.recs)).sum

/-- Completion records reserved for a context's accepted commands that have not completed, or whose completion is still to be written. -/
def State.reserved (s : State) (n : Nat) : Nat :=
  ((s.hc n).queue.map (fun q => maxRecs (opcOf q.cmd))).sum + ((s.hc n).bad.map (fun b => maxRecs b.opc)).sum +
    ((s.later.filter (fun p => p.1.hc.val == n)).map (fun p => p.2.1.recs)).sum + ((s.jobs.filter (fun j => j.hdr.hc.val == n)).map (fun j => maxRecs (opcOf j.cmd))).sum

/-- R105's U: completion records reserved or held. -/
def State.complRecs (s : State) (n : Nat) : Nat := s.reserved n + (s.hc n).cHeld

/-- Pool cells charged to a host context (R105). -/
def State.hcCells (s : State) (n : Nat) : Nat :=
  ((s.hc n).queue.map (fun q => q.cells)).sum + ((s.hc n).bad.map (fun b => b.cells)).sum + ceilDiv (s.complRecs n) 16 + ceilDiv (s.hc n).evHeld 16

/-- Pool cells in use (R105). -/
def State.poolUsed (s : State) : Nat :=
  ((List.range 8).map s.hcCells).sum + (s.portCells.map (fun p => p.2)).sum

/-- Free cells, reserve included. -/
def State.poolFree (s : State) : Nat := 6144 - s.poolUsed

/-- Whether the pool has `k` cells for a holder: HC0 may use the reserve of 128. DESIGN CHOICE: after HC0 has taken reserve cells, a
cell that is freed counts for the reserve first (R106; log 97). -/
def State.poolHas (s : State) (isHc0 : Bool) (k : Nat) : Bool :=
  k == 0 || decide (s.poolUsed + k ≤ (if isHc0 then 6144 else 6016))

/-- The state with SYS_POOLSTAT.LOWEST at most the cells now free (spec/05, R119). -/
def State.notePool (s : State) : State :=
  if s.poolFree < s.get sysPoolstat_lowest then s.put sysPoolstat_lowest s.poolFree else s

/-! ### Feed groups and their shares (spec/11, R237, R238) -/

/-- The device's own cluster number (spec/01, R18). -/
def State.ownNumber (s : State) : Nat := s.get rdgCluster_number

/-- Both feed groups map to one board feed from full service on: one S, one U and one line, with group
A's settings (R237). -/
def State.govShared (s : State) : Bool :=
  s.get pwrStart_phase == 3 && s.get (govMap_boardfeed 0) == s.get (govMap_boardfeed 1)

/-- The group that keeps S, U and the line of group `g`: group A's where both share one board feed (R237). -/
def State.govIdx (s : State) (g : Nat) : Nat := if s.govShared then 0 else g

/-- The governor group that keeps a channel's budget. -/
def State.govOf (s : State) (ch : Nat) : Nat := s.govIdx (feedOf ch)

/-- MEMBERS of a group with the device's own bit, which is always set (spec/11, R251). -/
def State.members (s : State) (g : Nat) : Nat := s.get (govMap_members g) ||| 2 ^ s.ownNumber

/-- The group's device draws alone on its board feed, or full service has not come (R237, R238). -/
def State.govAlone (s : State) (g : Nat) : Bool :=
  s.get pwrStart_phase != 3 || s.members g == 2 ^ s.ownNumber

/-- The local share S, 0.1 A (R237). -/
def State.shareOf (s : State) (g : Nat) : Nat := if s.govAlone g then s.get (govBudget_budget g) else (s.grp g).share

/-! ### Quotas (spec/05, R109 to R113) -/

/-- Whether a context is bound: HC0 always, another while HCn_BIND names a transport (R97). -/
def State.bound (s : State) (n : Nat) : Bool := n == 0 || s.get (hcBind_transport n) != 0
/-- Whether a context is closed (R117). -/
def State.closed (s : State) (n : Nat) : Bool := s.flag (hcState_closed n)

/-- How many resources of a kind a context owns. -/
def State.countOwned (s : State) (hc kind count : Nat) : Nat :=
  ((List.range count).filter (fun k => s.owns hc kind k)).length

/-- How many claimed-on-use resources of a kind a context owns. -/
def State.countClaimed (s : State) (hc kind : Nat) : Nat :=
  (s.owners.filter (fun p => p.1 / 0x10000 == kind && p.2 == some hc)).length

/-- The inrush a context's non-SAFETY grants hold on a feed group, 0.1 A (spec/11, R241). -/
def State.hcInrush (s : State) (hc g : Nat) : Nat :=
  ((s.grants.filter (fun x => x.hc == some hc && x.prio != 0 && feedOf x.ch == g)).map (fun x => x.amount)).sum

/-- That inrush as a percentage of the local share S, rounded up; against 0.1 A where S is 0 (R109, R119). -/
def State.inrushUse (s : State) (hc g : Nat) : Nat :=
  let share := s.shareOf (s.govIdx g)
  ceilDiv (s.hcInrush hc g * 100) (share + b2n (share == 0))

/-- Present use of a quota item (R109, R119). -/
def State.quotaUse (s : State) (n item : Nat) : Nat :=
  match item with
  | 0 => s.countOwned n 0 64
  | 1 => s.countClaimed n 2
  | 2 => s.hcCells n
  | 3 => s.inrushUse n 0
  | 4 => s.inrushUse n 1
  | 5 => ((s.hc n).takes.filter (fun t => decide (s.now / 100 < t + 1000))).length
  | 6 => s.countClaimed n 4
  | 7 => s.countClaimed n 5
  | _ => 0

/-- The quota of an item. -/
def State.quota (s : State) (n item : Nat) : Nat := s.get (hcQuota_value n item)

/-- The mask of items whose use exceeds their quota. -/
def State.overMask (s : State) (n : Nat) : Nat :=
  listMask ((List.range 8).filter (fun i => decide (s.quota n i < s.quotaUse n i)))

/-! ### Events (spec/16) -/

/-- The words of an event group in a ring (spec/16, R350). -/
def evWords (r : RingItem EvRec) : List Word :=
  let e := r.item
  word (r.seq.toNat * 0x10000 + e.cls % 32 * 0x800 + b2n (decide (e.cont ≠ [])) * 0x400 + e.src % 0x400) ::
    word (e.code % 256 * 0x1000000 + b2n e.lost * 0x800000 + e.arg % 0x800000) :: e.time :: e.data :: e.cont

/-- The words of a completion group in context `hc`'s ring (spec/04, R78). -/
def complWords (hc : Nat) (r : RingItem Compl) : List Word :=
  let c := r.item
  word (c.opc.toNat * 0x1000000 + c.status.toNat * 0x10000 + c.tag.toNat) ::
    word (r.seq.toNat * 0x10000 + hc % 8 * 0x2000 + b2n c.resync * 0x10 + c.cont.length / 4 % 16) :: c.time :: c.result :: c.cont

/-- The hub's commit of a selected event for one context (R351, R355): dropped and counted where the
store or the pool has no room, else pending with the LOST mark of an earlier drop. -/
def State.commitEv (s : State) (n : Nat) (e : EvRec) : State :=
  let h := s.hc n
  let more := ceilDiv (h.evHeld + e.recs) 16 - ceilDiv h.evHeld 16
  if 256 < h.evHeld + e.recs ∨ ¬ s.poolHas (n == 0) more ∨
      (0 < more ∧ (s.quota n 2 < s.hcCells n + more ∨ s.flag (hcState_overQuota n))) then
    (s.inc (evtStat_lost n)).modHc n (fun h => { h with lost := true })
  else
    (s.modHc n (fun h => { h with epend := h.epend ++ [⟨s.now, { e with lost := h.lost }⟩], lost := false })).notePool

/-- The hub's selection of an event for one context (R351, step 1). -/
def State.selectEv (s : State) (n : Nat) (e : EvRec) : State :=
  if s.get (evtClass_enable n e.cls) = 0 then s.inc (evtStat_masked n) else s.commitEv n e

/-- The contexts of a list that may be offered an event: bound and not closed, each once (R351). -/
def State.offered (s : State) (dest : List Nat) : List Nat := (dest.filter (fun n => s.bound n && !s.closed n)).eraseDups

/-- An event that a context would have had is dropped (R351, R355, R362). -/
def State.dropEv (s : State) (n : Nat) (by_ : Nat := 1) : State := (s.incBy (evtStat_lost n) by_).modHc n (fun h => { h with lost := true })

/-- An event offered to contexts: taken by the hub, or kept in the backlog of 512 while SYS is not
On, with every context that its rule names, since the bindings stand in SYS; one that finds it full is lost to each, and where SYS is Off to each that
its return binds (R351, R358, R362). -/
def State.offer (s : State) (dest : List Nat) (e : EvRec) : State :=
  if s.sysUp && s.domOn Dm.sys then forEach (s.offered dest) (fun n t => t.selectEv n e) s
  else if s.backlog.length < 512 then { s with backlog := s.backlog ++ [(dest, e)] }
  else
    let t := s.inc evtHub_hubdrop
    if (s.dom Dm.sys).st = .off then
      { t with lostFor := dest.eraseDups.foldl (fun m n => Sparse.set (fun _ => 0) m n (Sparse.get (fun _ => 0) m n + 1)) t.lostFor }
    else forEach (s.offered dest) (fun n t => t.dropEv n) t

/-- Event of class `cls` with CODE, SRC, ARG and DATA, stamped now, offered to contexts. -/
def State.post (s : State) (dest : List Nat) (cls code src arg data : Nat) (cont : List Word := []) : State :=
  s.offer dest { cls := cls, src := src, code := code, arg := arg, time := s.time32, data := word data, cont := cont }

/-- As `post`, with a stamp of its own (R350, TIME of a stamped event). -/
def State.postAt (s : State) (dest : List Nat) (cls code src arg data : Nat) (time : Word) (cont : List Word := []) : State :=
  s.offer dest { cls := cls, src := src, code := code, arg := arg, time := time, data := word data, cont := cont }

/-- The owner of a resource as a list of contexts to offer an event to. -/
def State.ownerList (s : State) (kind idx : Nat) : List Nat := (s.owner kind idx).toList

/-- The contexts that hold the SYS block: HC0 and its grantee. -/
def State.sysHolders (s : State) : List Nat := 0 :: s.ownerList 0x0A 0

/-- The backlog committed in the order the events occurred, when SYS is back, with LOST for those that it could not hold (R351, R358). -/
def State.drainBacklog (s : State) : State :=
  let t := forEach (s.offered (List.range 8)) (fun n t =>
    let k := Sparse.get (fun _ => 0) s.lostFor n
    if k = 0 then t else t.dropEv n k) s
  s.backlog.foldl (fun t p => forEach (t.offered p.1) (fun n u => u.selectEv n p.2) t) { t with backlog := [], lostFor := [] }

/-! ### OVER_QUOTA (spec/05, R112) -/

/-- Entry to and exit from OVER_QUOTA for a context, with their events. `setting` is the item that a QUOTA_SET writes: a context enters
where that item's use exceeds its new value, and at no other moment. -/
def State.recheckQuota (s : State) (setting : Option Nat) (n : Nat) : State :=
  let m := s.overMask n
  if m = 0 ∧ s.flag (hcState_overQuota n) then
    (s.putB (hcState_overQuota n) false).post [n, 0] 2 0x02 n 0 0
  else if setting.any m.testBit = true ∧ ¬ s.flag (hcState_overQuota n) then
    (s.putB (hcState_overQuota n) true).post [n, 0] 2 0x01 n m 0
  else s

/-- OVER_QUOTA exits looked for in every context (R112). -/
def State.recheckAll (s : State) : State := forEach (List.range 8) (fun n t => t.recheckQuota none n) s

/-! ### Scree messages (spec/17, R363, R364) -/

/-- A fault message. -/
def faultMsg (src kind detail : Nat) : Word := word (src * 0x400000 + kind % 64 * 0x10000 + detail % 0x10000)

/-- A fault posted by its source: Scree takes the message at its FAULT_REPORT step (R364; log 7). -/
def State.fault (s : State) (src kind detail : Nat) : State := { s with inbox := s.inbox ++ [faultMsg src kind detail] }

/-- A channel fault: SRC and DETAIL [5:0] name the channel. -/
def State.chFault (s : State) (ch kind : Nat) (more : Nat := 0) : State := s.fault ch kind (ch + more)

/-- A 64 KB flash block, under bits [22:8] of its address, or a key-array sector, under 0x8000 and up, is erased: counted, and FLASH_ECC
with the block address at the endurance figure (spec/20, R453; log 101). -/
def State.erase (s : State) (k : Nat) : State :=
  let n := Sparse.get (fun _ => 0) s.erases k + 1
  let t : State := { s with erases := Sparse.set (fun _ => 0) s.erases k n }
  if n = 100000 then t.fault 0x80 0x1F (k % 0x8000) else t

/-- The sectors of the key array in use that hold records are erased, each once. Records 0 to 63 are the slots, 64 and 65 the roots MFR and
OWNER, 66 to 73 the enrolments, and 74 the release counter; those of the debug array stand 128 higher (log 101). -/
def State.eraseKeys (s : State) (records : List Nat) : State :=
  forEach ((records.map (fun r => Config.keySector (r + 128 * b2n s.dbgArr.isSome) % 0x8000)).eraseDups) (fun k t => t.erase (0x8000 + k)) s

/-- A record of the key array is written: its sector is erased. -/
def State.eraseKey (s : State) (record : Nat) : State := s.eraseKeys [record]

end Sys2Proof.Machine
end

