-- ==== Sys2Proof/Machine/CanLow.lean ====
section
/-! DEFINITION. CAN frames and their words, a port's state, error counters and stamps, the receive queues and filter pairs, and
what a frame of the port's own does at its end (spec/13, R277, R281 to R288). -/

namespace Sys2Proof.Machine

/-! ### Frames (R287) -/

/-- Entry word 0: IDE, FMT and the identifier. -/
def frameWord0 (f : CanFrame) : Nat := b2n (f.ext && f.fmt != 2) * 0x80000000 + f.fmt % 4 * 0x20000000 + f.ident % 0x20000000

/-- Entry word 1; a bit or field that the frame's format does not have is 0. -/
def frameWord1 (f : CanFrame) : Nat :=
  let xl := f.fmt == 2
  f.data.length % 4096 * 0x100000 + b2n (f.fmt == 1 && f.brs) * 0x80000 + b2n (f.fmt != 0 && f.esi) * 0x40000 +
    b2n (f.fmt == 0 && f.rtr) * 0x20000 + b2n (xl && f.sec) * 0x10000 + (if xl then f.sdt.toNat * 0x100 + f.vcid.toNat else 0)

/-- Bytes padded with zeros to a whole number of `k`. -/
def padTo (k : Nat) (b : List Byte) : List Byte := b ++ List.replicate ((k - b.length % k) % k) 0

/-- The words of a receive entry: header, then data, MSB first. -/
def RxEntry.words (e : RxEntry) : List Word :=
  word (frameWord0 e.frame) :: word (frameWord1 e.frame) :: (if e.frame.fmt = 2 then e.frame.af else 0) :: e.time :: wordsOf (padTo 4 e.frame.data)

/-- Bytes of an entry in the pool: 16 header bytes and the data rounded up to 16 (spec/05, R105). -/
def RxEntry.bytes (e : RxEntry) : Nat := 16 + 16 * ceilDiv e.frame.data.length 16

/-- A frame matches a pattern under a mask in the layout of entry word 0. -/
def frameMatches (f : CanFrame) (pattern mask : Nat) : Bool := ((frameWord0 f ^^^ pattern) &&& mask) == 0

/-! ### The port's record and what it allows (R278) -/

/-- A field of port `n`'s record. -/
def State.canf (s : State) (n k hi lo : Nat) : Nat := bits (s.rd (canCfg_word n k).addr).toNat hi lo
/-- A frame format that MODE allows. -/
def State.canAllows (s : State) (n fmt : Nat) : Bool :=
  match s.canf n 0 31 30 with
  | 0 => fmt == 0
  | 1 => decide (fmt ≤ 1)
  | 2 => decide (fmt ≤ 2)
  | _ => fmt == 2

/-! ### Port state and errors (R277, R282) -/

/-- The state a port is in: LISTEN_ONLY while Scree isolates it (spec/17, R372). -/
def State.canSt (s : State) (n : Nat) : Nat := if s.isolated (0x48 + n) then 1 else s.get (canState_state n)

/-- The port sends: its domain On, NORMAL, not in bus-off. -/
def State.canSends (s : State) (n : Nat) : Bool := s.domOn (Dm.can n) && s.canSt n == 0 && s.get (canState_errstate n) != 2
/-- The port receives. -/
def State.canHears (s : State) (n : Nat) : Bool := s.domOn (Dm.can n) && decide (s.canSt n ≤ 1) && s.get (canState_errstate n) != 2

/-- The error counters set; a change of error state posts CAN_ERRSTATE (R282). -/
def State.canErr (s : State) (n tec rec_ st : Nat) : State :=
  let old := s.get (canState_errstate n)
  let t := ((s.put (canState_tec n) (satTo 511 tec)).put (canState_rec n) (satTo 255 rec_)).put (canState_errstate n) st
  if old = st then t else t.post (t.ownerList 3 n) 16 0x01 n st (satTo 511 tec * 0x10000 + satTo 255 rec_)

/-- The error state of counters, bus-off apart. -/
def errOf (tec rec_ : Nat) : Nat := if 128 ≤ tec ∨ 128 ≤ rec_ then 1 else 0

/-- The stamp of a frame whose SOF sample point lies `age` ticks back (R288). -/
def State.sofTime (s : State) (age : Nat) : Nat := s.devTime - age

/-- The stamp of a port's latest frame held. -/
def State.setSof (s : State) (n tm : Nat) : State :=
  (s.put (canSoflo_time n) (tm % 2 ^ 32)).put (canSofhi_time n) (tm / 2 ^ 32)

/-- The port measures the loop delay of a frame that it sends: TDC is on, and the frame has an FDF-to-res edge or an ADS sequence (R281). -/
def State.tdcOn (s : State) (n : Nat) (f : CanFrame) : Bool :=
  (f.fmt == 1 && s.canf n 2 3 3 == 1) || (f.fmt == 2 && s.canf n 3 3 3 == 1)

/-- A measured loop delay recorded (R281). -/
def State.noteTdc (s : State) (n : Nat) (f : CanFrame) (delay : Nat) : State :=
  if s.tdcOn n f then
    let t := s.put (canTdc_delay n) (satTo 255 delay)
    if 127 < delay then t.inc (canTdc_over n) else t
  else s

/-! ### Receive queues (R284 to R286) -/

/-- A receive queue. -/
def State.rxq (s : State) (n q : Nat) : List RxEntry := if q = 0 then (s.port n).rxA else (s.port n).rxB

/-- A receive queue replaced, and the pool charged for it (spec/05, R105). -/
def State.setRxq (s : State) (n q : Nat) (l : List RxEntry) : State :=
  let t := s.modPort n (fun p => if q = 0 then { p with rxA := l } else { p with rxB := l })
  { t with portCells := Sparse.set (fun _ => 0) t.portCells (2 * n + q) (ceilDiv ((l.map RxEntry.bytes).sum) 256) }

/-- The frame stored in its queue, or dropped for quota or pool (R285). -/
def State.storeRx (s : State) (n k : Nat) (p : Pair) (f : CanFrame) (tm : Nat) : State :=
  let q := p.queue
  let owner := (s.owner 4 k).getD 0
  let e : RxEntry := { pair := k, owner := owner, frame := f, time := word tm, drop := if q = 0 then (s.port n).dropA else (s.port n).dropB }
  let l := s.rxq n q ++ [e]
  let now_ := Sparse.get (fun _ => 0) s.portCells (2 * n + q)
  let cells := ceilDiv ((l.map RxEntry.bytes).sum) 256
  let quota := if q = 0 then s.get (sysPortq_qa n) else s.get (sysPortq_qb n)
  if quota < cells ∨ s.poolHas false (cells - now_) = false then
    let told := if q = 0 then (s.port n).toldA else (s.port n).toldB
    let t := s.inc (if q = 0 then canRxdrop_dropA n else canRxdrop_dropB n)
    let t := t.modPort n (fun p => if q = 0 then { p with dropA := true, toldA := true } else { p with dropB := true, toldB := true })
    if told then t else t.post (t.ownerList 3 n) 16 0x02 n q 0
  else
    let t := (s.setRxq n q l).modPort n (fun p => if q = 0 then { p with dropA := false, toldA := false } else { p with dropB := false, toldB := false })
    ((t.inc (canRxstat_stored n)).notePool).postAt [owner] 15 0x01 n (q + 2 * k) 0 (word tm)

/-- Filter pair `k`. -/
def State.pair (s : State) (k : Nat) : Pair := Sparse.get (fun _ => {}) s.pairs k

/-- The claimed filter pairs, rising. -/
def State.pairList (s : State) : List Nat :=
  s.owners.filterMap (fun p => if p.1 / 0x10000 = 4 ∧ p.2.isSome = true then some (p.1 % 0x10000) else none)

/-- The lowest-numbered pair in use on a port that a frame matches; the port's own frames only where OWN is set (R284). -/
def State.pairFor (s : State) (n : Nat) (f : CanFrame) (own : Bool) : Option (Nat × Pair) :=
  ((s.pairList.map (fun k => (k, s.pair k))).find? (fun p => p.2.port == n && frameMatches f p.2.pattern.toNat p.2.mask.toNat &&
    (!own || (bitOf p.2.pattern.toNat 28 && !bitOf p.2.mask.toNat 28))))

/-! ### The port's own frames (R283, R288) -/

/-- A frame of the port's own at its EOF: it is stamped and leaves on the bus, the error counter falls, a measured loop delay is recorded, and
the frame is offered to the filter pairs that take own frames (R281 to R284, R288). -/
def State.frameSent (s : State) (n : Nat) (f : CanFrame) (tm delay : Nat) : State :=
  let t := (s.setSof n tm).emit (.can n f)
  let tec := t.get (canState_tec n) - 1
  let r := t.get (canState_rec n)
  let t := (t.canErr n tec r (errOf tec r)).noteTdc n f delay
  match t.pairFor n f true with
  | some (k, p) => t.storeRx n k p f tm
  | none => t.inc (canRxstat_nomatch n)

/-- A frame of a command flow is sent: one of a format that MODE allows, by a port that sends; its loop delay is left open (R276, R281; log
19). -/
def State.flowFrame (s : State) (n : Nat) (f : CanFrame) : State :=
  if s.canSends n = true ∧ s.canAllows n f.fmt = true then
    if s.tdcOn n f then
      let (x, t) := s.drawNat
      t.frameSent n f t.devTime (x % 128)
    else s.frameSent n f s.devTime 0
  else s

end Sys2Proof.Machine
end

