-- ==== Sys2Proof/Machine/Rings.lean ====
section
/-! DEFINITION. Completion and event rings, the records and messages a context is sent, and completions (spec/04, R78, R88,
R91 to R95; spec/05, R100; spec/16, R353 to R361). -/

namespace Sys2Proof.Machine

/-! ### Rings and records (spec/04, R91 to R93; spec/05, R100; spec/16, R353, R354) -/

/-- Released groups enter the completion ring, in order, while it has room for the whole group of
at most 128 records (R100). -/
def enterRing (now : Nat) : List Compl → List (RingItem Compl) → Half → List Compl × List (RingItem Compl) × Half
  | [], ring, seq => ([], ring, seq)
  | c :: rest, ring, seq =>
    if (ring.map (fun r => r.item.recs)).sum + c.recs ≤ 128 then
      enterRing now rest (ring ++ [{ seq := seq, sentAt := now, item := c }]) (seq + 1)
    else (c :: rest, ring, seq)

/-- The completion ring filled from the completions that wait for room (R100). -/
def State.fillRing (s : State) (n : Nat) : State :=
  s.modHc n (fun h =>
    let (w, r, q) := enterRing s.now h.cwait h.cring h.cseq
    { h with cwait := w, cring := r, cseq := q })

/-- The tag of a message the block sends on an authenticated flow: the flow's own counter and the
first eight bytes of the CMAC over message and counter (R95). The key is that of the working slot,
which the caller gives. -/
def macOf (key : List Byte) (msg : List Byte) (counter : Word) : Dword :=
  BitVec.ofNat 64 (beNat ((Config.aesCmac key (msg ++ beBytes 4 counter.toNat)).take 8))

/-- Bytes cut into runs of at most `size`; `k` bounds the runs. -/
def cutRuns (size : Nat) : Nat → List Byte → List (List Byte)
  | 0, _ => []
  | k + 1, b => if b.length ≤ size then [b] else b.take size :: cutRuns size k (b.drop size)

/-- The least length that a CAN frame of a format can have for `n` bytes. -/
def canFit (fmt n : Nat) : Nat :=
  if fmt = 1 then ([12, 16, 20, 24, 32, 48, 64].find? (fun k => decide (8 < n) && decide (n ≤ k))).getD n else n

/-- The CAN frames that carry a message on a response identifier: each with KIND, FIRST, LAST and SEG, the last padded with zeros
(R92). -/
def canSegments (ident : Word) (kind : Nat) (msg : List Byte) : List CanFrame :=
  let fmt := bits ident.toNat 30 29
  let runs := cutRuns (if fmt = 0 then 7 else if fmt = 1 then 63 else 2047) (msg.length + 1) msg
  runs.zipIdx.map (fun p =>
    let ctl := kind * 64 + b2n (p.2 == 0) * 32 + b2n (p.2 + 1 == runs.length) * 16 + p.2 % 16
    { ident := ident.toNat % 2 ^ 29, ext := bitOf ident.toNat 31, fmt := fmt,
      data := BitVec.ofNat 8 ctl :: p.1 ++ List.replicate (canFit fmt (p.1.length + 1) - (p.1.length + 1)) 0 })

/-- The Ridge link toward a cluster number: the one with fewer hops that is UP, RDG0 among equals. -/
def State.linkTo (s : State) (c : Nat) : Option Nat :=
  let up (l : Nat) : Bool := s.domOn Dm.net && s.get (rdgStat_state l) % 8 == 2
  let hops (l : Nat) : Nat := Sparse.get (fun _ => 0) (s.net (4 + l)).hops c
  if up 0 && (!up 1 || decide (hops 0 ≤ hops 1)) then some 0 else if up 1 then some 1 else none

/-- Frames of a context's messages that wait for their port or link, which sends them as time passes (log 1). -/
def State.queueOut (s : State) (n : Nat) (l : List Sent) : State := s.modHc n (fun h => { h with out := h.out ++ l })

/-- What waits is sent: CAN frames by their port, Ridge frames by their link (R92; spec/14, R315). -/
def State.flowTick (s : State) : State :=
  forEach (List.range 8) (fun n t =>
    let l := (t.hc n).out
    if l = [] then t
    else l.foldl (fun (u : State) x => match x with
      | .can p f => u.flowFrame p f
      | .ridge k f => u.ridgeSend k f
      | _ => u) (t.modHc n (fun h => { h with out := [] }))) s

/-- A message of the block's own goes out on its context's transport: in CAN frames on the response identifier, in one UDP datagram
to the source of the last message accepted, or in Ridge control frames (R92; spec/05, R97; log 19). -/
def State.carry (s : State) (n kind : Nat) (msg : List Byte) : State :=
  let p := s.get (hcBind_port n)
  match s.get (hcBind_transport n) with
  | 2 =>
    s.queueOut n ((canSegments (s.rd (hcAddr2_addr n).addr) kind msg).map (fun f => .can p f))
  | 3 => if s.ipOut = false then s else s.emit (.udp n (s.hc n).reply.1 (s.hc n).reply.2 ([BitVec.ofNat 8 kind, 0] ++ beBytes 2 msg.length ++ msg))
  | 4 =>
    let c := s.get (hcBind_peerCluster n)
    match s.linkTo c with
    | none => s
    | some l =>
      let own := s.get rdgCluster_number
      let runs := cutRuns 256 (msg.length + 6) ([own, n, c, s.get (hcBind_peerHc n), kind].map (BitVec.ofNat 8) ++ msg)
      s.queueOut n (runs.zipIdx.map (fun q => .ridge l {
        ftype := 0x7, src := BitVec.ofNat 2 own, dst := BitVec.ofNat 2 c, bcast := false,
        first := q.2 == 0, last := q.2 + 1 == runs.length, payload := q.1 }))
  | _ => s

/-- The counter and the tag that end a message on an authenticated flow (R95). -/
def macBytes (m : Word × Dword) : List Byte := beBytes 4 m.1.toNat ++ beBytes 8 m.2.toNat

/-- One RECORDS message for each group of a ring that `p` picks, marked delivered and sent now (R91 to R93). -/
def State.sendGroups (s : State) (n : Nat) (key : List Byte) (pc : RingItem Compl → Bool) (pe : RingItem EvRec → Bool) : State :=
  let h := s.hc n
  let msgs := (h.cring.filter pc).map (fun r => (false, (0 : Byte) :: bytesOf (complWords n r))) ++
    (h.ering.filter pe).map (fun r => (true, (1 : Byte) :: bytesOf (evWords r)))
  let auth := s.get (hcBind_auth n) == 1
  let t := msgs.foldl (fun (t : State) m =>
    let c := (t.hc n).txCount + 1
    if auth then
      ((t.emit (.records n m.1 m.2 (some (c, macOf key m.2 c)))).carry n 1 (m.2 ++ macBytes (c, macOf key m.2 c))).modHc n
        (fun h => { h with txCount := c })
    else (t.emit (.records n m.1 m.2 none)).carry n 1 m.2) s
  t.modHc n (fun h => { h with
    cring := h.cring.map (fun r => if pc r then { r with delivered := true, sentAt := s.now } else r),
    ering := h.ering.map (fun r => if pe r then { r with delivered := true, sentAt := s.now } else r) })

/-- Whether a context declared asleep must not be sent records now: no released group of a wake
class waits (R361). -/
def State.asleepQuiet (s : State) (n : Nat) : Bool :=
  s.flag (hcState_sleep n) &&
    !(((s.hc n).ering.any (fun r => s.get (evtClass_wake n r.item.cls) == 1)) ||
      (s.get (evtClass_wake n 0) == 1 && (s.hc n).cring != []))

/-- RECORDS messages for the groups of a transport context not yet sent, or for all that it has not acknowledged (R93, R361). -/
def State.sendNew (s : State) (n : Nat) (key : List Byte) (all : Bool := false) : State :=
  if n = 0 ∨ s.closed n ∨ ¬ s.bound n ∨ s.asleepQuiet n then s
  else s.sendGroups n key (fun r => all || !r.delivered) (fun r => all || !r.delivered)

/-- The working key of a context's authenticated binding: none where its slot is not VALID or lacks usage FLOW (spec/18, R397). -/
def State.flowKey? (s : State) (n : Nat) : Option (List Byte) := s.useKey (s.get (hcBind_keyslot n)) 0
/-- That key, or no bytes. DESIGN CHOICE: with a slot that is not VALID the block tags its own messages under an empty key (R95; log 97). -/
def State.flowKey (s : State) (n : Nat) : List Byte := (s.flowKey? n).getD []

/-- Class `c` of context `n` released: its pending records enter the ring in commit order (R353, R354). The first wake-class group for a
context declared asleep sends every group that it has not acknowledged (R361). -/
def State.releaseClass (s : State) (n c : Nat) : State :=
  let t :=
    if c = 0 then
      (s.modHc n (fun h => { h with
        cwait := h.cwait ++ h.cpend.map (fun x => x.item), cpend := [],
        notifyDue := false, due := h.due.filter (· != 0) })).fillRing n
    else
      s.modHc n (fun h =>
        let out := (h.epend.filter (fun x => x.item.cls == c)).map (fun x => x.item)
        let add := out.zipIdx.map (fun p => ({ seq := h.eseq + BitVec.ofNat 16 p.2, sentAt := s.now, item := p.1 } : RingItem EvRec))
        { h with
          epend := h.epend.filter (fun x => x.item.cls != c), ering := h.ering ++ add,
          eseq := h.eseq + BitVec.ofNat 16 out.length, due := h.due.filter (· != c) })
  t.sendNew n (s.flowKey n) (s.asleepQuiet n)

/-- Pending groups of class `c`: how many, and when the oldest was committed. -/
def HostCtx.pendOf (h : HostCtx) (c : Nat) : Nat × Option Nat :=
  if c = 0 then (h.cpend.length, h.cpend.head?.map (fun x => x.at_))
  else
    let l := h.epend.filter (fun x => x.item.cls == c)
    (l.length, l.head?.map (fun x => x.at_))

/-- Whether class `c` meets COUNT or TIME, or NOTIFY has made class 0 due (R353, R354). -/
def State.classDue (s : State) (n c : Nat) : Bool :=
  let (k, t) := (s.hc n).pendOf c
  match t with
  | none => false
  | some at_ => decide (s.get (evtClass_count n c) ≤ k) || decide (at_ + us (s.get (evtClass_time n c)) ≤ s.now) ||
      (c == 0 && (s.hc n).notifyDue) || decide (c ∈ (s.hc n).due)

/-- Release of a class, unless EVT_GDIS holds it: then it is only marked due (R357). -/
def State.tryRelease (s : State) (n c : Nat) : State :=
  if s.classDue n c then
    if s.flag (evtCtl_gdis n) then s.modHc n (fun h => { h with due := c :: h.due.filter (· != c) })
    else s.releaseClass n c
  else s

/-- A closed context's rings are freed once its last command has completed (R117). -/
def State.freeClosed (s : State) (n : Nat) : State :=
  if s.closed n ∧ (s.hc n).queue = [] ∧ (s.hc n).bad = [] ∧ s.jobs.any (fun j => j.hdr.hc.val == n) = false then
    s.modHc n (fun x => { x with cpend := [], cwait := [], cring := [], epend := [], ering := [] })
  else s

/-- A completion put into class 0 of its context (R354); NOTIFY releases class 0 at once unless
EVT_GDIS holds it. A closed context's completions are never delivered (R117). -/
def State.pushCompl (s : State) (h : Hdr) (c : Compl) : State :=
  let n := h.hc.val
  let t := s.modHc n (fun x => { x with cpend := x.cpend ++ [⟨s.now, c⟩], notifyDue := x.notifyDue || h.notify })
  let t := if h.notify then t.tryRelease n 0 else t
  t.freeClosed n

/-- One completion for a command (R88), with RESULT and continuation as given. While SYS is not running it
is kept and written when SYS returns (spec/03, R64), with the slot it frees then. -/
def State.complete (s : State) (h : Hdr) (opc : Nat) (status : Byte) (result : Nat) (cont : List Word := [])
    (resync : Bool := false) (time : Option Word := none) (slot : Option Nat := none) : State :=
  let c : Compl := {
    opc := BitVec.ofNat 8 opc, status := status, tag := h.tag, resync := resync,
    time := time.getD s.time32, result := word result, cont := cont }
  if s.sysUp ∧ s.domOn Dm.sys = true then s.pushCompl h c
  else { s with later := s.later ++ [(h, c, slot)] }

end Sys2Proof.Machine
end

