-- ==== Sys2Proof/Machine/Jobs.lean ====
section
/-! DEFINITION. Jobs: the dispatched commands that have not completed, and how they end (spec/04, R84, R88). -/

namespace Sys2Proof.Machine

/-- The state with a new job for a dispatched command, and the job's name. -/
def State.addJob (s : State) (h : Hdr) (i : Instr) (wait : Nat := 0) : Nat × State :=
  let (n, t) := s.fresh
  (n, { t with jobs := t.jobs ++ [{ id := n, hdr := h, cmd := i, no := s.issuing, wait := wait }] })

/-- The job of a name. -/
def State.job (s : State) (n : Nat) : Option Job := s.jobs.find? (fun j => j.id == n)

/-- The state with a job changed. -/
def State.modJob (s : State) (n : Nat) (f : Job → Job) : State :=
  { s with jobs := s.jobs.map (fun j => if j.id == n then f j else j) }

/-- A UDS response can leave the device: over IP where UPD_UDS.ETH is 1, else over its CAN port in NORMAL (spec/02, R30; spec/19, R440). -/
def State.udsOut (s : State) : Bool :=
  if s.flag updUds_eth then s.ipOut
  else
    let p := s.get updUds_port
    s.canSends p && s.canAllows p 0

/-- A UDS response sent. -/
def State.udsSend (s : State) (b : List Byte) : State := if s.udsOut then s.emit (.uds b) else s

/-- The negative response code of a status (spec/19, R440). -/
def udsNrc (sid : Byte) (st : Byte) : Byte :=
  if st = St.busy ∨ st = St.overQuota then 0x21
  else if st = St.badParam then 0x31
  else if st = St.notOwner then 0x33
  else if st = St.authFail ∧ sid = 0x37 then 0x72
  else 0x22

/-- The answer to a UDS request: 0x78 first where it was not ready within 40 ms of the request; that to a TransferData is kept, for a
repeat of its counter (spec/19, R440). -/
def State.udsAnswer (s : State) (ok : List Byte) (since : Nat) (st : Byte) : State :=
  let sid := nth 0 ok 0 - 0x40
  let t := if since + ms 40 < s.now then s.udsSend [0x7F, sid, 0x78] else s
  let r : List Byte := if st = St.ok then ok else [0x7F, sid, udsNrc sid st]
  { t.udsSend r with uds := { t.uds with answer := if sid = 0x36 then r else t.uds.answer } }

/-- A job completed: removed, and its one completion written, or for a UDS request its response sent; then the ABORTs that
waited for it complete, with OK where they won (spec/04, R88, R89). -/
def State.endJob (s : State) (n : Nat) (status : Byte) (result : Nat) (cont : List Word := []) (time : Option Word := none) : State :=
  match s.job n with
  | none => s
  | some j =>
    let t : State := { s with jobs := s.jobs.filter (fun x => x.id != n) }
    let t := match j.uds with
      | some (ok, at_) => t.udsAnswer ok at_ status
      | none => t.complete j.hdr (opcOf j.cmd) status result cont false time
    j.aborts.foldl (fun (u : State) h => u.complete h 0x02 (if status = St.aborted then St.ok else St.tooLate) 0) t

/-- The words of a 64-bit mask followed by zeros to a whole continuation record. -/
def maskCont (m : Nat) : List Word := [word (m / 2 ^ 32), word m, 0, 0]

/-- The progress of a command over a set of channels: when nothing is awaited any more, it completes
with the status of the lowest channel that failed and the number and mask done (R84). -/
def State.settle (s : State) (n : Nat) : State :=
  match s.job n with
  | none => s
  | some j =>
    if j.wait = 0 then
      s.endJob n (match j.fail with | some p => p.2 | none => St.ok) (maskList 64 j.done).length (maskCont j.done) j.firstAt
    else s

/-- The fail record with one more failed item: the lowest-numbered stands (R84). -/
def worse (f : Option (Nat × Byte)) (k : Nat) (st : Byte) : Option (Nat × Byte) :=
  match f with
  | none => some (k, st)
  | some p => if k < p.1 then some (k, st) else some p

/-- The commit of a job's first resource is stamped (R87). -/
def Job.stamp (j : Job) (now : Word) : Job := { j with firstAt := some (j.firstAt.getD now) }

/-- Channel `c` of a job has been switched: it leaves the awaited mask and joins the done mask. -/
def State.jobDone (s : State) (n c : Nat) : State :=
  (s.modJob n (fun j => { (j.stamp s.time32) with wait := j.wait &&& (2 ^ 64 - 1 - 2 ^ c), done := j.done ||| 2 ^ c })).settle n

/-- Channel `c` of a job has succeeded without being switched: committed with no edge, or on already. -/
def State.jobSkip (s : State) (n c : Nat) : State :=
  (s.modJob n (fun j => { (j.stamp s.time32) with wait := j.wait &&& (2 ^ 64 - 1 - 2 ^ c), count := j.count + 1 })).settle n

/-- Channel `c` of a job has failed. -/
def State.jobFail (s : State) (n c : Nat) (st : Byte) : State :=
  (s.modJob n (fun j => { j with wait := j.wait &&& (2 ^ 64 - 1 - 2 ^ c), fail := worse j.fail c st })).settle n

end Sys2Proof.Machine
end

