-- ==== Sys2Proof/Machine/DomOps.lean ====
section
/-! DEFINITION. Power domains: which needs which, and how a domain is asked to be On, also where a sleep is in
progress (spec/15, R320 to R333). -/

namespace Sys2Proof.Machine

/-- The domain that a domain needs On; AON needs none (R320). -/
def domParent (d : Nat) : Option Nat :=
  if d = 0 then none
  else if d = 1 ∨ d = 2 ∨ d = 4 ∨ d = 23 then some 0
  else if d = 6 ∨ d = 7 then some 5
  else some 4

/-- The domains that a domain needs, directly or in turn, the outermost first; AON left out. -/
def domChain (d : Nat) : List Nat :=
  match domParent d with
  | none => []
  | some 0 => []
  | some 5 => [4, 5]
  | some p => [p]

/-- A domain whose return from Off needs SYS, which writes its CFG values and loads its code: all but SYS itself and SBI, whose return
R343 bounds (R322; log 74). -/
def domNeedsSys (d : Nat) : Bool := d == 1 || (decide (4 ≤ d) && decide (d < 24))

/-- A domain whose exit from Off waits for SYS to be On: all that need it but CRK, which SYS itself needs and whose CFG values are written
once SYS is On (R322; log 74). -/
def domWaitsSys (d : Nat) : Bool := domNeedsSys d && d != 4

/-- A domain is Off, has no image to return by, or has begun its entry to Off (R322, R333). -/
def State.domLost (s : State) (d : Nat) : Bool :=
  let x := s.dom d
  x.st == .off || (x.going == some .on && x.from_ == .off) ||
    (x.st == .ret && !s.flag (saveDom_valid d) && !(x.going == some .ret && x.from_ != .off))

/-- What bringing a domain On brings On: what it needs, SYS where its code and configuration must be loaded, and
the domain itself, in that order (R322, R323, R331). -/
def State.bringSet (s : State) (d : Nat) : List Nat :=
  let c := domChain d ++ [d]
  ((if c.any (fun k => domNeedsSys k && s.domLost k) then [4, 3] else []) ++ c).eraseDups

/-- A DOMAIN_SET to Retention or Off. -/
def isSleep (i : Instr) : Bool :=
  match i with
  | .domainSet _ _ st => st != 0
  | _ => false

/-- The state that a DOMAIN_SET asks for, if it is Retention or Off. -/
def sleepState (i : Instr) : Option DomState :=
  match i with
  | .domainSet _ _ st => if st = 1 then some .ret else if st = 2 then some .off else none
  | _ => none

/-- A DOMAIN_SET that awaits nothing more completes with the status of its lowest failed domain and the mask of the
domains that reached the state (R84, R323, R333). -/
def State.settleDom (s : State) (n : Nat) : State :=
  match s.job n with
  | none => s
  | some j =>
    if j.wait = 0 then
      match j.fail with
      | some p => s.endJob n p.2 0 [] j.firstAt
      | none => s.endJob n St.ok j.done [] j.firstAt
    else s

/-- Domain `d` leaves the commands that `p` picks: as done, or failed with BAD_STATE. -/
def State.domOut (s : State) (d : Nat) (p : Job → Bool) (ok : Bool) : State :=
  let ids := (s.jobs.filter (fun j => p j && (match j.cmd with | .domainSet .. => true | _ => false) && j.wait.testBit d)).map (fun j => j.id)
  ids.foldl (fun (t : State) n => (t.modJob n (fun j => { (if ok then j.stamp s.time32 else j) with
    wait := j.wait &&& (2 ^ 24 - 1 - 2 ^ d), done := if ok then j.done ||| 2 ^ d else j.done,
    fail := if ok then j.fail else worse j.fail d St.badState })).settleDom n) s

/-- A domain whose entry has not begun is dropped from the command and stays On; a CAN port waiting for agreement
sends on as awake (R333, R324). -/
def State.dropDom (s : State) (d : Nat) : State :=
  let t := s.modDom d (fun x => { x with going := none, begun := false })
  let t := if 8 ≤ d ∧ d < 14 then t.modPort (d - 8) (fun p => { p with nmSt := 0, nmSentReady := false }) else t
  t.domOut d (fun j => isSleep j.cmd) false

/-- One domain is to be On: a sleeping one begins its way back, one whose entry has begun comes back when it ends, one
whose entry has not begun is dropped from the command (R331, R333). -/
def State.askDom (s : State) (d : Nat) : State :=
  let x := s.dom d
  let back (t : State) : State :=
    if (t.dom d).st = .on then t else t.modDom d (fun y => { y with going := some .on, begun := false, from_ := if t.domLost d then .off else y.st })
  match x.going with
  | some .on => s.modDom d (fun x => { x with next := none })
  | some _ => if x.begun then s.modDom d (fun x => { x with next := some .on }) else back (s.dropDom d)
  | none => back s

/-- The exit of a domain begins once what it needs is On, and from Off once SYS is On too (R322). -/
def State.exitReady (s : State) (d : Nat) : Bool :=
  (s.dom d).going == some .on && !(s.dom d).begun && (domChain d).all (fun k => s.domOn k && (s.dom k).going.isNone) &&
    (!domWaitsSys d || (s.dom d).from_ != .off || s.domOn Dm.sys)

/-- Every exit that may begin begins. -/
def State.kickExits (s : State) : State :=
  forEach (List.range 24) (fun d t => if t.exitReady d then t.modDom d (fun x => { x with begun := true }) else t) s

/-- A domain, and all that it needs, asked to be On (R322, R323). -/
def State.askOn (s : State) (d : Nat) : State := (forEach (s.bringSet d) (fun k t => t.askDom k) s).kickExits

end Sys2Proof.Machine
end

