-- ==== Sys2Proof/Machine/Issue.lean ====
section
/-! DEFINITION. How an accepted command is held, dispatched, gated and answered (spec/04, R82 to
R89; spec/03, R50; spec/05, R114). -/

namespace Sys2Proof.Machine

/-! ### Ordering resources (spec/04, R83) -/

/-- Resources that commands order against. -/
inductive Res where
  | chan (n : Nat) | axis (n : Nat) | slot (n : Nat) | txq (port q : Nat) | port (n : Nat) | netPort (n : Nat)
  | flows | pair (n : Nat) | events | kind (k : Nat) | key (s : Nat) | token (t : Nat) | device | wake (c : Nat)
  | firmware | config | domain (d : Nat) | input (n : Nat) | fieldOut (n : Nat) | reg (block : Nat)
  deriving DecidableEq, Repr

/-- Whether channel `n` works in a bridge: the BRIDGE bit of the pair's even channel (spec/06, R127). -/
def State.bridged (s : State) (n : Nat) : Bool :=
  decide (48 ≤ n) && bitOf (s.rd (0x50000 + (n / 2 * 2) * 0x100)).toNat 30

/-- The channels of a bridge, or the channel alone (R83). -/
def State.pairOf (s : State) (n : Nat) : List Nat := if s.bridged n then [n / 2 * 2, n / 2 * 2 + 1] else [n]

/-- The channel resources of a mask of channels. -/
def State.chanRes (s : State) (m : Nat) : List Res := ((maskList 64 m).flatMap s.pairOf).map Res.chan

/-- The resources numbered below `n`. -/
def resAll (f : Nat → Res) (n : Nat) : List Res := (List.range n).map f

/-- The resources that a register belongs to: those that basic commands order against (R83, expert window; spec/01, R14, R15). -/
def regRes (a : Nat) (r : RegAt) : List Res :=
  let n := r.i
  match r.kind with
  | .bankPwm | .bankArrival => [.chan (8 * n + r.j)]
  | .bankMotor | .bankPinch => [.chan (8 * n + 2 * r.j), .chan (8 * n + 2 * r.j + 1)]
  | .spkLead | .spkLeadstat => [.chan n]
  | .spkSlot => [.slot n]
  | .screeKind | .screeQuiet => [.kind n]
  | .swinCfg => [.input n]
  | .ainCfg => [.input (64 + n)]
  | .swinState | .swinChg => (List.range 32).map (fun k => Res.input (32 * n + k))
  | .ana => [.input (if n < 40 then n else n + 24)]
  | .fqCfg => [.fieldOut n]
  | .fiCfg => [.fieldOut (16 + n)]
  | .netFlowstat | .flowInfo | .flowCnt => [.flows]
  | .phyCfg | .phyStat | .phyDrop => [.netPort n]
  | .rdgCfg | .rdgStat | .rdgErr => [.netPort (4 + n)]
  | .rdgCluster => [.netPort 4, .netPort 5]
  | .pwrNm | .pwrNmstat | .pwrFw => [.domain (Dm.can n)]
  | .pwrWakecfg => [.wake n]
  | .saveDom => [.domain n]
  | .keySlot | .keySlotver => [.key n]
  | .keyLc | .keyDevid => [.device]
  | .immTok => [.token n]
  | .updFwstat | .updNext | .updTrial | .updVer => [.firmware]
  | .updCfgstat | .updCfgnext | .updCfgver | .updCfgcrc => [.config]
  | _ =>
    if a < 0x18000 then [.device]
    else if a < 0x30000 then [.events]
    else if a < 0x40000 then resAll .kind 64
    else if a < 0x50000 then (List.range 8).map (fun k => Res.chan (8 * n + k))
    else if a < 0x60000 then [.chan n]
    else if a < 0x60800 then [.axis n]
    else if a < 0x68000 then resAll .axis 8
    else if a < 0x70000 then [.reg 0x0D]
    else if a < 0x80000 then [.device]
    else if a < 0x88000 then resAll .input 68
    else if a < 0x90000 then resAll .fieldOut 32
    else if a < 0xA0000 then [.port n]
    else if a < 0xB0000 then resAll .netPort 6
    else if a < 0xC0000 then [.netPort n]
    else if a < 0xD0000 then resAll .domain 24
    else if a < 0xD8000 then resAll .key 64
    else if a < 0xE0000 then resAll .token 8
    else if a < 0xF0000 then [.firmware, .config]
    else resAll .wake 0x18

/-- The resources that own an address (R83, expert window). -/
def addrRes (a : Nat) : List Res :=
  match regAt a with
  | some (_, r) => regRes a r
  | none => []

/-- The resources a command names (R83). DESIGN CHOICE where the table names none of its operands: KEY_ROOT_WRITE orders against the device,
WAKE_CONFIG against its wake source, NM_CONFIG against its port's domain (log 112). -/
def State.resOf (s : State) (i : Instr) : List Res :=
  match i with
  | .chOn _ m | .chOff _ m | .chClearLatch _ m | .chDisable _ m => s.chanRes m.toNat
  | .chSetDuty _ c _ _ _ | .chPulse _ c _ | .chStartProfile _ c _ _ | .chConfig _ c _ | .chStatus _ c
  | .chFollowLh _ c _ _ => (s.pairOf c.toNat).map Res.chan
  | .bankBase _ b _ => (List.range 8).map (fun k => Res.chan (8 * b.toNat + k))
  | .motorTarget _ b _ _ _ | .motorStop _ b _ => [.chan (48 + 2 * b.toNat), .chan (49 + 2 * b.toNat)]
  | .axisConfig _ a _ | .axisWrite _ a _ | .axisRead _ a | .axisPublish _ a _ => [.axis a.toNat]
  | .spkArm _ n _ | .spkRead _ n => [.slot n.toNat]
  | .spkCancel _ f c => (List.range (min c.toNat 4096)).map (fun k => Res.slot (f.toNat + k))
  | .leadRead _ c | .leadSet _ c _ => [.chan c.toNat]
  | .canTx _ p q _ => [.txq p.toNat q.toNat]
  | .canConfig _ p _ | .canState _ p _ | .canRxPull _ p _ | .canRxAck _ p _ _ => [.port p.toNat]
  | .canFilter _ k p _ _ _ => [.port p.toNat, .pair k.toNat]
  | .flowAdd .. | .flowRemove .. => [.flows]
  | .ethConfig _ p _ | .netStats _ p _ => [.netPort p.toNat]
  | .ridgeState _ l => [.netPort (4 + l.toNat)]
  | .evtClassSet .. | .evtGdis .. | .hostSleep .. => [.events]
  | .faultHandled _ m => [.kind (bits m.toNat 21 16)]
  | .faultClear _ k _ => if k = 0xFF then resAll .kind 64 else [.kind k.toNat]
  | .faultReaction _ k _ _ _ _ => [.kind k.toNat]
  | .keyRootWrite _ _ _ | .lifecycleSet .. => [.device]
  | .keyStage _ k _ | .keyVerify _ k _ | .keyCommit _ k | .keyChallenge _ k _ => [.key k.toNat]
  | .immEnroll _ t _ | .immRevoke _ t => [.token t.toNat]
  | .updateBegin .. | .updateData .. | .updateEnd .. | .updateConfirm .. | .updateCancel .. => [.firmware]
  | .configBegin .. | .configData .. | .configEnd .. => [.config]
  | .updateStatus .. => [.firmware, .config]
  | .wakeConfig _ c _ => [.wake c.toNat]
  | .domainSet _ m _ => (maskList 24 m.toNat).map Res.domain
  | .nmConfig _ p _ => [.domain (Dm.can p.toNat)]
  | .swinConfig _ n _ | .analogRead _ n => [.input n.toNat]
  | .fieldOut _ m _ => (maskList 16 m.toNat).map Res.fieldOut
  | .fieldConfig _ c _ => [.fieldOut c.toNat]
  | .regRead _ a k => (List.range (min k.toNat 60)).flatMap (fun j => addrRes (a.toNat + 4 * j))
  | .regWrite _ a _ | .regModify _ a _ _ => addrRes a.toNat
  | .nop .. | .barrier .. | .getStatus .. | .getInfo .. | .limpRelease .. | .limpMapProgram .. | .sysReset ..
  | .ownGrant .. | .ownRelease .. | .quotaSet .. | .hcClose .. => [.device]
  | _ => []

/-- The ordering resources of an owned resource; a flow is named by its number (R101). -/
def kindRes (kind i : Nat) : List Res :=
  match kind with
  | 0 => [.chan i] | 1 => [.axis i] | 2 => [.slot i] | 3 => [.port i, .txq i 0, .txq i 1] | 4 => [.pair i] | 6 => [.fieldOut i] | 7 => [.input i]
  | 8 => [.key i] | 9 => [.domain i] | 12 => [.netPort i]
  | _ => []

/-- What a context owns, as kinds and numbers. -/
def State.ownedBy (s : State) (n : Nat) : List (Nat × Nat) :=
  (s.owners.filter (fun p => p.2 == some n)).map (fun p => (p.1 / 0x10000, p.1 % 0x10000))

/-- Commands of the table "Disables" (spec/05, R114). -/
def isDisable : Instr → Bool
  | .chDisable .. | .hcClose .. => true
  | .domainSet _ _ st => st != 0
  | .canState _ _ st => st != 0
  | _ => false

/-- The resources on which a command of the table "Disables" ends the work (spec/05, R114). -/
def State.disRes (s : State) (i : Instr) : List Res :=
  match i with
  | .chDisable _ m => s.chanRes m.toNat
  | .canState _ p st => if st = 0 then [] else [.txq p.toNat 0, .txq p.toNat 1]
  | .hcClose _ n => (s.ownedBy n.toNat).flatMap (fun p => kindRes p.1 p.2)
  | .domainSet _ m st =>
    if st = 0 then []
    else (maskList 24 m.toNat).flatMap (fun d =>
      if d = Dm.field then resAll .fieldOut 16
      else if 14 ≤ d ∧ d < 22 then (List.range 8).map (fun k => Res.chan (8 * (d - 14) + k)) else [])
  | _ => []

/-- The resources that a command orders against: those it names, and for a disable those it ends the work on (R83; spec/05, R114). -/
def State.ordRes (s : State) (i : Instr) : List Res := s.resOf i ++ s.disRes i

/-- Classes F and M: once armed or started they hold nothing back (R83, R86). -/
def passesOn : Instr → Bool
  | .spkArm .. | .chPulse .. | .chStartProfile .. | .motorTarget .. | .domainSet .. => true
  | _ => false

/-- A dispatched command holds nothing back any more: of class F or M, and armed or started; one that waits for budget has
not started (R83, R86). -/
def State.underWay (s : State) (j : Job) : Bool := passesOn j.cmd && !s.line.any (fun r => r.src == ReqSrc.job j.id)

/-- The commands of a context that a BARRIER taken in now waits for (R86; spec/04, "System, 0x0_"). -/
def State.aheadNow (s : State) (hc : Nat) : Nat :=
  (s.hc hc).queue.length + (s.hc hc).bad.length + (s.jobs.filter (fun j => j.hdr.hc.val == hc && !s.underWay j)).length

/-- A queue entry for a command that is issued now. -/
def State.entry (s : State) (hc : Nat) (i : Instr) (cells : Nat) : QEntry :=
  { cmd := i, cells := cells, no := s.nextId, ahead := s.aheadNow hc }

/-- Whether two resource lists meet. -/
def meets (a b : List Res) : Bool := a.any (fun x => decide (x ∈ b))

/-- Whether an earlier command holds a later one of the same context (R83, R86, R114). -/
def State.holds (s : State) (earlier later : Instr) : Bool :=
  match later with
  | .abort .. => false
  | .barrier .. => true
  | _ =>
    (match hdrOf later with | some h => h.fence | none => false) ||
      (match earlier with | .barrier .. => true | _ => false) ||
      ((!isDisable later || isDisable earlier) && meets (s.ordRes earlier) (s.ordRes later))

/-- A CAN_TX whose transmit queue has no free place is not ready (spec/13, R290). -/
def State.txFull (s : State) (i : Instr) : Bool :=
  match i with
  | .canTx _ p q _ =>
    let l := if q = 0 then (s.port p.toNat).q0 else (s.port p.toNat).q1
    decide (32 ≤ (l.filter (fun x => !x.place)).length)
  | _ => false

/-- The domains that must be On for a command of groups 0x1_ to 0x8_ (spec/04, R77; spec/01, R22). -/
def needsOf (i : Instr) : List Nat :=
  match i with
  | .chOn _ m | .chOff _ m | .chClearLatch _ m | .chDisable _ m => ((maskList 64 m.toNat).map (fun c => Dm.bank (bankOf c))).eraseDups
  | .chSetDuty _ c _ _ _ | .chPulse _ c _ | .chStartProfile _ c _ _ | .chConfig _ c _ | .chStatus _ c
  | .chFollowLh _ c _ _ => if c.toNat < 64 then [Dm.bank (bankOf c.toNat)] else []
  | .bankBase _ b _ => if b.toNat < 8 then [Dm.bank b.toNat] else []
  | .motorTarget _ b _ _ _ | .motorStop _ b _ => if b.toNat < 8 then [Dm.bank (bankOf (48 + 2 * b.toNat))] else []
  | .axisConfig .. | .axisWrite .. | .axisRead .. | .axisPublish .. | .spkArm .. | .spkCancel .. | .spkRead ..
  | .leadRead .. | .leadSet .. | .timeRead .. | .faultRead .. | .faultHandled .. | .faultClear .. | .faultReaction .. => [Dm.crk]
  | .canConfig _ p _ | .canTx _ p _ _ | .canFilter _ _ p _ _ _ | .canRxPull _ p _ | .canRxAck _ p _ _ =>
    if p.toNat < 6 then [Dm.can p.toNat] else []
  | .canState _ p st => if p.toNat < 6 ∧ st ≠ 3 then [Dm.can p.toNat] else []
  | .flowAdd .. | .flowRemove .. | .ridgeState .. => [Dm.net]
  | .ethConfig _ p _ => if p.toNat < 2 then [Dm.eth] else if p.toNat < 4 then [Dm.t1s] else []
  | .netStats .. => [Dm.net]
  | .immEnroll .. | .immRevoke .. => [Dm.uwb]
  | .fieldOut .. | .fieldRead .. | .fieldConfig .. => [Dm.field]
  | _ => []

/-- A command with WAKE whose domains have all been asked for, and are not On yet: it waits, and is not ready (R77, R82). -/
def State.waking (s : State) (i : Instr) : Bool :=
  let off := (needsOf i).filter (fun d => !s.domOn d)
  (match hdrOf i with | some h => h.wake | none => false) && off != [] && off.all (fun d => (s.dom d).going == some .on)

/-- The link of a bank that is On is lost. -/
def State.bankCut (s : State) (b : Nat) : Bool := s.domOn (Dm.bank b) && !(s.bank b).linkUp

/-- A register stands in a bank whose link is lost: what is written to it cannot reach the bank (spec/01, R7). -/
def State.regCut (s : State) (a : Nat) : Bool :=
  match regAt a with
  | some (_, r) => if 0x40000 ≤ a ∧ a < 0x50000 then s.bankCut r.i else if 0x50000 ≤ a ∧ a < 0x54000 then s.bankCut (bankOf r.i) else false
  | none => false

/-- A register write that waits, made before a place in the order of issue, holds what touches the same resources (spec/01, R15). -/
def State.lateHolds (s : State) (hc no : Nat) (rs : List Res) : Bool :=
  (s.hc hc).late.any (fun w => decide (w.no < no) && meets (addrRes w.addr) rs)

/-- A register access by a context is held: a command of the context that was issued before a place in the order of issue and touches
the same resource has not completed, or a write made before waits (spec/01, R15; log 89). -/
def State.accessHeld (s : State) (hc no a : Nat) : Bool :=
  let rs := addrRes a
  (s.hc hc).queue.any (fun e => decide (e.no < no) && meets (s.ordRes e.cmd) rs) ||
    s.jobs.any (fun j => j.hdr.hc.val == hc && decide (j.no < no) && !s.underWay j && meets (s.ordRes j.cmd) rs) || s.lateHolds hc no rs

/-- A command needs a bank whose link is lost: it is not ready until the link is back, unless the limp map refuses it (spec/01, R7;
R63; log 93). -/
def State.linkLost (s : State) (i : Instr) : Bool :=
  !(s.flag pwrStart_limp && decide (0x10 ≤ opcOf i) && decide (opcOf i < 0x20)) &&
    ((needsOf i).any (fun d => decide (14 ≤ d) && decide (d < 22) && s.bankCut (d - 14)) ||
      (match i with | .regWrite _ a _ | .regModify _ a _ _ => s.regCut a.toNat | _ => false))

/-- An earlier packet that is no command holds a BARRIER, and a command with FENCE (R86). -/
def State.badHolds (s : State) (hc no : Nat) (i : Instr) : Bool :=
  (match i with | .abort .. => false | .barrier .. => true | _ => (match hdrOf i with | some h => h.fence | none => false)) &&
    (s.hc hc).bad.any (fun b => decide (b.no < no))

/-- Whether a queued command is ready: no earlier queued command and no dispatched, uncompleted one of
its context holds it (R82 to R86). `before` are the older queue entries. -/
def State.ready (s : State) (hc : Nat) (before : List QEntry) (e : QEntry) : Bool :=
  !(before.any (fun b => s.holds b.cmd e.cmd)) && !s.txFull e.cmd && !s.waking e.cmd && !s.linkLost e.cmd && !s.badHolds hc e.no e.cmd &&
    (isDisable e.cmd || !s.lateHolds hc e.no (s.ordRes e.cmd)) &&
    !((s.jobs.filter (fun j => j.hdr.hc.val == hc && decide (j.no < e.no) && !s.underWay j)).any (fun j => s.holds j.cmd e.cmd))

/-- The rank of a command in its queue: an ABORT first, then PRIO (R82, R89). -/
def rankOf (i : Instr) : Nat :=
  match i with
  | .abort .. => 4
  | _ => match hdrOf i with | some h => h.prio.toNat | none => 0

/-- The ready command of highest rank, the oldest among equals (R82). -/
def State.pick (s : State) (hc : Nat) : List QEntry → List QEntry → Option Instr → Option Instr
  | _, [], best => best
  | before, e :: rest, best =>
    let best' :=
      if s.ready hc before e then
        match best with
        | none => some e.cmd
        | some b => if rankOf b < rankOf e.cmd then some e.cmd else some b
      else best
    s.pick hc (before ++ [e]) rest best'

/-- A packet that is no command is ready: no earlier BARRIER, and nothing earlier where it has FENCE (R86). -/
def State.badReady (s : State) (n : Nat) (b : BadPkt) : Bool :=
  let q := (s.hc n).queue.filter (fun e => decide (e.no < b.no))
  !q.any (fun e => b.hdr.fence || (match e.cmd with | .barrier .. => true | _ => false)) &&
    !(b.hdr.fence && (((s.hc n).bad.any (fun x => decide (x.no < b.no))) ||
      s.jobs.any (fun j => j.hdr.hc.val == n && decide (j.no < b.no) && !s.underWay j)))

/-- The rank of a packet that is no command: as of a command (R82, R89). -/
def BadPkt.rank (b : BadPkt) : Nat := if b.opc = 2 then 4 else b.hdr.prio.toNat

/-- The ready packet of highest rank among a context's packets that are no command, the oldest among equals (R82). -/
def State.bestBad (s : State) (n : Nat) : Option BadPkt :=
  ((s.hc n).bad.filter (fun b => s.badReady n b)).foldl (fun best b => match best with
    | none => some b
    | some x => if x.rank < b.rank then some b else some x) none

/-- A context's ready packet that is no command comes before a command of the same context (R82; log 90). -/
def State.badFirst (s : State) (n : Nat) (i : Instr) : Bool :=
  match s.bestBad n with
  | none => false
  | some b =>
    let no := match (s.hc n).queue.find? (fun e => e.cmd == i) with | some e => e.no | none => s.nextId
    decide (rankOf i < b.rank) || (decide (rankOf i = b.rank) && decide (b.no < no))

/-- A context has something ready that its turn would bring. -/
def State.hasReady (s : State) (n : Nat) : Bool := s.pick n [] (s.hc n).queue none != none || (s.bestBad n).isSome

/-- Whether the block dispatches commands of a context: SYS serves packets, and the context is HC0
or full service stands and it is bound or closing (spec/03, R50, R58; spec/05, R117). -/
def State.serves (s : State) (hc : Nat) : Bool :=
  s.serving && s.sysUp && s.domOn Dm.sys && (hc == 0 || s.get pwrStart_phase == 3)

/-- No other context whose turn comes before that of context `n` has anything ready: the contexts have their turns in a circle (R82). -/
def State.rotation (s : State) (n : Nat) : Bool :=
  (List.range ((n + 7 - s.turnHc) % 8)).all (fun k =>
    let m := (s.turnHc + 1 + k) % 8
    !s.serves m || !s.hasReady m)

/-- It is a context's turn for a command, and none of its packets that are no command comes first: an ABORT is dispatched at once
(R82, R89). -/
def State.inTurn (s : State) (n : Nat) (i : Instr) : Bool :=
  (match i with | .abort .. => true | _ => false) || (s.rotation n && !s.badFirst n i)

/-! ### Gates -/

/-- The table "Commands accepted before full service" for HC0 in phases BASIC, COPY and VERONE
(spec/03, R50; spec/19, R439): none where the command may run. -/
def State.phaseGate (s : State) (i : Instr) : Option Byte :=
  let ph := s.get pwrStart_phase
  if ph = 3 then none else
  let opc := opcOf i
  if opc < 0x10 then (if opc = 0x05 ∧ ph ≠ 2 then some St.badState else none)
  else if 0x60 ≤ opc ∧ opc < 0x70 then (if ph = 4 then some St.busy else none)
  else if opc = 0x43 ∨ opc = 0xE0 then none
  else if opc = 0xE1 ∨ opc = 0xE2 then none
  else some St.badState

/-- Opcodes marked A (spec/04, R77, R80). -/
def takesAtomic (opc : Nat) : Bool := opc == 0x10 || opc == 0x11 || opc == 0x83

/-- The limp map refuses output commands and armings of power-channel actions (spec/03, R55); the
arming is checked where the record is read. -/
def State.limpGate (s : State) (i : Instr) : Bool :=
  s.flag pwrStart_limp && decide (0x10 ≤ opcOf i) && decide (opcOf i < 0x20)

/-- What stands in a command's way when its turn comes. -/
inductive Gate where
  | run
  | refuse (status : Byte)
  | waitOn (doms : List Nat)
  deriving DecidableEq, Repr

/-- The gate of a command (R50, R55, R77, R86; spec/15, R325). -/
def State.gate (s : State) (h : Hdr) (i : Instr) : Gate :=
  let opc := opcOf i
  let off := (needsOf i).filter (fun d => !s.domOn d)
  if h.atomic ∧ ¬ takesAtomic opc then .refuse St.badParam
  else if h.fence ∧ (opc = 0x01 ∨ opc = 0x02) then .refuse St.badParam
  else match s.phaseGate i with
    | some st => .refuse st
    | none =>
      if s.limpGate i then .refuse St.badState
      else if off ≠ [] then (if h.wake then .waitOn off else .refuse St.badState)
      else .run

/-- A context's queue with a command in it: one that no push has queued counts as accepted in the same instant (log 8). -/
def State.queueFor (s : State) (n : Nat) (i : Instr) : List QEntry :=
  if (s.hc n).queue.any (fun e => e.cmd == i) then (s.hc n).queue else (s.hc n).queue ++ [s.entry n i 0]

/-- The state with one more name used. -/
def State.nextName (s : State) : State := { s with nextId := s.nextId + 1 }
/-- The state in which the command of a place in the order of issue is being dispatched, in its context's turn. -/
def State.setIssuing (s : State) (n no : Nat) : State := { s with issuing := no, turnHc := n % 8 }
/-- The state with a context's queue replaced. -/
def State.setQueue (s : State) (n : Nat) (q : List QEntry) : State := s.modHc n (fun x => { x with queue := q })

/-- The state in which a context's queue holds a command. -/
def State.accepted (s : State) (n : Nat) (i : Instr) : State := (s.setQueue n (s.queueFor n i)).nextName

/-- A command's place in the order of issue. -/
def State.placeOf (s : State) (n : Nat) (i : Instr) : Nat :=
  match (s.queueFor n i).find? (fun e => e.cmd == i) with | some e => e.no | none => s.nextId

/-- The state in which a command has been taken from its context's queue. -/
def State.taken (s : State) (n : Nat) (i : Instr) : State :=
  ((s.accepted n i).setQueue n (dropFirst (fun e => e.cmd == i) (s.queueFor n i))).setIssuing n (s.placeOf n i)

/-- It is a command's turn: its context is served, it is the ready command of highest rank, and no gate holds or refuses it
(R50, R55, R77, R82). -/
def State.turn (s : State) (h : Hdr) (i : Instr) : Bool :=
  s.serves h.hc.val && (s.accepted h.hc.val i).pick h.hc.val [] (s.queueFor h.hc.val i) none == some i &&
    (s.accepted h.hc.val i).inTurn h.hc.val i && (s.accepted h.hc.val i).gate h i == Gate.run

/-- A command's turn: it is taken from its context's queue. Where it is not the ready command of highest rank, or another context's
turn comes first, it stays queued; where a domain it needs is not On and WAKE is set, the domain is brought On and it stays
queued; where a gate refuses it, it completes with the gate's status; else `f` runs (R82). -/
def State.dispatch (s : State) (h : Hdr) (i : Instr) (f : State → State) : State :=
  let n := h.hc.val
  if s.serves n then
    let t := s.accepted n i
    if t.pick n [] (s.queueFor n i) none = some i ∧ t.inTurn n i = true then
      match t.gate h i with
      | .run => f (s.taken n i)
      | .refuse st => (s.taken n i).complete h (opcOf i) st 0
      | .waitOn ds => forEach ds (fun d u => u.askOn d) t
    else t
  else s

/-- What a command that ends at once answers. -/
structure Ans where
  s : State
  status : Byte := 0
  result : Nat := 0
  cont : List Word := []

/-- A refusal that changes nothing. -/
def Ans.no (s : State) (status : Byte) (result : Nat := 0) : Ans := { s := s, status := status, result := result }

/-- A command that takes effect and completes at its dispatch (class I, and every command that fails
its checks): the effect, then one completion (R87, R88). -/
def State.runI (s : State) (h : Hdr) (i : Instr) (f : State → Ans) : State :=
  s.dispatch h i (fun t =>
    let a := f t
    a.s.complete h (opcOf i) a.status a.result a.cont)

/-- Opcodes of commit class P (spec/04, R80). -/
def classP (opc : Nat) : Bool := decide (opc ∈ [0x06, 0x50, 0x53, 0x55, 0x56, 0x57, 0x61, 0x62, 0x63, 0x67, 0x68])

/-- The class P command whose record is being written: the first dispatched. -/
def State.writing (s : State) : Option Job := s.jobs.find? (fun j => classP (opcOf j.cmd))

/-- A command of class P at its dispatch: where its checks refuse it, it completes; else the write of its record begins,
and its effect and completion come when that is complete (R87). -/
def State.runP (s : State) (h : Hdr) (i : Instr) (check : State → State × Option (Byte × Nat)) : State :=
  s.dispatch h i (fun t =>
    match check t with
    | (u, some (st, r)) => u.complete h (opcOf i) st r
    | (u, none) => (u.addJob h i).2)

/-- A refusal by a check of class P. -/
def State.no (s : State) (st : Byte) (r : Nat := 0) : State × Option (Byte × Nat) := (s, some (st, r))
/-- A check of class P that passes. -/
def State.yes (s : State) : State × Option (Byte × Nat) := (s, none)

/-- A context's packets that are no command complete with a status of their own or, where they are flushed, with this one. -/
def State.endBad (s : State) (n : Nat) (p : BadPkt → Bool) (st : Option Byte := none) : State :=
  let out := (s.hc n).bad.filter p
  out.foldl (fun (t : State) b => t.complete b.hdr b.opc (st.getD b.status) 0) (s.modHc n (fun x => { x with bad := x.bad.filter (fun b => !p b) }))

/-- The packet that is no command whose turn it is, if any: the context whose turn comes first among those that have something ready, and
its best ready packet, where no ready command of the context comes before it (R75, R82; log 90). -/
def State.badTurn (s : State) : Option (Nat × BadPkt) :=
  match ((List.range 8).map (fun k => (s.turnHc + 1 + k) % 8)).find? (fun n => s.serves n && s.hasReady n) with
  | none => none
  | some n => match s.bestBad n with
    | none => none
    | some b => match s.pick n [] (s.hc n).queue none with
      | none => some (n, b)
      | some i => if s.badFirst n i then some (n, b) else none

/-- The packet that is no command whose turn it is completes (R75, R80, R82). -/
def State.settleBad (s : State) : State :=
  match s.badTurn with
  | none => s
  | some (n, b) => ({ s with turnHc := n } : State).endBad n (fun x => x.no == b.no)

/-- Every queued command that `p` picks is flushed with a status (R79, R114, R117). -/
def State.flushQueued (s : State) (p : Nat → Instr → Bool) (st : Byte) : State :=
  forEach (List.range 8) (fun n t =>
    let q := (t.hc n).queue
    let out := q.filter (fun e => p n e.cmd)
    let t' := t.modHc n (fun x => { x with queue := q.filter (fun e => !p n e.cmd) })
    out.foldl (fun u e => match hdrOf e.cmd with
      | some h => u.complete h (opcOf e.cmd) st 0
      | none => u) t') s

end Sys2Proof.Machine
end

