-- ==== Sys2Proof/Machine/Chan.lean ====
section
/-! DEFINITION. Channels and bridges: configuration fields, edges, drive states, state codes, and the
starting and ending of pulses, profiles and moves, before any budget question (spec/06, spec/07,
spec/08). -/

namespace Sys2Proof.Machine

/-! ### The channel configuration record (spec/06, R142) -/

/-- Word `k` of channel `n`'s record. -/
def State.cfgw (s : State) (n k : Nat) : Nat := (s.rd (chCfg_word n k).addr).toNat
/-- PRIO: 0 SAFETY, 1 WORK, 2 COMFORT. -/
def State.chPrio (s : State) (n : Nat) : Nat := bits (s.cfgw n 0) 17 16
/-- DEFER, ms. -/
def State.chDefer (s : State) (n : Nat) : Nat := bits (s.cfgw n 0) 15 8
/-- LIMIT_STEADY, 0.1 A. -/
def State.limSteady (s : State) (n : Nat) : Nat := bits (s.cfgw n 2) 31 16
/-- LIMIT_INRUSH, 0.1 A. -/
def State.limInrush (s : State) (n : Nat) : Nat := bits (s.cfgw n 2) 15 0
/-- INRUSH_TIME, ms. -/
def State.inrushTime (s : State) (n : Nat) : Nat := bits (s.cfgw n 3) 31 16
/-- DT_LIMIT, K. -/
def State.dtLimit (s : State) (n : Nat) : Nat := bits (s.cfgw n 3) 15 8
/-- DT_HYST, K. -/
def State.dtHyst (s : State) (n : Nat) : Nat := bits (s.cfgw n 3) 7 0
/-- RESTART_MAX. -/
def State.restartMax (s : State) (n : Nat) : Nat := bits (s.cfgw n 4) 31 24
/-- BUDGET_I, 0.1 A. -/
def State.budgetI (s : State) (n : Nat) : Nat := bits (s.cfgw n 6) 31 16
/-- BUDGET_T, ms. -/
def State.budgetT (s : State) (n : Nat) : Nat := bits (s.cfgw n 6) 15 0

/-- The channel that keeps a bridge's restart count, state and duty: the even one (R153; spec/08, R172). -/
def State.head (s : State) (n : Nat) : Nat := if s.bridged n then n / 2 * 2 else n

/-- The channel's feed group is in VBAT undervoltage (spec/03, R44). -/
def State.uvCh (s : State) (n : Nat) : Bool := bitOf s.uvMask (feedOf n)

/-! ### Measured quantities (spec/06, R136) -/

/-- T_CH − T_CASE in codes of 0.0625 K. -/
def State.dtCode (s : State) (n : Nat) : Int := (s.get (chVt_tch n) : Int) - (s.get (bankMeas_tcase (bankOf n)) : Int)
/-- The bank's VBAT code, signed, 39.06 mV. -/
def State.vbatCode (s : State) (b : Nat) : Int := signed 12 (s.get (bankMeas_vbat b))
/-- At or above the ΔT or the absolute level (spec/07, R154). -/
def State.aboveLevel (s : State) (n : Nat) : Bool :=
  decide (((16 * s.dtLimit n : Nat) : Int) ≤ s.dtCode n) || decide (3696 ≤ s.get (chVt_tch n))
/-- Conditions 2 and 3 of R160: ΔT at or below DT_LIMIT − DT_HYST, T_CH below 155 °C. -/
def State.coolEnough (s : State) (n : Nat) : Bool :=
  decide (s.dtCode n ≤ ((16 * s.dtLimit n : Nat) : Int) - ((16 * s.dtHyst n : Nat) : Int)) && decide (s.get (chVt_tch n) < 3376)

/-- Off and too hot: no turn-on starts an edge, until both temperature conditions of R160 hold (R154). -/
def State.tooHot (s : State) (n : Nat) : Bool := s.aboveLevel n || ((s.ch n).hot && !s.coolEnough n)

/-- Restarts of the last 10 s whose edges have started: R159's n, of a bridge the even channel's (R153, R160). -/
def State.restartN (s : State) (n : Nat) : Nat :=
  ((s.ch (s.head n)).restarts.filter (fun t => decide (t ≤ s.now) && decide (s.now < t + sec 10))).length

/-! ### State codes (spec/06, R143) -/

/-- A turn-on of this channel waits for headroom budget; the pre-request of an event that is not due is none. -/
def State.waits (s : State) (n : Nat) : Bool :=
  s.line.any (fun r => r.parts.any (fun p => p.1 == n) && (match r.src with
    | .spk k => (match Sparse.get (fun _ => (none : Option Slot)) s.slots k with | some x => x.st == .deferred | none => false)
    | _ => true))

/-- The channel state code: the first row of the table "Channel state codes" that holds. DESIGN CHOICE: a bridge that moves under MOTOR_TARGET
runs no drive profile and shows ON, PWM or LOW (R143; log 114). -/
def State.chCode (s : State) (n : Nat) : Nat :=
  let c := s.ch n
  if c.disabled then 0x20
  else if c.latched then 0x12
  else if c.cooling then 0x11
  else if c.limiting then 0x10
  else if c.cmdOn ∧ s.uvCh n = true then 0x21
  else if c.drive = .off ∧ s.waits n = true then 0x05
  else if c.profile.isSome ∧ c.drive ≠ .off then 0x03
  else if c.follow.isSome then 0x04
  else match c.drive with
    | .pwm => 0x02
    | .low => 0x06
    | .on => 0x01
    | .off => 0x00

/-- The bank of a channel is in Coast hold: the device's or its own (spec/03, R59, R63). -/
def State.bankCoast (s : State) (b : Nat) : Bool := s.flag pwrCoast_active || (s.bank b).coastAt.isSome

/-- RESULT of CH_STATUS and the word of CHn_STATE (R143). -/
def State.chWord (s : State) (n : Nat) : Nat :=
  s.chCode n + (chClass n).code * 0x100 + b2n ((s.ch n).cmdOn || s.waits n) * 0x400 + b2n (s.bridged n) * 0x800 +
    b2n (s.bankCoast (bankOf n)) * 0x1000

/-! ### The limp-home map (spec/03, R52 to R54) -/

/-- A channel's limp-map entry, as SYS_LIMPMAPn holds the map in use. -/
def State.limpEntry (s : State) (n : Nat) : Nat :=
  if n % 2 = 0 then s.get (sysLimpmap_even (n / 2)) else s.get (sysLimpmap_odd (n / 2))

/-- MODE of an entry. -/
def State.limpMode (s : State) (n : Nat) : Nat := bits (s.limpEntry n) 15 13

/-- Whether an LH input is active for a selection. -/
def State.lhActive (s : State) (sel : Nat) (inv : Bool) : Bool := (bitOf s.lhLevel sel) != inv

/-- Whether a channel's limp entry drives its high side on now. -/
def State.limpOn (s : State) (n : Nat) : Bool :=
  match s.limpMode n with
  | 1 | 2 => true
  | 3 | 4 => s.lhActive (bits (s.limpEntry n) 12 11) (bitOf (s.limpEntry n) 10)
  | _ => false

/-- The period of a limp base code, in ticks (R53). -/
def limpPeriod (code : Nat) : Nat := match code with | 0 => 1000000 | 1 => 500000 | 2 => 100000 | _ => 5000

/-- The limp map is in force for a channel: the device's, or its bank's own (spec/03, R61, R63). -/
def State.limpFor (s : State) (n : Nat) : Bool := s.flag pwrStart_limp || (s.bank (bankOf n)).ownLimp

/-! ### The PWM generator (spec/08, R169 to R172) -/

/-- The channel's generator runs on its bank's limp base: its entry is PWM or PWM_FOLLOW, and the map is in force (spec/03, R53). -/
def State.limpBase (s : State) (n : Nat) : Bool := s.limpFor n && (s.limpMode n == 2 || s.limpMode n == 4)

/-- The base period that a channel's generator runs on, in ticks. -/
def State.basePeriod (s : State) (n : Nat) : Nat :=
  let b := bankOf n
  if s.limpBase n then limpPeriod (bits (s.get sysLimpbase_base) (2 * b + 1) (2 * b)) else s.get (bankPwmbase_period b)

/-- The channel whose duty, DIV and PHASE a channel's generator runs on: its own under a limp entry, else a bridge's even one (spec/03, R53;
R172). -/
def State.gen (s : State) (n : Nat) : Chan := s.ch (if s.limpBase n then n else s.head n)

/-- The channel's period in ticks: the base period × 2^DIV (R170). -/
def State.chPeriod (s : State) (n : Nat) : Nat := s.basePeriod n * 2 ^ (s.gen n).div

/-- Ticks from the start of the channel's running period; periods are counted from the start of the bank frame (R170; log 91). -/
def State.inPeriod (s : State) (n : Nat) : Nat := (s.now - (s.bank (bankOf n)).frameAt) % s.chPeriod n

/-- The offset of the on edge in a period: PHASE / 256 of it (R170). -/
def State.onOffset (s : State) (n : Nat) : Nat := s.chPeriod n * (s.gen n).phase / 256

/-- The on edge of a turn-on at a duty: at PHASE in the channel's next period (R170, R171). -/
def State.nextOn (s : State) (n : Nat) : Nat := s.now + (s.chPeriod n - s.inPeriod n) + s.onOffset n

/-- The slew of a channel in 0.1 V/µs (spec/06, R123). -/
def slewTenth (cls : ChClass) (code : Nat) : Nat :=
  if cls = .HB then 250 * 2 ^ code
  else match code with | 0 => 10 | 1 => 25 | 2 => 50 | _ => 100

/-- The typical turn-on driver delay of a channel in 0.1 µs (spec/06, "Further channel figures", R125). -/
def drvTenth (cls : ChClass) (dead : Nat) : Nat :=
  match cls with | .H => 20 | .M => 15 | .L => 10 | .HB => 3 + 2 * 2 ^ dead

/-- t_min = 2 × (t_drv,on + VBAT / slew) in ticks, rounded up (R172). -/
def State.tMin (s : State) (n : Nat) : Nat :=
  let slew := slewTenth (chClass n) (bits (s.cfgw n 0) 23 22)
  let tdrv := drvTenth (chClass n) (bits (s.cfgw n 0) 21 20)
  (2 * (tdrv * 10 * 128 * slew + (s.vbatCode (bankOf n)).toNat * 5000) + 128 * slew - 1) / (128 * slew)

/-- The on time of a period in ticks, as R170 gives it and as R172 corrects it: at least t_min, and the whole period where the off time
would be shorter than t_min. -/
def State.onTicks (s : State) (n : Nat) : Nat :=
  let period := s.chPeriod n
  let duty := (s.gen n).duty
  if duty = 0 then 0
  else if duty = 0xFFF then period
  else
    let on := max (period * duty / 4096) (s.tMin n)
    if period < on + s.tMin n then period else on

/-- The correction of R172 acts. -/
def State.clamps (s : State) (n : Nat) : Bool :=
  let duty := (s.gen n).duty
  (s.ch n).drive == .pwm && duty != 0 && duty != 0xFFF && s.onTicks n != s.chPeriod n * duty / 4096

/-- The high side of a channel in state PWM is on: in its on time, which starts at PHASE in the period and wraps into the period's start
(R170). -/
def State.pwmHigh (s : State) (n : Nat) : Bool :=
  decide ((s.ch n).edgeAt ≤ s.now) && decide ((s.inPeriod n + s.chPeriod n - s.onOffset n) % s.chPeriod n < s.onTicks n)

/-! ### Edges -/

/-- The channel's stored PWM values come into use (spec/08, R171). -/
def State.applyPwm (s : State) (n : Nat) : State :=
  let b := n / 8; let k := n % 8
  (s.modCh n (fun c => { c with
    duty := s.get (bankPwm_duty b k), phase := s.get (bankPwm_phase b k), div := s.get (bankPwm_div b k) })).put
      (bankPwm_pending b k) 0

/-- The current has come off the limit, or an off time has begun: the 200 µs timer pauses (spec/07, R150). -/
def Chan.limPause (c : Chan) (now : Nat) : Chan :=
  { c with limiting := false, limAt := none, limRun := c.limRun + (match c.limAt with | some a => now - a | none => 0) }

/-- An off time of the channel's own switching begins: the timer restarts where the whole on time has passed without limiting (R150). -/
def Chan.offTime (c : Chan) (now : Nat) : Chan :=
  let d := c.limPause now
  { d with limRun := if c.limOn then d.limRun else 0, limOn := false, edges := c.edges + 1 }

/-- What the channel has gathered since its last edge from or to OFF is dropped: the 200 µs timer, the on-time samples, the filters of
the open-load tests (spec/06, R135, R138, R139; spec/07, R150). -/
def Chan.afresh (c : Chan) : Chan :=
  { c with
    limiting := false, limRun := 0, limAt := none, limOn := false, onSum := 0, onCnt := 0, olLow := none, volAt := none
    stbAt := none, olWindow := none, olSeen := false, olOpened := none, edges := c.edges + 1 }

/-- A turn-on edge at time `at_`: it begins the inrush regime of a high-side channel, for INRUSH_TIME as it stood at the last turn-on
from OFF where it is a restart (spec/07, R149, R150), and ends a test in progress (spec/06, R141; spec/07, R167). -/
def Chan.onEdge (c : Chan) (d : Drive) (at_ inrush : Nat) (hb : Bool) : Chan :=
  let time := if c.cooling && c.tripped then c.inrTime else inrush
  { c.afresh with
    drive := d, edgeAt := at_, drove := true, cooling := false, tripped := false, hot := false, testAt := none, inrTime := time
    inrushEnd := at_ + ms time, inrush := decide (time ≠ 0) && !hb }

/-- The channel's switches go to a drive state; a start from off is a turn-on edge, in state PWM with the next period; an end of drive
is a turn-off edge, with which the on time's samples and a restart whose edge has not started are dropped; the high side that takes over
from the low one has an edge of its own (R135, R138, R150; spec/07, R160; spec/08, R171). -/
def State.driveTo (s : State) (n : Nat) (d : Drive) : State :=
  let start := if d = .pwm then s.nextOn n else s.now
  let v := s.vbatCode (bankOf n)
  s.modCh n (fun c =>
    if d = c.drive then c
    else if d = .off then
      { c.afresh with drive := .off, offAt := s.now, inrush := false, edgeV := v, restarts := c.restarts.filter (fun t => decide (t ≤ s.now)) }
    else if c.drive = .off then { c.onEdge d start (s.inrushTime n) (decide (chClass n = .HB)) with edgeV := v }
    else { c with
      drive := d, edges := c.edges + 1, edgeAt := if c.drive = .low ∨ s.now < c.edgeAt then start else c.edgeAt, edgeV := v
      onSum := if d = .pwm then c.onSum else 0, onCnt := if d = .pwm then c.onCnt else 0 })

/-- On at a duty: fully on at 0xFFF, PWM below it (spec/08, R170). -/
def dutyDrive (duty : Nat) : Drive := if duty = 0xFFF then .on else .pwm

/-- When a bridge that goes to a state last left FORWARD or REVERSE (R127). -/
def Bridge.leaves (x : Bridge) (b : BridgeState) (now : Nat) : Option Nat :=
  if (x.st = .forward ∨ x.st = .reverse) ∧ x.st ≠ b then some now else x.leftAt

/-- The two channels of bridge `k` take a joint state at once (spec/06, R127); the driving channel switches at the even channel's duty
(spec/08, R172). -/
def State.bridgeTo (s : State) (k : Nat) (b : BridgeState) : State :=
  let e := 48 + 2 * k
  let o := e + 1
  let d := dutyDrive (s.ch e).duty
  let t := match b with
    | .coast => (s.driveTo e .off).driveTo o .off
    | .forward => (s.driveTo e d).driveTo o .low
    | .reverse => (s.driveTo e .low).driveTo o d
    | .brakeLow => (s.driveTo e .low).driveTo o .low
    | .brakeHigh => (s.driveTo e .on).driveTo o .on
  t.modBr k (fun x => { x with
    st := b, cmd := b, pass := none, leftAt := x.leaves b s.now
    lastFwd := match b with | .forward => true | .reverse => false | _ => x.lastFwd })

/-- The time that a bridge stays in BRAKE_LOW between FORWARD and REVERSE: the dead time and 2 µs (R125, R127). -/
def State.passTime (s : State) (k : Nat) : Nat := 20 * 2 ^ bits (s.cfgw (48 + 2 * k) 0) 21 20 + us 2

/-- Before it drives in a direction the bridge must stand in BRAKE_LOW: it drives in the other one, or has left it for less than the dead
time and 2 µs (R127). -/
def State.mustPass (s : State) (k : Nat) (fwd : Bool) : Bool :=
  let x := s.br k
  match x.st with
  | .forward => !fwd
  | .reverse => fwd
  | _ => x.lastFwd != fwd && x.leftAt.any (fun a => decide (s.now < a + s.passTime k))

/-- The bridge goes to BRAKE_LOW on its way to a direction: a half that protection or a disable holds off stays off (R127). -/
def State.passLow (s : State) (k : Nat) (b : BridgeState) : State :=
  let x := s.br k
  let since := if x.st = .brakeLow then x.leftAt.getD s.now else s.now
  let t := [48 + 2 * k, 49 + 2 * k].foldl (fun (u : State) n =>
    u.driveTo n (if (u.ch n).latched ∨ (u.ch n).disabled ∨ (u.ch n).cooling then .off else .low)) s
  t.modBr k (fun y => { y with st := .brakeLow, cmd := b, leftAt := y.leaves .brakeLow s.now, pass := some (b, since + s.passTime k) })

/-- The bridge is told to take a joint state: at once, but for a change between FORWARD and REVERSE, which passes through BRAKE_LOW
(R127). -/
def State.setBridge (s : State) (k : Nat) (b : BridgeState) : State :=
  if (s.br k).pass.any (fun p => p.1 == b) then s
  else if (b = .forward ∨ b = .reverse) ∧ s.mustPass k (b == .forward) = true then s.passLow k b
  else s.bridgeTo k b

/-- The direction that the bridge drives in, is about to drive in, or drove in last. -/
def State.goesFwd (s : State) (k : Nat) : Bool :=
  match (s.br k).pass with
  | some (b, _) => b == .forward
  | none => (s.br k).lastFwd

/-- The bridge of a channel. -/
def bridgeOf (n : Nat) : Nat := (n - 48) / 2

/-- The channel is switched on at its stored duty, or fully on for a pulse: a bridge's even channel
drives FORWARD, its odd one REVERSE (spec/08, R171, R173, R175; log 12). -/
def State.turnOn (s : State) (n : Nat) (full : Bool := false) : State :=
  if s.bridged n then
    let k := bridgeOf n
    let e := n / 2 * 2
    let t := s.applyPwm e
    let t := if full then t.modCh e (fun c => { c with duty := 0xFFF }) else t
    ((t.setBridge k (if n % 2 = 0 then .forward else .reverse)).modCh e (fun c => { c with cmdOn := n == e })).modCh (e + 1)
      (fun c => { c with cmdOn := n == e + 1 })
  else
    let t := s.applyPwm n
    let d := if full then Drive.on else dutyDrive (t.ch n).duty
    (t.driveTo n d).modCh n (fun c => { c with cmdOn := true, lowSide := false })

/-- The channel's, or the bridge's, switches go off. -/
def State.outOff (s : State) (n : Nat) : State :=
  if s.bridged n then s.setBridge (bridgeOf n) .coast else s.driveTo n .off

/-- The channel drives: on or PWM, or its bridge drives forward or in reverse. -/
def State.isOn (s : State) (n : Nat) : Bool :=
  if s.bridged n then (s.br (bridgeOf n)).st == .forward || (s.br (bridgeOf n)).st == .reverse || (s.br (bridgeOf n)).pass.isSome
  else (s.ch n).drive == .on || (s.ch n).drive == .pwm

/-- The grants that channel `n` holds unused, but for those of events that have not fired, begin with its edge, which in state PWM comes
with the next period (spec/11, R242). -/
def State.markEdge (s : State) (n : Nat) : State :=
  let e := (s.pairOf n).foldl (fun m c => max m (s.ch c).edgeAt) s.now
  let unused (g : Grant) : Bool := g.ch == n && g.edge.isNone && (match g.src with | .spk _ => false | _ => true)
  { s with grants := s.grants.map (fun g => if unused g then { g with edge := some e } else g) }

/-- The grants of a channel or bridge are gone: its turn-off edge has started (spec/11, R242). -/
def State.dropGrants (s : State) (n : Nat) : State := { s with grants := s.grants.filter (fun g => !decide (g.ch ∈ s.pairOf n)) }

/-! ### Ends of pulses, profiles and moves -/

/-- A pulse's end: its command completes OK with the measured width (spec/08, R175), or with another status where a disable ends it. -/
def State.endPulse (s : State) (n width : Nat) (status : Byte := 0) : State :=
  match (s.ch n).pulse with
  | none => s
  | some p =>
    let t := s.modCh n (fun c => { c with pulse := none })
    match p.job with
    | some j => t.endJob j status (if status = St.ok then width else 0)
    | none => t

/-- The instant at which a pulse's on edge crossed 50 %, where its delay has been reported. -/
def Pulse.crossed (p : Pulse) : Option Nat := p.startAt.bind (fun a => p.onDelay.map (fun d => a + d))

/-- Microseconds from the on crossing of a pulse to now; 0 where the output has not crossed (spec/08, R175). -/
def State.pulseWidth (s : State) (n : Nat) : Nat := match (s.ch n).pulse.bind Pulse.crossed with | some a => (s.now - a) / 100 | none => 0

/-- The measured width of a pulse from its on crossing to an instant, µs. -/
def PulseOut.width (p : PulseOut) (at_ : Nat) : Nat := match p.on with | some a => (at_ - a) / 100 | none => 0

/-- A pulse ends early and its output goes off: its command completes when the off crossing has been measured (spec/08, R175). -/
def State.cutPulse (s : State) (n : Nat) (status : Byte := 0) : State :=
  match (s.ch n).pulse with
  | some { job := some j, startAt := some a, width := w, onDelay := d } =>
    if status = St.ok then
      s.modCh n (fun c => { c with
        pulse := none, pulseOut := some { job := j, on := ({ width := w, job := some j, startAt := some a, onDelay := d } : Pulse).crossed, off := s.now } })
    else s.endPulse n 0 status
  | _ => s.endPulse n 0 status

/-- The off crossing of an ended pulse, `delay` after the off edge's start: its command completes with the measured width. -/
def State.pulseDone (s : State) (n delay : Nat) : State :=
  match (s.ch n).pulseOut with
  | some p => (s.modCh n (fun c => { c with pulseOut := none })).endJob p.job St.ok (p.width (p.off + delay))
  | none => s

/-- An ended pulse whose off edge has not crossed within 655.34 µs counts up to that instant (spec/06, R124; spec/08, R175; log 92). -/
def State.pulseTick (s : State) (n : Nat) : State :=
  match (s.ch n).pulseOut with
  | some p => if p.off + 65534 ≤ s.now then s.pulseDone n 65534 else s
  | none => s

/-- A profile's end on channel `n`: the end code is shown, and the command that has not completed
completes OK with end code and detail (spec/08, R178), or with another status where a disable ends it. -/
def State.endProfile (s : State) (n code : Nat) (detail : Nat := 0) (status : Byte := 0) : State :=
  match (s.ch n).profile with
  | none => s
  | some p =>
    let t := s.modCh n (fun c => { c with profile := none })
    let t := if 48 ≤ n ∧ 3 ≤ p.code then t.put (bankMotor_endcode (bankOf n) (bridgeOf n % 4)) code else t
    let t := if 48 ≤ n then t.modBr (bridgeOf n) (fun b => { b with mstate := if b.brakeEnd.isSome then b.mstate else .idle }) else t
    match p.job with
    | some j => t.endJob j status (if status = St.ok then code + detail * 0x10000 else 0)
    | none => t

/-- The profile's command completes while a standing phase goes on (R178). -/
def State.profileDone (s : State) (n code : Nat) (detail : Nat := 0) : State :=
  match (s.ch n).profile with
  | some { job := some j, .. } =>
    (s.modCh n (fun c => { c with profile := c.profile.map (fun p => { p with job := none }) })).endJob j St.ok
      (code + detail * 0x10000)
  | _ => s

/-- A move's end on bridge `k`: the command completes with the final position; a brake under way goes on (R188, R194). -/
def State.endMove (s : State) (k code : Nat) (status : Byte := 0) : State :=
  match (s.br k).move with
  | none => s
  | some m =>
    let pos := (Sparse.get (fun _ => ({} : Axis)) s.axes m.axis).out
    let t := (s.put (bankMotor_endcode (6 + k / 4) (k % 4)) code).modBr k (fun b => { b with
      move := none, mstate := if b.brakeEnd.isSome then b.mstate else .idle, ending := none, reverseLeft := none })
    match m.job with
    | some j => t.endJob j status (if status = St.ok then unsigned 32 pos else 0)
    | none => t

/-! ### Starts -/

/-- The duty of a lamp corrected to nominal power: duty × (VNOM / VBAT)² to the nearest
code, at most 0xFFF (spec/08, R183; the nearest code as in its worked example, log 10). -/
def State.lampDuty (s : State) (b duty vnom : Nat) : Nat :=
  if vnom = 0 then duty
  else
    let v := (s.vbatCode b).toNat * 625
    if v = 0 then 0xFFF else min 0xFFF (rnear ((duty * (vnom * 1600) ^ 2 : Nat) : Int) ((v ^ 2 : Nat) : Int)).toNat

/-- A field of a parameter set. -/
def setField (set : List Word) (k hi lo : Nat) : Nat := bits (set.getD k 0).toNat hi lo

/-- The eight words of a channel's parameter set `k` (spec/08, R176). -/
def State.pset (s : State) (n k : Nat) : List Word := (List.range 8).map (fun j => s.rd (chPset_word n k j).addr)

/-- What the bank keeps of a motion, afresh for a new one (spec/08, R187 to R191). -/
def Bridge.begin_ (b : Bridge) : Bridge :=
  { b with
    counted := 0, filled := 0, ending := none, brakeEnd := none, reverseLeft := none, fEst := 0, slowAt := none, phase := 0
    stallAt := none, pinchAt := none, recent := [], startI := none, entryI := none, runBins := [] }

/-- A profile starts on a channel or bridge with a copy of its set (spec/08, R177, R183, R184, R189,
R192). `fresh` is false when it takes over from an output that is already on (R179); a lamp's ramp then begins at the present duty, and
at a start from OFF the stored PHASE and DIV come into use (R171). -/
def State.startProfile (s : State) (n code : Nat) (set : List Word) (job : Option Nat) (fresh : Bool) : State :=
  let base : Profile := { code := code, set := set, phase := .ramp, startAt := s.now, job := job, startV := s.vbatCode (bankOf n) }
  let t := s.modCh n (fun c => { c with cmdOn := true, lowSide := false })
  let t := if fresh = true ∧ code ≤ 2 then t.applyPwm n else t
  if code = 1 then
    let d0 := if fresh then setField set 0 23 12 else if (s.ch n).drive = .on then 0xFFF else (s.ch n).duty
    let d := s.lampDuty (bankOf n) d0 (setField set 1 15 0)
    let t := t.modCh n (fun c => { c with duty := d })
    (t.driveTo n (dutyDrive d)).modCh n (fun c => { c with profile := some { base with duty := d0, dutyEnd := setField set 0 11 0 } })
  else if code = 2 then
    (t.driveTo n .on).modCh n (fun c => { c with profile := some { base with phase := .peak } })
  else
    let k := bridgeOf n
    if code = 3 then
      let mode := setField set 0 11 10
      let duty := setField set 0 23 12
      let t := t.modCh n (fun c => { c with
        duty := duty, profile := some { base with phase := if mode = 2 then .park else .motion, parkAt := if mode = 0 then none else some s.now } })
      (t.setBridge k .forward).modBr k (fun b => { b.begin_ with mstate := if mode = 2 then .park else .running })
    else if code = 5 then
      let t := t.modCh n (fun c => { c with duty := setField set 0 23 12, profile := some { base with phase := .motion } })
      (t.setBridge k (if setField set 0 0 0 = 0 then .forward else .reverse)).modBr k (fun b => { b.begin_ with mstate := .running })
    else
      -- WINDOW and POSITION sets run moves only under MOTOR_TARGET: nothing is transient, so it ends at once (log 13)
      (t.modCh n (fun c => { c with profile := some { base with phase := .motion } })).endProfile n 0

/-- A switch input is closed, debounced (spec/12, R257). -/
def State.swin (s : State) (n : Nat) : Bool :=
  if n < 32 then bitOf (s.get (swinState_state 0)) n else bitOf (s.get (swinState_state 1)) (n - 32)

/-- The wiper of a set is parked: its park input stands at PARK_LEVEL (R189). -/
def State.parked (s : State) (set : List Word) : Bool := s.swin (setField set 1 31 24) == (setField set 1 23 23 == 1)

/-- A set asks a wiper to park, and it is parked (R189). -/
def State.parkedSet (s : State) (code : Nat) (set : List Word) : Bool := code == 3 && setField set 0 11 10 == 2 && s.parked set

/-- A pulse starts: the output fully on for WIDTH (spec/08, R175). -/
def State.startPulse (s : State) (n width : Nat) (job : Option Nat) : State :=
  (s.turnOn n true).modCh n (fun c => { c with pulse := some { width := width, job := job, startAt := some s.now } })

/-- The axis's output position. -/
def State.axOut (s : State) (n : Nat) : Int := (Sparse.get (fun _ => ({} : Axis)) s.axes n).out

/-- The set's running duty for a direction: WIPER and POSITION have one, WINDOW one each way, LOCK one
(spec/08, R188 to R193). `up` is toward the closed end, the decreasing axis. -/
def runDuty (set : List Word) (up : Bool) : Nat :=
  if setField set 0 31 24 = 4 then (if up then setField set 0 23 12 else setField set 0 11 0) else setField set 0 23 12

/-- The bridge brakes with both low sides for a time, then goes to COAST at its end; its grants are gone (R188, R189; spec/11, R242). -/
def State.brakeTo (s : State) (k tt : Nat) : State :=
  ((s.setBridge k .brakeLow).modBr k (fun b => { b with mstate := .braking, brakeEnd := some (s.now + tt) })).dropGrants (48 + 2 * k)

/-- A move starts: direction by the sign of TARGET minus position and DIR_SIGN; a window whose axis is
not normalised closes at DUTY_MIN (spec/08, R188, R191). At a target already reached a bridge that drives brakes for 20 ms and then coasts,
as at a crossing; one that does not drive has no motion, which ends at once (log 15). -/
def State.startMove (s : State) (k : Nat) (m : Move) : State :=
  let n := 48 + 2 * k
  let pos := s.axOut m.axis
  let tgt := signed 64 m.target
  let up := decide (tgt < pos)
  let fwd := (decide (pos < tgt)) != (setField m.set 4 23 23 == 1)
  let duty :=
    if setField m.set 0 31 24 = 4 ∧ up = true ∧ (s.br k).norm = false then setField m.set 6 31 20
    else if m.duty = 0 then runDuty m.set up else m.duty
  let t := s.modBr k (fun b => { b.begin_ with move := some m, mstate := .running })
  if tgt = pos then
    if s.isOn n then
      ((t.brakeTo k (ms 20)).modBr k (fun b => { b with ending := some 0 })).modCh n (fun c => { c with cmdOn := false })
    else (t.endMove k 0).dropGrants n
  else
    ((t.modCh n (fun c => { c with duty := duty, cmdOn := true })).setBridge k (if fwd then .forward else .reverse))

/-- The commanded state of a channel or bridge becomes off: pulses and profiles on it end, a profile
with the given code (spec/08, R175, R178). -/
def State.endWork (s : State) (n code : Nat) (status : Byte := 0) : State :=
  (s.pairOf n).foldl (fun t c =>
    let t := t.cutPulse c status
    let t := t.endProfile c code 0 status
    if 48 ≤ c then t.endMove (bridgeOf c) code status else t) s

/-- A profile, pulse or move replaces what runs on the channel or bridge, with no off edge between (R179). -/
def State.preempt (s : State) (n : Nat) : State :=
  (s.pairOf n).foldl (fun t c =>
    let t := (t.endPulse c (t.pulseWidth c)).endProfile c 8
    if 48 ≤ c then t.endMove (bridgeOf c) 8 else t) s

/-- Commanded on is cleared, for both channels of a bridge. -/
def State.clearCmd (s : State) (n : Nat) : State :=
  (s.pairOf n).foldl (fun t c => t.modCh c (fun x => { x with cmdOn := false, lowSide := false })) s

/-- A wiper that is parked is told to park: what runs ends, a bridge that drives brakes, and the motion has ended DONE at once (R179,
R189). -/
def State.parkNow (s : State) (n : Nat) : State :=
  let t := if s.isOn n then ((s.preempt n).brakeTo (bridgeOf n) (ms 50)).clearCmd n else s
  t.put (bankMotor_endcode (bankOf n) (bridgeOf n % 4)) 0

/-- What a limp entry drives a channel's switches to: PWM entries PWM, LOW the low side of a half-bridge, every entry that is not on
otherwise off (R52, R53). -/
def State.limpWant (s : State) (n : Nat) : Drive :=
  let m := s.limpMode n
  if s.limpOn n then (if m = 2 ∨ m = 4 then .pwm else .on) else if m = 6 ∧ 48 ≤ n then .low else .off

/-- The output that a limp entry gives, set at once: PWM entries at duty DUTY × 16 with DIV 0 and PHASE 0; a bridge passes through
BRAKE_LOW between its directions (R52, R53; spec/06, R127). -/
def State.limpDrive (s : State) (n : Nat) : State :=
  match s.limpWant n with
  | .off => s.driveTo n .off
  | .low => (s.driveTo n .low).modCh n (fun c => { c with cmdOn := false, lowSide := true })
  | d =>
    let t := (s.put (bankPwm_pending (bankOf n) (n % 8)) 0).modCh n (fun c => { c with
      cmdOn := true, lowSide := false, duty := if d = .pwm then bits (s.limpEntry n) 7 0 * 16 else 0xFFF, div := 0, phase := 0 })
    if s.bridged n = true ∧ s.mustPass (bridgeOf n) (n % 2 == 0) = true then t.passLow (bridgeOf n) (if n % 2 = 0 then .forward else .reverse)
    else t.driveTo n d

/-- The joint state that the two halves of a bridge show. -/
def State.syncBridge (s : State) (k : Nat) : State :=
  let e := (s.ch (48 + 2 * k)).drive
  let o := (s.ch (49 + 2 * k)).drive
  let on (d : Drive) : Bool := d == .on || d == .pwm
  let st : BridgeState :=
    if on e && o == .low then .forward else if e == .low && on o then .reverse
    else if e == .low && o == .low then .brakeLow else if on e && on o then .brakeHigh else .coast
  s.modBr k (fun b => { b with
    st := st, cmd := match b.pass with | some p => p.1 | none => st, leftAt := b.leaves st s.now
    lastFwd := match st with | .forward => true | .reverse => false | _ => b.lastFwd })

/-- A bridge whose time in BRAKE_LOW has passed goes on to the state it was told to take; under the limp map each half that may drive takes
what its entry gives (R127; spec/03, R52). -/
def State.passTick (s : State) (k : Nat) : State :=
  match (s.br k).pass with
  | some (b, t) =>
    if s.now < t then s
    else if s.limpFor (48 + 2 * k) then
      ([48 + 2 * k, 49 + 2 * k].foldl (fun (u : State) n =>
        let c := u.ch n
        if c.latched ∨ c.disabled ∨ c.cooling ∨ u.uvCh n = true then u else u.limpDrive n) (s.modBr k (fun x => { x with pass := none }))).syncBridge k
    else s.bridgeTo k b
  | none => s

/-- The channel comes back on with what it was commanded to: a waiting pulse, its profile from the start with the copied set, or its plain
drive (spec/07, R160; spec/08, R180; spec/06, R153), but for a wiper that is parked and told to park, which has ended (spec/08, R189); under
the limp map what its entry gives (spec/03, R54; spec/07, R163). -/
def State.resume (s : State) (n : Nat) : State :=
  let c := s.ch n
  if s.limpFor n = true ∧ s.limpMode n ≠ 5 then s.limpDrive n
  else match (s.pairOf n).find? (fun k => (s.ch k).pulse.isSome), c.profile with
  | some k, _ => s.startPulse k (match (s.ch k).pulse with | some p => p.width | none => 0) (match (s.ch k).pulse with | some p => p.job | none => none)
  | none, some p => if s.parkedSet p.code p.set then (s.endProfile n 0).clearCmd n else s.startProfile n p.code p.set p.job true
  | none, none =>
    if c.lowSide then s.driveTo n .low
    else if s.bridged n then
      match (s.br (bridgeOf n)).move with
      | some m => s.startMove (bridgeOf n) m
      | none => s.turnOn (if (s.ch (n / 2 * 2 + 1)).cmdOn then n / 2 * 2 + 1 else n / 2 * 2)
    else s.turnOn n

end Sys2Proof.Machine
end

