-- ==== Sys2Proof/Machine/SpkOps.lean ====
section
/-! DEFINITION. Sprocket's slots: record fields, leads, fire conditions, and the end of a firing
(spec/10); and the check of a parameter set (spec/08, R177). -/

namespace Sys2Proof.Machine

/-! ### Parameter sets (spec/08, R176, R177) -/

/-- Bits `hi` to `lo` of a set's word are zero. -/
def zeroAt (set : List Word) (k hi lo : Nat) : Bool := setField set k hi lo == 0

/-- The common words 3 to 6 of a motor set are in range (spec/08, "Motor parameter set, common words"). -/
def motorSetOk (set : List Word) : Bool :=
  decide (10 ≤ setField set 3 31 16) && decide (setField set 3 31 16 ≤ 450) &&
  decide (1 ≤ setField set 3 15 0) && decide (setField set 3 15 0 ≤ 1000) &&
  (decide (setField set 4 31 24 < 8) || setField set 4 31 24 == 0xFF) && zeroAt set 4 22 16 &&
  decide (1 ≤ setField set 5 31 16) && decide (1 ≤ setField set 5 15 0) && zeroAt set 6 19 0 && zeroAt set 7 31 0

/-- Every field of a set is in range for its PROFILE code and the channel's class. -/
def setOk (cls : ChClass) (set : List Word) : Bool :=
  let f := setField set
  match f 0 31 24 with
  | 1 => decide (f 0 23 12 ≤ f 0 11 0) && decide (1 ≤ f 1 31 16) && decide (f 1 31 16 ≤ 10000) &&
      (f 1 15 0 == 0 || (decide (60 ≤ f 1 15 0) && decide (f 1 15 0 ≤ 580))) &&
      ([2, 3, 4, 5, 6, 7].all (fun k => zeroAt set k 31 0))
  | 2 => zeroAt set 0 23 16 && decide (f 0 15 0 ≤ cls.steadyMax * 10) &&
      decide (1 ≤ f 1 31 16) && decide (f 1 31 16 ≤ 10000) && decide (1 ≤ f 1 15 0) && decide (f 1 15 0 ≤ cls.continuous) &&
      decide (f 2 31 16 ≤ f 1 31 16) && decide (f 2 31 16 ≤ f 2 15 0) && decide (f 2 15 0 ≤ f 1 31 16) &&
      decide (1 ≤ f 3 31 24) && decide (f 3 31 24 ≤ 50) && decide (1 ≤ f 3 23 16) && zeroAt set 3 3 1 && f 3 0 0 == 1 &&
      decide (f 4 31 16 ≤ 1000) && zeroAt set 4 15 0 && ([5, 6, 7].all (fun k => zeroAt set k 31 0))
  | 3 => motorSetOk set && f 0 11 10 != 3 && zeroAt set 0 9 0 && decide (f 1 31 24 < 40) && zeroAt set 1 22 12 &&
      decide (100 ≤ f 2 15 0) && decide (f 2 15 0 ≤ 60000)
  | 4 => motorSetOk set && decide (1 ≤ f 1 31 16) && decide (f 1 15 0 < f 1 31 16) &&
      decide (10 ≤ f 2 31 16) && decide (f 2 31 16 ≤ 2000) && decide (1 ≤ f 2 15 8) && decide (f 2 15 8 ≤ 20)
  | 5 => motorSetOk set && zeroAt set 0 11 1 && decide (1 ≤ f 1 31 16) && decide (f 1 31 16 ≤ 5000) &&
      decide (1 ≤ f 1 15 0) && decide (f 1 15 0 ≤ 5000) && zeroAt set 2 31 0 && f 4 31 24 == 0xFF
  | 6 => motorSetOk set && zeroAt set 0 11 0 && zeroAt set 1 31 0 && zeroAt set 2 31 0
  | _ => false

/-- The two checks of CH_START_PROFILE (R177): BAD_PARAM before starting, BAD_STATE where the profile
does not suit the channel or no microcode store has passed its check (R181). -/
def State.profileCheck (s : State) (n code k : Nat) : Option Byte :=
  if 3 < k ∨ code = 0 ∨ 6 < code then some St.badParam
  else if setField (s.pset n k) 0 31 24 ≠ code ∨ setOk (chClass n) (s.pset n k) = false then some St.badParam
  else if (s.bank (bankOf n)).storeOk = false then some St.badState
  else if code ≤ 2 then (if s.bridged n then some St.badState else none)
  else if s.bridged n ∧ n % 2 = 0 then none
  else some St.badState

/-! ### Slots (spec/10, R218) -/

/-- Slot `n`. -/
def State.slot (s : State) (n : Nat) : Option Slot := Sparse.get (fun _ => none) s.slots n
/-- The state with slot `n` set. -/
def State.setSlot (s : State) (n : Nat) (x : Option Slot) : State := { s with slots := Sparse.set (fun _ => none) s.slots n x }
/-- The state with slot `n`, if armed, changed by `f`. -/
def State.modSlot (s : State) (n : Nat) (f : Slot → Slot) : State :=
  match s.slot n with
  | some x => s.setSlot n (some (f x))
  | none => s

/-- A field of a slot's record. -/
def Slot.fld (x : Slot) (k hi lo : Nat) : Nat := setField x.rec_ k hi lo
/-- TRIG is device time. -/
def Slot.timed (x : Slot) : Bool := x.fld 0 31 30 == 1
/-- AXIS. -/
def Slot.axis (x : Slot) : Nat := x.fld 0 29 27
/-- DIRN: 0 FORWARD, 1 REVERSE, 2 EITHER. -/
def Slot.dirn (x : Slot) : Nat := x.fld 0 26 25
/-- MISS is SKIP. -/
def Slot.skips (x : Slot) : Bool := x.fld 0 22 22 == 1
/-- ACTION. -/
def Slot.action (x : Slot) : Nat := x.fld 0 19 16
/-- TARGET. -/
def Slot.tgt (x : Slot) : Nat := x.fld 0 15 8
/-- SRC of the slot's events: the axis, or 8 for device time (spec/16, R349). -/
def Slot.src (x : Slot) : Nat := if x.timed then 8 else x.axis

/-- The channels an action names (R219). -/
def Slot.chans (x : Slot) : List Nat :=
  if x.action ≤ 4 then [x.tgt]
  else if x.action = 5 then [48 + 2 * x.tgt, 49 + 2 * x.tgt]
  else []

/-- A power action: one on a channel or a bridge. -/
def Slot.power (x : Slot) : Bool := decide (x.action ≤ 5)

/-! ### Lead tables (spec/10, R224, R225) -/

/-- The band of a VBAT code in a channel's table: each edge is the upper VBAT of its band, in 0.25 V (R224). -/
def State.leadBandOf (s : State) (n : Nat) (vbat : Int) : Nat :=
  let v := vbat * 625
  let w := (s.rd (spkLead_word n 0).addr).toNat
  if v ≤ ((bits w 31 24 * 4000 : Nat) : Int) then 0
  else if v ≤ ((bits w 23 16 * 4000 : Nat) : Int) then 1
  else if v ≤ ((bits w 15 8 * 4000 : Nat) : Int) then 2
  else 3

/-- The band of the bank's latest VBAT (R225). -/
def State.leadBand (s : State) (n : Nat) : Nat := s.leadBandOf n (s.vbatCode (bankOf n))

/-- The lead entry of kind 0 T_ON, 1 T_OFF, 2 T_ARR in a band, µs; 0xFFFF not learned. -/
def State.leadEntry (s : State) (n kind band : Nat) : Nat :=
  let w := (s.rd (spkLead_word n (2 + 2 * kind + band / 2)).addr).toNat
  if band % 2 = 0 then bits w 31 16 else bits w 15 0

/-- The entry's field in the lead table. -/
def leadFld (n kind band : Nat) : Fld :=
  let a := (spkLead_word n (2 + 2 * kind + band / 2)).addr
  if band % 2 = 0 then ⟨a, 31, 16⟩ else ⟨a, 15, 0⟩

/-- The entry in the nearest learned band, the lower of two equally near; none if no band is learned (R225). -/
def State.leadNear (s : State) (n kind band : Nat) : Option Nat :=
  let order := match band with
    | 0 => [0, 1, 2, 3]
    | 1 => [1, 0, 2, 3]
    | 2 => [2, 1, 3, 0]
    | _ => [3, 2, 1, 0]
  (order.find? (fun b => s.leadEntry n kind b != 0xFFFF)).map (s.leadEntry n kind)

/-- The learned part of an action's lead, µs (R219, R225). -/
def State.leadUs (s : State) (x : Slot) : Nat :=
  let n := x.tgt
  let band := s.leadBand n
  let on := (s.leadNear n 0 band).getD 0
  match x.action with
  | 1 => (s.leadNear n 1 band).getD 0
  | 4 => if x.fld 5 31 24 = 2 then (s.leadNear n 2 band).getD on else on
  | _ => on

/-- The lead L in ticks: OFFSET + 1 µs, and with LEAD the entry and ADD (spec/10, "Firing"). -/
def State.leadTicks (s : State) (x : Slot) : Int :=
  let l := signed 16 (x.fld 3 31 16) + 1
  (if x.fld 0 24 24 = 1 then l + (s.leadUs x : Int) + (s.get ⟨(spkLead_word x.tgt 1).addr, 15, 0⟩ : Int) else l) * 100

/-! ### Fire conditions (spec/10, R220) -/

/-- Axis `n`. -/
def State.ax (s : State) (n : Nat) : Axis := Sparse.get (fun _ => {}) s.axes n
/-- The state with axis `n` changed by `f`. -/
def State.modAx (s : State) (n : Nat) (f : Axis → Axis) : State :=
  { s with axes := Sparse.set (fun _ => {}) s.axes n (f (s.ax n)) }

/-- The direction an axis event's approach is taken in: true for REVERSE (R220). -/
def Slot.towardRev (x : Slot) (a : Axis) : Bool := if x.dirn = 2 then a.rev else x.dirn == 1
/-- ANYREV. -/
def Slot.anyRev (x : Slot) : Bool := x.fld 0 23 23 == 1

/-- The axis stands on the event's approach side with DIR toward P (R220). -/
def Slot.approach (x : Slot) (a : Axis) : Bool :=
  if x.timed then true
  else if x.anyRev then true
  else if x.dirn = 2 then decide (a.out ≠ x.target) && (if a.rev then decide (x.target < a.out) else decide (a.out < x.target))
  else if x.dirn = 1 then a.rev && decide (x.target < a.out)
  else !a.rev && decide (a.out < x.target)

/-- The event is pending: the axis stands on its approach side, or has stood there and moves on with the DIR it had; with a negative lead,
and while REVERSING with v = 0, it fires at or past P (R218, R220, R232). -/
def Slot.pending (x : Slot) (a : Axis) : Bool :=
  x.approach a || (x.ready && (x.dirn == 2 || (x.dirn == 1) == a.rev))

/-- |v| of an axis in 2^-16 units per second. -/
def Axis.speed (a : Axis) : Int := if a.v < 0 then -a.v else a.v

/-- The distance from a position to the angle P ahead of it, in the direction of DIRN (R220). -/
def aheadOf (back : Bool) (p from_ : Int) : Int := if back then (from_ - p) % 4294967296 else (p - from_) % 4294967296

/-- The position of angle P that lies `d` ahead. -/
def aheadAt (back : Bool) (from_ d : Int) : Int := if back then from_ - d else from_ + d

/-- The position of the angle P for which an ANYREV event's condition holds at this tick: P within |v| × L ahead, or crossed in the tick; with
a negative lead the point that lies |v| × −L beyond P crossed in the tick (R218, R220, R232). -/
def Slot.revHit (x : Slot) (a : Axis) (l : Int) : Option Int :=
  let back := x.towardRev a
  let d := aheadOf back x.target a.out
  if 0 ≤ l ∧ d * 65536 * 100000000 ≤ a.speed * l then some (aheadAt back a.out d)
  else
    let past := if l < 0 then a.speed * -l / (65536 * 100000000) else 0
    let e := aheadOf back (aheadAt back x.target past) a.outWas
    let moved := if back then a.outWas - a.out else a.out - a.outWas
    if 0 < e ∧ e ≤ moved then some (aheadAt back a.outWas (e - past)) else none

/-- The event has fired for this target already, and never fires for it again; an ANYREV event of the same angle not before the next
revolution (R231, R233). -/
def Slot.spent (x : Slot) (a : Axis) (p : Int) : Bool :=
  match x.lastP with
  | some q =>
    if x.anyRev then (p - q) % 4294967296 == 0 && (if x.towardRev a then decide (0 ≤ wrapS 64 (p - q)) else decide (wrapS 64 (p - q) ≤ 0))
    else p == q
  | none => false

/-- The fire condition with lead `l` in ticks (R220), of a pending event. -/
def State.reached (s : State) (x : Slot) (l : Int) : Bool :=
  let a := s.ax x.axis
  if x.timed then decide (x.target - l ≤ (s.devTime : Int)) && !x.spent a x.target
  else if x.anyRev then (match x.revHit a l with | some p => !x.spent a p | none => false)
  else
    let p := x.target * 65536 * 100000000
    let o := a.out * 65536 * 100000000
    !x.spent a x.target &&
      (if x.towardRev a then decide (o + (if a.v < 0 then a.v else 0) * l ≤ p) else decide (p ≤ o + (if 0 < a.v then a.v else 0) * l))

/-- P − x; of an ANYREV event to the position of the angle that it is due for (R220, R230). -/
def State.toGo (s : State) (x : Slot) : Int :=
  let a := s.ax x.axis
  match x.aim with
  | some p => wrapS 64 (p - a.out)
  | none => x.target - a.out

/-- Lateness in µs at this instant; none when unbounded: at or past P with v = 0. What it is short of P with v = 0 no rule states
(R230; log 100). -/
def State.lateness (s : State) (x : Slot) : Option Nat :=
  let l := s.leadTicks x
  if x.timed then some (((s.devTime : Int) - (x.target - l)).toNat / 100)
  else
    let a := s.ax x.axis
    let d := s.toGo x
    if a.v = 0 then
      if (if x.towardRev a then decide (0 ≤ d) else decide (d ≤ 0)) then none else some (Config.lateAtRest s.now)
    else some ((l - rdiv (d * 65536 * 100000000) a.v).toNat / 100)

/-! ### Ends -/

/-- The slot is freed: no owner, no event (spec/05, R102). -/
def State.freeSlot (s : State) (n : Nat) : State :=
  { (s.setSlot n none).setOwner 2 n none with dueQ := s.dueQ.filter (· != n) }

/-- The slot's SPK_ARM completes and the slot is freed; while SYS is down it stays in DONE until the
completion can be written (R234, R235; spec/03, R64). -/
def State.endSlot (s : State) (n : Nat) (status : Byte) (result : Nat) : State :=
  match s.slot n with
  | none => s
  | some x =>
    match s.job x.job with
    | none => s.freeSlot n
    | some j =>
      let t := { s with jobs := s.jobs.filter (fun y => y.id != x.job), dueQ := s.dueQ.filter (· != n) }
      let t := t.complete j.hdr 0x24 status result [] false none (some n)
      if s.sysUp ∧ s.domOn Dm.sys = true then t.freeSlot n
      else t.setSlot n (some { x with st := .done, due := none })

/-- The target of the next firing of a repeating event (R233). -/
def State.nextTarget (s : State) (x : Slot) : Int :=
  let i : Int := ((x.fld 4 31 0 : Nat) : Int)
  if x.timed then x.target + i * 100
  else if x.anyRev then x.target - x.target % 4294967296 + (x.target + i) % 4294967296
  else if x.towardRev (s.ax x.axis) then x.target - i
  else x.target + i

/-- The position that a firing is for: P, or with ANYREV where its angle lies (R220). -/
def Slot.firedAt (x : Slot) : Int := x.aim.getD x.target

/-- What a firing leaves to watch for R232. -/
def State.crossingOf (s : State) (n : Nat) (x : Slot) : Crossing :=
  let a := s.ax x.axis
  let p := x.firedAt
  { slot := n, owner := x.owner, axis := x.axis, target := p, rev := a.rev, at_ := s.devTime, lead := s.leadTicks x }

/-- A firing or skip is over (R229, R233, R234): counted, reported as a miss where it is one, then the
event re-arms with its next target, or the SPK_ARM completes OK with this OUTCOME and the slot is freed. -/
def State.fired (s : State) (n outcome reason : Nat) (skipped : Bool) : State :=
  match s.slot n with
  | none => s
  | some x =>
    let late := if skipped then none else s.lateness x
    let t := if outcome = 0 then s else
      (s.inc (if outcome = 1 then spkMisscnt_late else spkMisscnt_skipped)).post [x.owner] 10 0x01 x.src (n + reason * 0x1000)
        (late.getD 0xFFFFFFFF)
    let x' : Slot := {
      x with
      firings := satTo 65535 (x.firings + 1), last := outcome, granted := none, due := none, aim := none, st := .armed, ready := false
      lastP := if skipped ∧ x.anyRev = false then x.lastP else some x.firedAt }
    let t := { t with
      dueQ := t.dueQ.filter (· != n)
      crossings := if skipped ∨ x.timed then t.crossings else t.crossings ++ [s.crossingOf n x] }
    if x.left = some 0 then (t.setSlot n (some x')).endSlot n St.ok (outcome * 0x40000000)
    else t.setSlot n (some { x' with target := s.nextTarget x, left := x.left.map (· - 1) })

/-- A turn-on of a channel: one that drives stays on; from OFF, LOW or a brake it is switched on, and a brake's end is forgotten (R84). -/
def State.stayOn (s : State) (n : Nat) : State :=
  if s.isOn n then s.modCh n (fun c => { c with cmdOn := true })
  else (s.turnOn n).modBr (bridgeOf n) (fun b => if 48 ≤ n then { b with brakeEnd := none } else b)

/-- The fired actions on a channel whose edges have not started, with what they were granted, give way to a later one (R223). -/
def State.dropActs (s : State) (n : Nat) : State :=
  let mine (c : Nat) : Bool := decide (c ∈ s.pairOf n)
  { s with
    acts := s.acts.filter (fun a => !(a.slot.chans.any mine && a.slot.action != 2))
    grants := s.grants.filter (fun g => !(match g.src with | .act c => mine c | _ => false)) }

/-- The effect of a power action that has its budget, or needs none (R219): the turn-on of the command
it acts as. -/
def State.spkTurnOn (s : State) (x : Slot) : State :=
  match x.action with
  | 0 => s.stayOn x.tgt
  | 3 => s.startPulse x.tgt (x.fld 5 31 0) none
  | 4 =>
    let fresh := decide ((s.ch x.tgt).drive = .off)
    let t := (s.endPulse x.tgt (s.pulseWidth x.tgt)).endProfile x.tgt 8
    if s.parkedSet (x.fld 5 31 24) (s.pset x.tgt (x.fld 5 23 16)) then s.parkNow x.tgt
    else t.startProfile x.tgt (x.fld 5 31 24) (t.pset x.tgt (x.fld 5 23 16)) none fresh
  | 5 =>
    let k := x.tgt
    let n := 48 + 2 * k
    let t := ((s.endPulse n (s.pulseWidth n)).endPulse (n + 1) (s.pulseWidth (n + 1))).endProfile n 8
    (t.endMove k 8).startMove k { axis := x.fld 5 31 24, target := x.fld 6 31 0 * 4294967296 + x.fld 7 31 0, duty := x.fld 5 23 12, set := t.pset n 0, job := none }
  | _ => s

end Sys2Proof.Machine
end

