-- ==== Sys2Proof/Machine/Gov.lean ====
section
/-! DEFINITION. The headroom governor: budget requests, grants, the line, releases and what a grant or
the end of a deferral limit does (spec/11, R237 to R244; spec/07, R164, R165). -/

namespace Sys2Proof.Machine

/-! ### Use and headroom (R238, R243, R244) -/

/-- The use U, 0.1 A: every grant in force on the group. -/
def State.usedOf (s : State) (g : Nat) : Nat := ((s.grants.filter (fun x => s.govOf x.ch == g)).map (fun x => x.amount)).sum

/-- The most that S can reach: the budget in force, or BUDGET for a device alone (R243). -/
def State.shareMax (s : State) (g : Nat) : Nat := if s.govAlone g then s.get (govBudget_budget g) else (s.grp g).bf

/-- A droop freeze, local or remote, stands on the group (R244, R246). -/
def State.frozen (s : State) (g : Nat) : Bool := (s.grp g).frozenLocal || (s.grp g).frozenRemote

/-! ### Requests (R240, R241, R243) -/

/-- The amount a request asks of a group. -/
def State.reqAmt (s : State) (r : Req) (g : Nat) : Nat :=
  ((r.parts.filter (fun p => s.govOf p.1 == g)).map (fun p => p.2)).sum

/-- The groups a request has a part in. -/
def State.reqGroups (s : State) (r : Req) : List Nat := (r.parts.map (fun p => s.govOf p.1)).eraseDups

/-- Condition 3 of R241 on one group: the context's HEADROOM share. -/
def State.shareOk (s : State) (r : Req) (g : Nat) : Bool :=
  match r.hc with
  | none => true
  | some h =>
    let feed := match r.parts.find? (fun p => s.govOf p.1 == g) with | some p => feedOf p.1 | none => g
    let held := ((s.grants.filter (fun x => x.hc == some h && x.prio != 0 && s.govOf x.ch == g)).map (fun x => x.amount)).sum
    decide ((held + s.reqAmt r g) * 100 ≤ s.quota h (3 + feed) * s.shareOf g)

/-- Conditions 1, 2 and 5 of R241 on one group: no freeze, spare, and COMFORT_MAX. -/
def State.roomOk (s : State) (r : Req) (g : Nat) : Bool :=
  !s.frozen g && decide (s.usedOf g + s.reqAmt r g ≤ s.shareOf g) &&
    (r.prio != 2 ||
      decide ((((s.grants.filter (fun x => x.prio == 2 && s.govOf x.ch == g)).map (fun x => x.amount)).sum + s.reqAmt r g) * 100 ≤
        s.get (govMap_comfortMax g) * s.shareOf g))

/-- The turn-on can reach its banks: while a bank's link is lost nothing but its own limp entries switches its channels on (spec/01, R7;
spec/03, R63; spec/07, R163; log 93). -/
def State.reaches (s : State) (r : Req) : Bool :=
  (match r.src with | .limp _ => true | .restart n => s.limpFor n | _ => false) || r.parts.all (fun p => (s.bank (bankOf p.1)).linkUp)

/-- The requests of the line ahead of `r`: those of a more urgent class, and earlier ones of its own. -/
def State.ahead (s : State) (r : Req) : List Req :=
  s.line.filter (fun q => !q.held && s.reaches q && q.id != r.id && (decide (q.prio < r.prio) || (q.prio == r.prio && decide (q.id < r.id))) &&
    (s.reqGroups q).any (fun g => decide (g ∈ s.reqGroups r)))

/-- A request that waits for its context's share alone, where those ahead of it may be passed: conditions 1, 2, 4 and 5 of R241 hold, and
condition 3 does not. `passed`: the requests that may be passed. -/
def State.shareHeld (s : State) (passed : List Nat) (r : Req) : Bool :=
  (s.reqGroups r).all (fun g => s.roomOk r g) && (s.reqGroups r).any (fun g => !s.shareOk r g) && (s.ahead r).all (fun q => decide (q.id ∈ passed))

/-- The line in its order: WORK before COMFORT, then by age (R243). -/
def State.ordered (s : State) : List Req := sortBy (fun q r => decide (q.prio < r.prio) || (q.prio == r.prio && decide (q.id < r.id))) s.line

/-- The waiting requests that later ones may pass: held solely by their context's share, or asking more than S can reach (R243). -/
def State.passables (s : State) : List Nat :=
  s.ordered.foldl (fun acc r => if s.shareHeld acc r || (s.reqGroups r).any (fun g => decide (s.shareMax g < s.reqAmt r g)) then r.id :: acc else acc) []

/-- Whether a request is grantable now: SAFETY always (R241); one of 0 A unless a freeze holds it (R240). -/
def State.grantable (s : State) (r : Req) : Bool :=
  if s.reaches r = false then false
  else if r.prio = 0 then true
  else if r.parts.all (fun p => p.2 == 0) then (s.reqGroups r).all (fun g => !s.frozen g)
  else
    let passed := s.passables
    (s.reqGroups r).all (fun g => s.roomOk r g && s.shareOk r g) && (s.ahead r).all (fun q => decide (q.id ∈ passed))

/-- A SAFETY grant has been made: an overdraw is reported where it took U above S; `was`: the state before it (R242). -/
def State.noteOverdraw (s was : State) : State :=
  forEach [0, 1] (fun g t =>
    if was.usedOf g ≤ was.shareOf g ∧ t.shareOf g < t.usedOf g then t.post t.sysHolders 12 0x01 g 0 (t.usedOf g) else t) s

/-- The highest use since the last read of GOV_GRPg_PEAK. -/
def State.notePeak (s : State) : State :=
  forEach [0, 1] (fun g t =>
    let u := t.usedOf (t.govIdx g)
    if t.get (govPeak_peakuse g) < u then t.put (govPeak_peakuse g) (satTo 65535 u) else t) s

/-! ### Turn-ons (spec/07, R154, R161; spec/03, R455) -/

/-- How a turn-on meets a channel. -/
inductive OnCase where
  | refuse (st : Byte)
  | later
  | already
  | ask
  deriving DecidableEq, Repr

/-- The meeting of a turn-on with a channel: refused when disabled or latched; committed at once with no
edge in COOLING, within the minimum off time that a trip has left (log 16), above the temperature levels
or in undervoltage; without budget when it is on; else it asks for budget (R114, R161, R154, R455). -/
def State.turnCase (s : State) (n : Nat) : OnCase :=
  let c := s.ch n
  if c.disabled then .refuse St.badState
  else if c.latched then .refuse St.locked
  else if c.cooling then .later
  else if c.drive ≠ .off then .already
  else if s.uvCh n then .later
  else if c.tripped ∧ s.now < c.coolEnd then .later
  else if (s.pairOf n).any s.tooHot then .later
  else .ask

/-- The meeting of a turn-on by a command or an event with a channel: one that follows an LH input refuses
it (R174). -/
def State.onCase (s : State) (n : Nat) : OnCase :=
  if (s.ch n).disabled = false ∧ (s.ch n).follow.isSome then .refuse St.badState else s.turnCase n

/-- Commanded on with no edge: above its temperature levels the channel is in COOLING without a trip (R154); a bridge is commanded to
drive as its channel `n` does, and cools as one unit (R153). -/
def State.commitLater (s : State) (n : Nat) : State :=
  (s.pairOf n).foldl (fun t c => t.modCh c (fun x => { x with cmdOn := c == n, cooling := x.cooling || (!s.uvCh n) })) s

/-! ### Restart (spec/07, R160, R163) -/

/-- The limp map is in force. -/
def State.limpOnNow (s : State) : Bool := s.flag pwrStart_limp

/-- Conditions 1 to 4 of R160, and no undervoltage; 1 and 4 only after a trip (R154). -/
def State.cooled (s : State) (n : Nat) : Bool :=
  let cs := s.pairOf n
  let c := s.ch n
  c.cooling && !c.latched && c.drive == .off &&
    (!c.tripped || (decide (c.coolEnd ≤ s.now) && (c.cause != 5 || cs.all (fun k => decide ((s.ch k).theta ≤ 500000000))))) &&
    cs.all (fun k => s.coolEnough k) && !s.uvCh n

/-- The channel, or a channel of its bridge, is commanded to a state that drives. -/
def State.wanted (s : State) (n : Nat) : Bool := (s.pairOf n).any (fun k => (s.ch k).cmdOn || (s.ch k).lowSide)

/-- Conditions 1 to 4 of R160 of a channel still commanded on, and the bank link of R163. -/
def State.mayRestart (s : State) (n : Nat) : Bool :=
  s.cooled n && s.wanted n && ((s.bank (bankOf n)).linkUp || s.limpFor n)

/-- The restarts, recoveries and held actions of a channel that wait for budget are withdrawn: its turn-off stands, and a later row asks again. -/
def State.unask (s : State) (n : Nat) : State :=
  let own (k : Nat) : Bool := decide (k ∈ s.pairOf n)
  { s with line := s.line.filter (fun r => !(match r.src with | .restart k => own k | .uv k => own k | .act k => own k | _ => false)) }

/-! ### What a grant does -/

/-- A pulse waits on a channel that cannot start it now; the command commits at once (R161, R175, R455). -/
def State.storePulse (s : State) (n width : Nat) : State :=
  let t := (s.endPulse n (s.pulseWidth n)).endProfile n 8
  (t.commitLater n).modCh n (fun c => { c with pulse := some { width := width, job := none } })

/-- A profile waits on a channel that cannot start it now; the command commits at once (R161, R455). -/
def State.storeProfile (s : State) (n code : Nat) (set : List Word) : State :=
  let t := (s.endPulse n (s.pulseWidth n)).endProfile n 8
  (t.commitLater n).modCh n (fun c => { c with profile := some { code := code, set := set, phase := .ramp, startAt := s.now } })

/-- A move waits on a bridge that cannot start it now. -/
def State.storeMove (s : State) (k : Nat) (m : Move) : State :=
  let n := 48 + 2 * k
  let t := ((s.endPulse n (s.pulseWidth n)).endProfile n 8).endMove k 8
  (t.commitLater n).modBr k (fun b => { b with move := some { m with job := none } })

/-- The grants of a request that a channel does not use are released with it. -/
def State.dropGrant (s : State) (src : ReqSrc) (c : Nat) : State :=
  { s with grants := s.grants.filter (fun g => !(g.src == src && g.ch == c && g.edge.isNone)) }

/-- The move that a MOTOR_TARGET asks for: its parameters with PSET 0 (spec/08, R188). -/
def State.moveOf (s : State) (k a d t : Nat) (job : Option Nat) : Move :=
  { axis := a, target := t, duty := d, set := s.pset (48 + 2 * k) 0, job := job }

/-- A command that starts a profile or a move. -/
def startsProfile (i : Instr) : Bool := match i with | .chStartProfile .. => true | .motorTarget .. => true | _ => false

/-- The channel's, or its bridge's, turn-on edge has not started yet: in state PWM it comes with the next period (spec/08, R171). -/
def State.edgeDue (s : State) (n : Nat) : Bool := (s.pairOf n).any (fun k => (s.ch k).drive == .pwm && decide (s.now < (s.ch k).edgeAt))

/-- A CH_ON commits on a channel that has been switched on when its edge has started (spec/04, R87). -/
def State.edgeCommit (s : State) (id c : Nat) : State :=
  if s.edgeDue c then s.modCh (s.head c) (fun x => { x with edgeJob := some (id, c) }) else s.jobDone id c

/-- The CH_ON that waits for a channel's edge commits when the edge has started. -/
def State.edgeTick (s : State) (n : Nat) : State :=
  match (s.ch n).edgeJob with
  | some (id, c) => if s.edgeDue n then s else (s.modCh n (fun x => { x with edgeJob := none })).jobDone id c
  | none => s

/-- The edge that a CH_ON waits for does not come: the command fails on the channel with a status, or has committed with no edge. -/
def State.loseEdge (s : State) (n : Nat) (st : Option Byte) : State :=
  match (s.ch (s.head n)).edgeJob with
  | some (id, c) =>
    let t := s.modCh (s.head n) (fun x => { x with edgeJob := none })
    match st with
    | some st => t.jobFail id c st
    | none => t.jobSkip id c
  | none => s

/-- The part of a granted request of a command on channel `c`: its turn-on takes effect, or, where the
channel has meanwhile latched or been held off, it ends as such a turn-on does (R241, R161, R242); a profile
start of a bank whose store has meanwhile failed completes with BAD_STATE (spec/08, R181). -/
def State.grantJob (s : State) (id c : Nat) (j : Job) : State :=
  let src := ReqSrc.job id
  let s := s.dropActs c
  if startsProfile j.cmd = true ∧ (s.bank (bankOf c)).storeOk = false then (s.dropGrant src c).endJob id St.badState 0
  else match s.onCase c with
  | .refuse st => match j.cmd with
    | .chOn .. => (s.dropGrant src c).jobFail id c st
    | _ => (s.dropGrant src c).endJob id st 0
  | .later =>
    let t := s.dropGrant src c
    match j.cmd with
    | .chOn .. => (t.commitLater c).jobSkip id c
    | .chPulse _ _ w => (t.storePulse c w.toNat).endJob id St.ok 0
    | .chStartProfile _ _ p k => (t.storeProfile c p.toNat (t.pset c k.toNat)).endJob id St.ok 0
    | .motorTarget _ b a d g => (t.storeMove b.toNat (t.moveOf b.toNat a.toNat d.toNat g.toNat none)).endJob id St.ok (unsigned 32 (t.axOut a.toNat))
    | _ => t
  | .already => match j.cmd with
    | .chOn .. => if s.isOn c then ((s.dropGrant src c).stayOn c).jobSkip id c else ((s.dropGrant src c).stayOn c).jobDone id c
    | .chPulse _ _ w => s.startPulse c w.toNat (some id)
    | .chStartProfile _ _ p k =>
      if s.parkedSet p.toNat (s.pset c k.toNat) then ((s.dropGrant src c).parkNow c).endJob id St.ok 0
      else (s.preempt c).startProfile c p.toNat (s.pset c k.toNat) (some id) false
    | .motorTarget _ b a d g => ((s.preempt c).startMove b.toNat (s.moveOf b.toNat a.toNat d.toNat g.toNat (some id))).markEdge c
    | _ => s
  | .ask => match j.cmd with
    | .chOn .. => ((s.turnOn c).markEdge c).edgeCommit id c
    | .chPulse _ _ w => (s.startPulse c w.toNat (some id)).markEdge c
    | .chStartProfile _ _ p k =>
      if s.parkedSet p.toNat (s.pset c k.toNat) then ((s.dropGrant src c).parkNow c).endJob id St.ok 0
      else (s.startProfile c p.toNat (s.pset c k.toNat) (some id) true).markEdge c
    | .motorTarget _ b a d g => ((s.preempt c).startMove b.toNat (s.moveOf b.toNat a.toNat d.toNat g.toNat (some id))).markEdge c
    | _ => s

/-- A grant for an event: it is held until the event fires; a deferred event falls due now, and fires at the rate (R221, R222, R229). -/
def State.grantSlot (s : State) (n : Nat) (x : Slot) : State :=
  if x.st = .deferred then
    let why := match x.due with | some (0, _) => 4 | some (r, _) => r | none => 4
    s.setSlot n (some { x with granted := some s.now, st := .requesting, due := some (why, s.now) })
  else s.setSlot n (some { x with granted := some s.now })

/-- The part of a granted request on channel `c` (R241, R160, R44, R174, R229). -/
def State.grantPart (s : State) (r : Req) (c : Nat) : State :=
  match r.src with
  | .job id => match s.job id with
    | none => s
    | some j => s.grantJob id c j
  | .spk n => match s.slot n with
    | none => s
    | some x => s.grantSlot n x
  | .follow _ => match s.turnCase c with
    | .refuse _ => s.dropGrant r.src c
    | .later => (s.dropGrant r.src c).commitLater c
    | .already => s.dropGrant r.src c
    | .ask => (s.turnOn c).markEdge c
  | .restart k =>
    if s.mayRestart k then
      let counts := (s.pairOf c).any (fun k => (s.ch k).tripped)
      let t := (s.resume c).markEdge c
      let edge := (t.pairOf c).foldl (fun m k => max m (t.ch k).edgeAt) s.now
      if counts then t.modCh (s.head c) (fun x => { x with restarts := (edge :: x.restarts).take 15 }) else t
    else s.dropGrant r.src c
  | .uv _ => match s.turnCase c with
    | .ask => (s.resume c).markEdge c
    | .later => (s.dropGrant r.src c).modCh c (fun x => { x with cooling := x.cooling || !s.uvCh c })
    | _ => s.dropGrant r.src c
  | .pinch k =>
    if s.uvCh c = true ∨ (s.br k).reverseLeft.isNone then s.dropGrant r.src c
    else ((s.modBr k (fun b => { b with mstate := .pinch })).setBridge k (if (s.br k).lastFwd then .reverse else .forward)).markEdge c
  | .limp _ => match s.turnCase c with
    | .ask => (s.limpDrive c).markEdge c
    | .later => (s.dropGrant r.src c).commitLater c
    | _ => s.dropGrant r.src c
  | .act _ => match s.turnCase c with
    | .ask => (s.resume c).markEdge c
    | .later => (s.dropGrant r.src c).commitLater c
    | _ => s.dropGrant r.src c

/-- The channels that an ATOMIC turn-on commits with no edge, at its grant (R84, R161). -/
def State.grantRest (s : State) (r : Req) : State :=
  match r.src with
  | .job id => match s.job id with
    | some { cmd := .chOn _ m, .. } =>
      forEach ((maskList 64 m.toNat).filter (fun c => !r.parts.any (fun p => p.1 == c))) (fun c t => match t.onCase c with
        | .later => t.commitLater c
        | .already => t.stayOn c
        | _ => t) s
    | _ => s
  | _ => s

/-- The status with which an ATOMIC turn-on is refused on one of its channels at its grant: then none is switched on (R84, R161). -/
def State.wholeRefusal (s : State) (r : Req) : Option (Nat × Byte) :=
  match r.src with
  | .job id => match s.job id with
    | some { cmd := .chOn _ m, .. } =>
      if r.whole then ((maskList 64 m.toNat).findSome? (fun c => match s.onCase c with | .refuse st => some st | _ => none)).map (fun st => (id, st))
      else none
    | _ => none
  | _ => none

/-- A request granted: a grant for each part, then the turn-ons (R241, R242); an ATOMIC one that a channel refuses ends with none of its
channels on (R84). -/
def State.grantReq (s : State) (r : Req) : State :=
  let off : State := { s with line := s.line.filter (fun q => q.id != r.id) }
  match s.wholeRefusal r with
  | some (id, st) => off.endJob id st 0 (maskCont 0)
  | none =>
  let gs := r.parts.map (fun p => ({ ch := p.1, amount := p.2, prio := r.prio, hc := r.hc, src := r.src, at_ := s.now } : Grant))
  let t : State := { off with grants := s.grants ++ gs }
  let t := if r.prio = 0 then t.notePeak.noteOverdraw s else t.notePeak
  let t := if r.whole then t.grantRest r else t
  let t := r.parts.foldl (fun u p => u.grantPart r p.1) t
  match r.src with
  | .job id => if r.parts = [] then t.settle id else t
  | _ => t

/-- A waiting turn-on whose channel another request has meanwhile switched on commits without budget
(R242); of an ATOMIC one each such channel leaves its parts (`growReq`). -/
def State.servedByOther (s : State) (r : Req) : Bool :=
  !r.whole && (match r.src with
    | .job _ | .spk _ => r.parts.all (fun p => s.isOn p.1 && s.onCase p.1 == .already)
    | .follow _ => r.parts.all (fun p => s.isOn p.1)
    | _ => false)

/-- An event's request leaves the line as another turn-on has switched its channel on: one that has fired commits at once without budget,
one that has not goes back to ARMED (R242). -/
def State.servedSlot (s : State) (n : Nat) (x : Slot) : State :=
  if x.st = .deferred then
    let why := match x.due with | some (0, _) => 4 | some (r, _) => r | none => 4
    s.setSlot n (some { x with granted := none, st := .requesting, due := some (why, s.now) })
  else s.setSlot n (some { x with st := .armed })

/-- A request that another's turn-on has served leaves the line. -/
def State.serve (s : State) (r : Req) : State :=
  let t : State := { s with line := s.line.filter (fun q => q.id != r.id) }
  match r.src with
  | .spk n => match t.slot n with
    | some x => t.servedSlot n x
    | none => t
  | _ => r.parts.foldl (fun u p => u.grantPart r p.1) t

/-- An ATOMIC turn-on asks for budget on the channels of its command that need it now: one that needed none when it was made, in
undervoltage or too hot, joins its parts, and one that another turn-on has switched on leaves them (R84, R242). -/
def State.growReq (s : State) (r : Req) : Req :=
  match r.src with
  | .job id => match s.job id with
    | some { cmd := .chOn _ m, .. } =>
      let old (c : Nat) : Option (Nat × Nat) := r.parts.find? (fun p => p.1 == c)
      let need := (maskList 64 m.toNat).filter (fun c => s.onCase c == .ask)
      if r.whole then { r with parts := need.map (fun c => (old c).getD (c, s.budgetI c)) } else r
    | _ => r
  | _ => r

/-- The ATOMIC turn-ons in the line with the parts they have now; their commands wait for each. -/
def State.growLine (s : State) : State :=
  if s.line.any (fun r => r.whole) then
    let line := s.line.map s.growReq
    line.foldl (fun (t : State) r => match r.whole, r.src with
      | true, .job id => t.modJob id (fun j => { j with wait := listMask (r.parts.map (fun p => p.1)) })
      | _, _ => t) { s with line := line }
  else s

/-- The line examined once: the first request served by another's turn-on, or grantable, leaves it. -/
def State.examine1 (s : State) : Option State :=
  match s.line.find? (fun r => !r.held && s.servedByOther r) with
  | some r => some (s.serve r)
  | none =>
    match (s.line.filter (fun r => !r.held && r.prio == 1) ++ s.line.filter (fun r => !r.held && r.prio != 1)).find? (fun r => s.grantable r) with
    | some r => some (s.grantReq r)
    | none => none

/-- The line re-examined until nothing in it is grantable (R241); `k` bounds the rounds. -/
def State.examine : Nat → State → State
  | 0, s => s
  | k + 1, s => match s.examine1 with | some t => State.examine k t.growLine | none => s

/-- The line re-examined. -/
def State.reexamine (s : State) : State := s.growLine.examine s.line.length

/-! ### Ends of requests and grants -/

/-- A turn-on whose request is withdrawn or runs into its limit fails with a status: its command for that
channel, or for all its channels where the request is one for the whole; an event that has fired and waits for its late grant is skipped as at its
limit, which is a DESIGN CHOICE, and one that has not goes back to ARMED (R84, R85, R242; log 117). -/
def State.failReq (s : State) (r : Req) (st : Byte) : State :=
  match r.src with
  | .job id =>
    match s.job id with
    | none => s
    | some j =>
      match j.cmd with
      | .chOn _ m =>
        if r.whole then s.endJob id st 0 (maskCont (0 * m.toNat))
        else r.parts.foldl (fun t p => t.jobFail id p.1 st) s
      | _ => s.endJob id st 0
  | .spk n => match s.slot n with
    | some x => if x.st = .deferred then s.fired n 3 4 true else s.setSlot n (some { x with st := .armed })
    | none => s
  | _ => s

/-- The end of a deferral limit (R85, R174, R229; spec/11, R240). -/
def State.limitReq (s : State) (r : Req) : State :=
  let g := match r.parts with | p :: _ => s.govOf p.1 | [] => 0
  let t := { s with line := s.line.filter (fun q => q.id != r.id) }.inc (govCnt_expired g)
  match r.src with
  | .job _ => t.failReq r St.noResource
  | .spk n => t.fired n (if r.held then 2 else 3) (if r.held then 5 else 4) true
  | .follow c => (t.clearCmd c).post (t.ownerList 0 c) 5 0x01 c 0 0
  | .act c => (t.endWork c 2).clearCmd c
  | _ => t

/-- The banks under a case warning that hold a WORK or COMFORT turn-on; a limp-map turn-on is not held (spec/07, R164). -/
def State.warnedBanks (s : State) (r : Req) : List Nat :=
  match r.src with
  | .limp _ => []
  | _ => if r.prio = 0 then [] else ((r.parts.map (fun p => bankOf p.1)).eraseDups).filter (fun b => s.flag (bankTwarn_active b))

/-- Turn-ons held, counted in each bank whose warning holds them (spec/07, R164, R168). DESIGN CHOICE: one request counts once in a bank, at its
first hold there, however many of the bank's channels it names (log 123). -/
def State.countHeld (s : State) (bs : List Nat) : State := forEach bs (fun b t => t.inc (bankProtstat_held b)) s

/-- A command of a context in OVER_QUOTA may take no new inrush; SAFETY counts in no quota (spec/05, R110, R112). -/
def State.overAsk (s : State) (r : Req) : Bool :=
  (match r.src with | .job _ => true | _ => false) && r.prio != 0 &&
    (match r.hc with | some h => s.flag (hcState_overQuota h) | none => false)

/-- A new request (R241): SAFETY is granted at once; a WORK or COMFORT turn-on in a bank under a case
warning is held outside the line (spec/07, R164); else it is granted where it can be, or joins the line,
where a limit of 0 ms passes at once (R239). -/
def State.request (s : State) (src : ReqSrc) (parts : List (Nat × Nat)) (prio : Nat) (hc : Option Nat) (limit : Option Nat)
    (whole : Bool := false) : State :=
  let (id, s) := s.fresh
  let r : Req := {
    id := id, src := src, parts := parts, prio := prio, hc := hc, at_ := s.now, limit := limit.map (fun d => s.now + ms d), whole := whole }
  if s.overAsk r then s.failReq r St.overQuota
  else
    let held := s.warnedBanks r
    let r' := { r with held := held != [] }
    if held = [] ∧ s.grantable r = true then s.grantReq r
    else
      let g := match parts with | p :: _ => s.govOf p.1 | [] => 0
      let t := ({ s with line := s.line ++ [r'] }.inc (govCnt_deferrals g)).countHeld held
      if limit = some 0 then t.limitReq r' else t

/-- Requests withdrawn, their commands failing with a status; then the line is re-examined (R242). -/
def State.withdraw (s : State) (p : Req → Bool) (st : Byte) : State :=
  let out := s.line.filter p
  if out = [] then s
  else (out.foldl (fun (t : State) r => t.failReq r st) { s with line := s.line.filter (fun r => !p r) }).reexamine

/-- Grants released; then the line is re-examined (R242, R243). -/
def State.release (s : State) (p : Grant → Bool) : State :=
  if s.grants.any p then { s with grants := s.grants.filter (fun g => !p g) }.reexamine else s

/-- The grants of a channel released, of both channels in a bridge. -/
def State.releaseCh (s : State) (n : Nat) : State := s.release (fun g => decide (g.ch ∈ s.pairOf n))

/-- The channel's switches go off and its granted inrush comes back (R242). -/
def State.chanOff (s : State) (n : Nat) : State := (s.outOff n).releaseCh n

/-- The commanded state of a channel becomes off, as CH_OFF does under R161 and R178: waiting requests
of its turn-ons are withdrawn with FLUSHED, its pulse, profile or move ends, a pending restart is
dropped, and its output goes off. -/
def State.cmdOff (s : State) (n : Nat) (code : Nat := 2) (status : Byte := 0) : State :=
  let chans := s.pairOf n
  let s := s.loseEdge n (some St.flushed)
  let t := s.withdraw (fun r => r.parts.any (fun p => decide (p.1 ∈ chans))) St.flushed
  let t := t.endWork n code status
  let t := (t.chanOff n).clearCmd n
  chans.foldl (fun u c => u.modCh c (fun x => { x with cooling := false })) t

/-- An armed event ends without firing: its request or grant goes back, and its SPK_ARM completes with
the status (R104, R114, R235). -/
def State.cancelSlot (s : State) (n : Nat) (st : Byte) : State :=
  match s.slot n with
  | none => s
  | some x =>
    if x.st = .done then s
    else
      let t := { s with line := s.line.filter (fun r => r.src != ReqSrc.spk n) }
      let t := t.endSlot n st 0
      (t.release (fun g => g.src == ReqSrc.spk n && g.edge.isNone)).reexamine

/-- The armed slots, rising. -/
def State.armed (s : State) : List Nat := s.slots.map (fun p => p.1)

/-- Every armed event that `p` picks is cancelled. -/
def State.cancelWhere (s : State) (p : Nat → Slot → Bool) (st : Byte := St.cancelled) : State :=
  forEach s.armed (fun n t => match t.slot n with
    | some x => if p n x then t.cancelSlot n st else t
    | none => t) s

/-- The disable of a channel, or of its whole bridge, by R114: queued work on it flushed, a command that names other channels too as a
whole, which is a DESIGN CHOICE (log 78), waiting turn-ons
flushed, pulses, profiles and moves end with output off and complete BAD_STATE, armed events that name
it are cancelled, commanded on is cleared, and it is disabled. A latch stays (R161). -/
def State.disableCh (s : State) (n : Nat) : State :=
  let chans := s.pairOf n
  let t := s.flushQueued (fun _ i => !isDisable i && meets (s.resOf i) (chans.map Res.chan)) St.flushed
  let t := t.cancelWhere (fun _ x => x.chans.any (fun c => decide (c ∈ chans)))
  let t := (t.dropActs n).cmdOff n 2 St.badState
  chans.foldl (fun u c => u.modCh c (fun x => { x with disabled := true, follow := none })) t

end Sys2Proof.Machine
end

