-- ==== Sys2Proof/Machine/CrankOps.lean ====
section
/-! DEFINITION. Crank's axes: configuration fields, the tracker, counts and measurements, jumps and
what Sprocket does with them, reference marks (spec/09; spec/10, R229 to R232). Positions and velocities
carry 16 fraction bits below the axis unit (R206); where a quotient is not exact, which way it rounds is
left open (log 10). -/

namespace Sys2Proof.Machine

/-! ### The axis record (R196) -/

/-- A field of axis `n`'s record. -/
def State.axf (s : State) (n k hi lo : Nat) : Nat := bits (s.rd (axCfg_word n k).addr).toNat hi lo
/-- The eight words of axis `n`'s record. -/
def State.axRec (s : State) (n : Nat) : List Word := (List.range 8).map (fun k => s.rd (axCfg_word n k).addr)
/-- KIND: 0 LINEAR, 1 ANGULAR, 2 COUNT. -/
def State.axKind (s : State) (n : Nat) : Nat := s.axf n 0 31 30
/-- SOURCE. -/
def State.axSource (s : State) (n : Nat) : Nat := s.axf n 0 29 26
/-- SCALE in units of 2^-16. -/
def State.axScale (s : State) (n : Nat) : Int := ((s.axf n 1 31 0 * 65536 + s.axf n 2 31 16 : Nat) : Int)
/-- TIMEOUT in ticks. -/
def State.axTimeout (s : State) (n : Nat) : Nat := ms (s.axf n 3 15 0)

/-- The greatest INDEX of a source (R198). -/
def axIndexMax (src : Nat) : Nat :=
  match src with
  | 1 | 2 => 3
  | 3 => 19
  | 4 | 5 => 5
  | 6 => 7
  | 7 => 255
  | _ => 0

/-- Edge sources: pairs with a MODE (R198). -/
def axIsEdge (src : Nat) : Bool := src == 1 || src == 2 || src == 3
/-- Message sources (R208). -/
def axIsMsg (src : Nat) : Bool := src == 4 || src == 5 || src == 7 || src == 8

/-- An axis record is well formed; the ranges of fields that a source does not use are not held against
it, as the worked example carries zeros there (R196; log 11). -/
def axConds (ws : List Word) : List Bool :=
  let f := setField ws
  let src := f 0 29 26
  let scale := f 1 31 0 * 65536 + f 2 31 16
  [decide (f 0 31 30 ≠ 3), decide (src ≤ 9), decide (f 0 23 16 ≤ axIndexMax src), (src != 7 || f 0 18 16 == 0),
   (axIsEdge src || f 0 25 24 == 0), decide (f 0 14 12 ≤ (if src = 1 then 3 else 0)), f 0 11 0 == 0,
   (src != 6 || f 0 31 30 == 2), (f 0 31 30 != 2 || scale == 65536),
   (src == 0 || src == 7 || src == 9 || decide (1 ≤ f 2 7 0)), decide (f 2 7 0 ≤ f 2 15 8),
   (src == 0 || src == 9 || decide (1 ≤ f 3 31 24)), (src == 0 || src == 9 || decide (1 ≤ f 3 15 0)), decide (f 3 15 0 ≤ 60000),
   decide (f 3 23 22 ≤ 1), (decide (f 3 21 16 ≤ 0x38) || f 3 21 16 == 0x3F),
   (!axIsMsg src || decide (1 ≤ f 4 31 16)), decide (f 4 31 16 ≤ 60000), f 4 15 0 == 0, f 6 30 29 == 0,
   (src == 4 || src == 5 || f 6 28 0 == 0), (f 7 22 18 == 0 || decide (7 ≤ f 7 22 18)),
   (!(src == 4 || src == 5) || decide (7 ≤ f 7 22 18)), f 7 7 0 == 0]

/-- The record is acceptable as a whole. -/
def axRecOk (ws : List Word) : Bool := (axConds ws).all id

/-! ### Position and output position (R195, R206, R207) -/

/-- A position held to the axis's range: an ANGULAR one wraps, any other stops at its limits; with
whether it did (R195). -/
def State.axLimit (s : State) (n : Nat) (x : Int) : Int × Bool :=
  if s.axKind n = 1 then (wrapS 80 x, false)
  else if (2 ^ 47 - 1) * 65536 ≤ x then ((2 ^ 47 - 1) * 65536, true)
  else if x ≤ -(2 ^ 47) * 65536 then (-(2 ^ 47) * 65536, true)
  else (x, false)

/-- A prediction held within one count of the last count in the direction DIR, for an edge source (R207). -/
def State.axHeld (s : State) (n : Nat) (a : Axis) (x : Int) : Int :=
  if axIsEdge (s.axSource n) ∧ a.stamped = true then
    let w := max 0 (s.axScale n - 65536)
    let d := if s.axKind n = 1 then wrapS 80 (x - a.z) else x - a.z
    if a.rev then a.z + max (-w) (min 0 d) else a.z + min w (max 0 d)
  else x

/-- How an axis comes to a position: by a counted step, a jump or a measurement taken as it is; by a correction of the tracker; or by
its prediction from tick to tick (R206, R207). -/
inductive AxMove where
  | asIs | correction | advance
  deriving DecidableEq, Repr

/-- The axis takes a position, held in the band of R207, at whose edge a prediction stops until the next count. A correction never moves the
output against DIR: the output holds until the tracker has passed it again; every other move takes the output with it (R207). A saturated
axis stays where it is (R195). -/
def State.axMove (s : State) (n : Nat) (x : Int) (how : AxMove) : State :=
  let a := s.ax n
  if a.saturated then s
  else
    let h := s.axLimit n (s.axHeld n a (s.axLimit n x).1)
    let o := h.1 / 65536
    let d := if s.axKind n = 1 then wrapS 64 (o - a.out) else o - a.out
    let back := if a.rev then decide (0 < d) else decide (d < 0)
    let hold := back && (match how with | .asIs => false | .correction => true | .advance => a.hold)
    s.modAx n (fun a => { a with x := h.1, saturated := h.2, hold := hold, out := if hold then a.out else o })

/-! ### Jumps (R206, R231) -/

/-- How far along a jump of axis `n` from `before` an event's target lies (R231). -/
def Slot.along (x : Slot) (up : Bool) (before : Int) : Int :=
  if x.anyRev then aheadOf (!up) x.target before else if up then x.target - before else before - x.target

/-- Sprocket's view of a jump of axis `n`: every armed event that it carries from its approach side to or
past its fire point falls due, in the order of the targets along the jump (R229, R231). -/
def State.spkJump (s : State) (n : Nat) (before : Int) : State :=
  let a := s.ax n
  let up := decide (0 < wrapS 64 (a.out - before))
  let passed := s.armed.filter (fun k => match s.slot k with
    | some x =>
      !x.timed && x.axis == n && x.due.isNone && (x.st == .armed || x.st == .requesting) &&
        (if x.anyRev then
          let d := x.along up before
          (x.towardRev a != up) && !x.spent a (aheadAt (!up) before d) &&
            decide (d * 65536 * 100000000 ≤ (if up then a.out - before else before - a.out) * 65536 * 100000000 + a.speed * s.leadTicks x)
        else x.pending { a with out := before } && s.reached x (s.leadTicks x))
    | none => false)
  let pos : Nat → Int := fun k => match s.slot k with | some x => x.along up before | none => 0
  let sorted := sortBy (fun i j => decide (pos i < pos j)) passed
  let t := forEach sorted (fun k t => t.modSlot k (fun x => { x with
    due := some (2, s.now), aim := if x.anyRev then some (aheadAt (!up) before (x.along up before)) else none })) { s with dueQ := s.dueQ ++ sorted }
  t.modAx n (fun a => { a with outWas := a.out })

/-- The two words of a 64-bit number. -/
def words64 (z : Int) : List Word := [word (unsigned 64 z / 2 ^ 32), word (unsigned 64 z)]

/-- A jump reported: counted, posted to the axis's owner with the positions before and after, and told to
Sprocket; a change of KIND cancels every event armed against the axis instead (R206, R231). -/
def State.axJumped (s : State) (n : Nat) (before : Int) (reason : Nat) : State :=
  let a := s.ax n
  let t := (s.modAx n (fun a => { a with jumps := (a.jumps + 1) % 256 })).post (s.ownerList 1 n) 7 0x01 n reason 0
    (words64 before ++ words64 a.out)
  if reason = 2 then t.cancelWhere (fun _ x => !x.timed && x.axis == n)
  else t.spkJump n before

/-- The axis's position set to a value of axis units: a jump (R202, R205). -/
def State.axPreset (s : State) (n : Nat) (pos : Int) (reason : Nat) : State :=
  let before := (s.ax n).out
  let z := (s.axLimit n (pos * 65536)).1
  let t := s.modAx n (fun a => { a with saturated := false, z := z, baseX := z, baseT := s.devTime })
  (t.axMove n z .asIs).axJumped n before reason

/-! ### Direction (R209, R232) -/

/-- A change of DIR: reported; no event stays pending by where the axis stood before it (R220), and each firing whose target the axis has
not crossed, or that came within its lead of the change, is reported as unreached (R209, R232). -/
def State.axTurn (s : State) (n : Nat) : State :=
  let a := s.ax n
  let t := (s.modAx n (fun a => { a with rev := !a.rev, against := 0 })).post (s.ownerList 1 n) 7 0x02 n (b2n (!a.rev)) 0
  let t := forEach t.armed (fun k u => u.modSlot k (fun x => if !x.timed && x.axis == n then { x with ready := false } else x)) t
  let hit := t.crossings.filter (fun c => c.axis == n &&
    ((if c.rev then decide (c.target < a.out) else decide (a.out < c.target)) || decide ((s.devTime : Int) ≤ (c.at_ : Int) + c.lead)))
  hit.foldl (fun u c => u.post [c.owner] 10 0x02 n c.slot (unsigned 32 a.out))
    { t with crossings := t.crossings.filter (fun c => c.axis != n) }

/-- The crossings still to be watched: those not yet crossed, or within their lead (R232). -/
def State.dropCrossed (s : State) : State :=
  { s with crossings := s.crossings.filter (fun c =>
      (if c.rev then decide (c.target < (s.ax c.axis).out) else decide ((s.ax c.axis).out < c.target)) ||
        decide ((s.devTime : Int) ≤ (c.at_ : Int) + c.lead)) }

/-! ### The tracker (R206) -/

/-- One update by a position measurement `z`, `lag` ticks old, after an interval of `dt` ticks: the state
and whether it jumped. -/
def State.axTrack (s : State) (n : Nat) (z : Int) (lag dt : Nat) : State × Bool :=
  let a := s.ax n
  let carry := rdiv (a.v * (lag : Int)) 100000000
  let r0 := z - (a.x - carry)
  let r := if s.axKind n = 1 then wrapS 48 r0 else r0
  let jump := ((s.axf n 5 31 0 : Nat) : Int) * 65536
  if jump ≠ 0 ∧ jump < (if r < 0 then -r else r) then (s.axMove n (z + carry) .asIs, true)
  else
    let tint := max 1 (min dt (s.axTimeout n))
    let t := s.modAx n (fun a => { a with v := a.v + rdiv ((s.axf n 2 7 0 : Nat) * r * 100000000) (256 * (tint : Int)) })
    (t.axMove n (a.x + rdiv ((s.axf n 2 15 8 : Nat) * r) 256) .correction, false)

/-- INVERT: the source's positive direction decreases the axis (R196). -/
def State.axInv (s : State) (n : Nat) (v : Int) : Int := if s.axf n 0 15 15 = 1 then -v else v

/-- The axis advanced by one tracker tick of 1 µs: by its velocity, or by its source's own law
(R203, R205, R206). -/
def State.axAdvance (s : State) (n : Nat) : State :=
  let a := s.ax n
  let src := s.axSource n
  if src = 9 then
    let v := s.axInv n (s.axScale n)
    let t := s.modAx n (fun a => { a with st := .tracking, v := v })
    t.axMove n (a.baseX + rdiv (v * ((s.devTime - a.baseT : Nat) : Int)) 100000000) .asIs
  else if a.v = 0 then s
  else if src = 7 then s.axMove n (a.baseX + rdiv (a.v * ((s.devTime - a.baseT : Nat) : Int)) 100000000) .asIs
  else s.axMove n (a.x + rdiv a.v 1000000) .advance

/-! ### Counts (R199, R206, R208, R209) -/

/-- A velocity over an interval of `dt` ticks, at most TIMEOUT (R206, R208). -/
def State.axSpeed (s : State) (n : Nat) (d : Int) (dt : Nat) : Int :=
  rdiv (d * 100000000) ((max 1 (min dt (s.axTimeout n)) : Nat) : Int)

/-- A count against DIR moves the position by one count, sets v to 0 and leaves the axis REVERSING; after REVDEAD of them DIR changes
and the velocity starts afresh (R209). -/
def State.axBack (s : State) (n : Nat) (z : Int) : State :=
  let t := (s.modAx n (fun a => { a with st := .reversing, v := 0, n := max 1 a.n, against := a.against + 1 })).axMove n z .asIs
  if s.axf n 3 31 24 ≤ (t.ax n).against then (t.axTurn n).modAx n (fun a => { a with n := 0 }) else t

/-- One count of an edge or ripple source, forward or not, with its stamp. A late stamp is discarded, one closer than the source's limit
counted with OVERRUN (R199, R206). The first count after INIT or a change of DIR gives the position, the second the velocity; the first
after STANDSTILL gives the velocity of its own interval (R206, R208, R209). -/
def State.axCount (s : State) (n : Nat) (fwd : Bool) (tm : Nat) : State :=
  let a := s.ax n
  if a.stamped = true ∧ tm < a.tLast then s.inc (axDiag_overrun n)
  else
    let src := s.axSource n
    let gap := if src = 1 then 50 else if src = 2 ∨ src = 3 then 500 else 12500
    let s := if a.stamped = true ∧ tm < a.tLast + gap then s.inc (axDiag_overrun n) else s
    let step := if a.saturated then 0 else if fwd then s.axScale n else -(s.axScale n)
    let z := (s.axLimit n (a.z + step)).1
    let dt := tm - a.tLast
    let lag := s.devTime - tm
    let t := s.modAx n (fun a => { a with z := z, tLast := tm, stamped := true, heardAt := s.now, resumed := false })
    if fwd = a.rev then t.axBack n z
    else if a.st = .standstill ∧ a.stamped = true then
      let v := s.axSpeed n step dt
      (t.modAx n (fun a => { a with v := v, n := 2, against := 0, st := .tracking })).axMove n (z + rdiv (v * (lag : Int)) 100000000) .correction
    else if a.n = 0 then
      (t.modAx n (fun a => { a with v := 0, n := 1, against := 0, st := if a.st = .standstill then .init else a.st })).axMove n z .asIs
    else if a.n = 1 then
      let v := if dt = 0 then 0 else rdiv (step * 100000000) (dt : Int)
      (t.modAx n (fun a => { a with v := v, n := 2, against := 0, st := .tracking })).axMove n (z + rdiv (v * (lag : Int)) 100000000) .correction
    else
      let (u, jumped) := (t.modAx n (fun a => { a with against := 0, st := .tracking })).axTrack n z lag dt
      if jumped then u.axJumped n a.out 0 else u

/-! ### Message measurements (R201, R205, R206, R208, R209) -/

/-- DIR of a message source follows the sign of the velocity once it has held for REVDEAD measurements. -/
def State.axSign (s : State) (n : Nat) : State :=
  let a := s.ax n
  if a.v = 0 ∨ decide (a.v < 0) = a.rev then s.modAx n (fun a => { a with against := 0 })
  else if s.axf n 3 31 24 ≤ a.against + 1 then s.axTurn n
  else s.modAx n (fun a => { a with against := a.against + 1 })

/-- A message measurement has come: noted, and a lost axis tracks again. -/
def State.axHeard (s : State) (n : Nat) (tm : Nat) : State :=
  s.modAx n (fun a => { a with
    heardAt := s.now, tLast := tm, stamped := true, resumed := false,
    st := match a.st with | .extrapolating => .tracking | .sourceLost => .tracking | x => x })

/-- A position measurement of a CAN or host source, in 2^-16 axis units, with its stamp. -/
def State.axMeasure (s : State) (n : Nat) (z : Int) (tm : Nat) : State :=
  let a := s.ax n
  if a.stamped = true ∧ tm < a.tLast then s.inc (axDiag_overrun n)
  else
    let dt := tm - a.tLast
    let lag := s.devTime - tm
    let t := s.axHeard n tm
    if a.n = 0 then (t.modAx n (fun a => { a with z := z, v := 0, n := 1 })).axMove n z .asIs
    else if a.n = 1 then
      let d := if s.axKind n = 1 then wrapS 48 (z - a.z) else z - a.z
      let v := if dt = 0 then 0 else rdiv (d * 100000000) (dt : Int)
      ((t.modAx n (fun a => { a with z := z, v := v, n := 2, st := .tracking })).axMove n (z + rdiv (v * (lag : Int)) 100000000) .correction).axSign n
    else
      let (u, jumped) := (t.modAx n (fun a => { a with z := z })).axTrack n z lag dt
      let u := if jumped then u.axJumped n a.out 0 else u
      u.axSign n

/-- A velocity measurement of a CAN velocity source, in 2^-16 units per second (R206): never a jump. The
axis tracks from the second one on (log 11). -/
def State.axMeasureV (s : State) (n : Nat) (z : Int) (tm : Nat) : State :=
  let a := s.ax n
  if a.stamped = true ∧ tm < a.tLast then s.inc (axDiag_overrun n)
  else
    let lag := s.devTime - tm
    let v := a.v + rdiv ((s.axf n 2 15 8 : Nat) * (z - a.v)) 256
    let t := (s.axHeard n tm).modAx n (fun x => { x with v := v, n := min 2 (x.n + 1), st := if a.n = 0 then x.st else .tracking })
    (t.axMove n (a.x + rdiv ((v - a.v) * (lag : Int)) 100000000) .correction).axSign n

/-- The field a CAN source takes from a payload, or none where the frame carries no measurement (R201). -/
def State.axField (s : State) (n : Nat) (data : List Byte) : Option Int :=
  let off := s.axf n 7 31 23
  let w := s.axf n 7 22 18 + 1
  let have_ := 8 * data.length
  if have_ < off + w then none
  else
    let raw := beNat data / 2 ^ (have_ - off - w) % 2 ^ w
    let full := w / 8
    let part := w % 8
    -- least significant byte first: whole bytes in turn, then the remaining bits on top
    let le := ((List.range full).map (fun k => raw / 2 ^ (w - 8 * (k + 1)) % 256 * 256 ^ k)).sum + raw % 2 ^ part * 256 ^ full
    let val := if s.axf n 7 17 17 = 1 then le else raw
    if s.axf n 7 15 8 < val / 2 ^ (8 * ((w - 1) / 8)) then none
    else some (if s.axf n 7 16 16 = 1 then signed w val else (val : Int))

/-- A CAN frame offered to every axis fed by this port: taken directly when IDE and CANID match (R201). -/
def State.axCan (s : State) (port : Nat) (ext : Bool) (ident : Nat) (data : List Byte) (tm : Nat) : State :=
  if s.domOn Dm.crk then
    forEach (List.range 8) (fun n t =>
      let src := t.axSource n
      if (src = 4 ∨ src = 5) ∧ t.axf n 0 23 16 = port ∧ t.axf n 6 31 31 = b2n ext ∧ t.axf n 6 28 0 = ident then
        match t.axField n data with
        | none => t
        | some v =>
          let z := t.axInv n v * t.axScale n
          if src = 4 then t.axMeasureV n z tm else t.axMeasure n z tm
      else t) s
  else s

/-! ### Reference marks (R210) -/

/-- A reference mark of axis `n`: its own output position and the device time are latched and posted. -/
def State.axRef (s : State) (n : Nat) (tm : Nat) : State :=
  let o := unsigned 32 (s.ax n).out
  (((s.put (axRef_value n) o).put (axReftime_value n) tm).postAt (s.ownerList 1 n) 7 0x03 n 0 o (word tm))

/-- A mark of input code `code` (0x01 to 0x28 SWIN, 0x29 to 0x38 FI), for each axis that names it. -/
def State.axRefInput (s : State) (code : Nat) (tm : Nat) : State :=
  if s.domOn Dm.crk then forEach (List.range 8) (fun n t => if t.axf n 3 21 16 = code then t.axRef n tm else t) s else s

/-- A park edge or end-stop normalisation of the bridge that drives axis `n` (R210). -/
def State.axRefMotor (s : State) (n : Nat) : State := if s.axf n 3 21 16 = 0x3F then s.axRef n s.devTime else s

/-! ### Configuration (R197) -/

/-- A record stored and committed. DESIGN CHOICE: the decoder of a pair newly configured starts from the levels that the axis held last, low at
reset (R199; log 126). -/
def State.axCommit (s : State) (n : Nat) (ws : List Word) : State :=
  let f := setField
  let old := s.axRec n
  let src := f ws 0 29 26
  let kindCh := f old 0 31 30 != f ws 0 31 30
  let srcCh := f old 0 29 16 != f ws 0 29 16 || f old 1 31 0 != f ws 1 31 0 || f old 2 31 16 != f ws 2 31 16
  let before := (s.ax n).out
  let t := forEach (List.range 8) (fun k u => u.wr (axCfg_word n k).addr (ws.getD k 0)) s
  let t := t.modAx n (fun a => { a with saturated := false })
  let st0 := if src = 0 then AxState.noSource else AxState.init
  if kindCh then
    (t.modAx n (fun a => { a with
      st := st0, x := 0, v := 0, out := 0, z := 0, n := 0, stamped := false, hold := false, against := 0, heardAt := s.now, baseX := 0, baseT := s.devTime })).axJumped n before 2
  else if srcCh then
    t.modAx n (fun a => { a with
      st := st0, v := 0, x := a.out * 65536, z := a.out * 65536, n := 0, stamped := false, hold := false, against := 0, heardAt := s.now,
      baseX := a.out * 65536, baseT := s.devTime })
  else t

/-! ### Reading -/

/-- Code of an axis state (R215). -/
def AxState.code : AxState → Nat
  | .noSource => 0 | .init => 1 | .tracking => 2 | .standstill => 3 | .reversing => 4 | .extrapolating => 5 | .sourceLost => 6

/-- CRANK_AXn_STAT, and the RESULT of AXIS_READ. -/
def State.axStat (s : State) (n : Nat) : Nat :=
  let a := s.ax n
  a.jumps * 0x1000000 + b2n a.resumed * 0x40 + b2n a.saturated * 0x20 + b2n (bitOf (s.get crankPublish_axes) n) * 0x10 +
    b2n a.rev * 8 + a.st.code

/-- VEL: units per second, or 2^-16 revolution per second (R195). -/
def State.axVel (s : State) (n : Nat) : Nat :=
  unsigned 32 (if s.axKind n = 1 then (s.ax n).v / 4294967296 else (s.ax n).v / 65536)

end Sys2Proof.Machine
end

