-- ==== Sys2Proof/Machine/Operands.lean ====
section
/-! DEFINITION. The operand forms that several commands share: records checked as a whole and written
field by field, sets of channels, rounding to the nearest, and measured values in the units that answers
carry (spec/00, R6; spec/01, R16; spec/06, R134 to R144; spec/07, R148; spec/11, R239). -/

namespace Sys2Proof.Machine

/-! ### Records -/

/-- A record with one field replaced. -/
def setRec (ws : List Word) (k hi lo v : Nat) : List Word := modNth ws k (fun w => word (setBits w.toNat hi lo v))

/-- No condition that a record meets is broken by a change of it: `conds` lists the ranges and rules of the record. -/
def keeps (conds : List Word → List Bool) (ws new : List Word) : Bool := (List.zip (conds ws) (conds new)).all (fun p => !p.1 || p.2)

/-- The fields (word, high bit, low bit) of a record taken from `new` one after the other, each where no condition breaks. -/
def fieldPass (conds : List Word → List Bool) (fs : List (Nat × Nat × Nat)) (new : Word) (ws : List Word) : List Word :=
  fs.foldl (fun cur f =>
    let c := setRec cur f.1 f.2.1 f.2.2 (bits new.toNat f.2.1 f.2.2)
    if keeps conds cur c then c else cur) ws

/-- Word `k` of a record written through its register: the whole word where no condition breaks, else field by field, a
field out of range left unchanged; bits in no field are ignored (R6, R16). -/
def fieldWrite (conds : List Word → List Bool) (fs : List (Nat × Nat × Nat)) (k : Nat) (new : Word) (ws : List Word) : List Word :=
  let fk := fs.filter (fun f => f.1 == k)
  let all := fk.foldl (fun cur f => setRec cur f.1 f.2.1 f.2.2 (bits new.toNat f.2.1 f.2.2)) ws
  if keeps conds ws all then all else fieldPass conds fk new (fieldPass conds fk new ws)

/-- Every bit of a record that lies in none of its fields is 0. -/
def onlyFields (fs : List (Nat × Nat × Nat)) (ws : List Word) : Bool :=
  ws.zipIdx.all (fun p => (fs.filter (fun f => f.1 == p.2)).foldl (fun w f => setBits w f.2.1 f.2.2 0) p.1.toNat == 0)

/-! ### The channel record (spec/06, R142) -/

/-- The fields of the channel configuration record. -/
def chFields : List (Nat × Nat × Nat) :=
  [(0, 31, 31), (0, 30, 30), (0, 29, 28), (0, 27, 27), (0, 26, 26), (0, 25, 24), (0, 23, 22), (0, 21, 20), (0, 19, 18),
   (0, 17, 16), (0, 15, 8), (0, 7, 0), (1, 31, 16), (2, 31, 16), (2, 15, 0), (3, 31, 16), (3, 15, 8), (3, 7, 0),
   (4, 31, 24), (4, 15, 0), (5, 31, 16), (6, 31, 16), (6, 15, 0)]

/-- A value from `lo` to `hi`. -/
def within (lo hi n : Nat) : Bool := decide (lo ≤ n) && decide (n ≤ hi)

/-- The ranges and cross-field rules of a channel record (R142, R148, R239). `bmax` is the group's BUDGET. -/
def chConds (cls : ChClass) (bmax : Nat) (ws : List Word) : List Bool :=
  let f := setField ws
  let hb := cls == .HB
  let steady := f 2 31 16
  let inrush := f 2 15 0
  let rated := f 4 15 0
  let r10 := if cls = .H then 25 else if cls = .M then 10 else if cls = .L then 4 else 12
  [(hb || (f 0 30 30 == 0 && f 0 21 20 == 0)), f 0 29 28 != 3, f 0 17 16 != 3, f 0 7 0 != 0,
   decide (cls.steadyMin ≤ steady), decide (steady ≤ cls.steadyMax),
   (if hb then inrush == 0 else decide (inrush ≤ cls.inrushMax)), (if hb then f 3 31 16 == 0 else decide (f 3 31 16 ≤ 200)),
   hb || decide (steady ≤ inrush), hb || ((inrush == steady) == (f 3 31 16 == 0)),
   decide (30 ≤ f 3 15 8), decide (f 3 15 8 ≤ 100), decide (10 ≤ f 3 7 0), decide (f 3 7 0 ≤ 40),
   decide (f 3 7 0 + 10 ≤ f 3 15 8), decide (f 4 31 24 ≤ 15), (rated == 0 || within r10 (15 * r10) rated),
   decide (10 ≤ f 5 31 16), decide (f 5 31 16 ≤ 6000), decide (f 6 31 16 ≤ cls.budgetMax), decide (f 6 31 16 ≤ bmax),
   decide (1 ≤ f 6 15 0), decide (f 6 15 0 ≤ 5000)]

/-- The record is acceptable as a whole. -/
def chRecOk (cls : ChClass) (bmax : Nat) (ws : List Word) : Bool := (chConds cls bmax ws).all id

/-- A channel's record as stored. -/
def State.chRec (s : State) (n : Nat) : List Word := (List.range 8).map (fun k => s.rd (chCfg_word n k).addr)

/-- The BRIDGE bit of an odd channel's record follows the even channel's (R127). -/
def State.mirrorBridge (s : State) (n : Nat) (ws : List Word) : List Word :=
  if chClass n = .HB ∧ n % 2 = 1 then setRec ws 0 30 30 (b2n (s.bridged n)) else ws

/-- The record of a channel stored; the odd channel of a half-bridge pair reads the even one's BRIDGE (R127). -/
def State.putChRec (s : State) (n : Nat) (ws : List Word) : State :=
  let t := forEach (List.range 8) (fun k u => u.wr (chCfg_word n k).addr (ws.getD k 0)) s
  if chClass n = .HB ∧ n % 2 = 0 then
    t.put ⟨(chCfg_word (n + 1) 0).addr, 30, 30⟩ (setField ws 0 30 30)
  else t

/-- Off for a change of BRIDGE: neither channel of the pair drives, cools, is latched, waits or follows; a
disabled channel's output is off (R127; log 14). -/
def State.pairOff (s : State) (n : Nat) : Bool :=
  [n / 2 * 2, n / 2 * 2 + 1].all (fun c => s.chCode c == 0x00 || s.chCode c == 0x20)

/-! ### Measured values (spec/06, R134, R136, R144) -/

/-- The current in mA of a 14-bit code. -/
def milliAmps (cls : ChClass) (code : Nat) : Int :=
  match cls with
  | .H => rdiv (160000 * (code : Int)) 16384
  | .M => rdiv (80000 * (code : Int)) 16384
  | .L => rdiv (32000 * (code : Int)) 16384
  | .HB => rdiv (48000 * signed 14 code) 8192

/-- VOUT in 10 mV of a 12-bit code. -/
def centiVolts (code : Nat) : Int := rdiv (8000 * signed 12 code) 2048

/-- A temperature or difference of temperatures in 0.1 K of codes of 0.0625 K. -/
def deciKelvin (code : Int) : Int := rdiv (10 * code) 16

/-- θ in thousandths of the trip level; 0 while the wire model is off (spec/07, R155, R168). -/
def State.thetaMilli (s : State) (n : Nat) : Nat := if bits (s.cfgw n 4) 15 0 = 0 then 0 else min 65535 ((s.ch n).theta / 1000000)

/-- The continuation record of CH_STATUS, from the last auxiliary scan and the mean at its end; values of an invalid converter are 0
(R133, R144). -/
def State.chStatCont (s : State) (n : Nat) : List Word :=
  let b := bankOf n
  let cur := s.flag (bankSense_curValid b)
  let aux := s.flag (bankSense_auxValid b)
  let i := if cur then milliAmps (chClass n) (s.ch n).scanMean else 0
  let v := if aux then centiVolts (s.get (chVt_vout n)) else 0
  let dt := if aux then deciKelvin (s.dtCode n) else 0
  let t := if aux then deciKelvin (s.get (chVt_tch n) : Int) - 560 else 0
  let live := b2n (s.flag (chDiag_olonLive n)) + 2 * b2n (s.flag (chDiag_oloffLive n)) + 4 * b2n (s.flag (chDiag_stbLive n))
  [word (unsigned 32 i), word (unsigned 16 v * 0x10000 + unsigned 16 dt),
   word (s.thetaMilli n * 0x10000 + s.restartN n % 256 * 0x100 + live), word (unsigned 16 t * 0x10000)]

/-! ### Sets of channels (spec/04, R84) -/

/-- A command that acts at once on each channel of a mask: the effects in rising order, the number and the
mask that `act` counted, and the status of the lowest channel that failed. `one` answers a failure status
or whether the channel counts. -/
def State.overMaskCh (s : State) (m : Nat) (one : State → Nat → State × Option Byte × Bool) : State × Byte × Nat :=
  (maskList 64 m).foldl (fun (a : State × Byte × Nat) n =>
    let (t, e, c) := one a.1 n
    (t, (if a.2.1 = St.ok then e.getD St.ok else a.2.1), a.2.2 + (if c then 2 ^ n else 0))) (s, St.ok, 0)

/-- How many bits of a 64-bit mask are set. -/
def popCount (m : Nat) : Nat := (maskList 64 m).length

/-! ### Shared effects on outputs -/

/-- The bridge brakes for a time, and the line is re-examined with its grants back (spec/08, R188, R189; spec/11, R242). -/
def State.brake (s : State) (k tt : Nat) : State := (s.brakeTo k tt).reexamine

/-- A bridge may be driven at all: enabled, not held off by protection, temperature or undervoltage. -/
def State.drivable (s : State) (n : Nat) : Bool :=
  match s.turnCase n with
  | .ask => true
  | .already => true
  | _ => false

/-- A latch cleared: to OFF, commanded off, with n and the minimum off time back at 0 (spec/07, R161). -/
def State.clearLatch (s : State) (n : Nat) : State :=
  (s.pairOf n).foldl (fun t c => t.modCh c (fun x => { x with
    latched := false, cmdOn := false, lowSide := false, cooling := false, tripped := false, restarts := [], coolEnd := 0,
    pulse := none })) s

/-- An LH input becomes active for a following channel: a turn-on at the channel's PRIO, charged to its
owner (spec/08, R174; spec/11, R240); an output that is on takes its stored duty, a bridge FORWARD, with no off edge (R173). A latched or
disabled channel stays off. -/
def State.followOn (s : State) (n : Nat) : State :=
  match s.turnCase n with
  | .refuse _ => s
  | .later => s.commitLater n
  | .already => (s.turnOn n).modBr (bridgeOf n) (fun b => if 48 ≤ n then { b with brakeEnd := none } else b)
  | .ask =>
    (s.modCh n (fun c => { c with cmdOn := true })).request (.follow n) [(n, s.budgetI n)] (s.chPrio n) (s.owner 0 n) (some (s.chDefer n))

/-- Following of channel `n` by a level: active turns it on, inactive acts as a CH_OFF (R173, R174). -/
def State.followLevel (s : State) (n : Nat) (active : Bool) : State :=
  if active then s.followOn n
  else (s.withdraw (fun r => r.src == ReqSrc.follow n) St.flushed).cmdOff n 2

end Sys2Proof.Machine
end

