-- ==== Sys2Proof/Machine/CanOps.lean ====
section
/-! DEFINITION. CAN ports: frames and their words, the port record's checks, error counters, transmit queues,
receive queues and filter pairs (spec/13). -/

namespace Sys2Proof.Machine

/-- The data lengths of CAN FD. -/
def fdLen (n : Nat) : Bool := decide (n ≤ 8) || decide (n ∈ [12, 16, 20, 24, 32, 48, 64])

/-! ### The port record (R278 to R280) -/

/-- A port's record as stored. -/
def State.canRec (s : State) (n : Nat) : List Word := (List.range 8).map (fun k => s.rd (canCfg_word n k).addr)

/-- The fields of the port record. -/
def canFields : List (Nat × Nat × Nat) :=
  [(0, 31, 30), (0, 29, 29), (0, 28, 28), (0, 27, 27), (0, 26, 26), (0, 25, 24), (0, 23, 20), (0, 19, 19), (0, 18, 16), (0, 15, 8),
   (1, 31, 24), (1, 23, 16), (1, 15, 9), (1, 8, 2),
   (2, 31, 27), (2, 26, 21), (2, 20, 16), (2, 15, 11), (2, 10, 4), (2, 3, 3),
   (3, 31, 27), (3, 26, 21), (3, 20, 16), (3, 15, 11), (3, 10, 4), (3, 3, 3),
   (4, 31, 31), (4, 28, 0), (5, 31, 16), (5, 15, 0), (6, 31, 16)]

/-- A data phase's word is in range, with at least `least` clocks a bit, and no slower than `nom` clocks a bit (R279). -/
def dataPhaseOk (w : Nat) (least nom : Nat) : Bool :=
  let brp := bits w 31 27 + 1
  let tq := 1 + (bits w 26 21 + 1) + (bits w 20 16 + 1)
  decide (bits w 15 11 ≤ bits w 20 16) && decide (4 ≤ tq) && decide (least ≤ brp * tq) && decide (brp * tq ≤ nom)

/-- The ranges and rules of a port record (R278 to R280, R296). TM_PERIOD may be 0 while TMMODE is 0, as in the blank
record. -/
def canConds (ws : List Word) : List Bool :=
  let f := setField ws
  let mode := f 0 31 30
  let nom := (f 1 31 24 + 1) * (1 + (f 1 23 16 + 1) + (f 1 15 9 + 1))
  let w2 := (ws.getD 2 0).toNat
  let w3 := (ws.getD 3 0).toNat
  let tm := f 0 25 24
  [(f 0 28 28 == 0 || mode == 3), decide (1 ≤ f 0 15 8), decide (1 ≤ f 1 23 16), decide (f 1 8 2 ≤ f 1 15 9),
   decide (8 ≤ 1 + (f 1 23 16 + 1) + (f 1 15 9 + 1)), decide (80 ≤ nom) && decide (nom ≤ 8000),
   (f 0 29 29 == 0 || (decide (320 ≤ nom) && decide (3 ≤ f 1 23 16 + 1))),
   (if mode = 1 ∨ mode = 2 then dataPhaseOk w2 10 nom else w2 == 0),
   (if mode = 2 ∨ mode = 3 then dataPhaseOk w3 (if f 0 28 28 = 1 then 4 else 8) nom else w3 == 0),
   (f 4 31 31 == 1 || decide (f 4 28 0 < 0x800)), decide (f 5 31 16 ≤ 1000), (tm == 0 || decide (1 ≤ f 5 31 16)),
   (if tm = 1 then within 1 3600 (f 5 15 0) else if tm = 2 then within 10 60000 (f 5 15 0) else f 5 15 0 == 0),
   decide (f 6 31 16 ≤ 60000)]

/-- The record is acceptable as a whole. -/
def canRecOk (ws : List Word) : Bool := (canConds ws).all id

/-! ### Transmit queues (R289 to R292) -/

/-- A transmit queue. -/
def State.txq (s : State) (n q : Nat) : List TxItem := if q = 0 then (s.port n).q0 else (s.port n).q1
/-- The state with a transmit queue replaced. -/
def State.setTxq (s : State) (n q : Nat) (l : List TxItem) : State :=
  s.modPort n (fun p => if q = 0 then { p with q0 := l } else { p with q1 := l })

/-- A command place of a queue is free. -/
def State.cmdRoom (s : State) (n q : Nat) : Bool := decide (((s.txq n q).filter (fun x => !x.place)).length < 32)

/-- The rank of a frame in arbitration: lower wins (R289). -/
def arbKey (f : CanFrame) : Nat :=
  if f.ext && f.fmt != 2 then f.ident / 0x40000 * 0x100000 + 0x80000 + f.ident % 0x40000 * 2 + b2n f.rtr
  else f.ident % 0x800 * 0x100000 + b2n f.rtr

/-- The frame that wins arbitration in a list, the oldest among equals. -/
def firstArb : List TxItem → Option TxItem
  | [] => none
  | x :: l => match firstArb l with
    | none => some x
    | some y => if arbKey y.frame < arbKey x.frame then some y else some x

/-- The frame a port offers next: the better of the two queue heads, frames in back-off left out (R289, R294);
of equals, that of TXQ 0x00 (log 20). -/
def State.txHead (s : State) (n : Nat) : Option (Nat × TxItem) :=
  let a := firstArb ((s.port n).q0.filter (fun x => x.held.isNone))
  let b := (s.port n).q1.find? (fun x => x.held.isNone)
  match a, b with
  | none, none => none
  | some x, none => some (0, x)
  | none, some y => some (1, y)
  | some x, some y => if arbKey y.frame < arbKey x.frame then some (1, y) else some (0, x)

/-- A queued frame with a name. -/
def State.txById (s : State) (n id : Nat) : Option (Nat × TxItem) :=
  match (s.port n).q0.find? (fun x => x.id == id) with
  | some x => some (0, x)
  | none => ((s.port n).q1.find? (fun x => x.id == id)).map (fun x => (1, x))

/-- The frame that the port sends: the one known to be in transmission, else the one it offers. -/
def State.onWire (s : State) (n : Nat) : Option (Nat × TxItem) :=
  match (s.port n).onAir with
  | some id => s.txById n id
  | none => s.txHead n

/-- The frame that a port offers may have started: no row says when the bus was free, so that it has is a free choice (log 68). A port whose
transmission is being disabled starts none (R277). -/
def State.maySend (s : State) (n : Nat) : State :=
  if s.canSends n = true ∧ (s.port n).onAir = none ∧ (s.port n).stop = none then
    match s.txHead n with
    | none => s
    | some p =>
      let (b, t) := s.drawBool
      if b then t.modPort n (fun x => { x with onAir := some p.2.id }) else t
  else s

/-- A frame queued; one that the port has started to send keeps the bus. -/
def State.enqTx (s : State) (n q : Nat) (f : CanFrame) (k : TxKind) (place : Bool := false) : State :=
  let (id, t) := (s.maySend n).fresh
  t.setTxq n q (t.txq n q ++ [{ id := id, frame := f, kind := k, place := place }])

/-- A frame of the block's own queued in a command place if one is free and the port is in NORMAL. -/
def State.ownTx (s : State) (n q : Nat) (f : CanFrame) (k : TxKind) : State × Bool :=
  if s.domOn (Dm.can n) = true ∧ s.canSt n = 0 ∧ s.cmdRoom n q = true ∧ s.canAllows n f.fmt = true then (s.enqTx n q f k, true)
  else (s, false)

/-- CAN_TXF_DROP posted to the slot's owner (R292). -/
def State.txfTold (s : State) (n slot owner : Nat) (status : Byte) : State := s.post [owner] 16 0x03 n slot status.toNat

/-- A TX_FRAME that finds no place: counted and posted (R292). -/
def State.txfDrop (s : State) (n slot owner : Nat) (status : Byte) : State :=
  (s.inc (canTxstat_txfDrop n)).txfTold n slot owner status

/-- A TX_FRAME action: the Sprocket places first, then the command places (R292; the STATUS of a frame that is
not queued is the model's, log 20). -/
def State.spkTx (s : State) (n q : Nat) (f : CanFrame) (slot owner : Nat) : State :=
  let inPlaces := ((s.txq n q).filter (fun x => x.place)).length
  if s.domOn (Dm.can n) = false ∨ s.canSt n ≠ 0 ∨ s.canAllows n f.fmt = false then s.txfDrop n slot owner St.badState
  else if inPlaces < 8 then s.enqTx n q f (.spk slot owner) true
  else if s.cmdRoom n q then s.enqTx n q f (.spk slot owner)
  else s.txfDrop n slot owner St.noResource

/-- A queued frame removed. -/
def State.dropTx (s : State) (n q id : Nat) : State := s.setTxq n q ((s.txq n q).filter (fun x => x.id != id))

/-- A queued frame changed. -/
def State.modTx (s : State) (n q id : Nat) (f : TxItem → TxItem) : State :=
  s.setTxq n q ((s.txq n q).map (fun x => if x.id == id then f x else x))

/-- CAN_TX's RESULT (R291). -/
def txResult (retries colls : Nat) : Nat := satTo 255 colls * 0x10000 + satTo 65535 retries

/-- What a CAN_TX that ends unsent outside an attempt says of its frame: the retransmissions made, the collisions met and the stamp of
its last attempt; of an attempt that is cut short the start is left open (R291; log 68). -/
def State.txSpent (s : State) (n : Nat) (x : TxItem) : Nat × Option Word × State :=
  if (s.port n).onAir = some x.id then
    let (a, t) := s.drawNat
    (txResult x.fails x.colls, some (word a), t)
  else if x.fails = 0 then (0, none, s)
  else (txResult (x.fails - 1) x.colls, some (word x.sofAt), s)

/-- A CAN_TX job ends unsent, outside an attempt (R291). -/
def State.endUnsent (s : State) (n : Nat) (x : TxItem) (j : Nat) (st : Byte) : State :=
  let (r, tm, t) := s.txSpent n x
  t.endJob j st r [] tm

/-- The queued frames of a port that `p` picks flushed (R277, R114): each CAN_TX completes FLUSHED, with its ABORTs too late, the rest
end with no report. -/
def State.flushTx (s : State) (n : Nat) (p : TxItem → Bool) : State :=
  let items := ((s.port n).q0 ++ (s.port n).q1).filter p
  let t := s.modPort n (fun x => { x with q0 := x.q0.filter (fun y => !p y), q1 := x.q1.filter (fun y => !p y) })
  items.foldl (fun (u : State) x => match x.kind with
    | .cmd j => x.aborts.foldl (fun (v : State) h => v.complete h 0x02 St.tooLate 0) (u.endUnsent n x j St.flushed)
    | _ => u) t

/-- The frames of a port that are not in transmission end, and that one is not sent again; TX_FRAME events on the port are cancelled (R277;
spec/05, R114). -/
def State.stopTx (s : State) (n : Nat) : State :=
  let t := s.flushQueued (fun _ i => match i with | .canTx _ p _ _ => p.toNat == n | _ => false) St.flushed
  let air := (t.port n).onAir
  let t := t.flushTx n (fun x => some x.id != air)
  let t := t.modPort n (fun p => { p with q0 := p.q0.map (fun x => { x with last := true }), q1 := p.q1.map (fun x => { x with last := true }) })
  t.cancelWhere (fun _ x => x.action == 7 && bits x.tgt 2 0 == n)

/-- A port's transmission is disabled: a frame in transmission finishes and is not sent again, queued CAN_TX are flushed, TX_FRAME
events on it are cancelled (R277; spec/05, R114). -/
def State.disableTx (s : State) (n : Nat) : State := (s.maySend n).stopTx n

/-- The time-master role starts or ends, with event CAN_TM (R296). -/
def State.tmRole (s : State) (n : Nat) (on : Bool) : State :=
  ((s.putB (canState_tmActive n) on).modPort n (fun p => { p with tmAt := s.now })).post (s.ownerList 3 n) 16 0x04 n (b2n on) 0

/-- The port loses its power: no frame finishes, and a time-master role ends (R296). -/
def State.cutTx (s : State) (n : Nat) : State :=
  let t := ((s.disableTx n).flushTx n (fun _ => true)).modPort n (fun p => { p with onAir := none })
  if t.flag (canState_tmActive n) then t.tmRole n false else t

/-! ### Receive queues (R284 to R286) -/

/-- A context's receive entries released (spec/05, R117). -/
def State.dropRxOf (s : State) (hc : Nat) : State :=
  forEach (List.range 6) (fun n t => forEach [0, 1] (fun q u =>
    let l := (u.rxq n q).filter (fun e => e.owner != hc)
    if l.length = (u.rxq n q).length then u else u.setRxq n q l) t) s

end Sys2Proof.Machine
end

