-- ==== Sys2Proof/Machine/Governor.lean ====
section
/-! DEFINITION. The headroom governor's own rows: expiries, droop freezes, and the sharing of a board feed
across a cluster (spec/11, R242 to R249). -/

namespace Sys2Proof.Machine

/-! ### Ridge links (spec/14, R314, R317) -/

/-- A frame of the device's own sent on every Ridge link. -/
def State.ridgeBcast (s : State) (ftype : Byte) (payload : List Byte) : State :=
  forEach [0, 1] (fun l t => t.ridgeSend l { ftype := ftype, src := BitVec.ofNat 2 s.ownNumber, payload := payload }) s

/-! ### Expiries (R241, R242) -/

/-- GRANT_EXPIRY: a channel's grants whose BUDGET_T has passed since its edge started are released (R242). -/
def execGrantExpiry (ch : Fin 64) (s : State) : Host.Outcome State Fault Refusal :=
  act (fun s => s.release (fun g => g.ch == ch.val && (match g.edge with
    | some e => decide (e + ms (s.budgetT ch.val) ≤ s.now)
    | none => false))) s

/-- DEFERRAL_LIMIT: a waiting request reaches its limit (R85, R174, R229, R240); the line is re-examined. -/
def execDeferralLimit (req : Nat) (s : State) : Host.Outcome State Fault Refusal :=
  act (fun s => match s.line.find? (fun r => r.id == req) with
    | some r => match r.limit with
      | some d => if d ≤ s.now then (s.limitReq r).reexamine else s
      | none => s
    | none => s) s

/-! ### Droop freezes (R244, R246) -/

/-- The group that keeps a freeze of `g`: group A's for one shared line. -/
def State.freezeGroup (s : State) (g : Nat) : Nat := s.govIdx g

/-- DROOP_FREEZE: a bank of the group has been below LEVEL for four comparisons (R244). -/
def execDroopFreeze (group : Fin 2) (s : State) : Host.Outcome State Fault Refusal :=
  act (fun s =>
    let g := s.freezeGroup group.val
    if s.domOn Dm.crk = true ∧ s.get (govDroop_level g) ≠ 0 ∧ (s.grp g).frozenLocal = false then
      ((s.modGrp g (fun x => { x with frozenLocal := true, frozenAt := s.now })).inc (govPeak_freezes g)).post s.sysHolders 12 0x02 g 1 0
    else s) s

/-- A local freeze ends (R244). -/
def State.endFreeze (s : State) (g : Nat) : State :=
  ((s.modGrp g (fun x => { x with frozenLocal := false })).post s.sysHolders 12 0x02 g 0
    (satTo 0xFFFFFFFF ((s.now - (s.grp g).frozenAt) / 100))).reexamine

/-- DROOP_FREEZE_END: every bank has stayed at or above LEVEL + HYST for 1 ms: the freeze ends (R244). -/
def execDroopFreezeEnd (group : Fin 2) (s : State) : Host.Outcome State Fault Refusal :=
  act (fun s =>
    let g := s.freezeGroup group.val
    if (s.grp g).frozenLocal then s.endFreeze g else s) s

/-! ### The exchange (R245 to R247) -/

/-- The device is aligned to its cluster (R213, R245). -/
def State.aligned (s : State) : Bool := s.flag crankTsync_aligned

/-- The group shares its board feed with other devices, and full service has come. -/
def State.govShares (s : State) (g : Nat) : Bool := !s.govAlone g && (g == 0 || !s.govShared)

/-- The other members of a group, as a list. -/
def State.othersOf (s : State) (g : Nat) : List Nat :=
  (List.range 4).filter (fun m => m != s.ownNumber && (s.members g).testBit m)

/-- Whether a member counts as linked (R245). -/
def State.isLinked (s : State) (m : Nat) : Bool := s.aligned && (s.get govCluster_linked).testBit m

/-- Waiting demand of a class, without requests held solely by their context's share (R245). -/
def State.demand (s : State) (g prio : Nat) : Nat :=
  let passed := s.passables
  ((s.line.filter (fun r => r.prio == prio && !r.held && !s.shareHeld passed r)).map (fun r => s.reqAmt r g)).sum

/-- GOV_CLUSTER.LINKED: no member counts as linked while this device is not aligned (R245, R251). -/
def State.linkedMask (s : State) : Nat := if s.aligned then s.get govCluster_linked else 0

/-- The device's own report for a group. -/
def State.govReport (s : State) (g : Nat) : Exchange :=
  { member := s.ownNumber, share := (s.grp g).share, used := s.usedOf g, wWork := s.demand g 1, wComfort := s.demand g 2,
    frozen := (s.grp g).frozenLocal, aligned := s.aligned }

/-- The payload of an exchange message: a zero byte, the board feed, S, U, W_WORK and W_COMFORT in two
bytes each, then the freeze and ALIGNED bits (the layout is the model's, log 19). -/
def govMsg (feed : Nat) (e : Exchange) : List Byte :=
  [0, BitVec.ofNat 8 feed] ++ beBytes 2 e.share ++ beBytes 2 e.used ++ beBytes 2 e.wWork ++ beBytes 2 e.wComfort ++
    [BitVec.ofNat 8 (b2n e.frozen * 2 + b2n e.aligned)]

/-- The payload by which members compare their configurations: a one byte, the board feed, BUDGET, MEMBERS
and FIXED (the layout is the model's, log 19). -/
def State.govCfgMsg (s : State) (g : Nat) : List Byte :=
  [1, BitVec.ofNat 8 (s.get (govMap_boardfeed g))] ++ beBytes 2 (s.get (govBudget_budget g)) ++
    [BitVec.ofNat 8 (s.members g)] ++ beBytes 2 (s.get (govBudget_fixed g))

/-- The lowest BUDGET reported for a group, its own included (R247). -/
def State.lowBudget (s : State) (g : Nat) : Nat :=
  ((s.grp g).peers.map (fun p => p.2.1)).foldl min (s.get (govBudget_budget g))

/-- FIXED of a member: its own from the register, a peer's as it reported it. -/
def State.fixedOf (s : State) (g m : Nat) : Nat :=
  if m = s.ownNumber then s.get (govBudget_fixed g)
  else match (s.grp g).peers.find? (fun p => p.1 == m) with | some p => p.2.2.2 | none => 0

/-- The comparison of BUDGET, MEMBERS and FIXED among the members (R247). -/
def State.govCompare (s : State) (g : Nat) : State :=
  let ps := (s.grp g).peers
  let low := s.lowBudget g
  let t := if (s.grp g).fallback then s else s.modGrp g (fun x => { x with bf := low })
  let differ := ps.any (fun p => p.2.1 != s.get (govBudget_budget g) || p.2.2.1 != s.members g)
  let sum := s.fixedOf g s.ownNumber + (ps.map (fun p => p.2.2.2)).sum
  if differ ∨ low < sum then t.fault (0x78 + g) 0x2F (s.get (govMap_boardfeed g)) else t

/-- A remote freeze ends as no member's last report is frozen (R246). -/
def State.endRemote (s : State) (g : Nat) : State :=
  if (s.grp g).frozenRemote ∧ (s.grp g).frozenBy = 0 then
    ((s.modGrp g (fun x => { x with frozenRemote := false })).post s.sysHolders 12 0x02 g 2
      (satTo 0xFFFFFFFF ((s.now - (s.grp g).remoteAt) / 100))).reexamine
  else s

/-- An exchange message or a comparison report arrives from a member (R245 to R247). -/
def State.govReceive (s : State) (m : Nat) (p : List Byte) : State :=
  let feed := (p.getD 1 0).toNat
  let n2 : Nat → Nat := fun k => beNat ((p.drop k).take 2)
  forEach ([0, 1].filter (fun g => s.govShares g && s.get (govMap_boardfeed g) == feed)) (fun g t =>
    if ¬ m ∈ t.othersOf g then t
    else if p.getD 0 0 = 1 then
      (t.modGrp g (fun x => { x with
        peers := x.peers.filter (fun q => q.1 != m) ++ [(m, n2 2, (p.getD 4 0).toNat, n2 5)] })).govCompare g
    else
      let fl := (p.getD 10 0).toNat
      let e : Exchange := {
        member := m, share := n2 2, used := n2 4, wWork := n2 6, wComfort := n2 8, frozen := fl.testBit 1, aligned := fl.testBit 0 }
      let ok := e.aligned && t.aligned
      let t := t.put govCluster_linked (if ok then t.get govCluster_linked ||| 2 ^ m else setBits (t.get govCluster_linked) m m 0)
      let t := t.modGrp g (fun x => { x with
        inbox := x.inbox.filter (fun q => q.member != m) ++ [e],
        frozenBy := if e.frozen then x.frozenBy else setBits x.frozenBy m m 0,
        lost := if ok then setBits x.lost m m 0 else x.lost })
      (t.put govCluster_lost ((t.grp 0).lost ||| (t.grp 1).lost)).endRemote g) s

/-- One stage of the allocation: a pool given in proportion to the wants, at most each want, rounded down. -/
def giveStage (pool : Nat) (wants : List Nat) : List Nat :=
  if wants.sum ≤ pool then wants else wants.map (fun w => pool * w / wants.sum)

/-- A member's allocation from the messages of a complete epoch (R246). `ms` are the reports with each
member's FIXED. -/
def allocation (bf : Nat) (ms : List (Exchange × Nat)) (who : Nat) : Nat :=
  let pick : List Nat → Nat := fun l => ((ms.zip l).filter (fun p => p.1.1.member == who)).map (fun p => p.2) |>.sum
  let p0 := bf - (ms.map (fun m => m.1.share)).sum
  let g1 := giveStage p0 (ms.map (fun m => m.1.wWork))
  let p1 := p0 - g1.sum
  let g2 := giveStage p1 (ms.map (fun m => m.1.wComfort))
  let p2 := p1 - g2.sum
  let g3 := giveStage p2 (ms.map (fun m => m.2 - m.1.share))
  let p3 := p2 - g3.sum
  let f := (ms.map (fun m => m.2)).sum
  let g4 := ms.map (fun m => if f = 0 then 0 else p3 * m.2 / f)
  pick g1 + pick g2 + pick g3 + pick g4

/-- A member of the group becomes lost, with the hold or, at full service, without it (R248). -/
def State.govLose (s : State) (g m : Nat) (hold : Bool) : State :=
  let t := s.modGrp g (fun x => { x with
    share := min x.share (s.get (govBudget_fixed g)), fallback := true, lost := x.lost ||| 2 ^ m, good := 0,
    holdUntil := if hold then some (s.now + ms (10 * s.get govCtl_fbHold)) else x.holdUntil })
  let t := t.put govCluster_linked (setBits (t.get govCluster_linked) m m 0)
  let t := t.put govCluster_lost ((t.grp 0).lost ||| (t.grp 1).lost)
  (t.fault (0x78 + g) 0x2E (2 ^ m)).post t.sysHolders 12 0x03 g 1 0

/-- The budget in force among the members still linked: the least of BUDGET and the sum of their FIXED (R248). -/
def State.govPart (s : State) (g : Nat) : State :=
  s.modGrp g (fun x => { x with
    bf := min (s.get (govBudget_budget g)) (s.fixedOf g s.ownNumber + (((s.othersOf g).filter s.isLinked).map (s.fixedOf g)).sum) })

/-- What a group keeps of devices that MEMBERS no longer names is dropped (R247). -/
def State.govPurge (s : State) (g : Nat) : State :=
  let os := s.othersOf g
  let t := s.modGrp g (fun x => { x with
    peers := x.peers.filter (fun p => decide (p.1 ∈ os)), inbox := x.inbox.filter (fun e => decide (e.member ∈ os))
    missed := x.missed.filter (fun p => decide (p.1 ∈ os)), lost := x.lost &&& listMask os, frozenBy := x.frozenBy &&& listMask os })
  (t.put govCluster_lost ((t.grp 0).lost ||| (t.grp 1).lost)).endRemote g

/-- The waiting writes of GOV configuration registers take effect (R247): a LEVEL of 0 ends a standing freeze (R244), the shares of a group that was
alone start at its BUDGET, the members compare again where MEMBERS, BUDGET or FIXED was written, and an added member that is not linked is
lost. -/
def State.govApply (s : State) : State :=
  if s.govPend = [] then s
  else
    let old := [0, 1].map (fun g => (s.govAlone g, s.othersOf g, s.shareOf g))
    let told (g : Nat) : Bool := s.govPend.any (fun p => p.1 == (govMap_members g).addr || p.1 == (govBudget_budget g).addr)
    let t := s.govPend.foldl (fun (t : State) p => t.wr p.1 p.2) { s with govPend := [] }
    let t := forEach [0, 1] (fun g u => if (u.grp g).frozenLocal = true ∧ u.get (govDroop_level g) = 0 then u.endFreeze g else u) t
    forEach [0, 1] (fun g u =>
      let (alone, others, share) := old.getD g (true, [], 0)
      let u := (if alone then u.modGrp g (fun x => { x with share := share }) else u).govPurge g
      if u.govShares g then
        let u := if told g then (u.ridgeBcast 0x4 (u.govCfgMsg g)).govCompare g else u
        forEach ((u.othersOf g).filter (fun m => !(m ∈ others) && !u.isLinked m)) (fun m v => v.govLose g m true) u
      else u) t

/-- One shared group at an epoch boundary, in fallback with the budget of the members linked now: the allocation of the epoch that ends, if it
was complete, then
the release, then the broadcast (R245, R246); and the frozen reports of that epoch take hold. -/
def State.govEpoch (s : State) (g : Nat) : State :=
  let s := if (s.grp g).fallback = true ∧ (s.grp g).holdUntil.isNone then s.govPart g else s
  let x := s.grp g
  let others := s.othersOf g
  let linked := others.filter s.isLinked
  let complete := linked.all (fun m => x.inbox.any (fun e => e.member == m))
  let msgs := x.own.toList ++ x.inbox.filter (fun e => decide (e.member ∈ linked))
  let gain := if complete ∧ x.holdUntil.isNone then allocation x.bf (msgs.map (fun e => (e, s.fixedOf g e.member))) s.ownNumber else 0
  let s1 := x.share + gain
  let u := s.usedOf g
  let grown := s.modGrp g (fun y => { y with share := s1 })
  let wOwn := grown.demand g 1 + grown.demand g 2
  let fixed := s.get (govBudget_fixed g)
  let otherWants := x.inbox.any (fun e => e.wWork + e.wComfort != 0)
  let anyWants := otherWants || x.own.toList.any (fun e => e.wWork + e.wComfort != 0)
  let rel :=
    if x.holdUntil.isSome then 0
    else if wOwn = 0 ∧ otherWants = true then s1 - u - s.get (govReserve_reserve g)
    else if anyWants = false ∧ fixed < s1 then s1 - max fixed u
    else 0
  let by_ := listMask ((x.inbox.filter (fun e => e.frozen)).map (fun e => e.member)) ||| x.frozenBy
  let t := s.modGrp g (fun y => { y with
    share := s1 - rel, inbox := [], last := x.inbox, frozenBy := by_,
    good := if complete ∧ others.length = linked.length then y.good + 1 else 0,
    missed := others.map (fun m =>
      (m, if x.inbox.any (fun e => e.member == m) then 0
          else 1 + (match y.missed.find? (fun p => p.1 == m) with | some p => p.2 | none => 0))) })
  let t := if by_ ≠ 0 ∧ x.frozenRemote = false then
      ((t.modGrp g (fun y => { y with frozenRemote := true, remoteAt := s.now })).inc (govPeak_freezes g)).post s.sysHolders 12 0x02 g 3 0
    else t
  let r := t.govReport g
  (t.modGrp g (fun y => { y with own := some r })).ridgeBcast 0x4 (govMsg (s.get (govMap_boardfeed g)) r)

/-- An epoch boundary: waiting configuration writes take effect, then each shared group takes its steps, and the line is
re-examined; an epoch in which a linked member's message is missing counts as skipped (R245 to R247). -/
def State.epoch (s : State) : State :=
  let t := s.govApply
  let gs := [0, 1].filter t.govShares
  let short := gs.any (fun g =>
    !((t.othersOf g).filter t.isLinked).all (fun m => (t.grp g).inbox.any (fun e => e.member == m)))
  let t := if short then t.inc govCluster_skipped else t
  (forEach gs (fun g u => u.govEpoch g) t).reexamine

/-- EPOCH_BOUNDARY: configuration writes take effect, then each shared group takes its boundary's steps, and
the line is re-examined (R245 to R247). -/
def execEpochBoundary (s : State) : Host.Outcome State Fault Refusal :=
  act (fun s =>
    if s.domOn Dm.crk then s.epoch else s) s

/-- MEMBER_LOST: a member has been silent for three epochs, or no longer counts as linked (R248). -/
def execMemberLost (group : Fin 2) (member : Fin 4) (s : State) : Host.Outcome State Fault Refusal :=
  act (fun s =>
    let g := group.val
    let m := member.val
    let silent := (s.grp g).missed.any (fun p => p.1 == m && decide (3 ≤ p.2))
    if s.domOn Dm.crk = true ∧ s.govShares g = true ∧ m ∈ s.othersOf g ∧ (s.grp g).lost.testBit m = false ∧
        (silent = true ∨ s.isLinked m = false) then
      s.govLose g m true
    else s) s

/-- FB_HOLD_END: the hold after a loss ends, and allocation goes on among the members still linked (R248). -/
def execFbHoldEnd (group : Fin 2) (s : State) : Host.Outcome State Fault Refusal :=
  act (fun s =>
    let g := group.val
    match (s.grp g).holdUntil with
    | some d => if d ≤ s.now then ((s.modGrp g (fun x => { x with holdUntil := none })).govPart g).reexamine else s
    | none => s) s

/-- MEMBERS_RELINKED: every member has been linked for three complete epochs: the budget in force is BUDGET
again and FALLBACK is cleared (R249). -/
def execMembersRelinked (group : Fin 2) (s : State) : Host.Outcome State Fault Refusal :=
  act (fun s =>
    let g := group.val
    if (s.grp g).fallback = true ∧ 3 ≤ (s.grp g).good then
      let t := s.modGrp g (fun x => { x with fallback := false, holdUntil := none, bf := s.lowBudget g, lost := 0 })
      ((t.put govCluster_lost ((t.grp 0).lost ||| (t.grp 1).lost)).post t.sysHolders 12 0x03 g 0 0).reexamine
    else s) s

/-- Full service: each shared group starts at FIXED with every other member lost, with no hold (R238, R248). -/
def State.govFullService (s : State) : State :=
  let t := forEach [0, 1] (fun g u =>
    (u.modGrp g (fun x => { x with share := u.get (govBudget_budget g), bf := u.get (govBudget_budget g) }))) s
  forEach ([0, 1].filter t.govShares) (fun g u =>
    (forEach ((u.othersOf g).filter (fun m => !u.isLinked m)) (fun m v => v.govLose g m false) u).govPart g) t

end Sys2Proof.Machine
end

