-- ==== Sys2Proof/Machine/Packet.lean ====
section
/-! DEFINITION. The packet: its header and the parameters of every opcode, read from bytes (spec/04, R77,
R80), and the CRC-8 of Ruesk (R71). -/

namespace Sys2Proof.Machine

/-! ### CRC-8 (spec/04, R71) -/

/-- One bit of the CRC-8 with polynomial 0x1D, no reflection. -/
def crc8Bit (c : Nat) : Nat := if 128 ≤ c then (c * 2 % 256) ^^^ 0x1D else c * 2 % 256

/-- One byte taken into the CRC-8. -/
def crc8Byte (c : Nat) (b : Byte) : Nat :=
  crc8Bit (crc8Bit (crc8Bit (crc8Bit (crc8Bit (crc8Bit (crc8Bit (crc8Bit (c ^^^ b.toNat))))))))

/-- The CRC-8 of a run of bytes: initial value 0xFF, final XOR 0xFF. -/
def crc8 (bs : List Byte) : Byte := BitVec.ofNat 8 ((bs.foldl crc8Byte 0xFF) ^^^ 0xFF)

/-! ### CRC-32 (IEEE 802.3) -/

/-- One bit of the CRC, least significant bit first (log 31). -/
def crc32Bit (c : Nat) : Nat := if c % 2 = 1 then (c / 2) ^^^ 0xEDB88320 else c / 2
/-- One byte of the CRC. -/
def crc32Byte (c : Nat) (b : Byte) : Nat := (List.range 8).foldl (fun x _ => crc32Bit x) (c ^^^ b.toNat)
/-- The CRC-32 of a list of bytes. -/
def crc32 (bs : List Byte) : Nat := (bs.foldl crc32Byte 0xFFFFFFFF) ^^^ 0xFFFFFFFF

/-! ### Parameters -/

/-- The `n`-byte value at offset `k`. -/
def pN (p : List Byte) (k n : Nat) : Nat := beNat ((p.drop k).take n)
/-- The byte at an offset. -/
def pB (p : List Byte) (k : Nat) : Byte := p.getD k 0
/-- The two-byte value at an offset. -/
def pH (p : List Byte) (k : Nat) : Half := BitVec.ofNat 16 (pN p k 2)
/-- The four-byte value at an offset. -/
def pW (p : List Byte) (k : Nat) : Word := word (pN p k 4)
/-- The eight-byte value at an offset. -/
def pD (p : List Byte) (k : Nat) : Dword := BitVec.ofNat 64 (pN p k 8)
/-- `n` reserved bytes at an offset are 0. -/
def pZ (p : List Byte) (k n : Nat) : Bool := ((p.drop k).take n).all (fun b => b == 0)

/-- A command where its LEN and its reserved bytes are as they must be. -/
def ifOk (ok : Bool) (i : Instr) : Option Instr := if ok then some i else none

/-- System, group 0x0_. -/
def parse0 (h : Hdr) (opc : Nat) (p : List Byte) : Option Instr :=
  let n := p.length
  match opc with
  | 0x00 => ifOk (n == 0) (.nop h)
  | 0x01 => ifOk (n == 0) (.barrier h)
  | 0x02 => ifOk (n == 4 && pZ p 2 2) (.abort h (pH p 0))
  | 0x03 => ifOk (n == 0) (.getStatus h)
  | 0x04 => ifOk (n == 0) (.getInfo h)
  | 0x05 => ifOk (n == 0) (.limpRelease h)
  | 0x06 => ifOk (n == 132) (.limpMapProgram h ((List.range 64).map (fun k => pH p (2 * k))) (pH p 128) (pH p 130))
  | 0x07 => ifOk (n == 4 && pZ p 1 3) (.sysReset h (pB p 0))
  | 0x08 => ifOk (n == 8 && pZ p 6 2) (.ownGrant h (pB p 0) (pH p 1) (pH p 3) (pB p 5))
  | 0x09 => ifOk (n == 8 && pZ p 5 3) (.ownRelease h (pB p 0) (pH p 1) (pH p 3))
  | 0x0A => ifOk (n == 8 && pZ p 2 2) (.quotaSet h (pB p 0) (pB p 1) (pW p 4))
  | 0x0B => ifOk (n == 4 && pZ p 1 3) (.hcClose h (pB p 0))
  | _ => none

/-- Outputs, group 0x1_. -/
def parse1 (h : Hdr) (opc : Nat) (p : List Byte) : Option Instr :=
  let n := p.length
  match opc with
  | 0x10 => ifOk (n == 8) (.chOn h (pD p 0))
  | 0x11 => ifOk (n == 8) (.chOff h (pD p 0))
  | 0x12 => ifOk (n == 8 && pZ p 5 3) (.chSetDuty h (pB p 0) (pB p 1) (pH p 2) (pB p 4))
  | 0x13 => ifOk (n == 8 && pZ p 1 3) (.chPulse h (pB p 0) (pW p 4))
  | 0x14 => ifOk (n == 4) (.chStartProfile h (pB p 0) (pB p 1) (pH p 2))
  | 0x15 => ifOk (n == 36 && pZ p 1 3) (.chConfig h (pB p 0) (wordsOf (p.drop 4)))
  | 0x16 => ifOk (n == 4 && pZ p 1 3) (.chStatus h (pB p 0))
  | 0x17 => ifOk (n == 8) (.chClearLatch h (pD p 0))
  | 0x18 => ifOk (n == 8) (.chDisable h (pD p 0))
  | 0x19 => ifOk (n == 4 && pZ p 3 1) (.chFollowLh h (pB p 0) (pB p 1) (pB p 2))
  | 0x1A => ifOk (n == 4 && pZ p 1 1) (.bankBase h (pB p 0) (pH p 2))
  | 0x1B => ifOk (n == 12) (.motorTarget h (pB p 0) (pB p 1) (pH p 2) (pD p 4))
  | 0x1C => ifOk (n == 4 && pZ p 2 2) (.motorStop h (pB p 0) (pB p 1))
  | _ => none

/-- Crank and Sprocket, group 0x2_. -/
def parse2 (h : Hdr) (opc : Nat) (p : List Byte) : Option Instr :=
  let n := p.length
  match opc with
  | 0x20 => ifOk (n == 36 && pZ p 1 3) (.axisConfig h (pB p 0) (wordsOf (p.drop 4)))
  | 0x21 => ifOk (n == 12 && pZ p 1 3) (.axisWrite h (pB p 0) (pD p 4))
  | 0x22 => ifOk (n == 4 && pZ p 1 3) (.axisRead h (pB p 0))
  | 0x23 => ifOk (n == 4 && pZ p 2 2) (.axisPublish h (pB p 0) (pB p 1))
  | 0x24 => ifOk (n == 36 && pZ p 2 2) (.spkArm h (pH p 0) (wordsOf (p.drop 4)))
  | 0x25 => ifOk (n == 4) (.spkCancel h (pH p 0) (pH p 2))
  | 0x26 => ifOk (n == 4 && pZ p 2 2) (.spkRead h (pH p 0))
  | 0x27 => ifOk (n == 4 && pZ p 1 3) (.leadRead h (pB p 0))
  | 0x28 => ifOk (n == 36 && pZ p 1 3) (.leadSet h (pB p 0) (wordsOf (p.drop 4)))
  | 0x29 => ifOk (n == 0) (.timeRead h)
  | _ => none

/-- Networks, group 0x3_. -/
def parse3 (h : Hdr) (opc : Nat) (p : List Byte) : Option Instr :=
  let n := p.length
  match opc with
  | 0x30 => ifOk (n == 36 && pZ p 1 3) (.canConfig h (pB p 0) (wordsOf (p.drop 4)))
  | 0x31 => ifOk (n == 4 && pZ p 2 2) (.canState h (pB p 0) (pB p 1))
  | 0x32 => ifOk (decide (12 ≤ n) && pZ p 2 2) (.canTx h (pB p 0) (pB p 1) (p.drop 4))
  | 0x33 => ifOk (n == 12) (.canFilter h (pH p 0) (pB p 2) (pB p 3) (pW p 4) (pW p 8))
  | 0x34 => ifOk (n == 4 && pZ p 2 2) (.canRxPull h (pB p 0) (pB p 1))
  | 0x35 => ifOk (n == 4) (.canRxAck h (pB p 0) (pB p 1) (pH p 2))
  | 0x36 => ifOk (n == 68 && pZ p 2 2) (.flowAdd h (pH p 0) (wordsOf (p.drop 4)))
  | 0x37 => ifOk (n == 4 && pZ p 2 2) (.flowRemove h (pH p 0))
  | 0x38 => ifOk (n == 36 && pZ p 1 3) (.ethConfig h (pB p 0) (wordsOf (p.drop 4)))
  | 0x39 => ifOk (n == 4 && pZ p 2 2) (.netStats h (pB p 0) (pB p 1))
  | 0x3A => ifOk (n == 4 && pZ p 1 3) (.ridgeState h (pB p 0))
  | _ => none

/-- Events and faults, group 0x4_. -/
def parse4 (h : Hdr) (opc : Nat) (p : List Byte) : Option Instr :=
  let n := p.length
  match opc with
  | 0x40 => ifOk (n == 6) (.evtClassSet h (pB p 0) (pB p 1) (pB p 2) (pB p 3) (pH p 4))
  | 0x41 => ifOk (n == 4 && pZ p 1 3) (.evtGdis h (pB p 0))
  | 0x42 => ifOk (n == 4 && pZ p 1 3) (.hostSleep h (pB p 0))
  | 0x43 => ifOk (n == 4 && pZ p 3 1) (.faultRead h (pH p 0) (pB p 2))
  | 0x44 => ifOk (n == 4) (.faultHandled h (pW p 0))
  | 0x45 => ifOk (n == 4 && pZ p 1 1) (.faultClear h (pB p 0) (pH p 2))
  | 0x46 => ifOk (n == 8 && pZ p 3 1) (.faultReaction h (pB p 0) (pB p 1) (pB p 2) (pH p 4) (pH p 6))
  | _ => none

/-- Keys and immobiliser, group 0x5_. -/
def parse5 (h : Hdr) (opc : Nat) (p : List Byte) : Option Instr :=
  let n := p.length
  let z := pZ p 1 3
  match opc with
  | 0x50 => ifOk (n == 36 && z) (.keyRootWrite h (pB p 0) (p.drop 4))
  | 0x51 => ifOk (n == 52 && z) (.keyStage h (pB p 0) (p.drop 4))
  | 0x52 => ifOk (n == 20 && z) (.keyVerify h (pB p 0) (p.drop 4))
  | 0x53 => ifOk (n == 4 && z) (.keyCommit h (pB p 0))
  | 0x54 => ifOk (n == 20 && z) (.keyChallenge h (pB p 0) (p.drop 4))
  | 0x55 => ifOk (n == 20 && z) (.lifecycleSet h (pB p 0) (p.drop 4))
  | 0x56 => ifOk (n == 52 && z) (.immEnroll h (pB p 0) (p.drop 4))
  | 0x57 => ifOk (n == 4 && z) (.immRevoke h (pB p 0))
  | 0x58 => ifOk (n == 0) (.immState h)
  | _ => none

/-- Update, group 0x6_. -/
def parse6 (h : Hdr) (opc : Nat) (p : List Byte) : Option Instr :=
  let n := p.length
  match opc with
  | 0x60 => ifOk (n == 4) (.updateBegin h (pW p 0))
  | 0x61 => ifOk (decide (5 ≤ n) && decide (n ≤ 2052)) (.updateData h (pW p 0) (p.drop 4))
  | 0x62 => ifOk (n == 0) (.updateEnd h)
  | 0x63 => ifOk (n == 0) (.updateConfirm h)
  | 0x64 => ifOk (n == 0) (.updateStatus h)
  | 0x65 => ifOk (n == 0) (.updateCancel h)
  | 0x66 => ifOk (n == 4) (.configBegin h (pW p 0))
  | 0x67 => ifOk (decide (5 ≤ n) && decide (n ≤ 2052)) (.configData h (pW p 0) (p.drop 4))
  | 0x68 => ifOk (n == 0) (.configEnd h)
  | _ => none

/-- Power, inputs, field bank and expert window: groups 0x7_, 0x8_ and 0xE_. -/
def parse7 (h : Hdr) (opc : Nat) (p : List Byte) : Option Instr :=
  let n := p.length
  match opc with
  | 0x70 => ifOk (n == 8 && pZ p 5 3) (.domainSet h (pW p 0) (pB p 4))
  | 0x71 => ifOk (n == 20 && pZ p 1 3) (.wakeConfig h (pB p 0) (wordsOf (p.drop 4)))
  | 0x72 => ifOk (n == 20 && pZ p 1 3) (.nmConfig h (pB p 0) (wordsOf (p.drop 4)))
  | 0x73 => ifOk (n == 0) (.pwrStatus h)
  | 0x80 => ifOk (n == 12 && pZ p 1 3) (.swinConfig h (pB p 0) (wordsOf (p.drop 4)))
  | 0x81 => ifOk (n == 0) (.swinRead h)
  | 0x82 => ifOk (n == 4 && pZ p 1 3) (.analogRead h (pB p 0))
  | 0x83 => ifOk (n == 4) (.fieldOut h (pH p 0) (pH p 2))
  | 0x84 => ifOk (n == 0) (.fieldRead h)
  | 0x85 => ifOk (n == 12 && pZ p 1 3) (.fieldConfig h (pB p 0) (wordsOf (p.drop 4)))
  | 0xE0 => ifOk (n == 8 && pZ p 5 3) (.regRead h (pW p 0) (pB p 4))
  | 0xE1 => ifOk (n == 8) (.regWrite h (pW p 0) (pW p 4))
  | 0xE2 => ifOk (n == 12) (.regModify h (pW p 0) (pW p 4) (pW p 8))
  | _ => none

/-- The command of an opcode with its parameter bytes, or none where a reserved byte is set or LEN does not
match the opcode. -/
def parseCmd (h : Hdr) (opc : Nat) (p : List Byte) : Option Instr :=
  match opc / 16 with
  | 0 => parse0 h opc p
  | 1 => parse1 h opc p
  | 2 => parse2 h opc p
  | 3 => parse3 h opc p
  | 4 => parse4 h opc p
  | 5 => parse5 h opc p
  | 6 => parse6 h opc p
  | _ => parse7 h opc p

/-- The opcodes of the tables (R80). -/
def knownOpc (opc : Nat) : Bool :=
  let k := opc % 16
  match opc / 16 with
  | 0 => decide (k ≤ 0xB)
  | 1 => decide (k ≤ 0xC)
  | 2 => decide (k ≤ 9)
  | 3 => decide (k ≤ 0xA)
  | 4 => decide (k ≤ 6)
  | 5 => decide (k ≤ 8)
  | 6 => decide (k ≤ 8)
  | 7 => decide (k ≤ 3)
  | 8 => decide (k ≤ 5)
  | 14 => decide (k ≤ 2)
  | _ => false

/-! ### The header -/

/-- A packet's header fields, from its first eight bytes. -/
structure PktHdr where
  opc : Nat
  hdr : Hdr
  len : Nat
  /-- A reserved bit is set. -/
  reserved : Bool
  deriving DecidableEq, Repr

/-- The context number of a bit field. -/
def hcFin (n : Nat) : Fin 8 := Fin.ofNat 8 n

/-- The header of a packet (R77). -/
def readHdr (b : List Byte) : PktHdr :=
  let w0 := pN b 0 4
  let w1 := pN b 4 4
  { opc := bits w0 31 24, len := bits w1 31 20, reserved := bits w0 19 16 != 0 || bits w1 14 0 != 0,
    hdr := {
      hc := hcFin (bits w1 19 17), tag := BitVec.ofNat 16 (bits w0 15 0), fence := bitOf w0 23, notify := bitOf w0 22,
      wake := bitOf w0 21, atomic := bitOf w0 20, prio := BitVec.ofNat 2 (bits w1 16 15) } }

end Sys2Proof.Machine
end

