-- ==== Sys2Proof/Machine/Transport.lean ====
section
/-! DEFINITION. How packets and messages are taken in: acceptance, messages over CAN, Ethernet and Ridge,
acknowledgements and resending (spec/04, R75, R91 to R95; spec/05, R97, R98, R105 to R110, R117). -/

namespace Sys2Proof.Machine

/-! ### Acceptance (R75, R105 to R112) -/

/-- The command-rate bucket refilled up to now, in steps of 1 µs (R110). -/
def State.refill (s : State) (n : Nat) : State :=
  let t := s.now / 100
  s.modHc n (fun h => { h with deficit := h.deficit - s.quota n 5 * (t - h.fillAt), fillAt := t })

/-- A token is there: the bucket holds CMD_RATE tokens, in thousandths. -/
def State.hasToken (s : State) (n : Nat) : Bool := decide ((s.hc n).deficit + 1000 ≤ s.quota n 5 * 1000)

/-- One token taken. -/
def State.takeToken (s : State) (n : Nat) : State :=
  let t := s.now / 100
  s.modHc n (fun h => { h with deficit := h.deficit + 1000, takes := t :: h.takes.filter (fun x => decide (t < x + 1000)) })

/-- Cells of a packet of LEN parameter bytes while it is queued (R105). -/
def pktCells (len : Nat) : Nat := ceilDiv (8 + 4 * ceilDiv len 4) 256

/-- A packet offered to context `n`: its PUSH_STATUS, and the state after acceptance or refusal. One with an
unknown opcode, or with parameters that do not match it, waits its turn to complete (R75, R80; log 90). -/
def State.acceptPkt (s : State) (n : Nat) (b : List Byte) (limit : Nat) : State × Byte :=
  let k := readHdr b
  let s := (s.refill n).recheckQuota none n
  let more := ceilDiv (s.complRecs n + maxRecs k.opc) 16 - ceilDiv (s.complRecs n) 16
  let cells := pktCells k.len + more
  let st : Byte :=
    if s.serves n = false ∨ 64 ≤ (s.hc n).queue.length + (s.hc n).bad.length then St.busy
    else if k.hdr.hc.val ≠ n ∨ limit < k.len ∨ k.reserved = true then St.badParam
    else if s.flag (hcState_overQuota n) = true ∨ s.quota n 2 < s.hcCells n + cells ∨ s.hasToken n = false then St.overQuota
    else if s.poolHas (n == 0) cells = false then St.noResource
    else St.accepted
  if st ≠ St.accepted then (s.inc (hcRefused_refused n), st)
  else
    let t := (s.takeToken n).modHc n (fun h => { h with lastPkt := some (s.now, pD b 0) })
    match parseCmd k.hdr k.opc ((b.drop 8).take k.len) with
    | some i =>
      (({ t.modHc n (fun h => { h with queue := h.queue ++ [t.entry n i (pktCells k.len)] }) with nextId := t.nextId + 1 } : State).notePool, st)
    | none =>
      let b : BadPkt := { hdr := k.hdr, opc := k.opc, status := if knownOpc k.opc then St.badParam else St.badOpcode, no := t.nextId, cells := pktCells k.len }
      (({ t.modHc n (fun h => { h with bad := h.bad ++ [b] }) with nextId := t.nextId + 1 } : State).notePool, st)

/-! ### Messages of HC1 to HC7 (R91 to R95, R98) -/

/-- The transport of a context: 2 CAN, 3 Ethernet, 4 Ridge peer (HCn_BIND). -/
def State.transport (s : State) (n : Nat) : Nat := s.get (hcBind_transport n)

/-- The flow is authenticated. -/
def State.isAuth (s : State) (n : Nat) : Bool := s.get (hcBind_auth n) == 1

/-- The greatest LEN over a context's transport (R92). -/
def State.lenLimit (s : State) (n : Nat) : Nat :=
  if s.transport n = 3 then (if s.isAuth n then 1448 else 1460) else 2056

/-- A PUSH_STATUS message sent, tagged on an authenticated flow (R91, R92, R95). -/
def State.sendPush (s : State) (n : Nat) (tag : Half) (status : Byte) : State :=
  let msg := beBytes 2 tag.toNat ++ [status]
  if s.isAuth n then
    let c := (s.hc n).txCount + 1
    let mac := macOf (s.flowKey n) msg c
    ((s.modHc n (fun h => { h with txCount := c })).emit (.pushStatus n tag status (some (c, mac)))).carry n 2 (msg ++ macBytes (c, mac))
  else (s.emit (.pushStatus n tag status none)).carry n 2 msg

/-- A PACKET message (R91, R94): a repeat of the last accepted one within 1 s is not issued again; a refused
one answers with PUSH_STATUS. -/
def State.packetIn (s : State) (n : Nat) (b : List Byte) : State :=
  let k := readHdr b
  let repeat_ := (s.transport n == 2 || s.transport n == 3) && (match (s.hc n).lastPkt with
    | some (at_, h) => h == pD b 0 && decide (s.now ≤ at_ + sec 1)
    | none => false)
  if b.length < 8 + k.len then (s.inc (hcRefused_refused n)).sendPush n k.hdr.tag St.badParam
  else if repeat_ then s
  else
    let (t, st) := s.acceptPkt n (b.take (8 + k.len)) (s.lenLimit n)
    if st = St.accepted then t else t.sendPush n k.hdr.tag st

/-- Records released from a ring are followed by the completions that waited for room, by new messages, and
by a look at the quotas (R93, R100, R112). -/
def State.afterAck (s : State) (n : Nat) : State :=
  let t := s.fillRing n
  (t.sendNew n (t.flowKey n)).recheckQuota none n

/-- A RING_ACK: every group of the ring up to the one with that SEQ, if it has been sent and not
acknowledged (R91). -/
def State.ackRing (s : State) (n : Nat) (ring : Byte) (seq : Half) : State :=
  if ring = 0 ∧ (s.hc n).cring.any (fun r => r.seq == seq && r.delivered) = true then
    (s.modHc n (fun h => { h with cring := (h.cring.dropWhile (fun r => r.seq != seq)).drop 1 })).afterAck n
  else if ring = 1 ∧ (s.hc n).ering.any (fun r => r.seq == seq && r.delivered) = true then
    (s.modHc n (fun h => { h with ering := (h.ering.dropWhile (fun r => r.seq != seq)).drop 1 })).afterAck n
  else s

/-- The length of the message proper: a packet's own, or a RING_ACK's three bytes; what follows is padding (R91, R92). -/
def msgLen (kind : Nat) (b : List Byte) : Nat :=
  match kind with
  | 0 => min b.length (8 + (readHdr b).len)
  | 3 => 3
  | _ => b.length

/-- A message arrives for a context (R91, R95, R97, R117; spec/03, R58): discarded and counted where the context is unbound or closed or SYS
does not serve it, discarded where its counter or tag fails. DESIGN CHOICE: before any message the last counter accepted is 0, so that a
first one of 0 is discarded, and the device's own first counter is 1 (R95; log 113). -/
def State.recvMsg (s : State) (n : Nat) (m : TransportMsg) : State :=
  if n = 0 then s
  else if s.closed n = true ∨ s.bound n = false ∨ s.serves n = false then s.inc (hcRefused_discard n)
  else
    let body := m.bytes.take (msgLen m.kind.toNat m.bytes)
    let good := !s.isAuth n || ((s.flowKey? n).isSome && decide ((s.hc n).rxCount < m.counter) && m.mac == macOf (s.flowKey n) body m.counter)
    if good = false then s.modHc n (fun h => { h with authFail := h.authFail + 1 })
    else
      let t := s.modHc n (fun h => { h with
        rxCount := if s.isAuth n then m.counter else h.rxCount,
        reply := if s.transport n = 3 then (m.srcIp, m.srcPort) else h.reply })
      if m.kind = 0 then t.packetIn n m.bytes
      else if m.kind = 3 ∧ 3 ≤ m.bytes.length then t.ackRing n (pB m.bytes 0) (pH m.bytes 1)
      else t

/-- A message's bytes as they came over a segmented transport: on an authenticated flow, the counter and
the tag stand behind the message proper (R95). -/
def State.splitMsg (s : State) (n kind : Nat) (b : List Byte) (ip : Word := 0) (port : Half := 0) : TransportMsg :=
  let k := BitVec.ofNat 2 kind
  if s.isAuth n then
    let l := msgLen kind b
    { kind := k, bytes := b.take l, counter := pW b l, mac := pD b (l + 4), srcIp := ip, srcPort := port }
  else { kind := k, bytes := b, srcIp := ip, srcPort := port }

/-- The payload of a CAN frame of a command flow: a control byte and a segment's bytes (R92). -/
def State.segmentIn (s : State) (n : Nat) (data : List Byte) : State :=
  let c := (pB data 0).toNat
  let kind := bits c 7 6
  let first := bitOf c 5
  let last := bitOf c 4
  let seg := bits c 3 0
  let body := data.drop 1
  let part : Option (List Byte) :=
    if first then some body
    else match (s.hc n).segs with
      | some (k, next, bytes, at_) => if k = kind ∧ seg = next ∧ s.now ≤ at_ + ms 50 then some (bytes ++ body) else none
      | none => none
  match part with
  | none => s.modHc n (fun h => { h with segs := none })
  | some bytes =>
    if first = true ∧ seg ≠ 0 then s.modHc n (fun h => { h with segs := none })
    else if last then
      let t := s.modHc n (fun h => { h with segs := none })
      t.recvMsg n (t.splitMsg n kind bytes)
    else s.modHc n (fun h => { h with segs := some (kind, (seg + 1) % 16, bytes, s.now) })

/-! ### The rows -/

/-- PACKET_MESSAGE: a PACKET message of one of HC1 to HC7 (R91). -/
def execPacketMessage (hc : Fin 8) (m : TransportMsg) (s : State) : Host.Outcome State Fault Refusal :=
  act (fun s => if m.kind = 0 then s.recvMsg hc.val m else s) s

/-- RING_ACK: an acknowledgement message of one of HC1 to HC7 (R91). -/
def execRingAck (hc : Fin 8) (m : TransportMsg) (s : State) : Host.Outcome State Fault Refusal :=
  act (fun s => if m.kind = 3 then s.recvMsg hc.val m else s) s

/-- RECORDS_RESEND: every group of a ring not acknowledged 100 ms after its last sending is sent again, oldest
first; paused while the host sleeps and only groups of other classes wait (R93; spec/16, R361). -/
def execRecordsResend (hc : Fin 8) (events : Bool) (s : State) : Host.Outcome State Fault Refusal :=
  act (fun s =>
    let n := hc.val
    if n = 0 ∨ s.closed n = true ∨ s.bound n = false ∨ s.asleepQuiet n = true ∨ s.serves n = false then s
    else
      let due : ∀ {α : Type}, RingItem α → Bool := fun r => r.delivered && decide (r.sentAt + ms 100 ≤ s.now)
      s.sendGroups n (s.flowKey n) (fun r => !events && due r) (fun r => events && due r)) s

/-- CAN_SEGMENT_TIMEOUT: a message whose next segment has not come for more than 50 ms is discarded (R92). -/
def execCanSegmentTimeout (hc : Fin 8) (s : State) : Host.Outcome State Fault Refusal :=
  act (fun s => match (s.hc hc.val).segs with
    | some (_, _, _, at_) => if at_ + ms 50 < s.now then s.modHc hc.val (fun h => { h with segs := none }) else s
    | none => s) s

end Sys2Proof.Machine
end

