-- ==== Sys2Proof/Machine/SwitchOps.lean ====
section
/-! DEFINITION. The frame switch: ingress, flows, egress queues, the slow path, the ACF-CAN gateway and the
frames for the device itself (spec/14, R298 to R313). The layouts of IEEE 1722, ARP, IPv4, ICMP and UDP are taken from
those standards (log 21). -/

namespace Sys2Proof.Machine

/-! ### Ports (R298, R302) -/

/-- A counter of NET_STATS raised: KIND and position (R318). -/
def State.stat (s : State) (p kind idx : Nat) (by_ : Nat := 1) : State :=
  s.modNet p (fun n => { n with
    stats := Sparse.set (fun _ => 0) n.stats (8 * kind + idx) ((Sparse.get (fun _ => 0) n.stats (8 * kind + idx) + by_) % 2 ^ 32) })

/-- A drop for quota counted (R305). -/
def State.quotaDrop (s : State) (p : Nat) : State :=
  (s.stat p 1 3).inc (if p < 4 then phyDrop_quota p else rdgErr_quota (p - 4))

/-- A drop for age or a link that is down counted (R305). -/
def State.ageDrop (s : State) (p : Nat) : State :=
  (s.stat p 1 4).inc (if p < 4 then phyDrop_age p else rdgErr_age (p - 4))

/-- The bytes of a frame, FCS included. -/
def EthLen (f : EthFrame) : Nat := 18 + (if f.vlan.isSome then 4 else 0) + f.payload.length

/-- The cell quota of a network port. -/
def State.portQuota (s : State) (p : Nat) : Nat := s.get (sysPortq_qa (6 + p))

/-- The pool charged for the frames in the switch: each to its ingress port (spec/05, R105). -/
def State.chargeFwd (s : State) : State :=
  { s with portCells := (List.range 6).foldl (fun m p =>
      Sparse.set (fun _ => 0) m (12 + p) (((s.fwd.filter (fun f => f.ingress == p)).map (fun f => f.cells)).sum)) s.portCells }

/-! ### VLANs (R304) -/

/-- The entry of a VID, if there is one. -/
def State.vlanOf (s : State) (vid : Nat) : Option Nat :=
  (List.range 64).find? (fun k => s.flag (netVlan_valid k) && s.get (netVlan_vid k) == vid)

/-- A port is a member of a VID. -/
def State.vlanMember (s : State) (vid p : Nat) : Bool :=
  match s.vlanOf vid with | some k => (s.get (netVlan_members k)).testBit p | none => false

/-- The VID and PCP a frame takes at a port, unless ACCEPT or the VLAN table discards it. -/
def State.vlanIn (s : State) (p : Nat) (f : EthFrame) : Option (Nat × Nat) :=
  let w := s.portWord p 1
  let acc := bits w 15 14
  match f.vlan with
  | some t =>
    let vid := t.toNat % 4096
    -- a priority tag carries no VID: the frame takes the port's
    let vid := if vid = 0 then bits w 27 16 else vid
    if acc = 2 ∨ s.vlanMember vid p = false then none else some (vid, t.toNat / 0x2000)
  | none => if acc = 1 ∨ s.vlanMember (bits w 27 16) p = false then none else some (bits w 27 16, bits w 13 11)

/-- A frame as it leaves a port: tagged, or untagged where the port is in the untag mask. -/
def State.vlanOut (s : State) (vid pcp p : Nat) (f : EthFrame) : EthFrame :=
  let untag := match s.vlanOf vid with | some k => (s.get (netVlan_untag k)).testBit p | none => false
  { f with vlan := if untag then none else some (BitVec.ofNat 16 (pcp * 0x2000 + vid)) }

/-! ### Egress (R305) -/

/-- Copies of a frame for ports 0 to 5 put into their egress queues, a frame of the device's own (ingress 6) charged to no port, a
DESIGN CHOICE (spec/05, R105; log 97); a copy for a port that is down is dropped at once. -/
def State.forward (s : State) (ingress vid pcp : Nat) (f : EthFrame) (outs : List Nat) : State :=
  let outs := outs.filter (fun p => decide (p < 6) && s.vlanMember vid p)
  let t := (outs.filter (fun p => !s.netUp p)).foldl (fun (u : State) p => u.ageDrop p) s
  let copies := (outs.filter s.netUp).map (fun p => ({ port := p, pcp := pcp, since := s.now, frame := s.vlanOut vid pcp p f } : Copy))
  if copies = [] then t
  else
    let u : State := { t with fwd := t.fwd ++ [{ ingress := ingress, cells := if ingress < 6 then ceilDiv (EthLen f) 256 else 0, copies := copies }] }
    u.chargeFwd.notePool

/-- The bytes of an Ethernet frame from the destination on, without FCS. -/
def ethBytes (f : EthFrame) : List Byte :=
  beBytes 6 f.dst ++ beBytes 6 f.src ++ (match f.vlan with | some t => [0x81, 0x00] ++ beBytes 2 t.toNat | none => []) ++
    beBytes 2 f.etype.toNat ++ f.payload

/-- The bytes cut into runs of at most 256; `k` bounds the runs. -/
def segments (k : Nat) (b : List Byte) : List (List Byte) := cutRuns 256 k b

/-- A message or frame sent on a Ridge link in segments with FIRST and LAST (R315). -/
def State.ridgeSegs (s : State) (l : Nat) (ftype : Byte) (dst pcp : Nat) (b : List Byte) : State :=
  let ss := segments 16 b
  ss.zipIdx.foldl (fun (t : State) p => t.ridgeSend l {
    ftype := ftype, src := BitVec.ofNat 2 s.ownNumber, dst := BitVec.ofNat 2 dst, bcast := false, pcp := pcp,
    first := p.2 == 0, last := p.2 + 1 == ss.length, payload := p.1 }) s

/-- The head of the highest non-empty egress queue of a port sent (R305). -/
def State.sendHead (s : State) (p : Nat) : State :=
  let mine := (s.fwd.flatMap (fun f => f.copies)).filter (fun c => c.port == p)
  let top := (mine.map (fun c => c.pcp)).foldl max 0
  match mine.find? (fun c => c.pcp == top) with
  | none => s
  | some c =>
    if s.netUp p = false then s
    else
      let u : State := { s with fwd := (modFirst s.fwd c).filter (fun f => f.copies != []) }
      let t := u.chargeFwd
      let t := (t.stat p 0 1).stat p 0 3 (EthLen c.frame)
      if p < 4 then t.emit (.eth p c.frame) else t.ridgeSegs (p - 4) 0x8 (bits (t.get (rdgStat_state (p - 4))) 4 3) c.pcp (ethBytes c.frame)
where
  /-- The first frame that has the copy loses it. -/
  modFirst : List Fwd → Copy → List Fwd
    | [], _ => []
    | f :: l, c => if decide (c ∈ f.copies) then { f with copies := dropFirst (fun x => x == c) f.copies } :: l else f :: modFirst l c

/-- Every port sends the head of its highest queue: what the switch does as time passes (log 1). -/
def State.drainSwitch (s : State) : State := if s.fwd = [] then s else forEach (List.range 6) (fun p t => t.sendHead p) s

/-! ### Flow table (R307, R308, R310) -/

/-- A field of a flow record. -/
def Flow.fld (x : Flow) (k hi lo : Nat) : Nat := setField x.rec_ k hi lo
/-- KIND: 0 ETH_L2, 1 CAN_TO_ACF, 2 ACF_TO_CAN, 3 CAN_TO_CAN. -/
def Flow.kind (x : Flow) : Nat := x.fld 0 31 28
/-- INPORTS. -/
def Flow.inp (x : Flow) (p : Nat) : Bool := (x.fld 0 13 0).testBit p
/-- OUTPORTS as a list. -/
def Flow.outs (x : Flow) : List Nat := maskList 14 (x.fld 1 13 0)
/-- The destination MAC and VID of an ETH_L2 flow. -/
def Flow.l2 (x : Flow) : Nat × Nat := (x.fld 2 31 0 * 65536 + x.fld 3 31 16, x.fld 3 11 0)

/-- The flows in use, rising. -/
def State.flowList (s : State) : List (Nat × Flow) := s.flows.filterMap (fun p => p.2.map (fun x => (p.1, x)))

/-- The first flow that `p` picks. -/
def State.findFlow (s : State) (p : Flow → Bool) : Option (Nat × Flow) := s.flowList.find? (fun q => p q.2)

/-- A match of a flow: counted and timed. -/
def State.hit (s : State) (n : Nat) : State :=
  match s.flow n with
  | some x => (s.setFlow n (some { x with hitAt := s.now })).inc (flowCnt_hits n)
  | none => s

/-- The key of a flow: kind and match words (R307). -/
def Flow.key (x : Flow) : List Nat :=
  if x.kind = 2 then [2, x.fld 4 31 0, x.fld 5 31 0, x.fld 8 31 27] else [x.kind, x.fld 2 31 0, x.fld 3 31 0]

/-- A flow context freed: its counters and its claim end. -/
def State.freeFlow (s : State) (n : Nat) : State :=
  ((s.setFlow n none).setOwner 5 n none).wr (flowCnt_hits n).addr 0

/-- The lowest free context. -/
def State.freeCtx (s : State) : Option Nat := (List.range 512).find? (fun n => (s.flow n).isNone)

/-- A table with a context left free: the next refusal is reported again (R310). -/
def State.leftFree (s : State) : State := if s.freeCtx.isSome then { s with fullTold := false } else s

/-- The unpinned flow that has matched nothing for the longest time, if that is at least IDLE_MIN s (R310). -/
def State.victim (s : State) : Option (Nat × Flow) :=
  let l := s.flowList.filter (fun p => p.2.fld 0 27 27 == 0 && decide (p.2.hitAt + sec (s.get netCtl_idleMin) ≤ s.now))
  l.foldl (fun best p => match best with
    | none => some p
    | some b => if p.2.hitAt < b.2.hitAt then some p else some b) none

/-- A context for a flow that must be placed, after an eviction where one is allowed; none where the table stays
full, which is counted, and reported once (R310). -/
def State.placeCtx (s : State) : Option Nat × State :=
  match s.freeCtx with
  | some n => (some n, s)
  | none =>
    match if s.flag netCtl_evict then s.victim else none with
    | some (n, x) =>
      let t := s.freeFlow n
      (some n, if x.learned then t else (t.post (s.ownerList 5 n) 18 0x01 n 0 0).recheckAll)
    | none =>
      let t := s.inc netFlowstat_refused
      (none, if s.fullTold then t else { t.post [0] 18 0x02 0 0 0 with fullTold := true })

/-- The record of a learned flow: a destination and VID out by one port (R309). -/
def learnedRec (mac vid port : Nat) : List Word :=
  [word 0x7F, word (2 ^ port), word (mac / 65536), word (mac % 65536 * 65536 + vid)] ++ List.replicate 12 0

/-- The installed or learned ETH_L2 flow of a MAC and VID. -/
def State.l2Flow (s : State) (mac vid : Nat) : Option (Nat × Flow) := s.findFlow (fun x => x.kind == 0 && x.l2 == (mac, vid))

/-- The slow path learns where a source is (R309): a new learned flow, or a learned one moved. -/
def State.learn (s : State) (mac vid port : Nat) : State :=
  if ¬ s.flag netCtl_learn then s
  else match s.l2Flow mac vid with
    | some (n, x) => if x.learned then s.setFlow n (some { x with rec_ := learnedRec mac vid port }) else s
    | none =>
      match s.placeCtx with
      | (some n, t) => t.setFlow n (some { rec_ := learnedRec mac vid port, learned := true, hitAt := s.now })
      | (none, t) => t

/-! ### CAN to ACF (R311, R312) -/

/-- The MDI port that follows the grandmaster: AS_SLAVE is set on it, and gPTP runs there. -/
def State.asSlave (s : State) : Option Nat := [0, 1].find? (fun p => bits (s.portWord p 3) 31 30 == 3)

/-- The device is grandmaster: gPTP on a port, AS_SLAVE clear on every port (R306). -/
def State.grandmaster (s : State) : Bool :=
  [0, 1].any (fun p => bitOf (s.portWord p 3) 31) && [0, 1].all (fun p => !bitOf (s.portWord p 3) 30)

/-- AS_OFFSET in ns: the configuration's epoch for a grandmaster (R306). -/
def State.asOffset (s : State) : Nat :=
  if s.grandmaster then Config.asEpoch.toNat else s.get netAsoffhi_offset * 2 ^ 32 + s.get netAsofflo_offset

/-- AS_RATE in 0.001 ppm: 0 for a grandmaster (R306). -/
def State.asRate (s : State) : Nat := if s.grandmaster then 0 else s.get netAsstat_rate

/-- gPTP time of a device time: AS_OFFSET + device time × (1 + AS_RATE), ns (R306). -/
def State.gptp (s : State) (tm : Nat) : Int :=
  let ns : Int := ((tm * 10 : Nat) : Int)
  signed 64 s.asOffset + ns + rdiv (ns * signed 24 s.asRate) 1000000000

/-- A Sync and its Follow_Up sent on a port where gPTP runs, if its link is up, and counted (R306, R318). -/
def State.sendSync (s : State) (p : Nat) : State :=
  if bitOf (s.portWord p 3) 31 && s.netUp p then
    ((s.emit (.sync p (s.gptp s.devTime))).stat p 3 1).modNet p (fun n => { n with syncAt := s.now })
  else s

/-- The Sync interval of a port in ticks (R302). -/
def State.syncTicks (s : State) (p : Nat) : Nat := sec 1 / 2 ^ ((256 - bits (s.portWord p 3) 23 16) % 256)

/-- A grandmaster sends a Sync on each port of gPTP every Sync interval (R306). -/
def State.syncTick (s : State) : State :=
  if s.grandmaster && s.domOn Dm.eth then
    forEach [0, 1] (fun p t => if (t.net p).syncAt + t.syncTicks p ≤ t.now then t.sendSync p else t) s
  else s

/-- Node 0 of a T1S port under PLCA sends the BEACON of each cycle: 20 bit times, then TO_TIMER bit times for each of NODE_COUNT nodes; a
frame sent in the cycle does not lengthen it here (R303; IEEE 802.3cg, PRESUMED; log 105). -/
def State.beaconTick (s : State) : State :=
  if s.domOn Dm.t1s then
    forEach [2, 3] (fun p t =>
      let w := t.portWord p 0
      let cycle := (20 + bits w 7 0 * bits (t.portWord p 3) 23 16) * 10
      if t.netUp p && bitOf w 27 && bits w 15 8 == 0 && decide ((t.net p).beaconAt + cycle ≤ t.now) then
        (t.emit (.beacon p)).modNet p (fun n => { n with beaconAt := t.now })
      else t) s
  else s

/-- An ACF_CAN message of a frame: 16 header bytes and the payload padded to a quadlet (IEEE 1722, log 21). -/
def State.acfMsg (s : State) (x : Flow) (f : CanFrame) (tm : Nat) : List Byte :=
  let pad := (4 - f.data.length % 4) % 4
  let quads := 4 + (f.data.length + pad) / 4
  let mtv := s.flag netAsstat_synced
  let ts := if mtv then unsigned 64 (s.gptp tm) else 0
  beBytes 2 (0x01 * 512 + quads) ++
    [BitVec.ofNat 8 (pad * 64 + b2n mtv * 32 + b2n f.rtr * 16 + b2n f.ext * 8 + b2n f.brs * 4 + b2n (f.fmt == 1) * 2 + b2n f.esi),
     BitVec.ofNat 8 (x.fld 8 31 27)] ++
    beBytes 8 ts ++ beBytes 4 (f.ident % 0x20000000) ++ f.data ++ List.replicate pad 0

/-- An NTSCF AVTPDU of messages. -/
def ntscf (seq stream : Nat) (msgs : List (List Byte)) : List Byte :=
  let body := msgs.flatten
  [0x82, BitVec.ofNat 8 (0x80 + body.length / 256 % 8), BitVec.ofNat 8 body.length, BitVec.ofNat 8 seq] ++ beBytes 8 stream ++ body

/-- The device's MAC address and IPv4 address. -/
def State.ownMac (s : State) : Nat := s.get netMachi_value * 65536 + s.get netMaclo_value / 65536
/-- The device's IPv4 address; 0 for none. -/
def State.ownIp (s : State) : Nat := s.get netIpv4_value

/-- SYS takes a frame if it is running and has not handled 20,000 in the running second (R309; log 22). -/
def State.slowTake (s : State) : State × Bool :=
  let second := s.now / 100000000
  let cnt := if s.slowWin.1 = second then s.slowWin.2 else 0
  if s.sysUp = true ∧ s.domOn Dm.sys = true ∧ s.serving = true ∧ cnt < 20000 then
    ({ s with slowWin := (second, cnt + 1) }.inc netSlow_handled, true)
  else (s.inc netSlow_dropped, false)

/-- A flow's open AVTPDU sent through each of its ports (R312). -/
def State.sendAvtp (s : State) (n : Nat) : State :=
  match s.flow n with
  | none => s
  | some x =>
    if x.open_ = [] then s
    else
      let t := s.setFlow n (some { x with seq := (x.seq + 1) % 256, open_ := [] })
      let f : EthFrame := {
        dst := x.fld 6 31 0 * 65536 + x.fld 7 31 16, src := s.ownMac, etype := 0x22F0,
        payload := padMin (ntscf x.seq (x.fld 4 31 0 * 2 ^ 32 + x.fld 5 31 0) x.open_) }
      let t := t.forward 6 (x.fld 7 11 0) (x.fld 0 25 23) f x.outs
      -- the copy through port 6 is no frame that SYS answers or delivers: discarded and counted (R300)
      if decide (6 ∈ x.outs) && s.vlanMember (x.fld 7 11 0) 6 then
        let (u, ok) := t.slowTake
        if ok then u.inc netSlow_dropped else u
      else t
where
  /-- A payload padded to the least frame. -/
  padMin (b : List Byte) : List Byte := b ++ List.replicate (46 - b.length) 0

/-- A CAN frame taken into a CAN_TO_ACF flow (R311, R312). -/
def State.acfAppend (s : State) (n : Nat) (x : Flow) (f : CanFrame) (tm : Nat) : State :=
  if f.fmt = 2 then s.inc (flowCnt_drop n)
  else
    let m := s.acfMsg x f tm
    let size := 12 + (x.open_.map List.length).sum
    let t := if x.open_ ≠ [] ∧ 1500 < size + m.length then s.sendAvtp n else s
    match t.flow n with
    | none => t
    | some y =>
      let t := t.setFlow n (some { y with open_ := y.open_ ++ [m], openAt := if y.open_ = [] then s.now else y.openAt })
      if y.fld 8 26 22 ≤ y.open_.length + 1 ∨ y.fld 8 15 0 = 0 then t.sendAvtp n else t

/-- A gateway frame queued on a CAN port, or dropped and counted (R313). -/
def State.flowTx (s : State) (n port q : Nat) (f : CanFrame) : State :=
  match s.ownTx port q f (.flow n) with
  | (t, true) => t
  | (t, false) => t.inc (flowCnt_drop n)

/-- A CAN frame offered to the flow table: the lowest-numbered matching flow acts on it (R308, R311, R313). -/
def State.canFlows (s : State) (port : Nat) (f : CanFrame) (tm : Nat) : State × Bool :=
  if ¬ s.domOn Dm.net then (s, false)
  else match s.findFlow (fun x => (x.kind == 1 || x.kind == 3) && x.inp (8 + port) && frameMatches f (x.fld 2 31 0) (x.fld 3 31 0)) with
    | none => (s, false)
    | some (n, x) =>
      let t := s.hit n
      match t.flow n with
      | none => (t, true)
      | some y =>
        if x.kind = 1 then (t.acfAppend n y f tm, true)
        else ((y.outs.filter (fun o => decide (8 ≤ o) && o != 8 + port)).foldl (fun (u : State) o => u.flowTx n (o - 8) (y.fld 8 21 21) f) t, true)

/-! ### ACF to CAN (R308, R313) -/

/-- The CAN frame of an ACF_CAN (type 1) or ACF_CAN_BRIEF (type 2) message, with its BUS_ID (log 21). -/
def acfFrame (m : List Byte) : Option (Nat × CanFrame) :=
  let ty := (pB m 0).toNat / 2
  let hd := if ty = 1 then 16 else 8
  if (ty ≠ 1 ∧ ty ≠ 2) ∨ m.length < hd then none
  else
    let fl := (pB m 2).toNat
    let idw := pN m (hd - 4) 4
    let data := (m.drop hd).take (m.length - hd - fl / 64)
    some ((pB m 3).toNat % 32, {
      ident := idw % 0x20000000, ext := bitOf fl 3, fmt := if bitOf fl 1 then 1 else 0, rtr := bitOf fl 4, brs := bitOf fl 2,
      esi := bitOf fl 0, data := data })

/-- The messages of an AVTPDU's payload; `k` bounds their number. -/
def acfSplit : Nat → List Byte → List (List Byte)
  | 0, _ => []
  | k + 1, b =>
    let len := 4 * (pN b 0 2 % 512)
    if b.length < 4 ∨ len < 4 ∨ b.length < len then [] else b.take len :: acfSplit k (b.drop len)

/-- Stream ID, sequence number (for NTSCF) and messages of an AVTPDU. -/
def avtpParse (b : List Byte) : Option (Nat × Option Nat × List (List Byte)) :=
  if pB b 0 = 0x82 then some (pN b 4 8, some (pB b 3).toNat, acfSplit 375 ((b.drop 12).take (pN b 1 2 % 2048)))
  else if pB b 0 = 0x05 then some (pN b 4 8, none, acfSplit 375 ((b.drop 24).take (pN b 20 2)))
  else none

/-- The sequence number of an NTSCF AVTPDU of a flow's stream noted; one that does not follow the last is a gap (R313). -/
def State.seqIn (s : State) (n : Nat) (x : Flow) (seq : Option Nat) : State :=
  let t := match seq, x.inSeq with
    | some q, some e => if q = e then s else s.inc (flowCnt_gap n)
    | _, _ => s
  match t.flow n with
  | some y => t.setFlow n (some { y with inSeq := seq.map (fun q => (q + 1) % 256) })
  | none => t

/-- A message of an AVTPDU queued on the flow's CAN port, or dropped and counted; one of a length that no frame has spells none and is
passed over (R313; log 119). -/
def State.acfTx (s : State) (n : Nat) (x : Flow) (f : CanFrame) : State :=
  (x.outs.filter (fun o => decide (8 ≤ o))).foldl (fun (t : State) o =>
    if fdLen f.data.length = true ∧ (f.fmt = 1 ∨ f.data.length ≤ 8) then t.flowTx n (o - 8) (x.fld 8 21 21) f
    else t) s

/-- An AVTPDU for the device: each matching flow queues its bus's messages; a sequence gap of the stream is counted (R308, R313). -/
def State.avtpIn (s : State) (ingress : Nat) (b : List Byte) : State × Bool :=
  match avtpParse b with
  | none => (s, false)
  | some (stream, seq, msgs) =>
    let fr := msgs.filterMap acfFrame
    let onBus := fun (x : Flow) => fr.filter (fun m => m.1 == x.fld 8 31 27)
    let mine := s.flowList.filter (fun p => p.2.kind == 2 && p.2.inp ingress && p.2.fld 4 31 0 * 2 ^ 32 + p.2.fld 5 31 0 == stream)
    let t := mine.foldl (fun (t : State) p =>
      let t := t.seqIn p.1 p.2 seq
      if onBus p.2 = [] then t
      else (onBus p.2).foldl (fun (u : State) m => u.acfTx p.1 p.2 m.2) (t.hit p.1)) s
    (t, mine.any (fun p => onBus p.2 != []))

/-! ### Frames for the device (R300, R309) -/

/-- The ones' complement sum of 16-bit words, folded (IPv4). -/
def sum16 : List Byte → Nat
  | a :: b :: l => let n := a.toNat * 256 + b.toNat + sum16 l; n % 65536 + n / 65536
  | [a] => a.toNat * 256
  | [] => 0

/-- The IPv4 checksum of bytes. -/
def cksum (b : List Byte) : Nat := 65535 - sum16 b % 65536

/-- An answer of SYS's own to a frame's sender, on the VLAN it came by. -/
def State.answer (s : State) (vid pcp : Nat) (p : Nat) (f : EthFrame) : State := s.forward 6 vid pcp f [p]

/-- The context of a UDP datagram: bound to the port it came by, its UDP port and its peer (spec/05, R97). -/
def State.udpHc (s : State) (p dport ip : Nat) : Option Nat :=
  (List.range 8).find? (fun n => n != 0 && s.transport n == 3 && s.get (hcBind_port n) == p &&
    bits (s.rd (hcAddr1_addr n).addr).toNat 15 0 == dport &&
    ((s.rd (hcAddr2_addr n).addr).toNat == 0 || (s.rd (hcAddr2_addr n).addr).toNat == ip))

/-- A frame for port 6: ARP requests and ICMP echo requests are answered, UDP of a bound flow goes to its
context, everything else is discarded and counted (R300; spec/04, R92). -/
def State.localIn (s : State) (p vid pcp : Nat) (f : EthFrame) : State :=
  let (s, ok) := s.slowTake
  if ok = false then s
  else
    let b := f.payload
    let ip := s.ownIp
    if f.etype = 0x0806 then
      if pN b 6 2 = 1 ∧ pN b 24 4 = ip ∧ ip ≠ 0 then
        s.answer vid pcp p {
          dst := f.src, src := s.ownMac, etype := 0x0806,
          payload := beBytes 8 0x0001080006040002 ++ beBytes 6 s.ownMac ++ beBytes 4 ip ++ (b.drop 8).take 10 ++ List.replicate 18 0 }
      else s.inc netSlow_dropped
    else
      let hl := 4 * ((pB b 0).toNat % 16)
      let total := pN b 2 2
      let whole := pN b 6 2 % 0x4000 == 0
      let l4 := (b.take total).drop hl
      if f.etype ≠ 0x0800 ∨ (pB b 0).toNat / 16 ≠ 4 ∨ hl < 20 ∨ b.length < total ∨ total < hl ∨ whole = false ∨ pN b 16 4 ≠ ip ∨ ip = 0 ∨
          sum16 (b.take hl) ≠ 65535 then s.inc netSlow_dropped
      else if pB b 9 = 1 ∧ pB l4 0 = 8 then
        let icmp := [0, 0, 0, 0] ++ l4.drop 4
        let icmp := [0, 0] ++ beBytes 2 (cksum icmp) ++ l4.drop 4
        let hd := b.take 10 ++ [0, 0] ++ beBytes 4 ip ++ (b.drop 12).take 4 ++ (b.drop 20).take (hl - 20)
        let hd := hd.take 10 ++ beBytes 2 (cksum hd) ++ hd.drop 12
        s.answer vid pcp p { dst := f.src, src := s.ownMac, etype := 0x0800, payload := padTo46 (hd ++ icmp) }
      else if pB b 9 = 17 then
        match s.udpHc p (pN l4 2 2) (pN b 12 4) with
        | none => s.inc netSlow_dropped
        | some n =>
          let msg := (l4.take (pN l4 4 2)).drop 8
          let m := (msg.drop 4).take (pN msg 2 2)
          if 3 < (pB msg 0).toNat ∨ pB msg 1 ≠ 0 ∨ msg.length < 4 + pN msg 2 2 then s.inc netSlow_dropped
          else
            let m := if s.isAuth n then
                { s.splitMsg n (pB msg 0).toNat m (pW b 12) (pH l4 0) with
                  bytes := m.take (m.length - 12), counter := pW m (m.length - 12), mac := pD m (m.length - 8) }
              else s.splitMsg n (pB msg 0).toNat m (pW b 12) (pH l4 0)
            s.recvMsg n m
      else s.inc netSlow_dropped
where
  /-- A payload padded to the least frame. -/
  padTo46 (b : List Byte) : List Byte := b ++ List.replicate (46 - b.length) 0

/-! ### Ingress (R299, R304, R305, R308, R309) -/

/-- SYS's handling of a frame with no flow: learn, then forward to the learned port of its destination, or flood; what SYS has
learned of a port is a learned flow, so none is left to install for the destination (R309). -/
def State.slowWork (s : State) (p vid pcp : Nat) (f : EthFrame) : State :=
  let (t, ok) := s.slowTake
  if ok = false then t
  else
    let t := t.learn f.src vid p
    let unicast := f.dst / 2 ^ 40 % 2 == 0
    match if unicast then t.findFlow (fun x => x.learned && x.l2 == (f.dst, vid)) else none with
    | some (_, x) => t.forward p vid pcp f (x.outs.filter (fun o => o != p && !(decide (4 ≤ p) && decide (4 ≤ o))))
    | none => t.forward p vid pcp f ((List.range 6).filter (fun o => o != p && !(decide (4 ≤ p) && decide (4 ≤ o))))

/-- A frame with no flow waits for SYS, which takes frames for port 6 first (R309; log 22). -/
def State.slowPath (s : State) (p vid pcp : Nat) (f : EthFrame) : State := { s with slowQ := s.slowQ ++ [(p, vid, pcp, f)] }

/-- SYS handles the frames that wait, after those for port 6 that came before (R309; log 22). -/
def State.slowTick (s : State) : State :=
  if s.slowQ = [] then s else s.slowQ.foldl (fun (t : State) x => t.slowWork x.1 x.2.1 x.2.2.1 x.2.2.2) { s with slowQ := [] }

/-- A frame that port 6 receives: to the own MAC address, or an ARP request for the own IPv4 address (R300). -/
def State.forLocal (s : State) (f : EthFrame) : Bool :=
  f.dst == s.ownMac || (f.dst == 2 ^ 48 - 1 && f.etype == 0x0806 && pN f.payload 6 2 == 1 && pN f.payload 24 4 == s.ownIp && s.ownIp != 0)

/-- A frame received on a network port, looked up once at the end of its reception. -/
def State.ethIn (s : State) (p : Nat) (f : EthFrame) : State :=
  let len := EthLen f
  if s.netUp p = false then s
  else if f.good = false then s.stat p 1 0
  else if len < 64 ∨ 1522 < len then s.stat p 1 1
  else if f.vlan.isSome = true ∧ f.etype = 0x8100 then s.stat p 1 2
  else
    let s := (s.stat p 0 0).stat p 0 2 len
    let cells := ceilDiv len 256
    let used := Sparse.get (fun _ => 0) s.portCells (12 + p)
    if s.portQuota p < used + cells ∨ s.poolHas false cells = false then s.quotaDrop p
    else match s.vlanIn p f with
      | none => s.stat p 1 2
      | some (vid, pcp) =>
        let toLocal := s.vlanMember vid 6
        let (s, taken) := if f.dst == s.ownMac && f.etype == 0x22F0 then s.avtpIn p f.payload else (s, false)
        if taken then s
        else match s.findFlow (fun x => x.kind == 0 && x.l2 == (f.dst, vid) && x.inp p) with
          | some (n, x) =>
            let pcp' := if x.fld 0 26 26 = 1 then x.fld 0 25 23 else pcp
            let outs := x.outs.filter (fun o => o != p && !(x.learned && decide (4 ≤ p) && decide (4 ≤ o)))
            let t := (s.hit n).forward p vid pcp' f outs
            if (s.forLocal f || decide (6 ∈ outs)) && toLocal then t.localIn p vid pcp' f else t
          | none =>
            if s.forLocal f then (if toLocal then s.localIn p vid pcp f else s.stat p 1 2)
            else s.slowPath p vid pcp f

end Sys2Proof.Machine
end

