-- ==== Sys2Proof/Machine/Can.lean ====
section
/-! DEFINITION. The meanings of the CAN commands and events (spec/13): configuration, states, sending, filters,
receive queues, errors, collisions and the time master. -/

namespace Sys2Proof.Machine

/-! ### Commands -/

/-- CAN_CONFIG: the record is checked as a whole and applies at once; the error counters go to 0 (R278 to R280). -/
def execCanConfig (h : Hdr) (port : Byte) (record : List Word) (s : State) : Host.Outcome State Fault Refusal :=
  act (fun s => s.runI h (.canConfig h port record) (fun t =>
    let n := port.toNat
    if 5 < n ∨ record.length ≠ 8 ∨ onlyFields canFields record = false ∨ canRecOk record = false then .no t St.badParam
    else if ¬ t.owns h.hc.val 3 n then .no t St.notOwner
    else if t.get (canState_state n) = 0 then .no t St.badState
    else
      let u := forEach (List.range 8) (fun k v => v.wr (canCfg_word n k).addr (record.getD k 0)) t
      { s := u.canErr n 0 0 (if u.get (canState_errstate n) = 2 then 2 else 0) })) s

/-- A port is in a state (R277, R282). -/
def State.canEnter (s : State) (n st : Nat) : State :=
  let u := s.put (canState_state n) st
  if st ≠ 0 then u
  else
    let v := if s.get (canState_state n) = 0 then u else u.modPort n (fun p => { p with nmSt := 0, nmAt := u.now, nmSentReady := false })
    if v.get (canState_errstate n) = 2 ∧ v.canf n 0 27 27 = 0 ∧ (v.port n).recovering = false then
      v.modPort n (fun p => { p with recovering := true, boAt := v.now })
    else v

/-- A port goes to a state at once (R277, R282; spec/05, R114, R116). -/
def State.canGoTo (s : State) (n st : Nat) : State := if st ≠ 0 then (s.disableTx n).canEnter n st else s.canEnter n st

/-- What a CAN_STATE that waited for the end of a frame does then: what was queued meanwhile has not started, and ends too. -/
def State.canStopped (s : State) (n : Nat) : State :=
  match (s.port n).stop with
  | some (st, j) =>
    let t := ((s.modPort n (fun p => { p with stop := none })).stopTx n).canEnter n st
    match j with
    | some id => t.endJob id St.ok (t.canSt n)
    | none => t
  | none => s

/-- CAN_STATE: the port goes to a state; the states that stop transmission disable its transmit queues and commit at the end of a
frame in transmission; NORMAL starts the recovery of a port in bus-off without AUTORECOV (R277, R282; spec/05, R114, R116). -/
def execCanState (h : Hdr) (port state : Byte) (s : State) : Host.Outcome State Fault Refusal :=
  let i := Instr.canState h port state
  act (fun s => s.dispatch h i (fun t =>
    let n := port.toNat
    if 5 < n ∨ 3 < state.toNat then t.complete h (opcOf i) St.badParam 0
    else if ¬ t.owns h.hc.val 3 n then t.complete h (opcOf i) St.notOwner 0
    else
      let u := if state ≠ 0 then t.disableTx n else t
      if state ≠ 0 ∧ (u.port n).onAir.isSome = true then
        let (j, v) := u.addJob h i
        v.modPort n (fun p => { p with stop := some (state.toNat, some j) })
      else
        let v := t.canGoTo n state.toNat
        v.complete h (opcOf i) St.ok (v.canSt n))) s

/-- The frame that CAN_TX's parameters spell: words 0 and 1, the acceptance field of an XL frame, and the data. -/
def txFrame (b : List Byte) : CanFrame :=
  let w0 := pN b 0 4
  let w1 := pN b 4 4
  let fmt := bits w0 30 29
  { ident := if fmt = 2 then bits w0 10 0 else if bitOf w0 31 then bits w0 28 0 else bits w0 10 0,
    ext := bitOf w0 31 && fmt != 2, fmt := fmt, rtr := fmt == 0 && bitOf w1 17, brs := fmt == 1 && bitOf w1 19,
    sdt := if fmt = 2 then BitVec.ofNat 8 (bits w1 15 8) else 0, vcid := if fmt = 2 then BitVec.ofNat 8 w1 else 0,
    sec := fmt == 2 && bitOf w1 16, af := if fmt = 2 then pW b 8 else 0, data := b.drop (if fmt = 2 then 12 else 8) }

/-- The parameter checks of CAN_TX (R290). -/
def txOk (b : List Byte) : Bool :=
  let fmt := bits (pN b 0 4) 30 29
  let len := bits (pN b 4 4) 31 20
  decide (b.length = 8 + len + (if fmt = 2 then 4 else 0)) && fmt != 3 &&
    (if fmt = 0 then decide (len ≤ 8) && (!bitOf (pN b 4 4) 17 || len == 0)
     else if fmt = 1 then fdLen len else within 1 2040 len)

/-- CAN_TX: the frame enters its transmit queue; the command completes at its end (R290, R291). -/
def execCanTx (h : Hdr) (port txq : Byte) (frame : List Byte) (s : State) : Host.Outcome State Fault Refusal :=
  let i := Instr.canTx h port txq frame
  act (fun s => s.dispatch h i (fun t =>
    let n := port.toNat
    if 5 < n ∨ 1 < txq.toNat ∨ txOk frame = false then t.complete h (opcOf i) St.badParam 0
    else if ¬ t.owns h.hc.val 3 n then t.complete h (opcOf i) St.notOwner 0
    else if t.canAllows n (txFrame frame).fmt = false ∨ t.canSt n ≠ 0 then t.complete h (opcOf i) St.badState 0
    else
      let (j, u) := t.addJob h i
      u.enqTx n txq.toNat (txFrame frame) (.cmd j))) s

/-- The state with filter pair `k` written. -/
def State.setPair (s : State) (k : Nat) (p : Pair) : State := { s with pairs := Sparse.set (fun _ => {}) s.pairs k p }

/-- CAN_FILTER: a filter pair is claimed and written, or freed (R284; spec/05, R102, R109). -/
def execCanFilter (h : Hdr) (pair : Half) (port queue : Byte) (mask pattern : Word) (s : State) : Host.Outcome State Fault Refusal :=
  act (fun s => s.runI h (.canFilter h pair port queue mask pattern) (fun t =>
    let k := pair.toNat
    let hc := h.hc.val
    if 1023 < k ∨ 5 < port.toNat ∨ (1 < queue.toNat ∧ queue ≠ 0xFF) then .no t St.badParam
    else match t.owner 4 k with
      | some o =>
        if o ≠ hc then .no t St.notOwner
        else if queue = 0xFF then
          { s := ((t.setPair k {}).setOwner 4 k none).recheckQuota none hc }
        else { s := t.setPair k ⟨port.toNat, queue.toNat, mask, pattern⟩ }
      | none =>
        if queue = 0xFF then { s := t }
        else if t.quota hc 6 < t.countClaimed hc 4 + 1 ∨ t.flag (hcState_overQuota hc) = true then .no t St.overQuota
        else { s := (t.setPair k ⟨port.toNat, queue.toNat, mask, pattern⟩).setOwner 4 k (some hc) })) s

/-- The first entry that `p` picks, marked pulled. -/
def pullFirst (p : RxEntry → Bool) : List RxEntry → List RxEntry
  | [] => []
  | e :: l => if p e then { e with pulled := true } :: l else e :: pullFirst p l

/-- The first frame of a receive queue that the context owns and has not pulled, `e`, is pulled and stands in the context's
register window (R286). -/
def State.pullRx (s : State) (n q hc : Nat) (e : RxEntry) : State :=
  let l := pullFirst (fun x => x.owner == hc && !x.pulled) (s.rxq n q)
  s.modPort n (fun p =>
    if q = 0 then { p with rxA := l, win := Sparse.set (fun _ => []) p.win hc e.words }
    else { p with rxB := l, win := Sparse.set (fun _ => []) p.win hc e.words })

/-- CAN_RX_PULL: the oldest entry of the context after its cursor; the cursor moves past it (R286). -/
def execCanRxPull (h : Hdr) (port queue : Byte) (s : State) : Host.Outcome State Fault Refusal :=
  act (fun s => s.runI h (.canRxPull h port queue) (fun t =>
    let n := port.toNat
    let q := queue.toNat
    let hc := h.hc.val
    if 5 < n ∨ 1 < q then .no t St.badParam
    else
      let after := (t.rxq n q).filter (fun e => e.owner == hc && !e.pulled)
      match after with
      | [] => { s := t }
      | e :: rest =>
        let ws := e.words.take 60
        { s := t.pullRx n q hc e, result := 0x8000000 + b2n e.drop * 0x4000000 + e.pair % 1024 * 0x10000 + satTo 65535 rest.length,
          cont := ws ++ List.replicate ((4 - ws.length % 4) % 4) 0 })) s

/-- The first `k` pulled entries of a context released: what stays, and how many went. -/
def ackFirst (hc : Nat) : Nat → List RxEntry → List RxEntry × Nat
  | _, [] => ([], 0)
  | 0, l => (l, 0)
  | k + 1, e :: l =>
    if e.owner == hc && e.pulled then
      let (r, m) := ackFirst hc k l
      (r, m + 1)
    else
      let (r, m) := ackFirst hc (k + 1) l
      (e :: r, m)

/-- CAN_RX_ACK: the oldest entries before the cursor released, or the cursor moved back (R286). -/
def execCanRxAck (h : Hdr) (port queue : Byte) (count : Half) (s : State) : Host.Outcome State Fault Refusal :=
  act (fun s => s.runI h (.canRxAck h port queue count) (fun t =>
    let n := port.toNat
    let q := queue.toNat
    let hc := h.hc.val
    if 5 < n ∨ 1 < q then .no t St.badParam
    else if count = 0 then
      { s := t.setRxq n q ((t.rxq n q).map (fun e => if e.owner == hc then { e with pulled := false } else e)) }
    else
      let (l, m) := ackFirst hc count.toNat (t.rxq n q)
      { s := t.setRxq n q l, result := m })) s

/-! ### Receiving (R283) -/

/-- A field of a port's NM record (spec/15, R338). -/
def State.nmf (s : State) (n k hi lo : Nat) : Nat := bits (s.rd (pwrNm_word n k).addr).toNat hi lo

/-- A frame that the wake filter in force of a port matches (spec/15, R341). -/
def State.wakeMatches (s : State) (n : Nat) (f : CanFrame) : Bool :=
  let w (k hi lo : Nat) := bits (s.rd (pwrWakecfg_word (0x10 + n) k).addr).toNat hi lo
  f.fmt == 0 && frameMatches f (w 1 31 0) (w 2 31 0) &&
    (!s.flag (pwrFw_tight n) ||
      (decide (w 3 31 29 < f.data.length) && (((pB f.data (w 3 31 29)).toNat ^^^ w 3 15 8) &&& w 3 23 16) == 0))

/-- The NM reader's own copy of a received frame: a message that is not ready is noted, and ends wait-bus-sleep
(spec/15, R338 to R340). -/
def State.nmRead (s : State) (n : Nat) (f : CanFrame) : State :=
  if s.nmf n 0 31 31 = 1 ∧ f.fmt = 0 ∧ frameMatches f (s.nmf n 1 31 0) (s.nmf n 2 31 0) = true then
    let b := s.nmf n 3 9 7
    let ready := decide (b < f.data.length) && bitOf (pB f.data b).toNat (s.nmf n 3 6 4)
    if ready then s
    else s.modPort n (fun p =>
      if p.nmSt = 3 then { p with nmNotReady := s.now, nmSt := 0, nmAt := s.now, nmSentReady := false }
      else { p with nmNotReady := s.now })
  else s

/-- A frame is a SYNC on the port's TM_ID (R296). -/
def State.isSync (s : State) (n : Nat) (f : CanFrame) : Bool :=
  f.fmt == 0 && !f.rtr && f.data.length == 8 && f.ext == (s.canf n 4 31 31 == 1) && f.ident == s.canf n 4 28 0 &&
    (pB f.data 0).toNat / 16 == 2

/-- The context whose command flow a frame belongs to (R283, use 1). -/
def State.flowOf (s : State) (n : Nat) (f : CanFrame) : Option Nat :=
  (List.range 8).find? (fun k => k != 0 && s.transport k == 2 && s.get (hcBind_port k) == n && s.get (hcAddr1_addr k) == frameWord0 f)

/-- An axis is fed by this frame (R283, use 2; spec/09, R201). -/
def State.axTakes (s : State) (n : Nat) (f : CanFrame) : Bool :=
  s.domOn Dm.crk && (List.range 8).any (fun k => (s.axSource k == 4 || s.axSource k == 5) && s.axf k 0 23 16 == n &&
    s.axf k 6 31 31 == b2n (f.ext && f.fmt != 2) && s.axf k 6 28 0 == f.ident)

/-- The receive error counter after a frame received well (ISO 11898-1: above 127 it falls to a value from 119 to
127, which is left open). -/
def State.recGood (s : State) (n : Nat) : State :=
  let r := s.get (canState_rec n)
  let t := s.get (canState_tec n)
  if s.canSt n ≠ 0 then s
  else if 127 < r then
    let (x, u) := s.drawNat
    u.canErr n t (119 + x % 9) (errOf t 119)
  else s.canErr n t (r - 1) (errOf t (r - 1))

/-- An error in a frame that the port receives: counted; in NORMAL the receive error counter rises by 1, and by 8 for each of the `more`
further counts of ISO 11898-1 (R282; log 68, log 118). -/
def State.canRxError (s : State) (n more : Nat) : State :=
  if s.canHears n = false then s
  else
    let t := s.inc (canErrcnt_errframes n)
    let r := t.get (canState_rec n) + 1 + 8 * more
    if t.canSt n ≠ 0 then t else t.canErr n (t.get (canState_tec n)) r (errOf (t.get (canState_tec n)) r)

/-- A frame of a format that the port's MODE allows, offered at the end of its EOF to the NM reader, then to the uses of R283
in order. -/
def State.canFrameIn (s : State) (n : Nat) (f : CanFrame) (age : Nat) : State :=
  let tm := s.sofTime age
  let s := (s.setSof n tm).recGood n
  let s := if (s.port n).fwAt.isSome = true ∧ s.canSt n = 0 ∧ s.wakeMatches n f = false then
      s.modPort n (fun p => { p with fwGood := true }) else s
  let s := s.nmRead n f
  let s := if s.isSync n f then s.modPort n (fun p => { p with tmHeard := some s.now }) else s
  match s.flowOf n f with
  | some k => s.segmentIn k f.data
  | none =>
    let hit2 := s.axTakes n f
    let s := s.axCan n (f.ext && f.fmt != 2) f.ident f.data tm
    let (s, hit3) := s.canFlows n f tm
    match s.pairFor n f false with
    | some (k, p) => s.storeRx n k p f tm
    | none => if hit2 || hit3 then s else s.inc (canRxstat_nomatch n)

/-- CAN_FRAME_RECEIVED: a frame received without error, offered at the end of its EOF to the NM reader, then to the
uses of R283 in order. A frame of a format that MODE does not allow is passed over with PEX, else an error (R278, R282). -/
def execCanFrameReceived (port : Fin 6) (f : CanFrame) (age : Nat) (s : State) : Host.Outcome State Fault Refusal :=
  act (fun s =>
    let n := port.val
    if s.canHears n = false then s
    else if s.canAllows n f.fmt = false then
      if s.canf n 0 26 26 = 1 then s else s.canRxError n 0
    else s.canFrameIn n f age) s

/-- ACF_MAX_WAIT: an open AVTPDU goes out when MAX_WAIT has passed since its first frame (spec/14, R312). -/
def execAcfMaxWait (flow : Fin 512) (s : State) : Host.Outcome State Fault Refusal :=
  act (fun s => match s.flow flow.val with
    | some x => if s.domOn Dm.net = true ∧ x.open_ ≠ [] ∧ x.openAt + us (x.fld 8 15 0) ≤ s.now then s.sendAvtp flow.val else s
    | none => s) s

/-! ### Sending (R291 to R295) -/

/-- The port's attempt at a frame is over, and a CAN_STATE that waited for it goes on. -/
def State.attemptOver (s : State) (n : Nat) : State := (s.modPort n (fun p => { p with onAir := none })).canStopped n

/-- The port is sending, or a frame that it was sending is still to end. -/
def State.canEnds (s : State) (n : Nat) : Bool := s.canSends n || (s.domOn (Dm.can n) && (s.port n).onAir.isSome)

/-- The ABORTs that waited for a frame's end answer (spec/04, R88, R89). -/
def State.answerAborts (s : State) (x : TxItem) (st : Byte) : State := x.aborts.foldl (fun (t : State) h => t.complete h 0x02 st 0) s

/-- A frame ends without success (R291, R292, R296); a gateway frame ends with no report (spec/14, R313). -/
def State.txFail (s : State) (n q : Nat) (x : TxItem) (st : Byte) (tm : Nat) : State :=
  let t := s.dropTx n q x.id
  match x.kind with
  | .cmd j =>
    if x.aborts ≠ [] then (t.endJob j St.aborted (txResult (x.fails - 1) x.colls) [] (some (word tm))).answerAborts x St.ok
    else t.endJob j st (txResult (x.fails - 1) x.colls) [] (some (word tm))
  | .spk slot owner => if st = St.flushed then t else t.txfTold n slot owner st
  | .rel f => (t.inc immCnt_txfail).post (0 :: t.ownerList 0x0B 0) 21 0x05 0 st.toNat f
  | .flow _ | .sync _ | .fup _ | .nm _ => t

/-- The frame of a time master: SYNC 2 or FUP 3 with its SEQ and seven bytes (R296). -/
def State.tmFrame (s : State) (n code seq : Nat) (rest : List Byte) : CanFrame :=
  { ident := s.canf n 4 28 0, ext := s.canf n 4 31 31 == 1, data := BitVec.ofNat 8 (code * 16 + seq % 16) :: rest }

/-- The frame that a port offers has been sent (R283, R288, R291). -/
def State.canTxDone (s : State) (n q : Nat) (x : TxItem) (age delay : Nat) : State :=
  let tm := s.sofTime age
  let t := (s.dropTx n q x.id).frameSent n x.frame tm delay
  match x.kind with
  | .cmd j => (t.endJob j St.ok (txResult x.fails x.colls) [] (some (word tm))).answerAborts x St.tooLate
  | .sync seq => (t.ownTx n 0 (t.tmFrame n 3 seq (beBytes 7 tm)) (.fup seq)).1
  | .nm ready => if ready then t.modPort n (fun p => { p with nmSentReady := true }) else t
  | .spk .. | .flow _ | .fup _ | .rel _ => t

/-- Nominal bits and data-phase bits of a frame without stuff bits, SOF to the end of EOF (R294; the FD and XL fields are
those of ISO 11898-1, PRESUMED). -/
def frameBits (f : CanFrame) : Nat × Nat :=
  let n := 8 * f.data.length
  match f.fmt with
  | 0 => ((if f.ext then 64 else 44) + n, 0)
  | 1 => ((if f.ext then 36 else 17) + 10, 5 + n + 4 + (if f.data.length ≤ 16 then 17 else 21))
  | _ => (34, 112 + n)

/-- The time of a frame in ticks at the port's rates (R294). -/
def State.frameTime (s : State) (n : Nat) (f : CanFrame) : Nat :=
  let nom := (s.canf n 1 31 24 + 1) * (3 + s.canf n 1 23 16 + s.canf n 1 15 9)
  let k := if f.fmt = 1 then 2 else 3
  let dat := (s.canf n k 31 27 + 1) * (3 + s.canf n k 26 21 + s.canf n k 20 16)
  let b := frameBits f
  ceilDiv ((b.1 * nom + b.2 * (if f.fmt = 1 ∧ f.brs = false then nom else dat)) * 5) 4

/-- A collision entered into the port's table of 16 identifiers (R295). -/
def State.collide (s : State) (n : Nat) (f : CanFrame) : State :=
  let e (k : Nat) : List Nat × Nat := Sparse.get (fun _ => ([], 0)) (s.port n).colls k
  let id := frameWord0 f
  let found := (List.range 16).find? (fun k => (e k).2 != 0 && s.get (canCollId_id n k) == id)
  let k := match found with
    | some k => k
    | none => (List.range 16).foldl (fun b k => if (e k).2 < (e b).2 then k else b) 0
  let old := if found.isSome then (e k).1.filter (fun t => decide (s.now < t + sec 1)) else []
  let times := s.now :: old
  let t := if found.isSome then s.inc (canCollCnt_total n k) else (s.put (canCollId_id n k) id).put (canCollCnt_total n k) 1
  let hit := decide (s.canf n 0 15 8 ≤ times.length)
  let keep := if hit then [] else times
  let t := (t.put (canCollCnt_window n k) (satTo 255 keep.length)).modPort n (fun p =>
    { p with colls := Sparse.set (fun _ => ([], 0)) p.colls k (keep, s.now + 1) })
  if hit then t.fault (0x48 + n) 0x29 (n + 8 * k) else t

/-- Some frame of the port is held in a back-off. -/
def State.anyHeld (s : State) (n : Nat) : Bool := ((s.port n).q0 ++ (s.port n).q1).any (fun x => x.held.isSome)

/-- How long the bus stays busy after an error: an error flag of 6 to 12 bits, 8 bits of delimiter and 3 of intermission at the nominal
rate (ISO 11898-1, PRESUMED); with error signalling disabled, up to that (R294; log 68). -/
def State.errorBits (s : State) (n : Nat) : Nat × State :=
  let bit := (s.canf n 1 31 24 + 1) * (3 + s.canf n 1 23 16 + s.canf n 1 15 9) * 5 / 4
  let (d, t) := s.drawNat
  if s.canf n 0 31 30 = 3 then (d % (24 * bit + 1), t) else (17 * bit + d % (7 * bit + 1), t)

/-- What an error of a frame of its own adds to a port's transmit error counter: 8, but nothing at first for an ACK error of an error-passive
port that sees no dominant bit in its flag, and for a stuff error in arbitration on a stuff bit seen dominant; and 8 for each of the `more`
further counts (ISO 11898-1; R282; log 118). -/
def State.tecStep (s : State) (n : Nat) (e : CanFault) (more : Nat) : Nat :=
  let spared := e.quiet && ((e.kind == .ack && s.get (canState_errstate n) == 1) || (e.kind == .stuff && e.place == .arbitration))
  (if spared then 0 else 8) + 8 * more

/-- An error of a frame of the port's own is an identifier collision: the frame has completed arbitration and passed the control field up
to the DLC, and its first error is a bit or stuff error in the DLC, the stuff count or the data; with error signalling disabled, any
error in the data phase (R293). -/
def State.collides (s : State) (n : Nat) (e : CanFault) : Bool :=
  if s.canf n 0 31 30 = 3 then e.place == .header || e.place == .dlc || e.place == .stuffCount || e.place == .data || e.place == .crc
  else (e.kind == .bit || e.kind == .stuff) && (e.place == .dlc || e.place == .stuffCount || e.place == .data)

/-- The frame that a port offers loses arbitration (no error) or meets an error (R282, R291 to R295). -/
def State.canTxError (s : State) (n q : Nat) (x : TxItem) (err : Option CanFault) (more age delay : Nat) : State :=
  let tm := s.sofTime age
  let t := s.setSof n tm
  let coll := match err with | some e => s.collides n e | none => false
  let t := match err with
    | none => t
    | some e =>
      let u := (t.inc (canErrcnt_errframes n)).noteTdc n x.frame delay
      let tec := u.get (canState_tec n) + u.tecStep n e more
      u.canErr n tec (u.get (canState_rec n)) (if 255 < tec then 2 else errOf tec (u.get (canState_rec n)))
  let x := { x with fails := x.fails + 1, colls := x.colls + b2n coll, sofAt := tm }
  let t := if coll then t.collide n x.frame else t
  if t.get (canState_errstate n) = 2 then
    ((((t.txFail n q x St.badState tm).inc (canErrcnt_busoff n)).fault (0x48 + n) 0x28 n).modPort n
      (fun p => { p with boAt := t.now, recovering := false }))
  else if x.last then t.txFail n q x St.flushed tm
  else if (coll = true ∧ t.canf n 0 18 16 < x.colls) ∨ (t.canf n 0 19 19 = 0 ∧ t.canf n 0 23 20 < x.fails) then
    t.txFail n q x St.busy tm
  else
    let t := t.inc (canTxstat_retries n)
    if coll then
      let (d, u) := t.drawNat
      let (e, u) := u.errorBits n
      let back := u.now + e + (1 + d % 8) * u.frameTime n x.frame
      (u.modTx n q x.id (fun y => { y with fails := x.fails, colls := x.colls, sofAt := tm, held := some back })).putB (canState_backoff n) true
    else t.modTx n q x.id (fun y => { y with fails := x.fails, sofAt := tm })

/-- CAN_TX_COMPLETE: the end of frame of a successful transmission of the frame the port offers; a measured loop delay above 127 data tq
is a bit error instead (R281, R288, R291). -/
def execCanTxComplete (port : Fin 6) (age delay : Nat) (s : State) : Host.Outcome State Fault Refusal :=
  act (fun s =>
    let n := port.val
    if s.canEnds n = false then s
    else match s.onWire n with
      | none => s
      | some (q, x) =>
        if s.tdcOn n x.frame = true ∧ 127 < delay then (s.canTxError n q x (some ⟨.bit, .control, false⟩) 0 age delay).attemptOver n
        else (s.canTxDone n q x age delay).attemptOver n) s

/-- CAN_BUS_ERROR: the frame the port offers loses arbitration or meets an error, an identifier collision where R293 says so; it is sent
again until a limit of R291 is reached, or the port goes bus-off. Else the error is one of a frame that the port receives (R282). -/
def execCanBusError (port : Fin 6) (e : CanUpset) (more age delay : Nat) (s : State) : Host.Outcome State Fault Refusal :=
  act (fun s =>
    let n := port.val
    let own (err : Option CanFault) : State :=
      if s.canEnds n = false then s
      else match s.onWire n with
        | none => s
        | some (q, x) => (s.canTxError n q x err more age delay).attemptOver n
    match e with
    | .lost => own none
    | .own f => own (some f)
    | .received _ => if (s.port n).onAir.isSome then s else s.canRxError n more) s

/-- The frames of a port whose back-off has ended are no longer held off, and BACKOFF shows whether any is (R283). -/
def State.backoffOver (s : State) (n : Nat) : State :=
  let free (x : TxItem) : TxItem := match x.held with
    | some e => if e ≤ s.now then { x with held := none } else x
    | none => x
  let t := s.modPort n (fun p => { p with q0 := p.q0.map free, q1 := p.q1.map free })
  t.putB (canState_backoff n) (t.anyHeld n)

/-- BACKOFF_END: frames whose back-off has run out are offered again (R294). -/
def execBackoffEnd (port : Fin 6) (s : State) : Host.Outcome State Fault Refusal :=
  act (fun s => s.backoffOver port.val) s

/-- BUSOFF_RECOVERY_START: RECOV_DELAY after bus-off, with AUTORECOV, the recovery sequence starts (R282). -/
def execBusoffRecoveryStart (port : Fin 6) (s : State) : Host.Outcome State Fault Refusal :=
  act (fun s =>
    let n := port.val
    if s.domOn (Dm.can n) = true ∧ s.canSt n ≤ 1 ∧ s.get (canState_errstate n) = 2 ∧ (s.port n).recovering = false ∧
        s.canf n 0 27 27 = 1 ∧ (s.port n).boAt + ms (s.canf n 6 31 16) ≤ s.now then
      s.modPort n (fun p => { p with recovering := true, boAt := s.now })
    else s) s

/-- BUSOFF_RECOVERED: 128 times 11 recessive bits have passed; the port is error-active with both counters 0 (R282). -/
def execBusoffRecovered (port : Fin 6) (s : State) : Host.Outcome State Fault Refusal :=
  act (fun s =>
    let n := port.val
    let nom := (s.canf n 1 31 24 + 1) * (3 + s.canf n 1 23 16 + s.canf n 1 15 9)
    if s.domOn (Dm.can n) = true ∧ s.canSt n ≤ 1 ∧ s.get (canState_errstate n) = 2 ∧ (s.port n).recovering = true ∧
        (s.port n).boAt + 1408 * nom * 5 / 4 ≤ s.now then
      (s.canErr n 0 0 0).modPort n (fun p => { p with recovering := false })
    else s) s

/-! ### Time master (R296) -/

/-- The conditions of the time-master role hold. -/
def State.tmWanted (s : State) (n : Nat) : Bool :=
  let p := s.port n
  s.domOn (Dm.can n) && s.canSt n == 0 &&
  (match s.canf n 0 25 24 with
   | 1 => s.fullAt != 0 && decide (s.now < s.fullAt + sec (s.canf n 5 15 0)) &&
     (match p.tmHeard with | some t => decide (t < s.fullAt) | none => true)
   | 2 => (match p.tmHeard with | some t => decide (t + ms (s.canf n 5 15 0) ≤ s.now) | none => decide (ms (s.canf n 5 15 0) ≤ s.now))
   | 3 => s.dbgArr.isSome
   | _ => false)

/-- TIME_MASTER_SYNC: every TM_PERIOD in the role the port queues a SYNC; the SEQ of one that finds no place is skipped. -/
def execTimeMasterSync (port : Fin 6) (s : State) : Host.Outcome State Fault Refusal :=
  act (fun s =>
    let n := port.val
    let p := s.port n
    if s.flag (canState_tmActive n) = true ∧ s.tmWanted n = true ∧ p.tmAt ≤ s.now then
      let t := s.modPort n (fun p => { p with tmSeq := (p.tmSeq + 1) % 16, tmAt := s.now + ms (s.canf n 5 31 16) })
      (t.ownTx n 0 (t.tmFrame n 2 p.tmSeq (List.replicate 7 0)) (.sync p.tmSeq)).1
    else s) s

/-- TIME_MASTER_ROLE_CHANGE: the role starts or ends when its conditions do, with event CAN_TM. -/
def execTimeMasterRoleChange (port : Fin 6) (master : Bool) (s : State) : Host.Outcome State Fault Refusal :=
  act (fun s =>
    let n := port.val
    if s.tmWanted n = master ∧ s.flag (canState_tmActive n) ≠ master then s.tmRole n master else s) s

end Sys2Proof.Machine
end

