-- ==== Sys2Proof/Machine/InputOps.lean ====
section
/-! DEFINITION. Fields of the switch inputs and the field inputs that several families read (spec/12). -/

namespace Sys2Proof.Machine

/-- The time of a debounce code in ticks (R257). -/
def debTicks (code : Nat) : Nat := if code = 31 then 6553600 else if code % 2 = 0 then 100 * 2 ^ (code / 2) else 150 * 2 ^ (code / 2)

/-- A field of SWIN record word 0. -/
def State.swf (s : State) (n hi lo : Nat) : Nat := bits (s.rd (swinCfg_word n).addr).toNat hi lo
/-- The input is sensed continuously now: CONTINUOUS falls back to cyclic while CRK is not On (R253). -/
def State.swinCont (s : State) (n : Nat) : Bool := s.swf n 31 30 == 1 && s.domOn Dm.crk
/-- The input is sensed cyclically now (R252, R253). -/
def State.swinCyclic (s : State) (n : Nat) : Bool := s.swf n 31 30 == 2 || (s.swf n 31 30 == 1 && !s.domOn Dm.crk)
/-- A field of FI record word 0. -/
def State.fif (s : State) (n hi lo : Nat) : Nat := bits (s.rd (fiCfg_word n).addr).toNat hi lo

/-- The nominal filter delay of an FI or SWIN pair's terminal in ticks: its debounce time (R200). -/
def State.pairDelay (s : State) (src index : Nat) (second : Bool) : Nat :=
  if src = 2 then debTicks (s.fif (2 * index + b2n second) 30 26) else debTicks (s.swf (2 * index + b2n second) 17 13)

/-- The numbers of a switch input's bit in its STATE and CHG registers. -/
def swinBit (n : Nat) : Nat × Nat := if n < 32 then (0, n) else (1, n - 32)

/-- The wetting sums of R256 in mA, with input `n`'s word as `w`: continuous, and the largest cyclic group's. -/
def State.wetSums (s : State) (n w : Nat) : Nat × Nat :=
  let wd := fun k => if k = n then w else (s.rd (swinCfg_word k).addr).toNat
  let cont := (((List.range 40).filter (fun k => bits (wd k) 31 30 == 1)).map (fun k => bits (wd k) 27 24)).sum
  let grp := fun g => (((List.range 8).filter (fun j => bits (wd (8 * g + j)) 31 30 == 2)).map (fun j => bits (wd (8 * g + j)) 27 24)).sum
  (cont, ((List.range 5).map grp).foldl max 0)

/-- The wetting limit of R256 holds with input `n`'s word as `w`. -/
def State.wetOk (s : State) (n w : Nat) : Bool := decide ((s.wetSums n w).1 + (s.wetSums n w).2 ≤ 150)

/-- The word of a SWIN record that R256 allows, where a reserved MODE leaves the mode: MODE and IWET stay where the wetting limit would break
(spec/12, R275). -/
def State.wetWord (s : State) (n : Nat) (w : Word) : Word :=
  let old := (s.rd (swinCfg_word n).addr).toNat
  let w := if bits w.toNat 31 30 = 3 then word (setBits w.toNat 31 30 (bits old 31 30)) else w
  if s.wetOk n w.toNat then w else word (setBits (setBits w.toNat 31 30 (bits old 31 30)) 27 24 (bits old 27 24))

/-! ### Field inputs (spec/12, R271, R275) -/

/-- The field inputs that their records invert. -/
def State.fiInv (s : State) : Nat := listMask ((List.range 16).filter (fun n => s.fif n 25 25 == 1))

/-- FI_STATE.STATE: the debounced states after INV. -/
def State.fiState (s : State) : Nat := (s.fiDeb ^^^ s.fiInv) % 65536

/-- The barrier carries frames: the FIELD domain is On and the link and the supply stand (R265). -/
def State.fieldLive (s : State) : Bool := s.domOn Dm.field && s.flag fieldStat_linkOk && s.flag fieldStat_powerOk

/-- The comparators of the field inputs as they are now, which no row brings: FI_STATE.RAW takes free levels while frames come, and holds its
last ones without (R265, R275; log 115). -/
def State.fiRaw (s : State) : State :=
  if s.fieldLive then
    let (x, t) := s.drawNat
    t.put fiState_raw (x % 65536)
  else s

/-- The outputs that limit their current now, which no row brings: free among those that are driven (R268, R272; log 70). -/
def State.fqLimits (s : State) : State :=
  if s.get fqState_on = 0 then s.put fqFault_limit 0
  else
    let (x, t) := s.drawNat
    t.put fqFault_limit (x &&& s.get fqState_on)

/-! ### Field outputs (spec/12, R264 to R270) -/

/-- Output `k` is driven: commanded on, supplied, linked, not tripped, latched or isolated. -/
def State.fqOn (s : State) (k : Nat) : Bool :=
  (s.get fqState_cmd).testBit k && s.domOn Dm.field && s.flag fieldStat_linkOk && s.flag fieldStat_powerOk && !s.flag fieldStat_lpUv &&
    !(s.get fqFault_thermal).testBit k && !s.isolated (0x60 + k) && !s.isolated 0x70

/-- The outputs take the states that commands, supplies and protection give; one that is off limits no more. -/
def State.fqSync (s : State) : State :=
  let on := listMask ((List.range 16).filter s.fqOn)
  let t := (s.put fqState_on on).put fqFault_limit (s.get fqFault_limit &&& on)
  { t with fqTold := t.fqTold &&& on }

/-- The outputs of a mask are commanded to the bits of a value: 0 clears a latch, 1 on a latched output is refused.
Answers whether one was refused (R268, R269). -/
def State.fqSet (s : State) (mask value : Nat) : State × Bool :=
  let held := s.get fqLatch_latched
  let bad := (maskList 16 mask).filter (fun k => value.testBit k && held.testBit k)
  let go := mask % 65536 &&& (65535 - listMask bad)
  let cmd := (s.get fqState_cmd &&& (65535 - go)) ||| (value &&& go)
  let clr := listMask ((maskList 16 mask).filter (fun k => !value.testBit k && held.testBit k))
  let t := ((s.put fqState_cmd cmd).put fqLatch_latched (held &&& (65535 - clr))).put fqFault_thermal
    (s.get fqFault_thermal &&& (65535 - clr))
  (t.fqSync, decide (bad ≠ []))

/-- V5OUT is driven: CRK is On and no isolation of the supply stands (spec/02, R30; spec/17, R372). -/
def State.v5out (s : State) : Bool := s.domOn Dm.crk && !s.isolated 0x87

/-- The 25 MHz oscillator runs (spec/02, R30). -/
def State.oscRuns (s : State) : Bool := s.domOn Dm.sys || s.domOn Dm.crk || s.domOn Dm.net

/-- RDY as the terminal shows it: it floats while the HIF is not On, in Retention as in Off, and while VIO is low (spec/02, R30, R31). -/
def State.rdyPin (s : State) : Option Bool := if s.domOn Dm.hif && s.vioOk then some s.rdy else none

/-- The test port is open: TEN is high and the DEBUG overlay is enabled; in any other case TCK, TMS and TDI are ignored (spec/02,
R34). -/
def State.testOpen (s : State) : Bool := s.testPins.ten && s.dbgArr.isSome

/-- TDO as the terminal shows it: high-impedance unless the test port is open; what an open port sends is left open (spec/02, R34;
log 96). -/
def State.tdo (s : State) : Option Bool :=
  if s.testOpen then some (Config.testOut s.freeCount s.testPins.tck s.testPins.tms s.testPins.tdi) else none

/-- Every output is off and no longer commanded on; latches stay (R270, R61). -/
def State.fqClear (s : State) : State := (s.put fqState_cmd 0).fqSync

end Sys2Proof.Machine
end

