-- ==== Sys2Proof/Machine/Outputs.lean ====
section
/-! DEFINITION. Meanings of the output commands, group 0x1_ (spec/04, R80; spec/06, R127, R142 to R144;
spec/07, R161; spec/08). -/

namespace Sys2Proof.Machine

/-- One channel of a CH_ON without ATOMIC (R84, R114, R161, R174, R455). -/
def State.chOnOne (s : State) (h : Hdr) (id n : Nat) : State :=
  if ¬ s.owns h.hc.val 0 n then s.jobFail id n St.notOwner
  else match s.onCase n with
    | .refuse st => s.jobFail id n st
    | .later => ((s.dropActs n).commitLater n).jobSkip id n
    | .already =>
      if s.isOn n then ((s.dropActs n).stayOn n).jobSkip id n else ((s.dropActs n).stayOn n).jobDone id n
    | .ask => s.request (.job id) [(n, s.budgetI n)] (s.chPrio n) (some h.hc.val) (some (s.chDefer n))

/-- A turn-on that needs no budget commits on a channel: with no edge, or on one that drives already (R84, R161). -/
def State.commitNow (s : State) (n : Nat) : State :=
  match s.onCase n with
  | .later => (s.dropActs n).commitLater n
  | _ => (s.dropActs n).stayOn n

/-- The status with which an ATOMIC CH_ON is refused on a channel, if it is (R84, R161, R174). -/
def State.chOnRefusal (s : State) (h : Hdr) (n : Nat) : Option Byte :=
  if ¬ s.owns h.hc.val 0 n then some St.notOwner
  else match s.onCase n with | .refuse st => some st | _ => none

/-- CH_ON with ATOMIC: one request for the sum of its channels' inrush, or none where none of them needs
budget (R84, R240). -/
def State.chOnAtomic (s : State) (h : Hdr) (mask : Dword) : State :=
  let cs := maskList 64 mask.toNat
  match cs.findSome? (fun n => s.chOnRefusal h n) with
  | some st => s.complete h 0x10 st 0 (maskCont 0)
  | none =>
    let asks := cs.filter (fun n => s.onCase n == .ask)
    let (id, t) := s.addJob h (.chOn h mask) (listMask asks)
    let parts := asks.map (fun n => (n, s.budgetI n))
    if asks = [] then
      (forEach cs (fun n u => u.commitNow n) t).settle id
    else
      t.request (.job id) parts ((asks.map s.chPrio).foldl min 2) (some h.hc.val) (some ((asks.map s.chDefer).foldl min 255)) true

/-- CH_ON: the named channels on, each after a budget grant, or with ATOMIC all together (R84, R12). -/
def execChOn (h : Hdr) (mask : Dword) (s : State) : Host.Outcome State Fault Refusal :=
  act (fun s => s.dispatch h (.chOn h mask) (fun t =>
    if h.atomic then t.chOnAtomic h mask
    else
      let (id, u) := t.addJob h (.chOn h mask) mask.toNat
      if mask = 0 then u.settle id else forEach (maskList 64 mask.toNat) (fun n v => v.chOnOne h id n) u)) s

/-- The status with which CH_OFF is refused on a channel, if it is (R174). -/
def State.chOffRefusal (s : State) (h : Hdr) (n : Nat) : Option Byte :=
  if ¬ s.owns h.hc.val 0 n then some St.notOwner
  else if (s.ch n).follow.isSome then some St.badState
  else none

/-- One channel of a CH_OFF, with the channels that drove before it (R84, R161). -/
def State.chOffOne (s : State) (h : Hdr) (on : List Nat) (n : Nat) : State × Option Byte × Bool :=
  match s.chOffRefusal h n with
  | some e => (s, some e, false)
  | none => ((s.dropActs n).cmdOff n 2, none, decide (n ∈ on))

/-- CH_OFF: the named channels off, waiting turn-ons flushed, a restart dropped (R84, R161, R175, R178, R242). -/
def execChOff (h : Hdr) (mask : Dword) (s : State) : Host.Outcome State Fault Refusal :=
  act (fun s => s.runI h (.chOff h mask) (fun t =>
    match if h.atomic then (maskList 64 mask.toNat).findSome? (fun n => t.chOffRefusal h n) else none with
    | some st => { s := t, status := st, cont := maskCont 0 }
    | none =>
      let on := (maskList 64 mask.toNat).filter (fun n => (t.ch n).drive != .off)
      let (u, st, m) := t.overMaskCh mask.toNat (fun v n => v.chOffOne h on n)
      { s := u, status := st, result := popCount m, cont := maskCont m })) s

/-- CH_SET_DUTY's effect: the next-period registers; LAMP_SOFT takes the duty as its new end, or in its
standing phase as its duty; VALVE_PH and motors store it only (R171, R183, R186). -/
def State.setDuty (s : State) (n duty phase div : Nat) : State :=
  let b := n / 8
  let k := n % 8
  let t := ((s.put (bankPwm_duty b k) duty).put (bankPwm_phase b k) phase).put (bankPwm_div b k) div
  let t := t.put (bankPwm_pending b k) (b2n (decide ((s.ch n).drive ≠ .off)))
  t.modCh n (fun c => { c with profile := c.profile.map (fun p =>
    if p.code = 1 then (if p.phase = .ramp then { p with dutyEnd := duty } else { p with duty := duty }) else p) })

/-- CH_SET_DUTY (R171). -/
def execChSetDuty (h : Hdr) (ch base : Byte) (duty : Half) (phase : Byte) (s : State) : Host.Outcome State Fault Refusal :=
  act (fun s => s.runI h (.chSetDuty h ch base duty phase) (fun t =>
    let n := ch.toNat
    if 63 < n ∨ 3 < base.toNat ∨ 0xFFF < duty.toNat then .no t St.badParam
    else if ¬ t.owns h.hc.val 0 n then .no t St.notOwner
    else if (t.ch n).disabled then .no t St.badState
    else { s := t.setDuty n duty.toNat phase.toNat base.toNat })) s

/-- CH_PULSE: an off channel on for WIDTH µs after its grant (R175). -/
def execChPulse (h : Hdr) (ch : Byte) (width : Word) (s : State) : Host.Outcome State Fault Refusal :=
  act (fun s => s.dispatch h (.chPulse h ch width) (fun t =>
    let n := ch.toNat
    if 63 < n ∨ width.toNat < 20 ∨ 60000000 < width.toNat then t.complete h 0x13 St.badParam 0
    else if ¬ t.owns h.hc.val 0 n then t.complete h 0x13 St.notOwner 0
    else match t.onCase n with
      | .refuse st => t.complete h 0x13 st 0
      | .later => ((t.dropActs n).storePulse n width.toNat).complete h 0x13 St.ok 0
      | .already => t.complete h 0x13 St.badState 0
      | .ask =>
        let (id, u) := t.addJob h (.chPulse h ch width)
        u.request (.job id) [(n, t.budgetI n)] (t.chPrio n) (some h.hc.val) (some (t.chDefer n)))) s

/-- A profile's start on a channel that is on, or after its checks (R177 to R179, R189). -/
def execChStartProfile (h : Hdr) (ch profile : Byte) (pset : Half) (s : State) : Host.Outcome State Fault Refusal :=
  act (fun s => s.dispatch h (.chStartProfile h ch profile pset) (fun t =>
    let n := ch.toNat
    let code := profile.toNat
    let set := t.pset n pset.toNat
    if 63 < n then t.complete h 0x14 St.badParam 0
    else
      let chk := t.profileCheck n code pset.toNat
      if chk = some St.badParam then t.complete h 0x14 St.badParam 0
      else if ¬ t.owns h.hc.val 0 n then t.complete h 0x14 St.notOwner 0
      else match chk with
        | some st => t.complete h 0x14 st 0
        | none =>
          match t.onCase n with
          | .refuse st => t.complete h 0x14 st 0
          | .later => ((t.dropActs n).storeProfile n code set).complete h 0x14 St.ok 0
          | c =>
            if t.parkedSet code set then ((t.dropActs n).parkNow n).reexamine.complete h 0x14 St.ok 0
            else
              let (id, u) := t.addJob h (.chStartProfile h ch profile pset)
              if c = .already then ((u.dropActs n).preempt n).startProfile n code set (some id) false
              else u.request (.job id) [(n, t.budgetI n)] (t.chPrio n) (some h.hc.val) (some (t.chDefer n)))) s

/-- ENABLE 1 is refused on a channel while an uncleared entry whose action put it into the safe state
stands (spec/17, R372). -/
def State.safeHeld (s : State) (n : Nat) : Bool :=
  s.log.any (fun e => e.st != .cleared && e.st != .retest &&
    ((e.action == 1 && decide (bits e.msg.toNat 5 0 ∈ s.pairOf n)) ||
      (e.action == 2 && bits e.msg.toNat 31 22 / 8 == n / 8 && decide (bits e.msg.toNat 31 22 < 64))))

/-- A channel record takes effect: ENABLE 0 disables the channel, ENABLE 1 enables it with its output off;
the other fields are stored (R142). -/
def State.chCommit (s : State) (n : Nat) (ws : List Word) : State :=
  if setField ws 0 31 31 = 0 then (s.disableCh n).putChRec n ws
  else (s.putChRec n ws).modCh n (fun c => { c with disabled := false })

/-- CH_CONFIG: the record checked as a whole, then applied as one unit (R142, R127, R148, R239, R372). -/
def execChConfig (h : Hdr) (ch : Byte) (record : List Word) (s : State) : Host.Outcome State Fault Refusal :=
  act (fun s => s.runI h (.chConfig h ch record) (fun t =>
    let n := ch.toNat
    let g := t.govOf n
    let ws := t.mirrorBridge n record
    if 63 < n ∨ record.length ≠ 8 ∨ onlyFields chFields record = false ∨
        chRecOk (chClass n) (t.get (govBudget_budget g)) ws = false then .no t St.badParam
    else if ¬ t.owns h.hc.val 0 n then .no t St.notOwner
    else if setField ws 0 31 31 = 1 ∧ t.safeHeld n = true then .no t St.locked
    else if chClass n = .HB ∧ (setField ws 0 30 30 == 1) ≠ t.bridged n ∧ t.pairOff n = false then .no t St.badState
    else { s := t.chCommit n ws })) s

/-- CH_STATUS, of any channel whoever owns it (R101, R143, R144). -/
def execChStatus (h : Hdr) (ch : Byte) (s : State) : Host.Outcome State Fault Refusal :=
  act (fun s => s.runI h (.chStatus h ch) (fun t =>
    let n := ch.toNat
    if 63 < n then .no t St.badParam
    else { s := t, result := t.chWord n, cont := t.chStatCont n })) s

/-- One channel of a CH_CLEAR_LATCH, with the channels that were latched before it (R161). -/
def State.clearLatchOne (s : State) (h : Hdr) (held : List Nat) (n : Nat) : State × Option Byte × Bool :=
  if ¬ s.owns h.hc.val 0 n then (s, some St.notOwner, false)
  else if n ∉ held then (s, none, false)
  else if (s.ch n).latched = true ∧ (s.ch n).cause = 7 ∧ (s.pairOf n).any (fun k => !(s.ch k).testOk) = true then
    (s, some St.locked, false)
  else (s.clearLatch n, none, true)

/-- CH_CLEAR_LATCH: a latch with cause COMPARATOR only after a passed self-test; a channel in COOLING, or
with no latch, is skipped and not counted (R161). -/
def execChClearLatch (h : Hdr) (mask : Dword) (s : State) : Host.Outcome State Fault Refusal :=
  act (fun s => s.runI h (.chClearLatch h mask) (fun t =>
    let held := (maskList 64 mask.toNat).filter (fun n => (t.ch n).latched)
    let (u, st, m) := t.overMaskCh mask.toNat (fun v n => v.clearLatchOne h held n)
    { s := u, status := st, result := if st = St.ok then popCount m else 0 })) s

/-- One channel of a CH_DISABLE, with the channels that were enabled before it (R114). -/
def State.chDisableOne (s : State) (h : Hdr) (was : List Nat) (n : Nat) : State × Option Byte × Bool :=
  if ¬ s.owns h.hc.val 0 n then (s, some St.notOwner, false) else (s.disableCh n, none, decide (n ∈ was))

/-- CH_DISABLE: the named channels disabled by R114, whatever queued before it (R114 to R116). -/
def execChDisable (h : Hdr) (mask : Dword) (s : State) : Host.Outcome State Fault Refusal :=
  act (fun s => s.runI h (.chDisable h mask) (fun t =>
    let was := (maskList 64 mask.toNat).filter (fun n => !(t.ch n).disabled)
    let (u, st, m) := t.overMaskCh mask.toNat (fun v n => v.chDisableOne h was n)
    { s := u, status := st, result := if st = St.ok then popCount m else 0 })) s

/-- Following begins: the profile ends with PREEMPTED, a pulse ends, and the level acts from the present
output state (R173). -/
def State.startFollow (s : State) (n sel : Nat) (inv : Bool) : State :=
  let t := s.preempt n
  let t := t.modCh n (fun c => { c with follow := some { sel := sel, inv := inv, limp := false } })
  t.followLevel n (t.lhActive sel inv)

/-- Following ends: the present state becomes the commanded state (R174). -/
def State.endFollow (s : State) (n : Nat) : State :=
  let t := s.withdraw (fun r => r.src == ReqSrc.follow n) St.flushed
  t.modCh n (fun c => { c with follow := none, cmdOn := if c.cooling then c.cmdOn else t.isOn n })

/-- CH_FOLLOW_LH (R173, R174). -/
def execChFollowLh (h : Hdr) (ch lhsel inv : Byte) (s : State) : Host.Outcome State Fault Refusal :=
  act (fun s => s.runI h (.chFollowLh h ch lhsel inv) (fun t =>
    let n := ch.toNat
    if 63 < n ∨ (3 < lhsel.toNat ∧ lhsel ≠ 0xFF) ∨ 1 < inv.toNat ∨ (t.bridged n = true ∧ n % 2 = 1) then .no t St.badParam
    else if ¬ t.owns h.hc.val 0 n then .no t St.notOwner
    else if lhsel = 0xFF then { s := if (t.ch n).follow.isSome then t.endFollow n else t }
    else { s := t.startFollow n lhsel.toNat (inv = 1) })) s

/-- A base change is stored for the end of the running frame (R169, R194). -/
def State.setBase (s : State) (b period : Nat) : State :=
  (s.modBank b (fun x => { x with newPeriod := some period })).put (bankPwmbase_pending b) 1

/-- BANK_BASE: the bank's base period, by an owner of all eight channels (R169). -/
def execBankBase (h : Hdr) (bank : Byte) (freq : Half) (s : State) : Host.Outcome State Fault Refusal :=
  act (fun s => s.runI h (.bankBase h bank freq) (fun t =>
    let b := bank.toNat
    if 7 < b ∨ freq.toNat < 25 ∨ 25000 < freq.toNat then .no t St.badParam
    else if (List.range 8).all (fun k => t.owns h.hc.val 0 (8 * b + k)) = false then .no t St.notOwner
    else
      let p := (rnear 100000000 (freq.toNat : Int)).toNat
      { s := t.setBase b p, result := (rnear 100000000 (p : Int)).toNat })) s

/-- PSET 0 of a bridge holds a motor profile for this axis (R188). -/
def motorSetFor (set : List Word) (axis : Nat) : Bool :=
  decide (3 ≤ setField set 0 31 24) && decide (setField set 0 31 24 ≤ 6) && setOk .HB set && setField set 4 31 24 == axis

/-- MOTOR_TARGET: the bridge toward a target on its axis; a running motion is preempted without budget, a
start from COAST or a brake state asks for it (R188, R179, R181; log 15). -/
def execMotorTarget (h : Hdr) (bridge axis : Byte) (duty : Half) (target : Dword) (s : State) : Host.Outcome State Fault Refusal :=
  act (fun s => s.dispatch h (.motorTarget h bridge axis duty target) (fun t =>
    let k := bridge.toNat
    let n := 48 + 2 * k
    if 7 < k ∨ 7 < axis.toNat ∨ 0xFFF < duty.toNat ∨ motorSetFor (t.pset n 0) axis.toNat = false then t.complete h 0x1B St.badParam 0
    else if ¬ (t.owns h.hc.val 0 n = true ∧ t.owns h.hc.val 0 (n + 1) = true) then t.complete h 0x1B St.notOwner 0
    else if t.bridged n = false ∨ (t.bank (bankOf n)).storeOk = false then t.complete h 0x1B St.badState 0
    else match t.onCase n with
      | .refuse st => t.complete h 0x1B st 0
      | .later =>
        ((t.dropActs n).storeMove k (t.moveOf k axis.toNat duty.toNat target.toNat none)).complete h 0x1B St.ok (unsigned 32 (t.axOut axis.toNat))
      | _ =>
        let (id, u) := t.addJob h (.motorTarget h bridge axis duty target)
        if t.isOn n then (((u.dropActs n).preempt n).startMove k (t.moveOf k axis.toNat duty.toNat target.toNat (some id))).reexamine
        else u.request (.job id) [(n, t.budgetI n)] (t.chPrio n) (some h.hc.val) (some (t.chDefer n)))) s

/-- The end of any motion or motor profile of a bridge with a code, then a brake or COAST (R188). -/
def State.stopMotor (s : State) (k code : Nat) (coast : Bool) : State :=
  let n := 48 + 2 * k
  let t := ((s.dropActs n).endWork n code).clearCmd n
  if coast ∨ t.drivable n = false then (t.chanOff n).modBr k (fun b => { b with brakeEnd := none, mstate := .idle, reverseLeft := none })
  else (t.modBr k (fun b => { b with reverseLeft := none })).brake k (ms 20)

/-- MOTOR_STOP: any motion or motor profile ends with STOPPED; brake, or coast (R188). -/
def execMotorStop (h : Hdr) (bridge mode : Byte) (s : State) : Host.Outcome State Fault Refusal :=
  act (fun s => s.runI h (.motorStop h bridge mode) (fun t =>
    let k := bridge.toNat
    let n := 48 + 2 * k
    if 7 < k ∨ 1 < mode.toNat then .no t St.badParam
    else if ¬ (t.owns h.hc.val 0 n = true ∧ t.owns h.hc.val 0 (n + 1) = true) then .no t St.notOwner
    else if t.bridged n = false then .no t St.badState
    else { s := t.stopMotor k 2 (mode = 1) })) s

end Sys2Proof.Machine
end

