-- ==== Sys2Proof/Machine/Protect.lean ====
section
/-! DEFINITION. Meanings of the protection and measurement events of the banks (spec/06, R122 to R141;
spec/07; spec/10, R226). -/

namespace Sys2Proof.Machine

/-! ### Trips (spec/07, R158 to R162, R165; spec/08, R175, R180) -/

/-- What a trip does to the work on the channel: a pulse ends and leaves it commanded off; a profile on a
high-side channel loses its transient phase's command but runs again at the restart; on a bridge a profile
or move ends with TRIP and the commanded state becomes COAST, into which it restarts (R175, R180). -/
def State.tripWork (s : State) (n : Nat) (latch : Bool) : State :=
  let cs := s.pairOf n
  let hadPulse := cs.any (fun c => (s.ch c).pulse.isSome)
  let bridge := s.bridged n
  let hadMotion := bridge && (cs.any (fun c => (s.ch c).profile.isSome) || (s.br (bridgeOf n)).move.isSome)
  let t := cs.foldl (fun t c =>
    let t := t.cutPulse c
    if bridge then (t.endProfile c 3).endMove (bridgeOf c) 3 else t.profileDone c 3) s
  let t := if hadPulse || hadMotion then t.clearCmd n else t
  let t := if hadMotion then
      (t.modBr (bridgeOf n) (fun b => { b with mstate := .idle, brakeEnd := none, reverseLeft := none })).modCh (s.head n) (fun c => { c with cooling := true })
    else t
  if latch then cs.foldl (fun t c => t.modCh c (fun x => { x with profile := none })) t else t

/-- The protection switches a channel or bridge off: recorded, counted, its work ended, its grant back;
then latched, or in COOLING while it is still commanded to a state, LOW and a bridge's COAST after a motion among them (R158 to R161, R165;
spec/08, R180). A latch withdraws a restart that waits for budget, and asks a COMPARATOR channel for a new self-test. -/
def State.tripCore (s : State) (n cause kind i v more : Nat) : State :=
  let s := s.loseEdge n none
  let e := s.head n
  let nr := s.restartN e
  let counted := decide (cause ≤ 5)
  let latch := !counted || decide (s.restartMax e = nr)
  let cs := s.pairOf n
  let t := ((s.put (chTrip_iTrip n) i).put (chTrip_voutTrip n) v).put (chTriptime_time n) s.devTime
  let t := (t.inc (bankProtstat_trips (bankOf n))).inc (if cause = 1 then chTripcnt_shorts n else chTripcnt_other n)
  let t := if cause = 5 then t.inc (chI2t_trips n) else t
  let t := ((t.outOff n).modCh e (fun x => { x with cooling := false })).tripWork n latch
  let waits := (t.ch e).cooling || t.wanted n
  let t := cs.foldl (fun t c => t.modCh c (fun x => { x with
    cause := cause, tripped := true, coolEnd := s.now + ms (8 * 2 ^ min nr 7), limiting := false,
    latched := latch, cooling := !latch && waits, testOk := x.testOk && cause != 7 })) t
  let t := if latch then t.unask n else t
  let t := t.chFault n kind more
  let t := if counted && latch then t.chFault n 0x07 else t
  t.releaseCh n

/-- A trip of a channel that is on, or that a command has switched off in this very tick; one whose turn-off edge has started before is no
trip (R162). -/
def State.trip (s : State) (n cause kind i v : Nat) (more : Nat := 0) : State :=
  let c := s.ch n
  let justOff := decide (c.offAt = s.now) && decide (c.edgeAt < s.now) && !c.tripped
  if (c.drive = .off ∧ justOff = false) ∨ s.domOn (Dm.bank (bankOf n)) = false then s else s.tripCore n cause kind i v more

/-- The high side of the channel, or the low side of a half-bridge, conducts now: not in an off time of its own switching (spec/08, R170,
R184). -/
def State.conducts (s : State) (n : Nat) : Bool :=
  let c := s.ch n
  let chopped := c.profile.any (fun p => p.chopOff)
  match c.drive with
  | .off => false
  | .low => true
  | .on => !chopped
  | .pwm => s.pwmHigh n

/-- The channel's own switching makes off times: state PWM, or a valve that chops (R150). -/
def State.switches (s : State) (n : Nat) : Bool := (s.ch n).drive == .pwm || (s.ch n).profile.any (fun p => p.chopping && p.phase == .peak)

/-- CURRENT_LIMIT: the current has reached the limit of the present regime and is held there; in the steady regime the 200 µs timer runs
(R147, R150). The on-state open-load filter starts anew (spec/06, R138). -/
def execCurrentLimit (ch : Fin 64) (s : State) : Host.Outcome State Fault Refusal :=
  act (fun s =>
    let n := ch.val
    if s.conducts n then
      s.modCh n (fun c => { c with
        limiting := true, limOn := true, olLow := none, limAt := if c.inrush then none else some (c.limAt.getD s.now) })
    else s) s

/-- SHORT_HARD: a short criterion of R151 is met (R151, R158). -/
def execShortHard (ch : Fin 64) (i v : Half) (s : State) : Host.Outcome State Fault Refusal :=
  act (fun s => s.trip ch.val 1 0x01 i.toNat v.toNat) s

/-- The 200 µs of steady-regime limiting are over (R150). -/
def State.limitOver (s : State) (n : Nat) : Bool :=
  match (s.ch n).limAt with
  | some a => !(s.ch n).inrush && decide (us 200 ≤ (s.ch n).limRun + (s.now - a))
  | none => false

/-- OVERCURRENT: steady-regime limiting has lasted 200 µs (R150, R158). -/
def execOvercurrent (ch : Fin 64) (i v : Half) (s : State) : Host.Outcome State Fault Refusal :=
  act (fun s => if s.limitOver ch.val then s.trip ch.val 2 0x02 i.toNat v.toNat else s) s

/-- INRUSH_REGIME_END: INRUSH_TIME after the edge start the channel enters the steady regime (R150). -/
def execInrushRegimeEnd (ch : Fin 64) (s : State) : Host.Outcome State Fault Refusal :=
  act (fun s =>
    let c := s.ch ch.val
    if c.inrush = true ∧ c.inrushEnd ≤ s.now then
      s.modCh ch.val (fun c => { c with inrush := false, limAt := if c.limiting then some s.now else none })
    else s) s

/-- OVERTEMP_DT: T_CH − T_CASE has reached DT_LIMIT (R154, R158). -/
def execOvertempDt (ch : Fin 64) (i v : Half) (s : State) : Host.Outcome State Fault Refusal :=
  act (fun s => s.trip ch.val 3 0x03 i.toNat v.toNat) s

/-- OVERTEMP_ABS: T_CH has reached 175 °C (R154, R158). -/
def execOvertempAbs (ch : Fin 64) (i v : Half) (s : State) : Host.Outcome State Fault Refusal :=
  act (fun s => s.trip ch.val 4 0x04 i.toNat v.toNat) s

/-- A class's current range in mA and the number of codes that spans it (R134). -/
def ampScale : ChClass → Nat × Nat
  | .H => (160000, 16384)
  | .M => (80000, 16384)
  | .L => (32000, 16384)
  | .HB => (48000, 8192)

/-- θ after the next step of the wire model: it moves toward r, the mean square of every sample of the last 1 ms over the square of RATED, 0
in a channel that was off throughout, by the part 1 ms / TAU of the difference (R155). -/
def State.thetaNext (s : State) (n : Nat) : Nat :=
  let c := s.ch n
  let rated := bits (s.cfgw n 4) 15 0
  let tau := bits (s.cfgw n 5) 31 16
  let (range, codes) := ampScale (chClass n)
  let r : Int := if c.drove = false then 0 else
    rdiv ((c.sqSum * range ^ 2 * 1000000000 : Nat) : Int) ((c.sqCnt * codes ^ 2 * (rated * 100) ^ 2 : Nat) : Int)
  ((c.theta : Int) + rdiv (r - (c.theta : Int)) ((100 * tau : Nat) : Int)).toNat

/-- WIRE_MODEL_UPDATE: every 1 ms θ moves toward r; at 1.000 a channel that is on trips WIRE_I2T (R155). θ
is frozen while the current converter is invalid (R156). -/
def execWireModelUpdate (ch : Fin 64) (i v : Half) (s : State) : Host.Outcome State Fault Refusal :=
  act (fun s =>
    let n := ch.val
    if s.domOn (Dm.bank (bankOf n)) = false ∨ s.now < (s.ch n).thetaAt + ms 1 then s
    else
      let t := s.modCh n (fun c => { c with sqSum := 0, sqCnt := 0, drove := decide (c.drive ≠ .off), thetaAt := s.now })
      if bits (s.cfgw n 4) 15 0 = 0 ∨ s.flag (bankSense_curValid (bankOf n)) = false then t
      else
        let t := t.modCh n (fun c => { c with theta := s.thetaNext n })
        if 1000000000 ≤ s.thetaNext n then t.trip n 5 0x05 i.toNat v.toNat else t) s

/-- SEG_IMBALANCE: a segment of a Class H channel has carried less than 15 % for 1 ms (R157). -/
def execSegImbalance (ch : Fin 64) (seg : Fin 3) (i v : Half) (s : State) : Host.Outcome State Fault Refusal :=
  act (fun s =>
    if chClass ch.val = .H ∧ ((s.ch ch.val).segLow.getD seg.val none).any (fun a => decide (a + ms 1 ≤ s.now)) = true then
      s.trip ch.val 6 0x06 i.toNat v.toNat (seg.val * 0x100)
    else s) s

/-- CMP_MISMATCH: comparator copies have disagreed for 10 µs; the channel latches (R166). -/
def execCmpMismatch (ch : Fin 64) (func : Fin 5) (copyB : Bool) (i v : Half) (s : State) : Host.Outcome State Fault Refusal :=
  act (fun s =>
    if s.domOn (Dm.bank (bankOf ch.val)) = false then s
    else (s.inc (bankProtstat_mismatch (bankOf ch.val))).tripCore ch.val 7 0x08 i.toNat v.toNat (func.val * 0x100 + b2n copyB * 0x800)) s

/-! ### Comparator self-tests (R167) -/

/-- A self-test begins on an OFF channel: its PASS bit is cleared. -/
def State.beginTest (s : State) (n : Nat) : State :=
  if (s.ch n).drive = .off ∧ s.domOn (Dm.bank (bankOf n)) = true then
    (s.modCh n (fun c => { c with testAt := some s.now })).put ⟨(bankCmptest_pass (bankOf n)).addr, n % 8, n % 8⟩ 0
  else s

/-- A self-test's result: PASS set, or the channel latches with cause COMPARATOR, with its present current and voltage as the trip's (R158,
R167). -/
def State.endTest (s : State) (n : Nat) (pass : Bool) (func : Nat) (copyB : Bool) : State :=
  let t := s.modCh n (fun c => { c with testAt := none, testedAt := s.now })
  if pass then (t.put ⟨(bankCmptest_pass (bankOf n)).addr, n % 8, n % 8⟩ 1).modCh n (fun c => { c with testOk := true })
  else
    (t.inc (bankProtstat_selftestFail (bankOf n))).tripCore n 7 0x09 (unsigned 16 (rdiv (milliAmps (chClass n) (s.get (chI_sample n))) 100))
      (unsigned 16 (centiVolts (s.get (chVt_vout n)))) (func * 0x100 + b2n copyB * 0x800)

/-- SELFTEST_START: a channel that has been OFF for 1 ms begins its self-test, once in a second (R167). -/
def execSelftestStart (ch : Fin 64) (s : State) : Host.Outcome State Fault Refusal :=
  act (fun s =>
    let c := s.ch ch.val
    if c.testAt.isNone ∧ c.offAt + ms 1 ≤ s.now ∧ (c.testedAt = 0 ∨ c.testedAt / sec 1 < s.now / sec 1) then s.beginTest ch.val else s) s

/-- SELFTEST_END: 200 µs after its start the test gives its result (R167). -/
def execSelftestEnd (ch : Fin 64) (pass : Bool) (func : Fin 5) (copyB : Bool) (s : State) : Host.Outcome State Fault Refusal :=
  act (fun s =>
    match (s.ch ch.val).testAt with
    | some a => if a + us 200 ≤ s.now then s.endTest ch.val pass func.val copyB else s
    | none => s) s

/-! ### Restart (R159, R160, R163) -/

/-- RESTART: a channel in COOLING that is still commanded on asks for its budget, without a deferral limit;
under the limp map as a SAFETY draw that is not charged; a bridge whose motion a trip ended is back in COAST (R160, R163; spec/08, R180;
spec/11, R240). -/
def execRestart (ch : Fin 64) (s : State) : Host.Outcome State Fault Refusal :=
  act (fun s =>
    let n := s.head ch.val
    let asked := s.line.any (fun r => match r.src with | .restart k => decide (k = n) | _ => false)
    if s.cooled n = true ∧ s.wanted n = false then
      (s.pairOf n).foldl (fun t c => t.modCh c (fun x => { x with cooling := false })) s
    else if s.mayRestart n = true ∧ asked = false then
      let limp := s.limpOnNow || (s.bank (bankOf n)).ownLimp
      s.request (.restart n) [(n, s.budgetI n)] (if limp then 0 else s.chPrio n) (if limp then none else s.owner 0 n) none
    else s) s

/-- RESTART_AGE_OUT: restarts 10 s old drop out of the count (R159). -/
def execRestartAgeOut (ch : Fin 64) (s : State) : Host.Outcome State Fault Refusal :=
  act (fun s => s.modCh ch.val (fun c => { c with restarts := c.restarts.filter (fun t => decide (s.now < t + sec 10)) })) s

/-! ### Case temperature (R164) -/

/-- The turn-ons in the line that a bank's warning now holds leave their places, each counted in that bank (R164). -/
def State.holdWaiting (s : State) : State :=
  let new : Req → List Nat := fun r => if r.held then [] else s.warnedBanks r
  let t : State := { s with line := s.line.map (fun r => if new r != [] then { r with held := true } else r) }
  (s.line.flatMap new).foldl (fun u b => u.inc (bankProtstat_held b)) t

/-- A turn-on that has its grant and whose edge has not started is held: the channel is off again, and its request waits outside the line,
with the channel's deferral limit where a command, an event or an LH input made it (R164). A restart is in COOLING again. -/
def State.holdEdge (s : State) (g : Grant) : State :=
  let n := g.ch
  let c := s.ch (s.head n)
  let limit : Option Nat := match g.src with | .restart _ | .uv _ => none | _ => some (s.now + ms (s.chDefer n))
  let src : ReqSrc := match g.src with | .spk _ => .act n | x => x
  let again : Bool := match g.src with | .restart _ => true | _ => false
  let counted := c.restarts.any (fun t => decide (s.now < t))
  let (id, t) := ({ s with grants := s.grants.filter (fun x => x != g) } : State).fresh
  let t := (t.outOff n).modCh (s.head n) (fun x => { x with
    edges := c.edges - 1, edgeJob := none, cooling := again, tripped := again && counted
    profile := match g.src with | .job _ => none | _ => x.profile })
  let r : Req := { id := id, src := src, parts := [(n, g.amount)], prio := g.prio, hc := g.hc, at_ := s.now, limit := limit, held := true }
  (({ t with line := t.line ++ [r] } : State).inc (govCnt_deferrals (s.govOf n))).inc (bankProtstat_held (bankOf n))

/-- The turn-ons of a bank that have their grants and whose edges have not started are held; SAFETY and limp-map turn-ons are not (R164). -/
def State.holdEdges (s : State) (b : Nat) : State :=
  (s.grants.filter (fun g => g.prio != 0 && bankOf g.ch == b && g.edge.isSome && s.edgeDue g.ch)).foldl (fun t g => t.holdEdge g) s

/-- BANK_TEMP_WARN: T_CASE has reached LEVEL; the turn-ons of the bank that wait or whose edges have not started are held (R164). -/
def execBankTempWarn (bank : Fin 8) (s : State) : Host.Outcome State Fault Refusal :=
  act (fun s =>
    let b := bank.val
    if s.flag (bankTwarn_active b) = false ∧ 16 * (s.get (bankTwarn_level b) + 56) ≤ s.get (bankMeas_tcase b) then
      ((s.put (bankTwarn_active b) 1).modBank b (fun x => { x with warnAt := s.now })).holdWaiting.holdEdges b |>.reexamine.fault (0x40 + b) 0x10 b
    else s) s

/-- The held turn-ons that no bank's warning holds any longer enter the line behind it, in the order they were held (R164). -/
def State.freeHeld (s : State) : State :=
  let free : Req → Bool := fun r => r.held && !r.parts.any (fun p => s.flag (bankTwarn_active (bankOf p.1)))
  let out := s.line.filter free
  let renamed := out.zipIdx.map (fun p => { p.1 with id := s.nextId + p.2, held := false })
  { s with line := s.line.filter (fun r => !free r) ++ renamed, nextId := s.nextId + out.length }

/-- BANK_TEMP_WARN_END: T_CASE has fallen 5 K below LEVEL; the held turn-ons enter the line in the order they
were held (R164). -/
def execBankTempWarnEnd (bank : Fin 8) (s : State) : Host.Outcome State Fault Refusal :=
  act (fun s =>
    let b := bank.val
    if s.flag (bankTwarn_active b) = true ∧ s.get (bankMeas_tcase b) ≤ 16 * (s.get (bankTwarn_level b) + 51) then
      (s.put (bankTwarn_active b) 0).freeHeld.reexamine
    else s) s

/-! ### Delays and lead learning (spec/06, R124; spec/10, R226) -/

/-- Sprocket learns a delay of `m` µs into a channel's lead entry of the band of VBAT at the edge start: kind 0 T_ON, 1 T_OFF, 2 T_ARR
(R226). -/
def State.leadLearn (s : State) (n kind m : Nat) (vbat : Int) : State :=
  let band := s.leadBandOf n vbat
  let e := s.leadEntry n kind band
  let gain := s.get ⟨(spkLead_word n 0).addr, 7, 0⟩
  let outlier := s.get ⟨(spkLead_word n 1).addr, 31, 24⟩
  let key := 4 * (4 * n + kind) + band
  let clear : State → State := fun t => { t with leadRuns := Sparse.set (fun _ => (false, [])) t.leadRuns key (false, []) }
  if s.domOn Dm.crk = false ∨ gain = 0 then s
  else if e = 0xFFFF then clear ((s.put (leadFld n kind band) m).inc (spkLeadstat_updates n))
  else
    let d := if m < e then e - m else m - e
    if outlier * e < d * 100 then
      let (side, vals) := Sparse.get (fun _ => (false, ([] : List Nat))) s.leadRuns key
      let up := decide (e < m)
      let run := if vals ≠ [] ∧ side = up then vals ++ [m] else [m]
      let t := s.inc (spkLeadstat_reject n)
      if 4 ≤ run.length then
        let mean := (rnear (run.sum : Int) 4).toNat
        clear (((t.put (leadFld n kind band) mean).inc (spkLeadstat_reseed n)).post (t.ownerList 0 n) 11 0x01 n (kind + 4 * band) mean)
      else { t with leadRuns := Sparse.set (fun _ => (false, [])) t.leadRuns key (up, run) }
    else
      let e' := ((e : Int) + rnear ((gain : Int) * ((m : Int) - (e : Int))) 256).toNat
      clear ((s.put (leadFld n kind band) e').inc (spkLeadstat_updates n))

/-- The bank's delay reports reach Sprocket: its converters are valid and its link is up (R124, R133). -/
def State.reports (s : State) (b : Nat) : Bool :=
  s.flag (bankSense_curValid b) && (s.bank b).linkUp && !(s.bank b).curFail && !(s.bank b).auxFail

/-- EDGE_DELAY_MEASURED: a switching edge's delay in 10 ns, 0xFFFF where the output did not cross; the lead
table learns from every edge that crossed (R124, R226); a pulse that ended early has its width (spec/08, R175). -/
def execEdgeDelayMeasured (ch : Fin 64) (on : Bool) (delay : Half) (s : State) : Host.Outcome State Fault Refusal :=
  act (fun s =>
    let n := ch.val
    if s.domOn (Dm.bank (bankOf n)) = false then s
    else
      let t := s.put (if on then chDelay_ton n else chDelay_toff n) delay.toNat
      let t := if on then
          t.modCh n (fun c => { c with pulse := c.pulse.map (fun p => if delay = 0xFFFF ∨ p.startAt = none then p else { p with onDelay := some delay.toNat }) })
        else t.pulseDone n (if delay = 0xFFFF then 65534 else delay.toNat)
      if delay = 0xFFFF ∨ s.reports (bankOf n) = false then t
      else t.leadLearn n (if on then 0 else 1) (rnear (delay.toNat : Int) 100).toNat (s.ch n).edgeV) s

/-! ### Clamp energy and dissipation (spec/06, R129, R132) -/

/-- The repetitive clamp energy of a class, 0.1 mJ; none on a half-bridge (R120, R129). -/
def clampRep : ChClass → Option Nat
  | .H => some 6000
  | .M => some 2250
  | .L => some 600
  | .HB => none

/-- CLAMP_PULSE_END: the energy of a clamp pulse, 0.1 mJ (R129). -/
def execClampPulseEnd (ch : Fin 64) (energy : Half) (s : State) : Host.Outcome State Fault Refusal :=
  act (fun s =>
    let n := ch.val
    match clampRep (chClass n) with
    | none => s
    | some r =>
      let t := (s.put (chClamp_last n) energy.toNat).modBank (bankOf n) (fun x => { x with clampE := x.clampE + energy.toNat })
      if r < energy.toNat then (t.inc (chClamp_over n)).chFault n 0x0D else t) s

/-- The dissipation of a channel in the last millisecond, in 10 µW: conduction, the mean current by V_DS, and switching, for every edge
0.5 × VBAT × I × VBAT / slew (R132). DESIGN CHOICE: a channel that is off at the row conducts nothing, and before 100 rows the mean is that of
the rows so far (log 122). -/
def State.chanDiss (s : State) (n : Nat) : Nat :=
  let c := s.ch n
  let i := (milliAmps (chClass n) (s.get (chI_mean n))).natAbs
  let vb := centiVolts (s.get (bankMeas_vbat (bankOf n)))
  let vo := centiVolts (s.get (chVt_vout n))
  let vds := if c.drive = .low then vo.natAbs else (vb - vo).natAbs
  let edge := vb.natAbs ^ 2 * i / (2 * 100 * slewTenth (chClass n) (bits (s.cfgw n 0) 23 22))
  (if c.drive = .off then 0 else i * vds) + c.edges * edge / 100

/-- The dissipation of a bank in the last millisecond, 0.01 W: its channels' and the clamp energies of R129, 0.1 mJ each (R132). -/
def State.bankMilli (s : State) (b : Nat) : Nat :=
  ((List.range 8).map (fun k => s.chanDiss (8 * b + k))).sum / 1000 + (s.bank b).clampE * 10

/-- A bank's mean over the last 100 ms, 0.01 W, as its state gives it. -/
def meanDiss (l : List Nat) : Nat := l.sum / max 1 l.length

/-- The value nearest to `v` within the estimate's accuracy of ±10 % ±0.5 W (R132). -/
def nearDiss (true_ v : Nat) : Nat := max (true_ * 9 / 10 - 50) (min v (true_ * 11 / 10 + 50))

/-- The banks' means, each at the end of its word, and their peaks: what each bank's state gives, to the accuracy within which `means` says
what it computed; a bank that is not On or has a failed converter computes none, and what that millisecond held counts in no later one
(R132, R133; log 17). -/
def State.bankDiss (s : State) (means : List Nat) : State :=
  forEach (List.range 8) (fun b u =>
    let fresh (v : State) : State := forEach (List.range 8) (fun k w => w.modCh (8 * b + k) (fun c => { c with edges := 0 })) (v.modBank b (fun x => { x with clampE := 0 }))
    if (u.bank b).curFail ∨ (u.bank b).auxFail ∨ u.domOn (Dm.bank b) = false then fresh u
    else
      let l := (u.bankMilli b :: (u.bank b).diss).take 100
      let u := fresh (u.modBank b (fun x => { x with diss := l }))
      let m := satTo 65535 (nearDiss (meanDiss l) (means.getD b 0))
      let u := u.put (bankPdiss_mean b) m
      if u.get (bankPdiss_peak b) < m then u.put (bankPdiss_peak b) m else u) s

/-- SYS's sum of the banks' means and 3.5 W, in 0.1 W, with MODULE_PDISS where it comes to exceed LIMIT (R132). -/
def State.moduleDiss (s : State) : State :=
  let sum := ((List.range 8).map (fun b => s.get (bankPdiss_mean b))).sum + 350
  let m := satTo 65535 (rnear (sum : Int) 10).toNat
  let u := s.put sysPdiss_mean m
  if s.get sysPdiss_mean ≤ s.get sysPdiss_limit ∧ s.get sysPdiss_limit < m then u.fault 0x80 0x1A 0 else u

/-- DISSIPATION_ESTIMATE: every 1 ms each bank's mean over the last 100 ms, 0.01 W, as the bank computed it
within its accuracy; SYS adds 3.5 W and posts MODULE_PDISS when the sum comes to exceed LIMIT (R132; log 17). -/
def execDissipationEstimate (means : List Nat) (s : State) : Host.Outcome State Fault Refusal :=
  act (fun s =>
    let t := s.bankDiss means
    if t.domOn Dm.sys = false then t else t.moduleDiss) s

/-! ### Converters (spec/06, R133 to R136) -/

/-- SENSE_ADC: a converter has failed its self-check; its readings are invalid until its retest passes (R133). -/
def execSenseAdc (bank : Fin 8) (aux : Bool) (s : State) : Host.Outcome State Fault Refusal :=
  act (fun s =>
    let b := bank.val
    let t := s.modBank b (fun x => if aux then { x with auxFail := true } else { x with curFail := true })
    ((t.put (if aux then bankSense_auxValid b else bankSense_curValid b) 0).inc (bankSense_errcnt b)).fault (0x40 + b) 0x11
      (b + b2n aux * 0x100)) s

/-- The tested value of the on-state open-load test is above OLTHR, or at it: the mean current in mA, or the
mean power in 0.1 W; a PWM channel by its on-time mean (R138). -/
def State.loadSeen (s : State) (n : Nat) : Bool :=
  let code := if (s.ch n).drive = .pwm then unsigned 14 (s.ch n).onMean else s.get (chI_mean n)
  let ma := milliAmps (chClass n) code
  let ma := if ma < 0 then -ma else ma
  let thr : Int := ((bits (s.cfgw n 1) 31 16 : Nat) : Int)
  if bitOf (s.cfgw n 0) 26 then decide (thr * 10000 ≤ ma * centiVolts (s.get (chVt_vout n)))
  else decide (thr ≤ ma)

/-- AVG of a channel. -/
def State.avg (s : State) (n : Nat) : Nat := bits (s.cfgw n 0) 19 18

/-- A signed sense code (R134). -/
def codeInt (cls : ChClass) (code : Nat) : Int := if cls = .HB then signed 14 code else (code : Int)

/-- The mean code that AVG 0b10 or 0b11 selects, of the valid samples of the last 1 ms or 16 ms (R135). -/
def windowMean (now win : Nat) (l : List (Nat × Int)) (old : Nat) : Nat :=
  let w := l.filter (fun p => decide (now < p.1 + win))
  if w = [] then old else unsigned 14 (rdiv ((w.map (fun p => p.2)).sum) (w.length : Int))

/-- VALVE_PH's chopping in the peak phase, on each sample: off at or above I_PEAK, on again at or below
0.9 × I_PEAK (spec/08, R184); no arrival is looked for once chopping has begun before a dip, and the detector's five samples begin anew
after an off time (R185). -/
def State.chop (s : State) (n code : Nat) : State :=
  match (s.ch n).profile with
  | some p =>
    let peak := setField p.set 0 15 0
    let ma := milliAmps (chClass n) code
    if p.code ≠ 2 ∨ p.phase ≠ .peak ∨ peak = 0 then s
    else if p.chopOff = false ∧ (s.ch n).drive ≠ .off ∧ ((peak * 10 : Nat) : Int) ≤ ma then
      s.modCh n (fun c => { c.offTime s.now with edgeV := s.vbatCode (bankOf n), profile := some { p with
        chopping := true, chopOff := true, det := { p.det with last := [], barred := p.det.barred || !p.det.dip } } })
    else if p.chopOff = true ∧ ma ≤ ((peak * 9 : Nat) : Int) then
      s.modCh n (fun c => { c with edges := c.edges + 1, edgeV := s.vbatCode (bankOf n), profile := some { p with chopOff := false } })
    else s
  | none => s

/-- One step of the arrival detector on a code of the channel, `at_` ticks after the edge start (R185). -/
def Arrival.step (d : Arrival) (set : List Word) (code : Int) (at_ now : Nat) : Arrival :=
  let l := (code :: d.last).take 5
  let i := l.sum
  let e := { d with last := l }
  if l.length < 5 ∨ d.found ∨ d.barred ∨ at_ < us (100 * setField set 2 31 16) ∨ us (100 * setField set 2 15 0) < at_ then e
  else
    let top := max d.top i
    if d.dip then
      if i < d.low then { e with low := i, lowAt := now } else { e with found := decide (d.low * 50 + d.top < i * 50) }
    else if i * 100 < top * (100 - (setField set 3 31 24 : Int)) then { e with top := top, dip := true, low := i, lowAt := now }
    else { e with top := top }

/-- VALVE_PH looks for the armature's arrival while the output is fully on (R185). -/
def State.lookArrival (s : State) (n : Nat) (code : Int) : State :=
  match (s.ch n).profile with
  | some p =>
    if p.code = 2 ∧ p.phase = .peak ∧ p.chopOff = false ∧ (s.ch n).drive ≠ .off then
      s.modCh n (fun c => { c with profile := some { p with det := p.det.step p.set code (s.now - p.startAt) s.now } })
    else s
  | none => s

/-! ### What the bank follows on a bridge's current (spec/08, R187 to R191) -/

/-- The parameter set that drives bridge `k` now: its move's, its profile's, else PSET 0. -/
def State.motorSet (s : State) (k : Nat) : List Word :=
  match (s.br k).move, (s.ch (48 + 2 * k)).profile with
  | some m, _ => m.set
  | none, some p => p.set
  | none, none => s.pset (48 + 2 * k) 0

/-- The last driven direction decreases the axis: on a window, it closes (R188, R190). -/
def State.closing (s : State) (k : Nat) : Bool := s.goesFwd k == (setField (s.motorSet k) 4 23 23 == 1)

/-- Bin of the pinch zone at a position; 32 bins from PINCH_FAR to the closed end (R190, worked example). -/
def pinchBin (far pos : Nat) : Nat := min 31 ((far - pos) * 32 / far)

/-- The expected ripple rate in 10^-3 Hz: (duty × VBAT − I × R_MOTOR) / KE in the driven direction, with duty 0 in a brake, and 0 where it is
negative; in COAST |VOUT_even − VOUT_odd| / KE (R187). -/
def State.rippleRate (s : State) (k : Nat) (ma : Int) : Nat :=
  let n := 48 + 2 * k
  let set := s.motorSet k
  let ke := setField set 5 15 0
  let d := (s.ch n).duty
  let vb := s.vbatCode (bankOf n) * 78125 / 2
  let v := vb * ((if d = 0xFFF then 4096 else d : Nat) : Int) / 4096
  let drop := ma * ((setField set 5 31 16 : Nat) : Int)
  let uv : Int := match (s.br k).st with
    | .coast => (((centiVolts (s.get (chVt_vout n)) - centiVolts (s.get (chVt_vout (n + 1)))) * 10000).natAbs : Nat)
    | .forward => v - drop
    | .reverse => v + drop
    | _ => if (s.br k).lastFwd then - drop else drop
  uv.toNat * 1000 / ke

/-- The size of the mean bridge current over the last 250 µs, in mA (R190). -/
def Bridge.mean250 (b : Bridge) : Int := ((rdiv ((b.recent.map (fun p => p.2)).sum) (b.recent.length : Int)).natAbs : Int)

/-- The bridge current to compare with in the pinch zone, mA: the bin's learned reference, else the current measured on entering the zone;
before the axis is normalised the current measured at the start (R190, R191). -/
def State.pinchRef (s : State) (k : Nat) (m : Move) : Option Int :=
  let b := s.br k
  if b.norm = false then b.startI
  else match b.bins.getD (pinchBin (setField m.set 1 31 16) (s.axOut m.axis).toNat) none with
    | some i => some (i * 10)
    | none => b.entryI

/-- A closing window stands where pinches are looked for: in the pinch zone outside the seal zone, or anywhere while it is not normalised
(R190, R191). -/
def State.pinchZone (s : State) (k : Nat) (m : Move) : Bool :=
  let pos := s.axOut m.axis
  setField m.set 0 31 24 == 4 && s.closing k && ((s.br k).norm == false ||
    (decide (((setField m.set 1 15 0 : Nat) : Int) ≤ pos) && decide (pos ≤ ((setField m.set 1 31 16 : Nat) : Int))))

/-- What a sample of the bridge current brings: the expected ripple rate and phase, the times since when the motor has been slow, stalled or
pinched, and the currents at the start and on entering the zone (R187 to R191; log 94). -/
def State.bridgeSample (s : State) (k code : Nat) : State :=
  let n := 48 + 2 * k
  let b := s.br k
  let ma := milliAmps .HB code
  let f := s.rippleRate k ma
  let recent := ((s.now, ma) :: b.recent).filter (fun p => decide (s.now < p.1 + us 250))
  let full := b.recent.any (fun p => decide (p.1 + us 250 ≤ s.now))
  let b1 := { b with
    fEst := f, slowAt := if f < 20000 then some (b.slowAt.getD s.now) else none, recent := recent
    phase := if b.phaseAt = 0 then 0 else b.phase + f * (s.now - b.phaseAt) / 100, phaseAt := s.now
    stallAt := if setField (s.motorSet k) 3 31 16 * 100 ≤ ma.natAbs then some (b.stallAt.getD s.now) else none
    startI := if b.startI.isNone ∧ full = true then some b.mean250 else b.startI }
  let t := s.modBr k (fun _ => b1)
  match b1.move with
  | some m =>
    if t.pinchZone k m = false ∨ t.isOn n = false then t.modBr k (fun x => { x with pinchAt := none, entryI := none })
    else
      let t := t.modBr k (fun x => { x with entryI := some (x.entryI.getD b1.mean250) })
      let pinched := (t.pinchRef k m).any (fun r => decide (r + ((setField m.set 2 31 16 * 10 : Nat) : Int) ≤ b1.mean250))
      t.modBr k (fun x => { x with pinchAt := if pinched then some (x.pinchAt.getD s.now) else none })
  | none => t

/-- Open-load detection runs in a bank: full service, no limp map in force there, VBAT in range, converters valid (R137). -/
def State.olRuns (s : State) (b : Nat) : Bool :=
  s.get pwrStart_phase == 3 && !s.limpOnNow && !(s.bank b).ownLimp && !bitOf s.uvMask (b / 4) && !bitOf s.degMask (b / 4) && !(s.bank b).curFail &&
    !(s.bank b).auxFail && s.domOn (Dm.bank b)

/-- The largest limit of a class, 0.1 A: its 256 steps are the comparator's (spec/07, R149). -/
def limitMax : ChClass → Nat | .H => 1500 | .M => 800 | .L => 300 | .HB => 450

/-- A current in mA lies below a limit setting, rounded to the nearest comparator step (spec/07, R149). -/
def belowLimit (cls : ChClass) (setting : Nat) (ma : Int) : Bool :=
  let steps := (rnear ((setting * 256 : Nat) : Int) (limitMax cls : Int)).toNat
  decide (ma.natAbs * 256 < steps * limitMax cls * 100)

/-- The channel lies below its present limit: limiting has ended. The 200 µs timer pauses, and starts anew where the channel does not switch
(spec/07, R150; log 95). -/
def State.limitCheck (s : State) (n : Nat) (ma : Int) : State :=
  let c := s.ch n
  if c.limiting = true ∧ belowLimit (chClass n) (if c.inrush then s.limInrush n else s.limSteady n) ma = true then
    let keep := s.switches n
    s.modCh n (fun c => let d := c.limPause s.now; { d with limRun := if keep then d.limRun else 0 })
  else s

/-- Since when each segment of a Class H channel that carries 5 A or more has carried less than 15 % of it (spec/07, R157). -/
def State.segCheck (s : State) (n : Nat) (segs : List Nat) (ma : Int) : State :=
  if chClass n ≠ .H then s
  else
    let act := decide ((s.ch n).drive ≠ .off) && decide (5000 ≤ ma)
    s.modCh n (fun c => { c with segLow := (List.range 3).map (fun k =>
      if act && decide (((segs.getD k 0) * 100 * 100 : Int) < 15 * ma) then some ((c.segLow.getD k none).getD s.now) else none) })

/-- The state codes in which the on-state open-load test runs, of a channel that drives: not in a protection state or DEFERRED, nor, in
state PWM, at a duty below 1/16; on a bridge the even channel's only (R138). -/
def State.onTested (s : State) (n : Nat) : Bool :=
  let c := s.ch n
  let code := s.chCode n
  s.olRuns (bankOf n) && bitOf (s.cfgw n 0) 27 && (code == 0x01 || code == 0x02 || code == 0x03 || code == 0x04) &&
    (c.drive == .on || (c.drive == .pwm && decide (256 ≤ (s.ch (s.head n)).duty))) && (!s.bridged n || n % 2 == 0)

/-- The on-state test's filter: since when the tested value has stayed below OLTHR. A value above it clears the live flag at once; nothing
else does, so OLON_LIVE stays as it is through an off time, a DESIGN CHOICE (R138; log 120). -/
def State.loadCheck (s : State) (n : Nat) : State :=
  if s.loadSeen n then (s.put (chDiag_olonLive n) 0).modCh n (fun c => { c with olLow := none })
  else
    let on := s.onTested n
    s.modCh n (fun c => { c with olLow := if on then some (c.olLow.getD s.now) else none })

/-- The means that a channel's AVG selects, with one more code; `mean` says that it counts for the on-time mean, `edge` that it fell during
a switching edge and counts for none (R135). -/
def State.addSample (s : State) (n code : Nat) (mean edge : Bool) : State :=
  let z := codeInt (chClass n) code
  let win := if s.avg n = 3 then ms 16 else ms 1
  let t := s.modCh n (fun c => { c with
    sqSum := c.sqSum + z.natAbs ^ 2, sqCnt := c.sqCnt + 1,
    onSum := if mean then c.onSum + z else c.onSum,
    onCnt := if mean then c.onCnt + 1 else c.onCnt,
    samples := if s.avg n < 2 then []
      else (if edge then c.samples else (s.now, z) :: c.samples).filter (fun p => decide (s.now < p.1 + win)) })
  match s.avg n with
  | 0 => if edge then t else t.put (chI_mean n) code
  | 1 => t
  | _ => t.put (chI_mean n) (windowMean s.now win (t.ch n).samples (s.get (chI_mean n)))

/-- A converter's sample of channel `n`: the latest code, the segment currents and the means, and what the bank follows on them: the end of
limiting, the segments' shares, the on-state open-load test, a valve's chopping and arrival, a bridge's motor (R122, R134, R135, R138;
spec/07, R150, R157; spec/08, R184, R185, R187 to R191). -/
def State.takeSample (s : State) (n code : Nat) (mean edge : Bool) (segs : List Nat) : State :=
  let ma := milliAmps (chClass n) code
  let t := (s.put (bankSense_curValid (bankOf n)) 1).put (chI_sample n) code
  let t := if chClass n = .H then
      ((t.put (chSeg_sega n) (segs.getD 0 0)).put (chSeg_segb n) (segs.getD 1 0)).put (chSeg_segc n) (segs.getD 2 0)
    else t
  let t := (((t.addSample n code mean edge).limitCheck n ma).segCheck n segs ma).loadCheck n
  let t := (t.lookArrival n (codeInt (chClass n) code)).chop n code
  if t.bridged n = true ∧ n % 2 = 0 then t.bridgeSample (bridgeOf n) code else t

/-- CURRENT_SAMPLE: the converter's sample of the next channel in the fixed order; `on` says it fell in an on time, `edge` during
a switching edge, `settling` within 2 µs after one (R134, R135). -/
def execCurrentSample (bank : Fin 8) (slot : Fin 8) (code : BitVec 14) (on edge settling : Bool) (segs : List (BitVec 10)) (s : State) :
    Host.Outcome State Fault Refusal :=
  act (fun s =>
    let b := bank.val
    if s.domOn (Dm.bank b) = false ∨ (s.bank b).curFail = true ∨ (s.bank b).slot ≠ slot.val then s
    else
      (s.modBank b (fun x => { x with slot := (slot.val + 1) % 8 })).takeSample (8 * b + slot.val) code.toNat (on && !edge && !settling) edge
        (segs.map (fun x => x.toNat))) s

/-- VOUT above VOL; on a bridge, more than 1.0 V between the two outputs (R139, R140). -/
def State.volSeen (s : State) (n : Nat) : Bool :=
  let v := centiVolts (s.get (chVt_vout n))
  if s.bridged n then
    let o := centiVolts (s.get (chVt_vout (n / 2 * 2 + 1)))
    let e := centiVolts (s.get (chVt_vout (n / 2 * 2)))
    decide (100 < (if e < o then o - e else e - o))
  else decide (((200 + 50 * s.get (bankOlcfg_vol (bankOf n)) : Nat) : Int) < v)

/-- A channel whose off-state tests run: off, and no odd channel of a bridge (R139, R140). -/
def State.offTested (s : State) (n : Nat) : Bool :=
  s.olRuns (bankOf n) && (s.ch n).drive == .off && (!s.bridged n || (n % 2 == 0 && (s.br (bridgeOf n)).st == .coast))

/-- The off-state tests of a channel at a scan: since when the tested voltage has stood above its threshold with the continuous pull-up on,
what it was at the last scan of an open window, and since when VOUT has been at 6.0 V or more; live flags that no longer hold clear (R139,
R140). DESIGN CHOICE: so does OLOFF_LIVE between two periodic windows (log 121). -/
def State.offCheck (s : State) (n : Nat) : State :=
  let off := decide ((s.ch n).drive = .off)
  let vol := off && s.volSeen n
  let stb := off && decide (600 ≤ centiVolts (s.get (chVt_vout n)))
  let t := if vol then s else s.put (chDiag_oloffLive n) 0
  let t := if stb then t else t.put (chDiag_stbLive n) 0
  let runs := s.olRuns (bankOf n)
  let tested := s.offTested n
  let pull := bits (s.cfgw n 0) 29 28 == 1
  t.modCh n (fun c => { c with
    volAt := if vol && tested && pull then some (c.volAt.getD s.now) else none
    olVol := if c.olWindow.any (fun a => decide (s.now ≤ a + ms 1)) then vol else c.olVol
    stbAt := if stb && runs then some (c.stbAt.getD s.now) else none })

/-- A bank's voltages and temperatures; live flags that no longer hold clear, and a channel that is off and above a temperature level
is held (R136, R138, R139; spec/07, R154). -/
def State.scanAux (s : State) (b : Nat) (vout tch : List (BitVec 12)) (vbat tcase : BitVec 12) : State :=
  let t := ((s.put (bankSense_auxValid b) 1).put (bankMeas_vbat b) vbat.toNat).put (bankMeas_tcase b) tcase.toNat
  let t := forEach (List.range 8) (fun k u =>
    (u.put (chVt_vout (8 * b + k)) (vout.getD k 0).toNat).put (chVt_tch (8 * b + k)) (tch.getD k 0).toNat) t
  forEach (List.range 8) (fun k u =>
    let n := 8 * b + k
    let u := u.offCheck n
    let off := decide ((u.ch n).drive = .off)
    let u := if off then u else u.loadCheck n
    u.modCh n (fun c => { c with
      scanMean := u.get (chI_mean n)
      hot := off && (u.aboveLevel n || (c.hot && !u.coolEnough n)) })) t

/-- AUXILIARY_SCAN: the bank's voltages and temperatures; live flags that no longer hold clear, and a channel
that is off and above a temperature level is held (R136, R138, R139; spec/07, R154). -/
def execAuxiliaryScan (bank : Fin 8) (vout tch : List (BitVec 12)) (vbat tcase : BitVec 12) (s : State) : Host.Outcome State Fault Refusal :=
  act (fun s =>
    if s.domOn (Dm.bank bank.val) = false ∨ (s.bank bank.val).auxFail = true then s
    else s.scanAux bank.val vout tch vbat tcase) s

/-! ### Open-load tests (spec/06, R137 to R141) -/

/-- When the tests of channel `n` last became free to run. -/
def State.olFree (s : State) (n : Nat) : Nat := Sparse.get (fun _ => 0) s.olFrom (bankOf n)

/-- OLFILT in ticks. -/
def State.olFilt (s : State) (n : Nat) : Nat := ms (4 ^ bits (s.cfgw n 0) 25 24)

/-- OPEN_LOAD_ON: the tested value has stayed below OLTHR for OLFILT, in a channel on for OLBLANK (R137, R138). -/
def execOpenLoadOn (ch : Fin 64) (s : State) : Host.Outcome State Fault Refusal :=
  act (fun s =>
    let n := ch.val
    let from_ := max ((s.ch n).edgeAt + ms (bits (s.cfgw n 0) 7 0)) (s.olFree n)
    if s.onTested n = true ∧ (s.ch n).olLow.any (fun a => decide (max a from_ + s.olFilt n ≤ s.now)) = true ∧ s.loadSeen n = false ∧
        s.flag (chDiag_olonLive n) = false then
      ((s.put (chDiag_olonLive n) 1).put (chDiag_olon n) 1).chFault n 0x0A
    else s) s

/-- OFF_TEST_WINDOW: in periodic mode the pull-up goes on for 1 ms every 100 ms; a window before it that saw
no open load breaks the run of two (R139). -/
def execOffTestWindow (ch : Fin 64) (s : State) : Host.Outcome State Fault Refusal :=
  act (fun s =>
    let n := ch.val
    if s.offTested n = true ∧ bits (s.cfgw n 0) 29 28 = 2 ∧ (s.ch n).olOpened.all (fun a => decide (a + ms 100 ≤ s.now)) = true then
      s.modCh n (fun c => { c with olWindow := some s.now, olVol := false, olSeen := c.olSeen && c.olWindow.isNone, olOpened := some s.now })
    else s) s

/-- OPEN_LOAD_OFF: VOUT above VOL with the pull-up on, for 1 ms, or at the end of two consecutive windows, as the last scan in each saw it
(R139, R140). -/
def execOpenLoadOff (ch : Fin 64) (s : State) : Host.Outcome State Fault Refusal :=
  act (fun s =>
    let n := ch.val
    let c := s.ch n
    let found : State → State := fun t =>
      if t.flag (chDiag_oloffLive n) then t else ((t.put (chDiag_oloffLive n) 1).put (chDiag_oloff n) 1).chFault n 0x0B
    if s.offTested n = false then s
    else match bits (s.cfgw n 0) 29 28 with
      | 1 => if s.volSeen n = true ∧ c.volAt.any (fun a => decide (a + ms 1 ≤ s.now)) = true then found s else s
      | 2 =>
        match c.olWindow with
        | some a =>
          if a + ms 1 ≤ s.now ∧ c.olVol = true then
            let t := s.modCh n (fun c => { c with olWindow := none, olSeen := true })
            if c.olSeen then found t else t
          else s
        | none => s
      | _ => s) s

/-- SHORT_TO_BAT: VOUT of 6.0 V or more for 1 ms on a channel that is OFF (R139). -/
def execShortToBat (ch : Fin 64) (s : State) : Host.Outcome State Fault Refusal :=
  act (fun s =>
    let n := ch.val
    if s.olRuns (bankOf n) = true ∧ (s.ch n).drive = .off ∧ (s.ch n).stbAt.any (fun a => decide (a + ms 1 ≤ s.now)) = true ∧
        600 ≤ centiVolts (s.get (chVt_vout n)) ∧ s.flag (chDiag_stbLive n) = false then
      ((s.put (chDiag_stbLive n) 1).put (chDiag_stb n) 1).chFault n 0x0C
    else s) s

end Sys2Proof.Machine
end

