-- ==== Sys2Proof/Machine/Drive.lean ====
section
/-! DEFINITION. Meanings of the drive-mode events: period ends, pulses, lamp ramps, valve phases, motor
motions and profile microcode (spec/08). -/

namespace Sys2Proof.Machine

/-! ### PWM (R169 to R172) -/

/-- The generator takes a duty while the channel, or its bridge's driving side, is on (R170, R172). -/
def State.useDuty (s : State) (n duty : Nat) : State :=
  let t := s.modCh n (fun c => { c with duty := duty })
  if s.bridged n then
    match (s.br (bridgeOf n)).st with
    | .forward => t.setBridge (bridgeOf n) .forward
    | .reverse => t.setBridge (bridgeOf n) .reverse
    | _ => t
  else t.modCh n (fun c => { c with drive := if c.drive = .on ∨ c.drive = .pwm then dutyDrive duty else c.drive })

/-- The on-time mean of the period that ends, where it held a valid sample (spec/06, R135). -/
def State.closeOnTime (s : State) (n : Nat) : State :=
  let c := s.ch n
  if c.onCnt = 0 then s
  else
    let m := rdiv c.onSum (c.onCnt : Int)
    let t := s.modCh n (fun c => { c with onMean := m, onSum := 0, onCnt := 0 })
    if s.avg n = 1 then t.put (chI_mean n) (unsigned 14 m) else t

/-- VALVE_PH's correction of the hold duty at a period end (R186). -/
def State.holdDuty (s : State) (n : Nat) (set : List Word) (duty : Nat) : Nat :=
  let (range, codes) := ampScale (chClass n)
  let ki : Int := ((setField set 3 23 16 : Nat) : Int)
  let num := ki * ((setField set 1 15 0 * 10 * codes : Nat) - (s.ch n).onMean * (range : Nat))
  let d := (duty : Int) + num.tdiv ((10 * codes : Nat) : Int)
  if d < 1 then 1 else if 0xFFF < d then 0xFFF else d.toNat

/-- The approach of a move: within DECEL source counts of the target the duty falls linearly to DUTY_MIN (R188). -/
def State.approachDuty (s : State) (k : Nat) (m : Move) : State :=
  let n := 48 + 2 * k
  let left := (signed 64 m.target - s.axOut m.axis).natAbs * 65536 / max 1 (s.axScale m.axis).natAbs
  let decel := setField m.set 4 15 0
  let low : Int := ((setField m.set 6 31 20 : Nat) : Int)
  let up := s.closing k
  let run : Int := ((if setField m.set 0 31 24 = 4 ∧ up = true ∧ (s.br k).norm = false then setField m.set 6 31 20
    else if m.duty = 0 then runDuty m.set up else m.duty : Nat) : Int)
  if (s.br k).ending.isSome ∨ decel = 0 ∨ decel < left ∨ s.isOn n = false ∨ (s.br k).mstate = .pinch then s
  else
    (s.useDuty n (low + rdiv ((run - low) * (left : Int)) (decel : Int)).toNat).modBr k (fun b => { b with mstate := .decel })

/-- A limp entry drives the channel: stored duties stay stored (spec/03, R53, R55). -/
def State.limpHolds (s : State) (n : Nat) : Bool := s.limpFor n && s.limpMode n != 5

/-- The values of the next period of a channel that drives: a lamp's ramp or standing duty and a valve's hold duty corrected, and
stored values in use where the channel has no profile, pulse or move, and no limp entry drives it (R171, R183, R186; spec/03, R53). A
lamp's PHASE and DIV come into use with them. -/
def State.nextPeriod (s : State) (n : Nat) : State :=
  let c := s.ch n
  let fresh := c.onCnt != 0
  let t := s.closeOnTime n
  match c.profile with
  | some p =>
    let vnom := setField p.set 1 15 0
    if p.code = 1 then
      let t := if s.get (bankPwm_pending (bankOf n) (n % 8)) = 0 then t else t.applyPwm n
      let d :=
        if p.phase = Phase.ramp then
          let dt := min (s.now - p.startAt) (ms (setField p.set 1 31 16))
          ((p.duty : Int) + rdiv (((p.dutyEnd : Int) - (p.duty : Int)) * (dt : Int)) ((ms (setField p.set 1 31 16) : Nat) : Int)).toNat
        else p.duty
      t.useDuty n (t.lampDuty (bankOf n) d vnom)
    else if p.code = 2 ∧ p.phase = Phase.valveHold ∧ fresh = true then
      let d := t.holdDuty n p.set p.duty
      (t.modCh n (fun c => { c with profile := some { p with duty := d } })).useDuty n d
    else t
  | none =>
    match (if s.bridged n = true ∧ n % 2 = 0 then (s.br (bridgeOf n)).move else none) with
    | some m => t.approachDuty (bridgeOf n) m
    | none =>
      if (s.pairOf n).any (fun k => (s.ch k).pulse.isSome) ∨ (s.bridged n = true ∧ n % 2 = 1) ∨ s.limpHolds n = true ∨
          s.get (bankPwm_pending (bankOf n) (n % 8)) = 0 then t
      else
        let u := t.applyPwm n
        u.useDuty n (u.ch n).duty

/-- PWM_PERIOD_END, where the channel's running period ends: next-period values take effect; a lamp's ramp or standing duty and a valve's hold duty
are corrected; a move's approach is followed (R171, R183, R186, R188). -/
def execPwmPeriodEnd (ch : Fin 64) (s : State) : Host.Outcome State Fault Refusal :=
  act (fun s =>
    let n := ch.val
    if (s.ch n).drive = .off ∨ s.domOn (Dm.bank (bankOf n)) = false ∨ s.inPeriod n ≠ 0 then s
    else
      s.nextPeriod n) s

/-- The edges that the channel's own generator makes in this tick: at the start of an off time the 200 µs timer pauses (R170; spec/07,
R150). -/
def State.pwmTick (s : State) (n : Nat) : State :=
  if (s.ch n).drive ≠ .pwm then s
  else
    let was := ({ s with now := s.now - 1 } : State).pwmHigh n
    let is := s.pwmHigh n
    if was = true ∧ is = false then s.modCh n (fun c => { c.offTime s.now with edgeV := s.vbatCode (bankOf n) })
    else if was = false ∧ is = true then s.modCh n (fun c => { c with edges := c.edges + 1, edgeV := s.vbatCode (bankOf n) })
    else s

/-- A frame of the bank ends now: eight base periods make one, and frames follow each other from `frameAt` on (R169). -/
def State.frameEnds (s : State) (b : Nat) : Bool :=
  decide ((s.bank b).frameAt < s.now) && (s.now - (s.bank b).frameAt) % (8 * s.get (bankPwmbase_period b)) == 0

/-- BASE_FRAME_END: a pending base change takes effect at the end of a bank frame (R169). -/
def execBaseFrameEnd (bank : Fin 8) (s : State) : Host.Outcome State Fault Refusal :=
  act (fun s =>
    let b := bank.val
    match (s.bank b).newPeriod with
    | some p => if s.frameEnds b = false then s else ((s.modBank b (fun x => { x with newPeriod := none, frameAt := s.now })).put (bankPwmbase_period b) p).put (bankPwmbase_pending b) 0
    | none => s) s

/-- PULSE_END: WIDTH after its edge start the pulse turns the channel off; RESULT is the measured width (R175). -/
def execPulseEnd (ch : Fin 64) (width : Word) (s : State) : Host.Outcome State Fault Refusal :=
  act (fun s =>
    let n := ch.val
    match (s.ch n).pulse with
    | some { width := w, startAt := some a, .. } =>
      if a + us w ≤ s.now then ((s.endPulse n width.toNat).chanOff n).clearCmd n else s
    | _ => s) s

/-! ### Lamps and valves (R183 to R186) -/

/-- RAMP_END: at RAMP_T the lamp stands at its end duty, the command completes DONE, and the budget goes
back (R183, R178). -/
def execRampEnd (ch : Fin 64) (s : State) : Host.Outcome State Fault Refusal :=
  act (fun s =>
    let n := ch.val
    match (s.ch n).profile with
    | some p =>
      if p.code = 1 ∧ p.phase = .ramp ∧ (s.ch n).drive ≠ .off ∧ p.startAt + ms (setField p.set 1 31 16) ≤ s.now then
        let t := s.modCh n (fun c => { c with profile := some { p with phase := .lampHold, duty := p.dutyEnd } })
        ((t.useDuty n (t.lampDuty (bankOf n) p.dutyEnd (setField p.set 1 15 0))).profileDone n 0).releaseCh n
      else s
    | none => s) s

/-- The latency, 10 µs, that a valve's bank reports for an arrival at the detector's minimum: within the accuracy of ±24 µs of it (R185). -/
def Profile.latencyOf (p : Profile) (l : Nat) : Nat :=
  let d := p.det.lowAt - p.startAt
  satTo 65535 (max ((d - us 24) / us 10) (min l ((d + us 24 + us 10 - 1) / us 10)))

/-- ARRIVAL_CONFIRMED: the armature's arrival, latency in 10 µs, once the detector has confirmed it; reported to the
lead table (R185). -/
def execArrivalConfirmed (ch : Fin 64) (latency : Half) (s : State) : Host.Outcome State Fault Refusal :=
  act (fun s =>
    let n := ch.val
    match (s.ch n).profile with
    | some p =>
      if p.code = 2 ∧ p.phase = .peak ∧ p.arrival.isNone ∧ p.det.found = true ∧ s.flag (bankSense_curValid (bankOf n)) = true then
        let l := p.latencyOf latency.toNat
        let t := s.modCh n (fun c => { c with profile := some { p with arrival := some l, arrivalAt := s.now } })
        let t := t.put (bankArrival_last (bankOf n) (n % 8)) l
        if t.reports (bankOf n) then t.leadLearn n 2 (10 * l) p.startV else t
      else s
    | none => s) s

/-- PEAK_PHASE_END: T_SETTLE after arrival, or at T_PEAK_MAX, the valve enters hold, at the bank base (R186); without arrival it posts
VALVE_NO_ARRIVAL (R184). -/
def execPeakPhaseEnd (ch : Fin 64) (s : State) : Host.Outcome State Fault Refusal :=
  act (fun s =>
    let n := ch.val
    let b := bankOf n
    match (s.ch n).profile with
    | some p =>
      let settled := p.arrival.isSome && decide (p.arrivalAt + us (100 * setField p.set 4 31 16) ≤ s.now)
      if p.code = 2 ∧ p.phase = .peak ∧ (s.ch n).drive ≠ .off ∧ (settled = true ∨ p.startAt + us (100 * setField p.set 1 31 16) ≤ s.now) then
        let d := setField p.set 3 15 4
        let t := s.modCh n (fun c => { c with profile := some { p with phase := .valveHold, duty := d, chopOff := false }, div := 0 })
        let t := t.useDuty n d
        let t := match p.arrival with
          | some l => t.profileDone n 0 l
          | none => ((t.inc (bankArrival_noarr b (n % 8))).chFault n 0x0E).profileDone n 1
        t.releaseCh n
      else s
    | none => s) s

/-! ### Motors (R187 to R193) -/

/-- A ripple in a closing run notes the mean bridge current of the bin it is in (R190; log 18). -/
def State.noteBin (s : State) (k : Nat) (m : Move) : State :=
  let far := setField m.set 1 31 16
  let pos := s.axOut m.axis
  if setField m.set 0 31 24 = 4 ∧ s.closing k = true ∧ 0 ≤ pos ∧ pos ≤ (far : Int) then
    let i := (s.br k).mean250
    s.modBr k (fun b => { b with
      runBins := ((if b.runBins = [] then List.replicate 32 none else b.runBins)).zipIdx.map (fun p =>
        if p.2 = pinchBin far pos.toNat then some (rdiv i 10) else p.1) })
  else s

/-- A wiper that is parking drops to DUTY_PARK within PARK_PRE ripples of the predicted park position (R189). -/
def State.parkDuty (s : State) (k : Nat) : State :=
  let n := 48 + 2 * k
  match (s.ch n).profile with
  | some p =>
    let b := s.br k
    if p.code = 3 ∧ p.parkAt.isSome ∧ b.cycle ≠ 0 ∧ b.cycle ≤ b.sincePark + setField p.set 2 31 16 then
      (s.useDuty n (setField p.set 1 11 0)).modBr k (fun b => { b with mstate := .park })
    else s
  | none => s

/-- A ripple of bridge `k` counted: in the bridge's counts, on the axis `ax` that it feeds, with the sign of the bridge state, and
toward the approach of a move or a parking wiper's position (R187 to R190; spec/09, R202). -/
def State.rippled (s : State) (k ax : Nat) (filled : Bool) : State :=
  let n := 48 + 2 * k
  let fwd := (s.br k).lastFwd
  let t := s.modBr k (fun b => { b with
    counted := b.counted + b2n (!filled), filled := b.filled + b2n filled, sincePark := b.sincePark + 1
    phase := if filled then b.phase - 1000000000 else 0 })
  let t := if filled then t.inc (bankMotor_filled (bankOf n) (k % 4)) else t
  let t := if t.domOn Dm.crk ∧ (t.bank (bankOf n)).linkUp = true then t.axCount ax (fwd != (t.axf ax 0 15 15 == 1)) t.devTime else t
  match (t.br k).move with
  | some m => (t.noteBin k m).approachDuty k m
  | none => t.parkDuty k

/-- A ripple of a pinch reversal: its last one brakes the bridge (R190). -/
def State.reverseCount (s : State) (k : Nat) : State :=
  if (s.br k).mstate = .pinch then
    match (s.br k).reverseLeft with
    | some r =>
      if r ≤ 1 then ((s.modBr k (fun b => { b with reverseLeft := none, ending := some 5 })).brake k (ms 20)).clearCmd (48 + 2 * k)
      else s.modBr k (fun b => { b with reverseLeft := some (r - 1) })
    | none => s
  else s

/-- A ripple may be counted: rates from 20 Hz to 8 kHz are; one may be filled once the expected phase has advanced 1.5 ripples past the last
count (R187). -/
def State.rippleDue (s : State) (k : Nat) (filled : Bool) : Bool :=
  if filled then decide (1500000000 ≤ (s.br k).phase) else decide (20000 ≤ (s.br k).fEst) && decide ((s.br k).fEst ≤ 8000000)

/-- The axis that bridge `k`'s ripples feed: the one that its motor set names, with that bridge as its source (spec/09, R202). -/
def State.rippleAx (s : State) (k : Nat) : Option Nat :=
  let ax := setField (s.motorSet k) 4 31 24
  if 7 < ax ∨ s.axSource ax ≠ 6 ∨ s.axf ax 0 23 16 ≠ k then none else some ax

/-- RIPPLE_COUNT: a counted or filled ripple, with the sign of the bridge state, goes to the Crank axis that
the bridge feeds; approaches and the pinch reversal are measured by it (R187 to R190; spec/09, R202). -/
def execRippleCount (bridge : Fin 8) (filled : Bool) (s : State) : Host.Outcome State Fault Refusal :=
  act (fun s =>
    let k := bridge.val
    let n := 48 + 2 * k
    match s.rippleAx k with
    | none => s
    | some ax => if s.bridged n = false ∨ s.rippleDue k filled = false then s else (s.rippled k ax filled).reverseCount k) s

/-- More ripples were filled in a motion than it may fill (R187). -/
def State.tooManyFilled (s : State) (k : Nat) : Bool := decide (max 8 ((s.br k).counted / 8) < (s.br k).filled)

/-- A motion runs on a bridge: a move, or a motor profile. -/
def State.motionRuns (s : State) (k : Nat) : Bool :=
  (s.br k).move.isSome || (match (s.ch (48 + 2 * k)).profile with | some p => decide (3 ≤ p.code) | none => false)

/-- The axis of a bridge whose motion has ended stands still: no count tells it of the end (R187; spec/09, R208). -/
def State.axRest (s : State) (k : Nat) : State :=
  match s.rippleAx k with
  | some ax => if s.domOn Dm.crk then s.modAx ax (fun a => { a with v := 0 }) else s
  | none => s

/-- A motion is over: its axis stands still, and its command completes, with LOST_POSITION and the normalisation dropped where too many
ripples were filled (R187, R188, R190, R191). -/
def State.motionOver (s : State) (k : Nat) : State :=
  let n := 48 + 2 * k
  let b := s.br k
  let lost := s.tooManyFilled k
  let code := if lost then 7 else match b.ending with | some c => c | none => 0
  let t := s.axRest k
  let t := if lost then t.modBr k (fun b => { b with norm := false }) else t
  let t := if b.ending = some 5 then t.post (t.ownerList 0 n) 6 0x01 k 0 b.pinchPos else t
  let stop := t.isOn n && (lost || b.move.isSome)
  let t := if b.move.isSome then (t.endMove k code).clearCmd n
    else if lost then (t.endProfile n 7).clearCmd n
    else t
  if stop then t.brake k (ms 20) else t

/-- f_est has stayed below 20 Hz for 20 ms, or too many ripples were filled (R187, R191). -/
def State.motionDone (s : State) (k : Nat) : Bool :=
  (s.br k).slowAt.any (fun a => decide (a + ms 20 ≤ s.now)) || s.tooManyFilled k

/-- MOTION_END: f_est has stayed below 20 Hz for 20 ms, or too many ripples were filled: the motion is over and
its command completes; too many filled ripples give LOST_POSITION and drop the normalisation; PINCH is
posted at the end of a reversal (R187, R188, R190, R191). -/
def execMotionEnd (bridge : Fin 8) (s : State) : Host.Outcome State Fault Refusal :=
  act (fun s =>
    let k := bridge.val
    let n := 48 + 2 * k
    if s.bridged n = false ∨ (s.br k).reverseLeft.isSome ∨ s.uvCh n = true ∨ s.motionDone k = false then s
    else if s.motionRuns k = false then s.axRest k
    else s.motionOver k) s

/-- TARGET_CROSSING: at the target the bridge brakes for 20 ms, then coasts; a window's closing target in the
seal zone runs on to the end stop (R188, R190). -/
def execTargetCrossing (bridge : Fin 8) (s : State) : Host.Outcome State Fault Refusal :=
  act (fun s =>
    let k := bridge.val
    let n := 48 + 2 * k
    let b := s.br k
    match b.move with
    | some m =>
      let pos := s.axOut m.axis
      let tgt := signed 64 m.target
      let down := s.closing k
      let crossed := if down then decide (pos ≤ tgt) else decide (tgt ≤ pos)
      let sealZone := setField m.set 0 31 24 == 4 && down && decide (tgt < ((setField m.set 1 15 0 : Nat) : Int))
      if s.isOn n = true ∧ b.ending.isNone ∧ b.mstate ≠ .pinch ∧ crossed = true ∧ sealZone = false then
        ((s.modBr k (fun b => { b with ending := some 0 })).brake k (ms 20)).clearCmd n
      else s
    | none => s) s

/-- BRAKE_END: a timed brake ends: the bridge coasts, or starts its pinch reversal through a SAFETY request
(R188 to R190; spec/11, R240). -/
def execBrakeEnd (bridge : Fin 8) (s : State) : Host.Outcome State Fault Refusal :=
  act (fun s =>
    let k := bridge.val
    let n := 48 + 2 * k
    let b := s.br k
    match b.brakeEnd with
    | some e =>
      if s.now < e then s
      else
        let t := s.modBr k (fun b => { b with brakeEnd := none })
        match b.reverseLeft, b.move with
        | some r, some m =>
          if r = 0 then ((t.modBr k (fun b => { b with reverseLeft := none, ending := some 5, mstate := .idle })).setBridge k .coast).clearCmd n
          else ((t.modCh n (fun c => { c with duty := setField m.set 0 11 0 }))).request (.pinch k) [(n, s.budgetI n)] 0 none none
        | _, _ => (t.modBr k (fun b => { b with mstate := .idle })).setBridge k .coast
    | none => s) s

/-- A closing run that has crossed the whole pinch zone teaches each bin's reference by one eighth of the
difference; the run's bins are cleared (R190). -/
def State.learnBins (s : State) (k : Nat) : State :=
  let b := s.br k
  if b.runBins.length = 32 ∧ b.runBins.all (fun x => x.isSome) = true then
    let old := if b.bins = [] then List.replicate 32 none else b.bins
    let new := (old.zip b.runBins).map (fun p => match p.1, p.2 with
      | some r, some i => some (r + rdiv (i - r) 8)
      | none, i => i
      | r, none => r)
    (s.modBr k (fun b => { b with bins := new, runBins := [] })).put (bankPinch_learned (6 + k / 4) (k % 4)) 32
  else s.modBr k (fun b => { b with runBins := [] })

/-- The axis of a bridge set by its motor, and marked normalised: a jump and a reference mark (R190, R193;
spec/09, R202, R206, R210). DESIGN CHOICE: at the REVERSE end stop of a POSITION set the position stays as it is (log 124). -/
def State.normalise (s : State) (k axis : Nat) (setZero : Bool) : State :=
  let t := s.modBr k (fun b => { b with norm := true })
  if 7 < axis ∨ t.domOn Dm.crk = false then t
  else (if setZero then t.axPreset axis 0 3 else t).axRefMotor axis

/-- The bridge current has been at or above STALL_I for STALL_T (R188). -/
def State.stalled (s : State) (k : Nat) : Bool :=
  (s.br k).stallAt.any (fun a => decide (a + ms (setField (s.motorSet k) 3 15 0) ≤ s.now))

/-- STALL: the current has been at or above STALL_I for STALL_T. In a window's seal zone, or while it is not
normalised, it is the closed end stop; at a position set's ends it normalises; after T_MIN it is a lock's
end stop, and its STALL_T may have begun before T_MIN, a DESIGN CHOICE (log 125); anywhere else it ends the motion with STALL (R188, R190, R192,
R193). -/
def execStall (bridge : Fin 8) (s : State) : Host.Outcome State Fault Refusal :=
  act (fun s =>
    let k := bridge.val
    let n := 48 + 2 * k
    let b := s.br k
    if s.bridged n = false ∨ s.isOn n = false ∨ s.stalled k = false then s
    else match b.move, (s.ch n).profile with
      | some m, _ =>
        let code := setField m.set 0 31 24
        let pos := s.axOut m.axis
        if b.ending.isSome then s
        else if code = 4 ∧ s.closing k = true ∧ b.mstate ≠ .pinch ∧ (b.norm = false ∨ pos < ((setField m.set 1 15 0 : Nat) : Int)) then
          ((((s.normalise k m.axis true).learnBins k).modBr k (fun b => { b with ending := some 0 })).brake k (ms 20)).clearCmd n
        else if code = 6 then
          (((s.normalise k m.axis b.lastFwd).modBr k (fun b => { b with ending := some 0 })).brake k (ms 20)).clearCmd n
        else ((s.modBr k (fun b => { b with ending := some 4, runBins := [], reverseLeft := none })).brake k (ms 20)).clearCmd n
      | none, some p =>
        if p.code = 5 ∧ p.startAt + ms (setField p.set 1 15 0) ≤ s.now then ((s.endProfile n 0).chanOff n).clearCmd n
        else if p.code = 3 then ((s.endProfile n 4).brake k (ms 20)).clearCmd n
        else s
      | none, none => s) s

/-- PARK_EDGE: the debounced park edge of a wiper. It teaches the ripples of a cycle; while parking the bridge
brakes for 50 ms, the edge is the axis's reference mark, and the profile completes DONE (R189). -/
def execParkEdge (bridge : Fin 8) (s : State) : Host.Outcome State Fault Refusal :=
  act (fun s =>
    let k := bridge.val
    let n := 48 + 2 * k
    match (s.ch n).profile with
    | some p =>
      if p.code ≠ 3 ∨ s.isOn n = false then s
      else
        let t := s.modBr k (fun b => { b with cycle := if b.parkSeen then b.sincePark else b.cycle, sincePark := 0, parkSeen := true })
        if p.parkAt.isNone then t
        else
          let ax := setField p.set 4 31 24
          let t := if 7 < ax ∨ t.domOn Dm.crk = false then t else t.axRefMotor ax
          ((t.endProfile n 0).brake k (ms 50)).clearCmd n
    | none => s) s

/-- PARK_TIMEOUT: no park edge within PARK_TIMEOUT of the start of parking (R189). -/
def execParkTimeout (bridge : Fin 8) (s : State) : Host.Outcome State Fault Refusal :=
  act (fun s =>
    let k := bridge.val
    let n := 48 + 2 * k
    match (s.ch n).profile with
    | some { code := 3, set := set, parkAt := some a, .. } =>
      if s.isOn n = true ∧ a + ms (setField set 2 15 0) ≤ s.now then ((s.endProfile n 6).brake k (ms 20)).clearCmd n else s
    | _ => s) s

/-- PINCH_DETECTION: during closing, outside the seal zone, the current has stayed above the reference by
PINCH_DI for PINCH_T: brake, and 20 ms later reverse (R190, R191). -/
def execPinchDetection (bridge : Fin 8) (s : State) : Host.Outcome State Fault Refusal :=
  act (fun s =>
    let k := bridge.val
    let n := 48 + 2 * k
    let b := s.br k
    match b.move with
    | some m =>
      if s.isOn n = true ∧ b.ending.isNone ∧ b.reverseLeft.isNone ∧ s.pinchZone k m = true ∧
          b.pinchAt.any (fun a => decide (a + ms (setField m.set 2 15 8) ≤ s.now)) = true then
        let t := s.inc (bankPinch_events (bankOf n) (k % 4))
        (t.modBr k (fun b => { b with
          pinchPos := unsigned 32 (s.axOut m.axis), reverseLeft := some (16 * setField m.set 2 7 0), runBins := [] })).brake k (ms 20)
      else s
    | none => s) s

/-- LOCK_TIME_LIMIT: a lock that has run to T_MAX (R192). -/
def execLockTimeLimit (bridge : Fin 8) (s : State) : Host.Outcome State Fault Refusal :=
  act (fun s =>
    let n := 48 + 2 * bridge.val
    match (s.ch n).profile with
    | some { code := 5, set := set, startAt := a, .. } =>
      if s.isOn n = true ∧ a + ms (setField set 1 31 16) ≤ s.now then ((s.endProfile n 1).chanOff n).clearCmd n else s
    | _ => s) s

/-! ### Profile microcode (R181, R182) -/

/-- A channel or bridge is in a transient phase: of a running profile or move, and not in the ROM's brake after one (R178, R181). -/
def State.transient (s : State) (n : Nat) : Bool :=
  (match (s.ch n).profile with
    | some p => p.phase != .lampHold && p.phase != .valveHold && decide ((s.ch n).drive ≠ .off)
    | none => false) ||
  (decide (48 ≤ n) && (s.br (bridgeOf n)).move.isSome)

/-- A profile or move ends with a code and the ROM goes on as the table "ROM fallback of profiles" gives. -/
def State.romFallback (s : State) (n code : Nat) : State :=
  match (s.ch n).profile with
  | some p =>
    let t := s.endProfile n code
    if p.code ≤ 2 then
      if p.code = 2 ∧ p.phase = .peak ∧ (s.ch n).drive ≠ .off then t.useDuty n (setField p.set 3 15 4) else t
    else if t.isOn n then (t.brake (bridgeOf n) (ms 20)).clearCmd n
    else t.clearCmd n
  | none =>
    if 48 ≤ n ∧ n % 2 = 0 ∧ (s.br (bridgeOf n)).move.isSome then
      let t := s.endMove (bridgeOf n) code
      if t.isOn n then (t.brake (bridgeOf n) (ms 20)).clearCmd n else t.clearCmd n
    else s

/-- UCODE_IDLE_POINT: at the bank's idle point a freshly loaded store becomes active (R181). -/
def execUcodeIdlePoint (bank : Fin 8) (s : State) : Host.Outcome State Fault Refusal :=
  act (fun s =>
    let b := bank.val
    if (s.bank b).pendingStore = true ∧ ((List.range 8).any (fun k => s.transient (8 * b + k))) = false then
      s.modBank b (fun x => { x with store := 1 - x.store, storeOk := true, loaded := true, pendingStore := false })
    else s) s

/-- The active store of a bank counts as failed: every profile of the bank ends with UCODE_FAULT (R181, R438). -/
def State.ucodeFail (s : State) (b : Nat) : State :=
  let t := s.modBank b (fun x => { x with storeOk := false })
  forEach (List.range 8) (fun k u => u.romFallback (8 * b + k) 9) t

/-- UCODE_CRC: the active store fails its CRC check (R181). -/
def execUcodeCrc (bank : Fin 8) (s : State) : Host.Outcome State Fault Refusal :=
  act (fun s =>
    let b := bank.val
    (s.fault (0x40 + b) 0x12 (b + (s.bank b).store * 0x100)).ucodeFail b) s

end Sys2Proof.Machine
end

