-- ==== Sys2Proof/Machine/StartOps.lean ====
section
/-! DEFINITION. The limp-home map, Coast hold, SYS resets and the supplies: the operations that several rows share
(spec/03, R44 to R64). -/

namespace Sys2Proof.Machine

/-! ### The limp map (R51 to R55) -/

/-- One channel takes its limp-map entry: under Coast hold HOLD_LAST keeps the last commanded state on the ROM's
fallback; any other entry replaces pulses, profiles, moves and following, with a turn-on drawn as SAFETY. A latched or
disabled channel stays off, a cooling one whose entry drives it, LOW among them, restarts when it may, one in undervoltage at the threshold
(R44, R48, R52, R54, R61; spec/07, R163; spec/08, R182). -/
def State.limpChan (s : State) (n : Nat) (coast : Bool) : State :=
  let m := s.limpMode n
  if coast = true ∧ m = 5 then s.romFallback n 8
  else
    let s := s.loseEdge n (some St.flushed)
    let t := s.withdraw (fun r => r.parts.any (fun p => p.1 == n)) St.flushed
    let t := (t.endPulse n (t.pulseWidth n)).endProfile n 8
    let t := if 48 ≤ n ∧ n % 2 = 0 then
        (t.endMove (bridgeOf n) 8).modBr (bridgeOf n) (fun b => { b with mstate := .idle, brakeEnd := none, reverseLeft := none, pass := none })
      else t
    let e := s.limpEntry n
    let f : Option Follow := if m = 3 ∨ m = 4 then some { sel := bits e 12 11, inv := bitOf e 10, limp := true } else none
    let t := t.modCh n (fun c => { c with follow := f })
    let c := t.ch n
    let want := t.limpWant n
    let meant (u : State) (hot : Bool) : State := u.modCh n (fun x => { x with
      cmdOn := want != .low, lowSide := want == .low, cooling := x.cooling || hot })
    let t :=
      if c.latched ∨ c.disabled then t.driveTo n .off
      else if want = .off then
        ((t.limpDrive n).modCh n (fun x => { x with cmdOn := false, lowSide := false, cooling := false })).release (fun g => g.ch == n)
      else if c.cooling ∨ t.uvCh n = true then meant t false
      else if c.drive ≠ .off then t.limpDrive n
      else if t.tooHot n then meant t true
      else if want = .low then t.limpDrive n
      else t.request (.limp n) [(n, t.budgetI n)] 0 none none
    if 48 ≤ n then t.syncBridge (bridgeOf n) else t

/-- A bank's eight channels take their limp entries. -/
def State.limpBank (s : State) (b : Nat) (coast : Bool) : State :=
  (forEach (List.range 8) (fun k t => t.limpChan (8 * b + k) coast) s).modBank b (fun x => { x with limpDue := none })

/-- The LH following of a channel under the limp map: a SAFETY turn-on, or off (R54). -/
def State.limpFollow (s : State) (n : Nat) : State :=
  let c := s.ch n
  let t :=
    if c.latched ∨ c.disabled then s
    else if s.limpOn n = false then
      (((s.driveTo n .off).modCh n (fun x => { x with cmdOn := false, cooling := false })).release (fun g => g.ch == n))
    else if c.cooling ∨ s.uvCh n = true then s.modCh n (fun x => { x with cmdOn := true })
    else if c.drive ≠ .off then s
    else if s.tooHot n then s.modCh n (fun x => { x with cmdOn := true, cooling := true })
    else s.request (.limp n) [(n, s.budgetI n)] 0 none none
  if 48 ≤ n then t.syncBridge (bridgeOf n) else t

/-- A bank has an entry of mode PWM or PWM_FOLLOW. -/
def State.limpPwm (s : State) (b : Nat) : Bool := (List.range 8).any (fun k => s.limpMode (8 * b + k) == 2 || s.limpMode (8 * b + k) == 4)

/-- A channel's present output state becomes its commanded state: what waits to bring it back is withdrawn, and following ends; in COOLING
it stays commanded on where its entry drove it on, with HOLD_LAST where it was commanded on (R55, R63). A bridge driven in REVERSE keeps
the values that its odd channel runs on. -/
def State.adoptOut (s : State) (n : Nat) : State :=
  let c := s.ch n
  let on := c.drive == .on || c.drive == .pwm
  let drove := if s.limpMode n = 5 then c.cmdOn else s.limpOn n
  let mine (r : Req) : Bool := match r.src with | .uv k | .follow k | .act k => k == n | _ => false
  let t : State := { s with line := s.line.filter (fun r => !mine r) }
  let t := t.modCh n (fun x => { x with
    cmdOn := !x.latched && (on || (x.cooling && drove)), lowSide := x.drive == .low || (x.cooling && x.lowSide && !x.latched), follow := none })
  let store (u : State) (m : Nat) : State :=
    let b := m / 8; let k := m % 8
    ((((u.put (bankPwm_duty b k) c.duty).put (bankPwm_phase b k) c.phase).put (bankPwm_div b k) c.div).put (bankPwm_pending b k) 0)
  if on = false then t
  else if s.bridged n = true ∧ n % 2 = 1 then
    ((store (store t n) (n - 1)).modCh (n - 1) (fun x => if x.drive = .low then { x with duty := c.duty, phase := c.phase, div := c.div } else x))
  else store t n

/-- The open-load tests of some banks start afresh, as after a suspension: no partial result stays (spec/06, R137). -/
def State.olAfresh (s : State) (banks : List Nat) : State :=
  let t : State := { s with olFrom := banks.foldl (fun m b => Sparse.set (fun _ => 0) m b s.now) s.olFrom }
  forEach banks (fun b u => forEach (List.range 8) (fun k v => v.modCh (8 * b + k) (fun c => { c with
    olLow := none, volAt := none, stbAt := none, olWindow := none, olSeen := false })) u) t

/-- The limp map ends for the whole device: no output changes (R53, R55). -/
def State.limpEnd (s : State) : State :=
  let t := forEach (List.range 64) (fun n u => u.adoptOut n) s
  let t := forEach (List.range 8) (fun b u =>
    (if u.limpPwm b then u.put (bankPwmbase_period b) (limpPeriod (bits (u.get sysLimpbase_base) (2 * b + 1) (2 * b))) else u).modBank b
      (fun x => { x with ownLimp := false, limpDue := none })) t
  (t.put pwrStart_limp 0).olAfresh (List.range 8)

/-! ### The slot of OTP in use (R47, R51, R56, R60) -/

/-- The slot with the highest number whose CRC is good. -/
def State.limpSlot (s : State) : Option (Nat × LimpSlot) :=
  ((s.otp.slots.zipIdx.filterMap (fun p => p.1.bind (fun x => if x.crcGood then some (p.2, x) else none))).reverse).head?

/-- AON reads OTP: the map slot, its bases and its Coast time; a device in lifecycle state BLANK has every entry OFF (R47, R51, R53,
R60). -/
def State.readMap (s : State) : State :=
  match s.limpSlot with
  | some (k, x) =>
    let t := forEach (List.range 32) (fun j u => u.wr (sysLimpmap_even j).addr
      (if s.otp.lc = 0 then 0 else word ((nth 0 x.entries (2 * j + 1)).toNat * 0x10000 + (nth 0 x.entries (2 * j)).toNat))) s
    let t := (((t.put sysLimpbase_base x.bases.toNat).put sysCoastcfg_coastTime x.coast).put pwrStart_mapslot k).put pwrStart_mapblank 0
    { t with coastTime := x.coast }
  | none =>
    let t := forEach (List.range 32) (fun j u => u.wr (sysLimpmap_even j).addr 0) s
    { (((t.put sysLimpbase_base 0).put sysCoastcfg_coastTime 500).put pwrStart_mapblank 1) with coastTime := 500 }

/-- The map read, and LIMP_MAP_CRC for each programmed slot that fails its CRC (R51; log 85). -/
def State.readOtp (s : State) : State :=
  (s.otp.slots.zipIdx.filter (fun p => p.1.any (fun x => !x.crcGood))).foldl (fun (t : State) p => t.fault 0x83 0x1B p.2) s.readMap

/-- Each kind's settings programmed in OTP, which hold until full service; a kind that has none is blank (spec/17, R365; log 127). -/
def State.screeOtp (s : State) : State :=
  (s.otp.scree.filter (fun p => decide (p.1 ∈ faultKinds))).foldl (fun (t : State) p =>
    (t.wr (screeKind_pin p.1).addr (word (p.2.1.toNat / 256 * 256))).wr (screeQuiet_quiet p.1).addr (word (p.2.2.toNat % 65536))) s

/-! ### Coast hold (R59 to R63) -/

/-- Coast expiry, and the limp map applied at once by a storm or by COAST_TIME 0, for which EXPIRED is set too (log 72): every bank
takes its limp entries, armed events are cancelled, field outputs go off, and the limp map is
in force (R61). -/
def State.coastExpire (s : State) : State :=
  let t := match s.coastAt with
    | some a => s.put pwrCoast_elapsed (satTo 16383 ((s.now - a) / 100000))
    | none => s
  let t : State := { t with coastAt := none }
  let t := ((t.put pwrCoast_active 0).put pwrCoast_expired 1).put pwrStart_limp 1
  let t := t.cancelWhere (fun _ _ => true)
  let t := forEach (List.range 8) (fun b u => if u.domOn (Dm.bank b) then u.limpBank b true else u) t
  t.fqClear

/-- A SYS reset begins: Coast hold, unless COAST_TIME is 0; a third start within 10 s is a storm and applies the limp map
at once (R57 to R62). `cause` is the bit of PWR_RSTCAUSE. -/
def State.sysDown (s : State) (cause : Nat) : State :=
  let t := (s.unstage.put ⟨pwrRstcause_powerOn.addr, cause, cause⟩ 1).inc pwrRstcause_sysStarts
  let times := s.now :: s.sysStartTimes.filter (fun x => decide (s.now < x + sec 10))
  let storm := decide (3 ≤ times.length)
  let t : State := { t with
    sysUp := false, serving := false, rdy := false, sysStartTimes := times.take 3,
    coastTime := if s.coastAt.isSome then s.coastTime else s.get sysCoastcfg_coastTime }
  if storm then (((t.put pwrRstcause_resetStorm 1).coastExpire)).fault 0x83 0x1C 0
  else if t.coastAt.isSome then t
  else if t.coastTime = 0 then t.coastExpire
  else ({ t with coastAt := some t.now }.put pwrCoast_active 1).put pwrCoast_expired 0

/-- A reset of SYS from outside: in a power-up start, before SYS has come up, its cause is noted, and SYS stays in reset while RST_N
is low; where SYS sleeps, it is brought back to start (R57; log 72). -/
def State.sysReset (s : State) (cause : Nat) : State :=
  if s.vsup ≠ .valid then s
  else if s.sysUp = false ∧ s.sysReturn = false ∧ s.get pwrStart_phase < 2 then s.put ⟨pwrRstcause_powerOn.addr, cause, cause⟩ 1
  else if s.domOn Dm.sys then s.sysDown cause
  else (s.sysDown cause).askOn Dm.sys

/-! ### The fault summary in flash (spec/17, R380) -/

/-- The lifetime counts of the kinds that have any. -/
def State.sumList (s : State) : List (Nat × Nat × Nat) :=
  ((List.range 64).map (fun k => (k, s.get (screeSum_entries k), s.get (screeSum_actions k)))).filter (fun p => p.2.1 != 0 || p.2.2 != 0)

/-- SYS writes the counts to flash where they have changed. -/
def State.summaryWrite (s : State) : State :=
  if s.summaryLoaded = false ∨ s.summaryFlash = s.sumList then s else { s with summaryFlash := s.sumList, summaryAt := s.now }

/-- SYS adds the newest record to the counts gathered since the start. -/
def State.summaryLoad (s : State) : State :=
  if s.summaryLoaded then s
  else
    let t := s.summaryFlash.foldl (fun (u : State) p =>
      (u.incBy (screeSum_entries p.1) p.2.1).incBy (screeSum_actions p.1) p.2.2) s
    { t with summaryLoaded := true }

/-! ### The key store at a start (spec/18, R384, R389, R395) -/

/-- A slot's copies are made to match; a slot without a record that carries its version is FAULTY, with its event (R395). -/
def State.slotStart (s : State) (n : Nat) : State :=
  let k := s.keyArr.slot n
  let t : State := if k.repair = k then s else { s.eraseKey n with keyArr := s.keyArr.setSlot n k.repair }
  if k.code = 2 then t.post (0 :: t.ownerList 8 n) 23 0x04 n 0 0 else t

/-- The records that entering RETURN erases. -/
def returnRecords : List Nat := (List.range 48).map (fun k => k + 16) ++ (List.range 10).map (fun k => k + 65)

/-- What entering RETURN erases: the owner root, its slots, the enrolments and the release counter (R384). -/
def KeyArray.toReturn (a : KeyArray) : KeyArray := { a.eraseSlots true with owner := none, toks := [], mark := 0 }

/-- SYS starts and the key store with it: in RETURN the erasure is finished, the slots' copies are read and repaired, and
the keys are loaded; the cache is empty. -/
def State.keyStart (s : State) : State :=
  let t : State := if s.otp.lc = 3 ∧ s.keyArr.toReturn ≠ s.keyArr then { s.eraseKeys returnRecords with keyArr := s.keyArr.toReturn } else s
  let t := forEach (List.range 64) (fun n u => u.slotStart n) t
  ({ t.unstage with cache := [], remaskAt := t.now, rngAt := none, challenges := [] } : State).loadKeys

end Sys2Proof.Machine
end

