-- ==== Sys2Proof/Machine/ImmOps.lean ====
section
/-! DEFINITION. The immobiliser's requests, polls, releases and frames (spec/18, R400 to R413): the operations that its
rows, the inputs and the power domains share. -/

namespace Sys2Proof.Machine

/-- The state with the immobiliser changed. -/
def State.modImm (s : State) (f : Imm → Imm) : State := { s with imm := f s.imm }

/-- A field of the immobiliser's configuration word `k` (4 is IMM_CTL); AON holds them while UWB is Off (R410; log 27). -/
def State.immf (s : State) (k hi lo : Nat) : Nat :=
  bits (if (s.dom Dm.uwb).st = .off then (nth 0 s.imm.held k).toNat else (s.rd (immCfg0_ch.addr + 4 * k)).toNat) hi lo

/-- The lifecycle lets the immobiliser work (R383). -/
def State.immLive (s : State) : Bool := s.otp.lc == 1 || s.otp.lc == 2
/-- The events of class 21 go to HC0 and to the immobiliser's owner (R415). -/
def State.immPost (s : State) (code src arg data : Nat) : State := s.post (0 :: s.ownerList 0x0B 0) 21 code src arg data

/-- A slot holds a usable key with USAGE bit `b` (R397). -/
def State.slotServes (s : State) (n b : Nat) : Bool :=
  match (s.ka.slot n).live with
  | some r => bitOf r.usage b
  | none => false
/-- IMM_STAT.KEYS_OK. -/
def State.keysOk (s : State) : Bool := s.slotServes (s.immf 1 31 26) 2 && s.slotServes (s.immf 1 25 20) 3

/-! ### Park clock (R411) -/

/-- The park clock in seconds: the AON oscillator is free within 3 %. -/
def State.parkClock (s : State) : Nat := (s.now - s.imm.parkAt) * s.imm.parkRate / 100000000000

/-- The park mode that the clock gives: 1, 2, or 3 once the polls have stopped. -/
def State.parkCode (s : State) : Nat :=
  let stop := s.immf 0 9 4
  if stop ≠ 0 ∧ stop * 86400 ≤ s.parkClock then 3 else if 259200 ≤ s.parkClock then 2 else 1

/-- A change of the period, with its event. -/
def State.parkNote (s : State) : State :=
  let m := s.parkCode
  if m = s.imm.parkMode then s else (s.modImm (fun x => { x with parkMode := m })).immPost 0x04 0 m s.parkClock

/-- The park clock restarts. -/
def State.parkRestart (s : State) : State :=
  let (x, t) := s.drawNat
  (t.modImm (fun i => { i with parkAt := t.now, parkPoll := t.now, parkRate := 970 + x % 61 })).parkNote

/-- The enrolled slots of the key array in use. -/
def State.enrolled (s : State) : List (Nat × Tok) := (List.range 8).filterMap (fun k => (s.ka.tok k).map (fun t => (k, t)))

/-- Parked polling is on, its schedule apart (R411). -/
def State.parks (s : State) : Bool :=
  !s.imm.req && s.imm.rel == .blocked && s.immLive && (s.dom Dm.uwb).st != .off && s.enrolled.any (fun p => p.2.parkWake)

/-- IMM_PARK.MODE. -/
def State.parkShown (s : State) : Nat := if s.parks then s.parkCode else 0

/-! ### Requests and releases (R406, R407) -/

/-- A release ends for a reason: three BLOCK frames will follow. -/
def State.endRelease (s : State) (reason : Nat) : State :=
  if s.imm.rel = .released then
    let t := s.immPost 0x02 (s.imm.bound.getD 0x3FF) reason s.imm.fresh
    (t.modImm (fun i => { i with rel := .ending, reason := reason, blocks := 3, frameAt := t.now, loss := 0, absentAt := none })).parkRestart
  else s

/-- A request stands: its input is closed, or IMM_CTL.REQ is set. -/
def State.reqNow (s : State) : Bool :=
  let k := s.immf 2 25 20
  (within 1 0x28 k && s.swin (k - 1)) || s.immf 4 0 0 == 1

/-- The beginning and the end of a request are acted on. -/
def State.immCheck (s : State) : State :=
  let r := s.reqNow
  if r = s.imm.req then s
  else
    let t := s.modImm (fun i => { i with req := r, lastAt := none, retries := 0, retryAt := none })
    if r then t else t.endRelease 0x10

/-- ENDING is over. -/
def State.immBlocked (s : State) : State :=
  s.modImm (fun i => { i with rel := .blocked, bound := none, blocks := 0, lastAt := none, retries := 0, retryAt := none })

/-! ### UWB leaves and returns (R407, R412) -/

/-- The radio stops: the poll in progress ends without a decision. -/
def State.uwbStops (s : State) : State := s.modImm (fun i => { i with poll := none })

/-- UWB has gone Off: what AON holds of its configuration is kept, what the block kept of tokens and polls is lost, and with
PRESENCE a release ends LOSS_N poll periods later. To be called while the registers still stand. -/
def State.uwbGone (s : State) (held : List Word) : State :=
  let f := fun k hi lo => bits (nth 0 held k).toNat hi lo
  s.modImm (fun i => { i with
    held := held, poll := none, lastAt := none, pollCnt := 0, retries := 0, rejRun := 0, retryAt := none, loss := 0, toks := [],
    absentAt := if i.rel = .released ∧ f 2 27 27 = 1 then some (s.now + f 2 31 28 * ms (f 1 19 10)) else none })

/-- The words that AON holds. -/
def State.immWords (s : State) : List Word := (List.range 5).map (fun k => s.rd (immCfg0_ch.addr + 4 * k))

/-- UWB is back from Off. -/
def State.uwbBack (s : State) : State := (s.modImm (fun i => { i with absentAt := none })).immCheck

/-- The end of a release whose polls UWB Off has stopped. -/
def State.immTick (s : State) : State :=
  match s.imm.absentAt with
  | some e => if e ≤ s.now then (s.modImm (fun i => { i with absentAt := none })).endRelease 0x11 else s
  | none => s

/-! ### Polls (R400 to R404) -/

/-- UWB is On, or in Retention with no transition under way: AON brings it On for each poll and returns it (R412). -/
def State.uwbPolls (s : State) : Bool := s.domOn Dm.uwb || ((s.dom Dm.uwb).st == .ret && (s.dom Dm.uwb).going.isNone)

/-- A poll starts: POLLCNT rises, the POLL goes out, and the enrolments and keys in force are those of the poll. -/
def State.startPoll (s : State) : State :=
  let n := s.immf 1 31 26
  let c := (s.imm.pollCnt + 1) % 2 ^ 32
  let key := (s.baseKey n (.poll n)).getD []
  let p : Poll := { startAt := s.now, count := c, key := key, toks := s.enrolled.map (fun x => (x.1, x.2, (s.baseKey n (.token n x.2.id)).getD [])) }
  ((s.modImm (fun i => { i with poll := some p, pollCnt := c, lastAt := some s.now, retryAt := none })).inc immCnt_polls).emit
    (.uwb false c (s.immf 0 31 31) key)

/-- The distance of an answer in micrometres: half-open roundings as the spec leaves them (R401; log 10). One picosecond is
299.792458 micrometres. -/
def distOf (a : PollAnswer) (antDelay : Nat) : Int :=
  let den : Int := a.tround1 + a.tround2 + a.treply1 + a.treply2
  let num : Int := a.tround1 * a.tround2 - a.treply1 * a.treply2
  rnear (299792458 * (num - antDelay * den)) (1000000 * den)

/-- The tag that a REPORT must carry: the first eight bytes of the CMAC over POLLCNT, treply1 and tround2 (R400; the widths
and the unit of the two times are the model's, log 28). -/
def reportTag (key : List Byte) (count : Nat) (a : PollAnswer) : List Byte :=
  (Config.aesCmac key (beBytes 4 count ++ beBytes 8 a.treply1 ++ beBytes 8 a.tround2)).take 8

/-- Classes of an answer (R402). -/
inductive AnsClass where
  | none | invalid (reason : Nat) | collided (authentic : Bool) | far (d : Int) | valid (d : Int)
  deriving DecidableEq, Repr

/-- The reason for which an answer is INVALID, lowest first; 0 where it is authentic. -/
def invalidReason (key : List Byte) (count : Nat) (t : Tok) (a : PollAnswer) : Nat :=
  if a.stsOk = false then 1
  else if key = [] ∨ a.tag ≠ reportTag key count a ∨ a.count.toNat ≠ count then 2
  else if t.tol * 1000 < a.treply1 - t.treply * 1000 ∨ t.tol * 1000 < t.treply * 1000 - a.treply1 then 3
  else if 1000 < a.pathGap then 4
  else 0

/-- The class of a token slot's answer under a limit in cm. -/
def classOf (key : List Byte) (count : Nat) (t : Tok) (antDelay limit : Nat) (x : Option PollAnswer) : AnsClass :=
  match x with
  | none => .none
  | some a =>
    let why := invalidReason key count t a
    if a.collided then .collided (a.response && a.report && why == 0)
    else if a.response = false ∨ a.report = false then .none
    else if why ≠ 0 then .invalid why
    else
      let d := distOf a antDelay
      if d ≤ limit * 10000 then .valid d else .far d

/-- A distance in cm as the registers give it. -/
def distCm (d : Int) : Nat := satTo 16383 (rnear d 10000).toNat

/-- The class code of IMM_STATE (R414). -/
def AnsClass.code : AnsClass → Nat
  | .none => 0 | .valid _ => 1 | .far _ => 2 | .invalid _ | .collided _ => 3

/-- What is kept of a token slot. -/
def State.tokStat (s : State) (k : Nat) : TokStat := Sparse.get (fun _ => {}) s.imm.toks k
/-- The state with what is kept of a token slot changed. -/
def State.modTok (s : State) (k : Nat) (f : TokStat → TokStat) : State :=
  s.modImm (fun i => { i with toks := Sparse.set (fun _ => ({} : TokStat)) i.toks k (f (Sparse.get (fun _ => {}) i.toks k)) })

/-- A slot's INVALID answers of the last 60 s (R404). -/
def State.invalidCount (s : State) (k : Nat) : Nat := ((s.tokStat k).invalid.filter (fun t => decide (s.now < t + sec 60))).length

/-- A slot's class is recorded; an INVALID answer counts towards RELAY_SUSPECT (R404). -/
def State.noteAnswer (s : State) (k : Nat) (c : AnsClass) : State :=
  let t := s.modTok k (fun x => { x with
    last := c.code, dist := match c with | .valid d | .far d => distCm d | _ => x.dist })
  match c with
  | .invalid why =>
    let l := s.now :: (s.tokStat k).invalid.filter (fun t => decide (s.now < t + sec 60))
    if s.immf 0 3 0 ≤ l.length then (t.modTok k (fun x => { x with invalid := [] })).fault 0x85 0x31 (k + why * 0x100)
    else t.modTok k (fun x => { x with invalid := l })
  | _ => t

/-- The classes of a poll's enrolled slots. -/
def State.classes (s : State) (p : Poll) (limit : Nat) (answers : List PollAnswer) : List (Nat × Tok × AnsClass) :=
  p.toks.map (fun x => (x.1, x.2.1, classOf x.2.2 p.count x.2.1 (s.immf 2 15 0) limit (answers.find? (fun a => a.token.val == x.1))))

/-- The lowest slot that collided, and whether it held an authentic answer. -/
def collision : List (Nat × Tok × AnsClass) → Option (Nat × Bool)
  | [] => none
  | (k, _, .collided au) :: _ => some (k, au)
  | _ :: l => collision l

/-- A poll is rejected: counted, the second in a row is a fault, and up to three retries follow (R403). -/
def State.reject (s : State) (cs : List (Nat × Tok × AnsClass)) (k : Nat) (au : Bool) : State :=
  let t := cs.foldl (fun (u : State) c => match c.2.2 with
    | .collided _ => u.modTok c.1 (fun x => { x with last := 3 })
    | _ => u) (s.inc immCnt_rejected)
  let (x, t) := t.drawNat
  let i := t.imm
  let t := t.modImm (fun i => { i with
    rejRun := i.rejRun + 1, retries := if i.retries < 3 then i.retries + 1 else 0,
    retryAt := if i.retries < 3 then some (t.now + ms 20 + x % 1000001) else none })
  if i.rejRun = 1 then t.fault 0x85 0x30 (k + b2n au * 0x100) else t

/-- The VALID answers of a poll. -/
def validOf (cs : List (Nat × Tok × AnsClass)) : List (Nat × Tok × Int) :=
  cs.filterMap (fun c => match c.2.2 with | .valid d => some (c.1, c.2.1, d) | _ => none)

/-- The nearest token: the lowest slot within 1 cm of the smallest distance (R406). -/
def nearest (l : List (Nat × Tok × Int)) : Option (Nat × Int) :=
  match l with
  | [] => none
  | x :: r =>
    let m := r.foldl (fun m y => min m y.2.2) x.2.2
    (l.find? (fun y => decide (y.2.2 ≤ m + 10000))).map (fun y => (y.1, y.2.2))

/-- TOKEN_SEEN for each VALID answer, then RELEASED with a reason (R406). -/
def State.released (s : State) (l : List (Nat × Tok × Int)) (k : Nat) (d : Int) (reason : Nat) : State :=
  let t := l.foldl (fun (u : State) x => u.immPost 0x03 x.1 1 (distCm x.2.2)) s
  (t.immPost 0x01 k reason (distCm d)).modImm (fun i => { i with rel := .released, bound := some k, reason := reason, loss := 0 })

/-- The decision of a poll that is not rejected (R402, R406, R407). -/
def State.decidePoll (s : State) (cs : List (Nat × Tok × AnsClass)) : State :=
  let t := s.modImm (fun i => { i with rejRun := 0, retries := 0 })
  let t := cs.foldl (fun (u : State) c => u.noteAnswer c.1 c.2.2) t
  let l := validOf cs
  match t.imm.rel, nearest l with
  | .blocked, some (k, d) =>
    if t.imm.req = true ∧ t.immLive = true ∧ t.keysOk = true ∧ t.imm.fresh < 2 ^ 32 - 1 then
      (t.released l k d 0x01).modImm (fun i => { i with frameAt := t.now })
    else t
  | .released, some (k, d) =>
    let t := t.modImm (fun i => { i with loss := 0 })
    if t.immf 2 27 27 = 1 ∧ l.any (fun x => some x.1 == t.imm.bound) = false then t.released l k d 0x03 else t
  | .released, none =>
    let t := t.modImm (fun i => { i with loss := i.loss + 1 })
    if t.immf 2 27 27 = 1 ∧ t.immf 2 31 28 ≤ t.imm.loss then t.endRelease 0x11 else t
  | _, _ => t

/-! ### Frames (R408 to R410) -/

/-- The release or block frame of a FRESH value under a key (R408). -/
def State.relFrame (s : State) (key : List Byte) (fresh reason : Nat) (block : Bool) : CanFrame :=
  let who : Byte := match s.imm.bound with | some k => BitVec.ofNat 8 k | none => 0xFF
  let f : CanFrame := { ident := s.immf 3 28 0, ext := s.immf 3 31 31 == 1, brs := s.immf 3 30 30 == 1, fmt := 1 }
  let body : List Byte := [if block then 0xC3 else 0x3C, who, BitVec.ofNat 8 reason, 0]
  { f with data := beBytes 4 fresh ++
      (Config.aesCcm key (devId ++ beBytes 4 fresh ++ [0x52]) (beBytes 4 (frameWord0 f)) body).take 12 }

/-- The mark is raised before FRESH reaches it (R409). -/
def State.raiseMark (s : State) (fresh : Nat) : State :=
  if fresh < s.ka.mark then s
  else ((s.eraseKey 74).modKa (fun a => { a with mark := if fresh = 2 ^ 32 - 1 then 2 ^ 32 else min (a.mark + 65536) (2 ^ 32 - 1) })).useArray

/-- A frame that could not be queued (R410). -/
def State.relFail (s : State) (st : Byte) : State := (s.inc immCnt_txfail).immPost 0x05 0 st.toNat s.imm.fresh

/-- A release or block frame is sent, or fails. FRESH rises only for a frame that is queued. -/
def State.sendRel (s : State) (reason : Nat) (block : Bool) : State :=
  let (key, t) := s.derive (.release (s.immf 1 25 20))
  match key with
  | none => t.relFail St.badState
  | some k =>
    let f := t.imm.fresh
    let n := t.immf 2 19 17
    let t := t.raiseMark f
    let (u, ok) := t.ownTx n 0 (t.relFrame k f reason block) (.rel f)
    if ok then u.modImm (fun i => { i with fresh := f + 1 })
    else u.relFail (if u.domOn (Dm.can n) = true ∧ u.canSt n = 0 ∧ u.cmdRoom n 0 = false then St.noResource else St.badState)

/-- A commit of the RELSLOT slot, or the erasure of the release counter: FRESH starts again at 0 (R384, R409). -/
def State.freshReset (s : State) : State :=
  ((s.eraseKey 74).modKa (fun a => { a with mark := 0 })).modImm (fun i => { i with fresh := 0 })

end Sys2Proof.Machine
end

