-- ==== Sys2Proof/Machine/Crank.lean ====
section
/-! DEFINITION. The meanings of the Crank commands and events (spec/09): axis configuration, writes,
reads, publishing, device time, edges, standstill and losses. -/

namespace Sys2Proof.Machine

/-- AXIS_CONFIG: the record is checked as a whole, then commits (R196, R197). -/
def execAxisConfig (h : Hdr) (axis : Byte) (record : List Word) (s : State) : Host.Outcome State Fault Refusal :=
  act (fun s => s.runI h (.axisConfig h axis record) (fun t =>
    let n := axis.toNat
    if 7 < n ∨ record.length ≠ 8 ∨ axRecOk record = false then .no t St.badParam
    else if ¬ t.owns h.hc.val 1 n then .no t St.notOwner
    else { s := t.axCommit n record })) s

/-- AXIS_WRITE: a host measurement, or a preset of any other source (R205). -/
def execAxisWrite (h : Hdr) (axis : Byte) (pos : Dword) (s : State) : Host.Outcome State Fault Refusal :=
  act (fun s => s.runI h (.axisWrite h axis pos) (fun t =>
    let n := axis.toNat
    if 7 < n then .no t St.badParam
    else if ¬ t.owns h.hc.val 1 n then .no t St.notOwner
    else if t.axSource n = 8 then
      { s := (t.modAx n (fun a => { a with saturated := false })).axMeasure n (t.axInv n pos.toInt * 65536) t.devTime }
    else { s := t.axPreset n pos.toInt 1 })) s

/-- AXIS_READ: the status word, then position, velocity and device time (R80, R195). -/
def execAxisRead (h : Hdr) (axis : Byte) (s : State) : Host.Outcome State Fault Refusal :=
  act (fun s => s.runI h (.axisRead h axis) (fun t =>
    let n := axis.toNat
    if 7 < n then .no t St.badParam
    else { s := t, result := t.axStat n,
           cont := words64 (t.ax n).out ++ [word (t.axVel n)] ++ words64 (t.devTime : Int) ++ [0, 0, 0] })) s

/-- AXIS_PUBLISH: the axis joins or leaves the Ridge broadcast (R204). -/
def execAxisPublish (h : Hdr) (axis enable : Byte) (s : State) : Host.Outcome State Fault Refusal :=
  act (fun s => s.runI h (.axisPublish h axis enable) (fun t =>
    let n := axis.toNat
    if 7 < n ∨ 1 < enable.toNat then .no t St.badParam
    else if ¬ t.owns h.hc.val 1 n then .no t St.notOwner
    else { s := t.put ⟨crankPublish_axes.addr, n, n⟩ enable.toNat })) s

/-- TIME_READ: device time (R80, R212). -/
def execTimeRead (h : Hdr) (s : State) : Host.Outcome State Fault Refusal :=
  act (fun s => s.runI h (.timeRead h) (fun t =>
    { s := t, result := t.devTime % 2 ^ 32, cont := words64 (t.devTime : Int) ++ [0, 0] })) s

/-- A change of the terminals of axis `n`'s pair: none where it is no count, else whether it counts up
before INVERT; an illegal step where both change in ×4 (R199). -/
def edgeDecode (mode : Nat) (pa pb a b : Bool) : Option Bool × Bool :=
  if mode = 0 then
    if pa != a && pb != b then (none, true)
    else if pa != a || pb != b then (some ((pa == b) == Config.quadPositive), false)
    else (none, false)
  else if !pa && a then
    (some (if mode = 3 then true else if mode = 2 then !b else (!b) == Config.quadPositive), false)
  else (none, false)

/-- The pair of axis `n` as its decoder sees it from now on: a count is applied with its stamp, an illegal step is counted, and sixteen
within 1 s post ENCODER_QUAD; an FI pair's levels are taken after INV (R199, R200, R274). -/
def State.axEdge (s : State) (n : Nat) (a b : Bool) (tm : Nat) : State :=
  let x := s.ax n
  let inv (second : Nat) : Bool := s.axSource n == 2 && s.fif (2 * s.axf n 0 23 16 + second) 25 25 == 1
  let t := s.modAx n (fun x => { x with a := a, b := b })
  match edgeDecode (s.axf n 0 25 24) (x.a != inv 0) (x.b != inv 1) (a != inv 0) (b != inv 1) with
  | (_, true) =>
    let recent := s.devTime :: x.qerrs.filter (fun e => decide (s.devTime < e + sec 1))
    let t := t.inc (axDiag_qerr n)
    if 16 ≤ recent.length then (t.modAx n (fun x => { x with qerrs := [] })).fault (0x58 + n) 0x20 n
    else t.modAx n (fun x => { x with qerrs := recent })
  | (some up, _) => t.axCount n (up != (s.axf n 0 15 15 == 1)) tm
  | (none, false) => t

/-- FILT of a POS pair in ticks: no shorter pulse reaches the decoder (R196, R199). -/
def State.axFilt (s : State) (n : Nat) : Nat :=
  if s.axSource n = 1 then (match s.axf n 0 14 12 with | 1 => 5 | 2 => 10 | 3 => 20 | _ => 0) else 0

/-- An edge of a POS pair's terminal at its glitch filter: a level that differs from the decoded one waits from now on, and one that is
back before it has lasted is forgotten (R199). -/
def filtEdge (now : Nat) (decoded level : Bool) (waiting : Option Nat) : Option Nat :=
  if level = decoded then none else match waiting with | some t => some t | none => some now

/-- The edges that have outlasted the glitch filter reach the decoder, stamped as they were at the terminal; two that came in one sample
together (R199, R200). -/
def State.axSettle (s : State) (n : Nat) : State :=
  let x := s.ax n
  let due (e : Option Nat) : Bool := e.any (fun t => decide (t + s.axFilt n ≤ s.devTime))
  let go (t : State) (inA inB : Bool) (tm : Nat) : State :=
    let y := t.ax n
    (t.modAx n (fun y => { y with edgeA := if inA then none else y.edgeA, edgeB := if inB then none else y.edgeB })).axEdge n
      (if inA then !y.a else y.a) (if inB then !y.b else y.b) tm
  match due x.edgeA, due x.edgeB with
  | false, false => s
  | true, false => go s true false (x.edgeA.getD 0)
  | false, true => go s false true (x.edgeB.getD 0)
  | true, true =>
    let ta := x.edgeA.getD 0
    let tb := x.edgeB.getD 0
    if ta = tb then go s true true ta
    else if ta < tb then go (go s true false ta) false true tb
    else go (go s false true tb) true false ta

/-- The glitch filters of all POS pairs at a tick. -/
def State.axFilters (s : State) : State := if s.domOn Dm.crk then forEach (List.range 8) (fun n t => t.axSettle n) s else s

/-- ENCODER_COUNT: the levels of an edge source's pair after an edge, at the terminal of a POS pair and after the input's debounce of
an FI or SWIN pair, before INV; an FI pair's states are held while no barrier frame comes (R199, R200, R274; spec/12, R265). -/
def execEncoderCount (axis : Fin 8) (a b : Bool) (s : State) : Host.Outcome State Fault Refusal :=
  act (fun s =>
    let n := axis.val
    let src := s.axSource n
    let idx := s.axf n 0 23 16
    let x := s.ax n
    if !s.domOn Dm.crk || !axIsEdge src || (src == 2 && !s.fieldLive) then s
    else if src = 3 ∧ ¬ (s.swinCont (2 * idx) = true ∧ s.swinCont (2 * idx + 1) = true) then s.modAx n (fun x => { x with a := a, b := b })
    else if s.axFilt n = 0 then
      s.axEdge n a b (s.devTime - (if src = 1 then 0 else s.pairDelay src idx (x.a == a)))
    else
      let t := s.axSettle n
      t.modAx n (fun x => { x with edgeA := filtEdge s.devTime x.a a x.edgeA, edgeB := filtEdge s.devTime x.b b x.edgeB })) s

/-- STANDSTILL: an edge source has given no count for TIMEOUT (R208). -/
def execStandstill (axis : Fin 8) (s : State) : Host.Outcome State Fault Refusal :=
  act (fun s =>
    let n := axis.val
    let a := s.ax n
    if s.domOn Dm.crk ∧ axIsEdge (s.axSource n) = true ∧ a.heardAt + s.axTimeout n ≤ s.now ∧
        (a.st = .init ∨ a.st = .tracking ∨ a.st = .reversing) then
      s.modAx n (fun x => { x with st := .standstill, v := 0 })
    else s) s

/-- CRANK_SOURCE: a message source has been silent for TIMEOUT: the fault, then HOLD or EXTRAPOLATE (R208). -/
def execCrankSource (axis : Fin 8) (s : State) : Host.Outcome State Fault Refusal :=
  act (fun s =>
    let n := axis.val
    let a := s.ax n
    if s.domOn Dm.crk ∧ axIsMsg (s.axSource n) = true ∧ a.heardAt + s.axTimeout n ≤ s.now ∧ a.st ≠ .sourceLost ∧ a.st ≠ .extrapolating then
      let t := s.fault (0x58 + n) 0x21 n
      if s.axf n 3 23 22 = 1 then t.modAx n (fun x => { x with st := .extrapolating, lostAt := s.now })
      else t.modAx n (fun x => { x with st := .sourceLost, v := 0, lostAt := s.now })
    else s) s

/-- EXTRAPOLATION_END: an extrapolating axis has run for LOSS_T and holds (R208). -/
def execExtrapolationEnd (axis : Fin 8) (s : State) : Host.Outcome State Fault Refusal :=
  act (fun s =>
    let n := axis.val
    if s.domOn Dm.crk ∧ (s.ax n).st = .extrapolating ∧ (s.ax n).lostAt + ms (s.axf n 4 31 16) ≤ s.now then
      s.modAx n (fun x => { x with st := .sourceLost, v := 0 })
    else s) s

end Sys2Proof.Machine
end

