-- ==== Sys2Proof/Machine/Net.lean ====
section
/-! DEFINITION. The meanings of the network commands and events (spec/14): flows, port records, statistics, links,
gPTP, Ridge frames, and the alignment of device time over the Ridge links (spec/09, R203, R204, R213, R214). -/

namespace Sys2Proof.Machine

/-! ### Flow commands (R307) -/

/-- A flow record keeps the table "Flow record": a field that a KIND does not use is 0. -/
def flowRecOk (ws : List Word) : Bool :=
  let f := setField ws
  let kind := f 0 31 28
  let ins := f 0 13 0
  let outs := f 1 13 0
  let eth (m : Nat) := decide (m < 0x80)
  let can (m : Nat) := m % 0x100 == 0
  let c2a := kind == 1
  decide (ws.length = 16) && decide (kind ≤ 3) && f 0 22 14 == 0 && f 1 31 14 == 0 &&
    (if kind = 0 ∨ kind = 2 then eth ins else can ins) && (if kind = 0 ∨ kind = 1 then eth outs else can outs) &&
    (kind != 2 || (maskList 14 outs).length == 1) && (kind != 0 || f 3 15 12 == 0) &&
    (kind != 2 || (f 2 31 0 == 0 && f 3 31 0 == 0)) && (kind == 1 || kind == 2 || (f 4 31 0 == 0 && f 5 31 0 == 0)) &&
    (c2a || (f 6 31 0 == 0 && f 7 31 0 == 0)) && f 7 15 12 == 0 && f 8 20 16 == 0 &&
    (kind == 1 || kind == 2 || f 8 31 27 == 0) && (if c2a then decide (1 ≤ f 8 26 22) else f 8 26 22 == 0) &&
    (kind == 2 || kind == 3 || f 8 21 21 == 0) && (c2a || f 8 15 0 == 0) && (ws.drop 9).all (fun w => w == 0)

/-- A context owns every port that a mask names; port 6 is no resource. -/
def State.ownsPorts (s : State) (hc m : Nat) : Bool :=
  (maskList 14 m).all (fun p => p == 6 || (if p < 6 then s.owns hc 0x0C p else s.owns hc 3 (p - 8)))

/-- A learned context of a key gives way (R307). -/
def State.dropLearned (s : State) (key : List Nat) : State :=
  match s.findFlow (fun y => y.learned && y.key == key) with
  | some (n, _) => s.freeFlow n
  | none => s

/-- FLOW_ADD: the checks in order, then the record in its context (R307, R310). -/
def execFlowAdd (h : Hdr) (flow : Half) (record : List Word) (s : State) : Host.Outcome State Fault Refusal :=
  act (fun s => s.runI h (.flowAdd h flow record) (fun t =>
    let hc := h.hc.val
    let k := flow.toNat
    let x : Flow := { rec_ := record, learned := false, hitAt := t.now }
    let old := if k < 512 then t.flow k else none
    let mine := match old with | some o => !o.learned && t.owns hc 5 k | none => false
    if (511 < k ∧ k ≠ 0xFFFF) ∨ flowRecOk record = false then .no t St.badParam
    else if t.ownsPorts hc (x.fld 0 13 0) = false ∨ t.ownsPorts hc (x.fld 1 13 0) = false ∨
        (match old with | some o => !o.learned && !mine | none => false) = true then .no t St.notOwner
    else if (t.findFlow (fun y => !y.learned && y.key == x.key)).isSome = true then .no t St.badState
    else if mine = false ∧ (t.quota hc 7 < t.countClaimed hc 5 + 1 ∨ t.flag (hcState_overQuota hc) = true) then .no t St.overQuota
    else
      let t := t.dropLearned x.key
      let (n, t) := if k < 512 then (some k, t.freeFlow k) else t.placeCtx
      match n with
      | none => .no t St.noResource
      | some n => { s := ((t.setFlow n (some x)).setOwner 5 n (some hc)).leftFree, result := n })) s

/-- FLOW_REMOVE: a context that the issuer owns is freed (R307). -/
def execFlowRemove (h : Hdr) (flow : Half) (s : State) : Host.Outcome State Fault Refusal :=
  act (fun s => s.runI h (.flowRemove h flow) (fun t =>
    let k := flow.toNat
    if 511 < k then .no t St.badParam
    else if ¬ t.owns h.hc.val 5 k then .no t St.notOwner
    else { s := (t.freeFlow k).leftFree.recheckQuota none h.hc.val })) s

/-! ### Ports (R302, R303, R318) -/

/-- The fields of a port record. -/
def portFields : List (Nat × Nat × Nat) :=
  [(0, 31, 31), (0, 30, 29), (0, 28, 28), (0, 27, 27), (0, 26, 26), (0, 15, 8), (0, 7, 0), (1, 27, 16), (1, 15, 14), (1, 13, 11),
   (2, 31, 24), (2, 23, 16), (2, 15, 0), (3, 31, 31), (3, 30, 30), (3, 23, 16), (3, 15, 0)]

/-- The ranges of a port record for MDI, T1S and Ridge ports (R302). -/
def portConds (p : Nat) (ws : List Word) : List Bool :=
  let f := setField ws
  let mdi := decide (p < 2)
  let t1s := decide (2 ≤ p) && decide (p < 4)
  let zero (b : Bool) (v : Nat) := b || v == 0
  [(if mdi then decide (f 0 30 29 ≤ 1) else f 0 30 29 == 0), zero mdi (f 0 28 28), zero t1s (f 0 27 27),
   (decide (4 ≤ p) || f 0 26 26 == 1),
   (if t1s then decide (f 0 15 8 ≤ 254) else f 0 15 8 == 0), (if t1s then decide (1 ≤ f 0 7 0) else f 0 7 0 == 0), decide (1 ≤ f 1 27 16),
   decide (f 1 27 16 ≤ 4094), f 1 15 14 != 3, zero t1s (f 2 31 24),
   (if t1s then decide (1 ≤ f 2 23 16) else f 2 23 16 == 0), decide (1 ≤ f 2 15 0), decide (f 2 15 0 ≤ 1000),
   zero mdi (f 3 31 31), zero mdi (f 3 30 30),
   (if mdi then f 3 23 16 == 0 || decide (0xF9 ≤ f 3 23 16) else if t1s then decide (1 ≤ f 3 23 16) else f 3 23 16 == 0),
   (if mdi then decide (1 ≤ f 3 15 0) else f 3 15 0 == 0)]

/-- The record is acceptable as a whole. -/
def portRecOk (p : Nat) (ws : List Word) : Bool := (portConds p ws).all id

/-- The record of a network port as stored. -/
def State.portRec (s : State) (p : Nat) : List Word :=
  (List.range 4).map (fun k => word (s.portWord p k)) ++ List.replicate 4 0

/-- The events of a change of a network port's link or PLCA status (R303). -/
def State.netLinkEvent (s : State) (p : Nat) (up plca : Bool) : State :=
  s.post (s.ownerList 0x0C p) 17 0x01 p (b2n up + 2 * b2n plca) 0

/-- The time master as this device sees it: the lowest cluster number among itself and the masters of the sides that
its links reach (R213, R214). -/
def State.seenMaster (s : State) (l : Nat) : Option Nat :=
  let n := s.net (4 + l)
  if s.ridgeUp l = true ∧ s.now < n.masterAt + ms 1 then n.master else none
/-- The lowest number seen, own included. -/
def State.lowMaster (s : State) : Nat := ([0, 1].filterMap s.seenMaster).foldl min s.ownNumber

/-- The master elected again: a device that is its own master holds ALIGNED and IS_MASTER; one that stops being master
clears both (R213). Every device whose part has met a lower master may step to it, and is not aligned before it has kept within the
limit again (DEDUCED from R213 and R214; log 99). -/
def State.elect (s : State) : State :=
  let m := s.lowMaster
  let t := s.put crankTsync_master m
  if m = s.ownNumber then (t.put crankTsync_isMaster 1).put crankTsync_aligned 1
  else if s.flag crankTsync_isMaster = true ∨ m < s.get crankTsync_master then
    { ((t.put crankTsync_isMaster 0).put crankTsync_aligned 0) with alignCount := 0, stepDue := true }
  else t

/-- A Ridge link goes to a state with its peer; leaving or reaching UP is reported, and a loss from UP counted and posted as a fault (R303,
R316, R318). -/
def State.ridgeTo (s : State) (l st : Nat) (peer : Nat) (swapped : Bool) : State :=
  let was := s.get (rdgStat_state l) % 8 == 2
  let is_ := st == 2
  let t := s.put (rdgStat_state l) (st + 8 * (peer % 4) + 32 * b2n swapped)
  if was = is_ then t
  else
    let t := (t.post [0] 19 0x01 l st 0).netLinkEvent (4 + l) is_ false
    let t := t.modNet (4 + l) (fun n => { n with
      data := [], host := [], master := none, hops := [], axSeen := [], heardAt := s.now, crcAt := [], sentAt := s.now, timeAt := s.now })
    if is_ then { t with stepDue := true } else ((t.stat (4 + l) 2 3).fault (0x54 + l) 0x2B l).elect

/-- A Ridge link that is not to be UP any more, with its peer as it was. -/
def State.ridgeDrop (s : State) (l st : Nat) : State :=
  let w := s.get (rdgStat_state l)
  s.ridgeTo l st (bits w 4 3) (bitOf w 5)

/-- What no row brings at a T1S port is counted: the BEACONs that a follower under PLCA has seen since the last count, and the collisions; how
many is left open (R318; log 105). -/
def State.noteT1s (s : State) (p : Nat) : State :=
  if 2 ≤ p ∧ p < 4 ∧ s.netUp p = true then
    let (x, t) := s.drawNat
    let (y, t) := t.drawNat
    let t := if s.flag (phyStat_plcaOk p) = true ∧ bits (s.portWord p 0) 15 8 ≠ 0 then t.stat p 2 0 (x % 2 ^ 32) else t
    t.stat p 2 3 (y % 2 ^ 32)
  else s

/-- The PLCA status of a port; a change is counted (R303, R318). -/
def State.plcaTo (s : State) (p : Nat) (ok : Bool) : State :=
  if s.flag (phyStat_plcaOk p) = ok then s else (s.putB (phyStat_plcaOk p) ok).stat p 2 2

/-- The link of a port goes down at a retraining commanded for it (R302). -/
def State.retrain (s : State) (p : Nat) : State :=
  if p < 4 then
    if s.flag (phyStat_link p) then (((s.noteT1s p).put (phyStat_link p) 0).plcaTo p false).netLinkEvent p false false else s
  else (s.ridgeDrop (p - 4) (if bitOf (s.portWord p 0) 31 then 1 else 0)).modNet p (fun n => { n with lastTrain := 0 })

/-- A port record stored; a change of word 0 retrains the link (R302). -/
def State.putPortRec (s : State) (p : Nat) (ws : List Word) : State :=
  let old := s.portWord p 0
  let t := if p < 4 then forEach (List.range 4) (fun k u => u.wr (phyCfg_word p k).addr (ws.getD k 0)) s
    else forEach (List.range 3) (fun k u => u.wr (rdgCfg_word (p - 4) k).addr (ws.getD k 0)) s
  if old = (ws.getD 0 0).toNat then t else t.retrain p

/-- AS_SLAVE is set on the other MDI port (R306). -/
def State.otherSlave (s : State) (p : Nat) : Bool := decide (p < 2) && bitOf (s.portWord (1 - p) 3) 30

/-- ETH_CONFIG: a port record is checked as a whole and applies at once (R302, R306). -/
def execEthConfig (h : Hdr) (port : Byte) (record : List Word) (s : State) : Host.Outcome State Fault Refusal :=
  act (fun s => s.runI h (.ethConfig h port record) (fun t =>
    let p := port.toNat
    if 5 < p ∨ record.length ≠ 8 ∨ onlyFields portFields record = false ∨ portRecOk p record = false ∨
        (setField record 3 30 30 = 1 ∧ t.otherSlave p = true) then .no t St.badParam
    else if ¬ t.owns h.hc.val 0x0C p then .no t St.notOwner
    else { s := t.putPortRec p record })) s

/-- The counters that NET_STATS returns (R318); none for a combination it refuses. -/
def State.netStatWords (s : State) (p kind : Nat) : Option (List Nat) :=
  let c (i : Nat) := Sparse.get (fun _ => 0) (s.net p).stats (8 * kind + i)
  match kind with
  | 0 => if p < 6 then some [c 0, c 1, c 2, c 3] else none
  | 1 => if p < 6 then some [c 0, c 1, c 2, c 3, c 4] else none
  | 2 =>
    if 2 ≤ p ∧ p < 4 then some [c 0, c 2, c 3]
    else if 4 ≤ p ∧ p < 6 then some [c 1, c 2, c 3] else none
  | 3 => if p < 2 then some [c 0, c 1, c 2, s.get netAsstat_synced] else none
  | 4 => if p = 0 then
      some [s.flowList.length, (s.flowList.filter (fun q => q.2.fld 0 27 27 == 1)).length,
        (s.flowList.filter (fun q => q.2.learned)).length, s.get netFlowstat_refused] else none
  | _ => none

/-- NET_STATS: counters of a port, not cleared (R318). -/
def execNetStats (h : Hdr) (port kind : Byte) (s : State) : Host.Outcome State Fault Refusal :=
  act (fun s => s.runI h (.netStats h port kind) (fun t =>
    let u := t.noteT1s port.toNat
    match u.netStatWords port.toNat kind.toNat with
    | none => .no t St.badParam
    | some ws => { s := u, cont := ws.map word ++ List.replicate ((4 - ws.length % 4) % 4) 0 })) s

/-- RIDGE_STATE: a link's state (R317). -/
def execRidgeState (h : Hdr) (link : Byte) (s : State) : Host.Outcome State Fault Refusal :=
  act (fun s => s.runI h (.ridgeState h link) (fun t =>
    if 1 < link.toNat then .no t St.badParam else { s := t, result := t.get (rdgStat_state link.toNat) })) s

/-- ETH_FRAME_RECEIVED: a frame arrives at an Ethernet port (R299, R304, R305, R308, R309). -/
def execEthFrameReceived (port : Fin 4) (f : EthFrame) (s : State) : Host.Outcome State Fault Refusal :=
  act (fun s => s.ethIn port.val f) s

/-- The copies that a port has held for its AGE are dropped and counted (R305). -/
def State.ageOut (s : State) (p : Nat) : State :=
  let old (c : Copy) : Bool := c.port == p && decide (c.since + ms (bits (s.portWord p 2) 15 0) ≤ s.now)
  let n := ((s.fwd.flatMap (fun f => f.copies)).filter old).length
  let t : State := { s with fwd := (s.fwd.map (fun f => { f with copies := f.copies.filter (fun c => !old c) })).filter (fun f => f.copies != []) }
  forEach (List.range n) (fun _ u => u.ageDrop p) t.chargeFwd

/-- EGRESS_AGE: copies that have waited AGE ms in a port's egress queues are dropped and counted (R305). -/
def execEgressAge (port : Fin 6) (s : State) : Host.Outcome State Fault Refusal :=
  act (fun s => s.ageOut port.val) s

/-- PLCA_BEACON_LOSS: a follower has heard no BEACON for 4 ms, so it has not returned to PLCA in that time either: CSMA/CD until the next
one (R303). -/
def execPlcaBeaconLoss (port : Fin 4) (s : State) : Host.Outcome State Fault Refusal :=
  act (fun s =>
    let p := port.val
    if 2 ≤ p ∧ bitOf (s.portWord p 0) 27 = true ∧ bits (s.portWord p 0) 15 8 ≠ 0 ∧ s.flag (phyStat_plcaOk p) = true ∧
        (s.net p).beaconAt + ms 4 ≤ s.now then
      ((s.noteT1s p).plcaTo p false).netLinkEvent p (s.flag (phyStat_link p)) false
    else s) s

/-- The link of an Ethernet port goes up or down, with PLCA running or not: shown, and posted where it changes; the quality and role
of a point-to-point link are the PHY's (R299). A follower's PLCA runs from a BEACON (R303). -/
def State.netLinkTo (s : State) (p : Nat) (up plca : Bool) : State :=
  let t := ((s.noteT1s p).putB (phyStat_link p) up).plcaTo p plca
  let t := if plca then t.modNet p (fun n => { n with beaconAt := s.now }) else t
  let t := if p < 2 ∧ up = true then
      let (q, u) := t.drawNat
      (u.put (phyStat_sqi p) (q % 8)).put (phyStat_role p) (bits (s.portWord p 0) 28 28)
    else t
  t.netLinkEvent p up plca

/-- NET_LINK: the link or the PLCA status of an Ethernet port changes; a port that is off, disabled or isolated stays
down (R302, R303; spec/17, R372). The signal quality is left open. -/
def execNetLink (port : Fin 4) (up plcaOk : Bool) (s : State) : Host.Outcome State Fault Refusal :=
  act (fun s =>
    let p := port.val
    let on := s.domOn (if p < 2 then Dm.eth else Dm.t1s)
    let up := up && on && bitOf (s.portWord p 0) 31 && !s.isolated (0x50 + p)
    let plca := plcaOk && up && decide (2 ≤ p) && bitOf (s.portWord p 0) 27
    let wasUp := s.flag (phyStat_link p)
    let wasPlca := s.flag (phyStat_plcaOk p)
    if on = false ∨ (wasUp = up ∧ wasPlca = plca) then s
    else s.netLinkTo p up plca) s

/-! ### gPTP (R306) -/

/-- SYNCED set or cleared, with its event. -/
def State.setSynced (s : State) (b : Bool) : State :=
  if s.flag netAsstat_synced = b then s else (s.putB netAsstat_synced b).post [0] 17 0x02 0 (b2n b) 0

/-- Whether the network clock is held after a Sync: lost by a path delay above the limit, gained by eight good Syncs (R306). -/
def State.syncAt (s : State) (p pdelay good : Nat) : State :=
  if bits (s.portWord p 3) 15 0 < pdelay then s.setSynced false else if 8 ≤ good then s.setSynced true else s

/-- A Sync heard on the following port `p`, which goes on as a bridge's own on the other port of gPTP (R306). -/
def State.gptpSync (s : State) (p : Nat) (offset rate : Int) (pdelay : Nat) : State :=
  let old := signed 64 (s.get netAsoffhi_offset * 2 ^ 32 + s.get netAsofflo_offset)
  let d := offset - old
  let good := if (if d < 0 then -d else d) < 100 then s.asGood + 1 else 0
  let o := unsigned 64 offset
  let t := { s with asGood := good, asAt := s.now }
  let t := ((t.put netAsoffhi_offset (o / 2 ^ 32)).put netAsofflo_offset (o % 2 ^ 32)).put netAsstat_rate (unsigned 24 rate)
  let t := t.stat p 3 0
  let t := t.modNet p (fun n => { n with stats := Sparse.set (fun _ => 0) n.stats 26 (pdelay % 2 ^ 32) })
  (t.sendSync (1 - p)).syncAt p pdelay good

/-- GPTP_SYNC_RECEIVED: a Sync and Follow_Up on the following port give a new offset and rate, with the measured
neighbour delay; the Sync goes on through the other port (R306). -/
def execGptpSyncReceived (offset rate : Int) (pdelay : Nat) (s : State) : Host.Outcome State Fault Refusal :=
  act (fun s => match s.asSlave with
    | none => s
    | some p => if s.netUp p = false then s else s.gptpSync p offset rate pdelay) s

/-- GPTP_SYNC_LOSS: three Sync intervals have passed with no Sync (R306). -/
def execGptpSyncLoss (s : State) : Host.Outcome State Fault Refusal :=
  act (fun s => match s.asSlave with
    | none => s.setSynced false
    | some p =>
      if s.asAt + 3 * s.syncTicks p ≤ s.now then { s.setSynced false with asGood := 0 } else s) s

/-! ### Ridge frames (R314, R315) -/

/-- An Ethernet frame from the bytes of its DATA segments. -/
def ethParse (b : List Byte) : EthFrame :=
  let tag := pH b 12 == 0x8100
  { dst := pN b 0 6, src := pN b 6 6, vlan := if tag then some (pH b 14) else none,
    etype := if tag then pH b 16 else pH b 12, payload := b.drop (if tag then 18 else 14) }

/-- A frame's 32-bit header (R314). -/
def ridgeHeader (f : RidgeFrame) : Nat :=
  f.ftype.toNat % 16 * 2 ^ 28 + f.src.toNat * 2 ^ 26 + f.dst.toNat * 2 ^ 24 + b2n f.bcast * 2 ^ 23 + f.hops % 4 * 2 ^ 21 + b2n f.first * 2 ^ 20 +
    b2n f.last * 2 ^ 19 + f.pcp % 8 * 2 ^ 16 + f.payload.length % 2 ^ 16

/-- A frame between its delimiters: header, payload and CRC-32, most significant byte first (R314; log 19). -/
def ridgeWire (f : RidgeFrame) : List Byte :=
  let b := beBytes 4 (ridgeHeader f) ++ f.payload
  b ++ beBytes 4 (crc32 b)

/-- The CRC-32 that ends a frame is that of its header and payload (R314). -/
def ridgeGood (b : List Byte) : Bool := decide (8 ≤ b.length) && crc32 (b.take (b.length - 4)) == pN b (b.length - 4) 4

/-- The frame that good bytes spell: none where LENGTH is not the payload's, or above 256 (R314). -/
def ridgeParse (b : List Byte) : Option RidgeFrame :=
  let h := pN b 0 4
  if bits h 15 0 + 8 ≠ b.length ∨ 256 < bits h 15 0 then none
  else some {
    ftype := BitVec.ofNat 8 (bits h 31 28), src := BitVec.ofNat 2 (bits h 27 26), dst := BitVec.ofNat 2 (bits h 25 24), bcast := bitOf h 23,
    hops := bits h 22 21, first := bitOf h 20, last := bitOf h 19, pcp := bits h 18 16, payload := (b.drop 4).take (bits h 15 0) }

/-- A signed number of `k` bytes. -/
def sBytes (b : List Byte) (k n : Nat) : Int := signed (8 * n) (pN b k n)

/-- A peer axis's state adopted by every axis that follows it, while device time is aligned (spec/09, R203, R206). The
payload is the axis number, x and v in 2^-16 units of ten bytes each, and the device time of eight (log 19). -/
def State.adopt (s : State) (src : Nat) (b : List Byte) : State :=
  if s.domOn Dm.crk = false ∨ s.flag crankTsync_aligned = false ∨ b.length < 29 then s
  else
    let x := sBytes b 1 10
    let v := sBytes b 11 10
    let tm := pN b 21 8
    forEach (List.range 8) (fun n t =>
      if t.axSource n = 7 ∧ t.axf n 0 23 22 = src ∧ t.axf n 0 21 19 = (pB b 0).toNat then
        let a := t.ax n
        if a.stamped = true ∧ tm < a.tLast then t.inc (axDiag_overrun n)
        else
          let x := t.axInv n x
          let v := t.axInv n v
          let z := x + rdiv (v * ((t.devTime - tm : Nat) : Int)) 100000000
          let r := if t.axKind n = 1 then wrapS 48 (z - a.x) else z - a.x
          let jump := ((t.axf n 5 31 0 : Nat) : Int) * 65536
          let u := (t.axHeard n tm).modAx n (fun y => { y with
            v := v, z := x, baseX := x, baseT := tm, n := min 2 (y.n + 1), st := if y.st = .noSource then y.st else .tracking })
          let u := u.axMove n z .asIs
          let u := if jump ≠ 0 ∧ jump < (if r < 0 then -r else r) then u.axJumped n a.out 4 else u
          u.axSign n
      else t) s

/-- A peer's fault summary word (spec/17, R378). -/
def State.peerSummary (s : State) (src : Nat) (w : Nat) : State :=
  if s.domOn Dm.crk = false ∨ s.get (screePeer_word src) = w then s
  else (s.put (screePeer_word src) w).post [0] 4 0x01 src 0 w

/-- A host message of the Ridge: source and destination pairs, KIND, then the message (log 19). -/
def State.hostMsg (s : State) (b : List Byte) : State :=
  let src := (pB b 0).toNat
  let shc := (pB b 1).toNat
  if b.length < 5 then s
  else match (List.range 8).find? (fun n => n != 0 && s.transport n == 4 && s.get (hcBind_peerCluster n) == src &&
      s.get (hcBind_peerHc n) == shc && (pB b 3).toNat == n) with
    | none => s
    | some n => s.recvMsg n (s.splitMsg n ((pB b 4).toNat % 4) (b.drop 5))

/-- A link is isolated by a cluster-number conflict over number `k`, which is reported (spec/01, R18). -/
def State.ridgeConflict (s : State) (l k : Nat) : State :=
  ((s.ridgeDrop l 3).modNet (4 + l) (fun n => { n with lastTrain := s.now })).fault (0x54 + l) 0x2D (l + 16 * k)

/-- The stamp that an AXIS broadcast carries (log 19). -/
def axStamp (payload : List Byte) : Nat := pN payload 21 8

/-- What a broadcast of an axis shows of a second device with the same cluster number and axis: over one link two hop counts, one stamp with
two states, or stamps of the two links that come in turn, so that neither link carries the other's. DEDUCED: the spec says that it is a
conflict, and not how it is seen (spec/09, R204; log 67). -/
def State.axisTwice (s : State) (l src : Nat) (f : RidgeFrame) : Bool :=
  let k := 8 * src + (pB f.payload 0).toNat
  let seen (i : Nat) : Option (Nat × List Byte × Nat) := Sparse.get (fun _ => none) (s.net (4 + i)).axSeen k
  (seen l).any (fun x => x.1 != f.hops) ||
    [l, 1 - l].any (fun i => (seen i).any (fun x => axStamp x.2.1 == axStamp f.payload && x.2.1 != f.payload)) ||
    (match seen l, seen (1 - l) with
      | some x, some y => decide (0 < y.2.2) && decide (y.2.2 < axStamp x.2.1) && decide (axStamp x.2.1 < axStamp y.2.1) &&
          decide (axStamp y.2.1 < axStamp f.payload)
      | _, _ => false)

/-- A good frame of another device that has not gone round: forwarded where it is a broadcast or for another cluster number, and
handed to its user where it is for this device (R314, R315); a broadcast that shows two devices with one number is a conflict
(spec/09, R204). -/
def State.ridgeIn (s : State) (l : Nat) (f : RidgeFrame) : State :=
  let p := 4 + l
  let own := s.ownNumber
  let src := f.src.toNat
  let ty := f.ftype.toNat
  let local_ := decide (ty ≤ 3)
  let pass := !local_ && (f.bcast || f.dst.toNat != own) && decide (f.hops + 1 < 3)
  let t := if pass then s.ridgeSend (1 - l) { f with hops := f.hops + 1 } else s
  let t := if f.bcast then t.modNet p (fun n => { n with hops := Sparse.set (fun _ => 0) n.hops src f.hops }) else t
  if ¬ f.bcast ∧ f.dst.toNat ≠ own then t
  else match ty with
    | 4 => if t.domOn Dm.crk then t.govReceive src f.payload else t
    | 5 =>
      let u := t.modNet p (fun n => { n with
        axSeen :=
          let k := 8 * src + (pB f.payload 0).toNat
          let last := match Sparse.get (fun _ => none) n.axSeen k with | some x => axStamp x.2.1 | none => 0
          Sparse.set (fun _ => none) n.axSeen k (some (f.hops, f.payload, last)) })
      if s.axisTwice l src f then u.ridgeConflict l src else u.adopt src f.payload
    | 6 => t.peerSummary src (pN f.payload 0 4)
    | 7 =>
      let old := Sparse.get (fun _ => []) (t.net p).host src
      let b := if f.first then f.payload else old ++ f.payload
      let t := t.modNet p (fun n => { n with host := Sparse.set (fun _ => []) n.host src (if f.last then [] else b) })
      if f.last then t.hostMsg b else t
    | 8 =>
      let b := if f.first then f.payload else (t.net p).data ++ f.payload
      let t := t.modNet p (fun n => { n with data := if f.last then [] else b })
      if f.last then t.ethIn p (ethParse b) else t
    | _ => t

/-- A broadcast with the own number of an axis that this device publishes is another device's where the other link is not UP, so that
its own cannot have come back, or where it is none of the last that this device has sent (spec/09, R204; log 67). -/
def State.axisOwn (s : State) (l : Nat) (f : RidgeFrame) : Bool :=
  f.ftype == 5 && f.bcast && decide (29 ≤ f.payload.length) && (s.get crankPublish_axes).testBit (pB f.payload 0).toNat &&
    (!s.ridgeUp (1 - l) || !decide (f.payload ∈ (s.ax (pB f.payload 0).toNat).sent))

/-- A frame with this device's own number is discarded (R315); where it shows that another device has that number, its
link is isolated and the conflict reported (spec/01, R18). -/
def State.ownFrame (s : State) (l : Nat) (f : RidgeFrame) : State :=
  if s.axisOwn l f then s.ridgeConflict l s.ownNumber else s

/-- A good frame is heard on a link: the link is not silent, and the stamp of a TIME frame is kept for the answer (R314, R316). -/
def State.ridgeHeard (s : State) (l : Nat) (f : RidgeFrame) : State :=
  s.modNet (4 + l) (fun n => { n with
    heardAt := s.now, timeHeard := if f.ftype = 3 then (pN f.payload 1 8, s.devTime) else n.timeHeard })

/-- RIDGE_FRAME_RECEIVED: a frame's bytes are checked, and the frame is forwarded where it is a broadcast or for another cluster number, and
handed to its user (R314, R315). -/
def execRidgeFrameReceived (link : Fin 2) (bytes : List Byte) (s : State) : Host.Outcome State Fault Refusal :=
  act (fun s =>
    let l := link.val
    let p := 4 + l
    if s.ridgeUp l = false then s
    else if ridgeGood bytes = false then
      ((s.inc (rdgErr_crc l)).stat p 2 1).modNet p (fun n => { n with crcAt := (s.now :: n.crcAt).take 16 })
    else match ridgeParse bytes with
      | none => s
      | some f =>
        let s := s.ridgeHeard l f
        if 3 ≤ f.hops then s
        else if f.src.toNat = s.ownNumber then s.ownFrame l f
        else s.ridgeIn l f) s

/-- What a TIME frame carries: the master that this device sees, the stamp of its sending, and the stamps of sending and hearing of the
last one that the peer sent (R314; spec/09, R213; log 19). -/
def State.timePayload (s : State) (l : Nat) : List Byte :=
  let h := (s.net (4 + l)).timeHeard
  BitVec.ofNat 8 (s.get crankTsync_master) :: (beBytes 8 s.devTime ++ beBytes 8 h.1 ++ beBytes 8 h.2)

/-- A frame of the link's own to its peer (R314). -/
def State.peerFrame (s : State) (l : Nat) (ftype : Byte) (b : List Byte) : RidgeFrame :=
  { ftype := ftype, src := BitVec.ofNat 2 s.ownNumber, dst := BitVec.ofNat 2 (bits (s.get (rdgStat_state l)) 4 3), bcast := false, payload := b }

/-- Every 100 µs a link that is UP sends a TIME frame (R314; spec/09, R213). -/
def State.timeTick (s : State) : State :=
  if s.domOn Dm.net && s.domOn Dm.crk then
    forEach [0, 1] (fun l t =>
      if t.ridgeUp l && decide ((t.net (4 + l)).timeAt + us 100 ≤ t.now) then
        (t.modNet (4 + l) (fun n => { n with timeAt := t.now })).ridgeSend l (t.peerFrame l 3 (t.timePayload l))
      else t) s
  else s

/-- A link that is UP and has sent nothing for 2 µs sends a KEEP frame (R314). -/
def State.keepTick (s : State) : State :=
  if s.domOn Dm.net then
    forEach [0, 1] (fun l t =>
      if t.ridgeUp l && decide ((t.net (4 + l)).sentAt + us 2 ≤ t.now) then t.ridgeSend l (t.peerFrame l 2 []) else t) s
  else s

/-- What an AXIS broadcast carries: the axis number, x and v in 2^-16 units, the device time (log 19). -/
def axPayload (n : Nat) (a : Axis) (tm : Nat) : List Byte :=
  [BitVec.ofNat 8 n] ++ beBytes 10 (unsigned 80 a.x) ++ beBytes 10 (unsigned 80 a.v) ++ beBytes 8 tm

/-- AXIS_BROADCAST: each published axis is sent on every Ridge link (spec/09, R204; log 19). -/
def execAxisBroadcast (s : State) : Host.Outcome State Fault Refusal :=
  act (fun s =>
    if s.domOn Dm.crk then
      forEach ((List.range 8).filter (fun n => (s.get crankPublish_axes).testBit n)) (fun n t =>
        let a := t.ax n
        let b := axPayload n a t.devTime
        (t.modAx n (fun a => { a with sent := b :: a.sent.take 15 })).ridgeBcast 0x5 b) s
    else s) s

/-- The fault summary word (spec/17, R378). -/
def State.faultSummary (s : State) : Nat :=
  let un := s.log.filter (fun e => e.st != .cleared)
  let kind (e : FEntry) := bits e.msg.toNat 21 16
  let newest := un.foldl (fun (b : Option FEntry) e => match b with
    | none => some e
    | some x => if x.createdAt ≤ e.createdAt then some e else some x) none
  b2n (un.any (fun e => s.flag (screeKind_pin (kind e)))) * 0x80000000 + b2n (un != []) * 0x40000000 +
    s.get pwrStart_limp * 0x20000000 + s.get pwrCoast_active * 0x10000000 + satTo 255 un.length * 0x10000 +
    satTo 255 (un.filter (fun e => e.st == .latched)).length * 0x100 + (match newest with | some e => kind e | none => 0)

/-- FAULT_SUMMARY_BROADCAST: the summary word goes out in a FAULT frame (spec/17, R378). -/
def execFaultSummaryBroadcast (s : State) : Host.Outcome State Fault Refusal :=
  act (fun s => if s.domOn Dm.crk then s.ridgeBcast 0x6 (beBytes 4 s.faultSummary) else s) s

/-! ### Training and losses (R316) -/

/-- Three consecutive TRAIN frames have come well; `k` have before these (R316). -/
def threeGood (k : Nat) : List Bool → Bool
  | [] => decide (3 ≤ k)
  | f :: l => decide (3 ≤ k) || threeGood (if f then k + 1 else 0) l

/-- A TRAIN frame of this device's: its cluster number, part code and protocol version, and its acknowledgement of the peer's (R314, R316; log
19). -/
def State.sendTrain (s : State) (l : Nat) (ack : Bool) : State :=
  s.emit (.ridge l (s.peerFrame l 1 ([BitVec.ofNat 8 s.ownNumber] ++ beBytes 4 Config.partCode.toNat ++ [Config.ridgeVersion, BitVec.ofNat 8 (b2n ack)])))

/-- RIDGE_TRAINING: a training of a link that is down, due every 10 ms, or every 1 s where it is isolated by a conflict, with the TRAIN
frames that it hears, each well or not (`came`): the link is UP where three in a row came well and they acknowledge this device's (`acked`),
and the last, `peer`, has this device's version and another number (R316; spec/01, R18; spec/11, R247). -/
def execRidgeTraining (link : Fin 2) (came : List Bool) (peer : TrainFrame) (acked swapped : Bool) (s : State) : Host.Outcome State Fault Refusal :=
  act (fun s =>
    let l := link.val
    let st := s.get (rdgStat_state l) % 8
    let n := s.net (4 + l)
    let due := n.lastTrain = 0 ∨ n.lastTrain + (if st = 3 then sec 1 else ms 10) ≤ s.now
    if s.domOn Dm.net = false ∨ bitOf (s.portWord (4 + l) 0) 31 = false ∨ st = 2 ∨ s.isolated (0x54 + l) = true ∨ ¬ due then s
    else
      let t := ((s.modNet (4 + l) (fun n => { n with lastTrain := s.now })).inc (rdgErr_retrain l)).stat (4 + l) 2 2
      let t := t.sendTrain l (threeGood 0 came)
      let p := peer.cluster.toNat
      if came.contains true = false then t.ridgeDrop l 1
      else if peer.version ≠ Config.ridgeVersion then (t.ridgeTo l 1 p swapped).fault (0x54 + l) 0x2C l
      else if threeGood 0 came = false ∨ acked = false then t.ridgeTo l 1 p swapped
      else if p = s.ownNumber then (t.ridgeTo l 3 p swapped).fault (0x54 + l) 0x2D (l + 16 * p)
      else
        let t := t.ridgeTo l 2 p swapped
        forEach ([0, 1].filter t.govShares) (fun g u =>
          u.ridgeSend l { ftype := 0x4, src := BitVec.ofNat 2 u.ownNumber, payload := u.govCfgMsg g }) t) s

/-- What takes a link down stands: no valid frame for 20 µs, or 16 CRC errors within 1 ms (R316). -/
def NetPort.dead (n : NetPort) (now : Nat) : Bool :=
  decide (n.heardAt + us 20 ≤ now) ||
    (n.crcAt.length == 16 && (match n.crcAt.head?, n.crcAt.getLast? with | some a, some b => decide (a < b + ms 1) | _, _ => false))

/-- RIDGE_DOWN: no valid frame for 20 µs, or 16 CRC errors within 1 ms, take a link down (R316). -/
def execRidgeDown (link : Fin 2) (s : State) : Host.Outcome State Fault Refusal :=
  act (fun s =>
    let l := link.val
    if s.ridgeUp l = true ∧ (s.net (4 + l)).dead s.now = true then
      (s.ridgeDrop l 1).modNet (4 + l) (fun n => { n with lastTrain := 0 })
    else s) s

/-! ### Alignment (spec/09, R213, R214) -/

/-- Time-triggered events that a step of device time has passed fall due, in the order of their targets (spec/10, R229, R231). -/
def State.spkStep (s : State) (before : Nat) : State :=
  let passed := s.armed.filter (fun k => match s.slot k with
    | some x => x.timed && x.due.isNone && (x.st == .armed || x.st == .requesting) &&
        decide ((before : Int) < x.target - s.leadTicks x) && s.reached x (s.leadTicks x)
    | none => false)
  let pos : Nat → Int := fun k => match s.slot k with | some x => x.target | none => 0
  let sorted := sortBy (fun i j => decide (pos i < pos j)) passed
  forEach sorted (fun k t => t.modSlot k (fun x => { x with due := some (3, s.now) })) { s with dueQ := s.dueQ ++ sorted }

/-- A step of device time by `d` ns, kept in whole ticks (R213). -/
def State.timeStep (s : State) (d : Int) : State :=
  let before := s.devTime
  let new := unsigned 64 ((before : Int) + rnear d 10)
  let sat := if 2147483647 < d then 2147483647 else if d < -2147483648 then -2147483648 else d
  let t := ({ s with devTime := new, stepDue := false, alignCount := 0 }.put crankTsync_stepped 1).put crankTsync_coarse 0
  (t.post t.sysHolders 8 0x01 0 0 (unsigned 32 sat)).spkStep before

/-- The link that the offset from a master is taken through: the fewest hops, RDG0 where they are equal (R213). -/
def State.timeLink (s : State) (m : Nat) : Option Nat :=
  let hops (l : Nat) := Sparse.get (fun _ => 0) (s.net (4 + l)).hops m
  match s.seenMaster 0 == some m, s.seenMaster 1 == some m with
  | true, true => some (if hops 1 < hops 0 then 1 else 0)
  | true, false => some 0
  | false, true => some 1
  | false, false => none

/-- The offset from the master, measured through the link in use: a step where it is large and one is due, else a rate, and
ALIGNED after ten small ones (R213). -/
def State.timeOffset (s : State) (offset : Int) : State :=
  let t := { s with alignAt := s.now, stepDue := false }
  let mag := if offset < 0 then -offset else offset
  let t := t.put crankTsync_offset (unsigned 8 (if 127 < offset then 127 else if offset < -127 then -127 else offset))
  if 1000 < mag ∧ s.stepDue = true then t.timeStep (-offset)
  else
    let (q, u) := t.drawNat
    let u := u.put crankTsync_rate (unsigned 16 ((q % 20001 : Nat) - 10000 : Int))
    let n := if mag ≤ 20 then u.alignCount + 1 else 0
    let u := { u with alignCount := n }
    if 10 ≤ n then u.put crankTsync_aligned 1 else u

/-- What an exchange says of the side that a link reaches: its master and the link's delay; the master is elected again (R213). -/
def State.timeHeard (s : State) (l master delay : Nat) : State :=
  ((s.modNet (4 + l) (fun n => { n with master := some master, masterAt := s.now })).put (rdgStat_delay l) (satTo 65535 delay)).elect

/-- TIME_EXCHANGE: an exchange of stamps on a link gives the master of that side, this device's offset from it and the
link delay, in ns (R213). What rate corrects a small offset is left open within ±100 ppm. -/
def execTimeExchange (link : Fin 2) (master : BitVec 2) (offset : Int) (delay : Nat) (s : State) : Host.Outcome State Fault Refusal :=
  act (fun s =>
    let l := link.val
    if s.ridgeUp l = false ∨ s.domOn Dm.crk = false then s
    else
      let t := s.timeHeard l master.toNat delay
      let m := t.get crankTsync_master
      if m = t.ownNumber ∨ t.timeLink m ≠ some l then t else t.timeOffset offset) s

/-- ALIGNMENT_LOSS: 1 ms after the last good exchange with the master's side ALIGNED clears, and the master of what is left
is elected (R213, R214). -/
def execAlignmentLoss (s : State) : Host.Outcome State Fault Refusal :=
  act (fun s =>
    if s.domOn Dm.crk = true ∧ s.flag crankTsync_isMaster = false ∧ s.alignAt + ms 1 ≤ s.now then
      let t : State := { (s.put crankTsync_aligned 0) with alignCount := 0, stepDue := true }
      t.elect
    else s) s

end Sys2Proof.Machine
end

