-- ==== Sys2Proof/Machine/PowerOps.lean ====
section
/-! DEFINITION. Power domains and wake: entries, exits, what is lost and what comes back, and the steps of a wake
(spec/15, R320 to R341). -/

namespace Sys2Proof.Machine

/-! ### What belongs to which domain (spec/01, R22) -/

/-- The domain of an address; none where no block is (spec/01, "Register blocks"). -/
def domOfAddr (a : Nat) : Option Nat :=
  if a < 0x18000 then some Dm.sys
  else if a < 0x20000 then none
  else if a < 0x30000 then some Dm.sys
  else if a < 0x40000 then some Dm.crk
  else if a < 0x50000 then some (Dm.bank ((a - 0x40000) / 0x2000))
  else if a < 0x54000 then some (Dm.bank ((a - 0x50000) / 0x800))
  else if a < 0x60000 then none
  else if a < 0x80000 then some Dm.crk
  else if a < 0x88000 then some Dm.aon
  else if a < 0x90000 then some Dm.field
  else if a < 0x9C000 then some (Dm.can ((a - 0x90000) / 0x2000))
  else if a < 0xA0000 then none
  else if a < 0xB0000 then some Dm.net
  else if a < 0xB8000 then (if (a - 0xB0000) / 0x400 < 2 then some Dm.eth else some Dm.t1s)
  else if a < 0xC0000 then some Dm.net
  else if a < 0xD0000 then some Dm.aon
  else if a < 0xD8000 then some Dm.sys
  else if a < 0xE0000 then some Dm.uwb
  else if a < 0xF0000 then some Dm.sys
  else if a < 0x100000 then some Dm.aon
  else none

/-- Registers that show one-time memory: no domain loses them. -/
def otpShown (a : Nat) : Bool := decide (0x200 ≤ a) && decide (a ≤ 0x280)

/-- A time in ms as the AON oscillator counts it, which is free within 3 % (R212, R332). -/
def State.aonMs (s : State) (m : Nat) : Nat × State :=
  let (x, t) := s.drawNat
  (m * 97 / 100 + x % (m * 6 / 100 + 1), t)

/-! ### Sleep (R114, R321, R324, R325) -/

/-- A bank's channels disabled as by CH_DISABLE, their ENABLE kept (spec/05, R114; R325). -/
def State.bankDown (s : State) (b : Nat) : State :=
  forEach (List.range 8) (fun k t =>
    let n := 8 * b + k
    let d := (s.ch n).disabled
    (t.disableCh n).modCh n (fun c => { c with disabled := d, cmdOn := false })) s

/-- The completions of work that ended while SYS was away, and the backlog of events, now that it is back (spec/03,
R64; spec/16, R358). -/
def State.sysBack (s : State) : State :=
  let l := s.later
  let t : State := { s with later := [] }
  let t := l.foldl (fun (u : State) p =>
    let v := u.pushCompl p.1 p.2.1
    match p.2.2 with | some n => v.freeSlot n | none => v) t
  t.drainBacklog

/-- What a domain does when its entry begins: the disable of R114, and for SYS the completion of the command
(R324, R325). -/
def State.enterFx (s : State) (d : Nat) : State :=
  if d = Dm.hif then { s with sdo := [] }
  else if d = Dm.sys then
    let s := s.summaryWrite
    let t := if (s.dom Dm.crk).going.isSome ∧ (s.dom Dm.crk).going ≠ some .on then s.cancelWhere (fun _ _ => true) else s
    let ids := (t.jobs.filter (fun j => isSleep j.cmd && j.wait.testBit Dm.sys)).map (fun j => j.id)
    ids.foldl (fun (u : State) n => match u.job n with
      | some j => u.endJob n (match j.fail with | some p => p.2 | none => St.ok) j.done
      | none => u) t
  else if d = Dm.crk then s.cancelWhere (fun _ _ => true)
  else if d = Dm.net then (s.ridgeDrop 0 0).ridgeDrop 1 0
  else if d = Dm.eth then (s.retrain 0).retrain 1
  else if d = Dm.t1s then (s.retrain 2).retrain 3
  else if 8 ≤ d ∧ d < 14 then s.cutTx (d - 8)
  else if 14 ≤ d ∧ d < 22 then s.bankDown (d - 14)
  else if d = Dm.field then
    let t := s.flushQueued (fun _ i => match i with | .fieldOut .. => true | .fieldConfig _ c _ => decide (c.toNat < 16) | _ => false) St.flushed
    (t.cancelWhere (fun _ x => x.action == 6)).fqClear
  else if d = Dm.uwb then s.uwbStops
  else s

/-- An entry begins: the domain is not On from here; a CAN port's detector keeps the port's bit rate (R324, R329, R335). -/
def State.beginEntry (s : State) (d : Nat) : State :=
  match (s.dom d).going with
  | some .on | none => s
  | some g =>
    let from_ : DomState := if s.domLost d then .off else (s.dom d).st
    let t := (s.enterFx d).modDom d (fun x => { x with
      st := g, begun := true, since := if x.st = .on then s.now else x.since, from_ := from_ })
    let t := if 8 ≤ d ∧ d < 14 ∧ (s.dom d).st = .on then t.modPort (d - 8) (fun p => { p with rate := s.rd (canCfg_word (d - 8) 1).addr }) else t
    t.fqSync

/-- A sleep of the domain has been asked for and has not ended. -/
def Dom.awaits (x : Dom) : Bool := x.going == some .ret || x.going == some .off || x.next == some .ret || x.next == some .off

/-- The entry of a named domain may begin: every domain that is to sleep and needs it has ended its own, SYS comes last but for what it
needs, and a CAN port with sleep agreement waits for that (R324). -/
def State.entryReady (s : State) (d : Nat) : Bool :=
  let x := s.dom d
  (x.going == some .ret || x.going == some .off) && !x.begun &&
    (List.range 24).all (fun k => !(decide (d ∈ domChain k)) || !(s.dom k).awaits) &&
    (d != Dm.sys || (List.range 24).all (fun k => k == Dm.sys || k == Dm.crk || !(s.dom k).awaits)) &&
    (!(decide (8 ≤ d) && decide (d < 14)) || s.nmf (d - 8) 0 31 31 == 0)

/-- Every entry that may begin begins; children before what they need. -/
def State.kickEntries (s : State) : State :=
  forEach ((List.range 24).reverse) (fun d t => if t.entryReady d then t.beginEntry d else t) s

/-- What is lost when a domain has gone Off; a closed context stays closed, a host declared asleep stays so, and the device keeps its own
cluster number (R321, R322; spec/01, R18; spec/05, R118; spec/16, R360; spec/07, R156, R163; spec/09, R212); a backlog of events lost with
CRK is counted (spec/16, R358). DESIGN CHOICE: while SYS is Off PWR_START.PHASE reads LIMP_ONLY (spec/03, R67; log 111). -/
def State.loseDom (s : State) (d : Nat) : State :=
  let t : State := { s with regs := s.regs.filter (fun p => domOfAddr p.1 != some d || otpShown p.1 || p.1 == rdgCluster_number.addr) }
  if d = Dm.sbi then { t with sbPtr := 0 }
  else if d = Dm.sys then
    let t := forEach (List.range 8) (fun n u =>
      (u.put (hcState_closed n) (s.get (hcState_closed n))).put (hcState_sleep n) (s.get (hcState_sleep n))) t
    -- the buffer pool goes with SYS: received frames, frames in the switch, and the locks and sessions that SYS holds
    let t := forEach (List.range 6) (fun n u => u.modPort n (fun p => { p with rxA := [], rxB := [], win := [] })) t
    { t.unstage with
      hcs := [], jobs := [], later := [], sysUp := false, serving := false, rdy := false, sysReturn := true, cache := [], ram := []
      fwd := [], slowQ := [], portCells := [], uds := {}, fwLock := none, cfgLock := none }.put pwrStart_phase 1
  else if d = Dm.crk then
    let t := if t.backlog = [] then t
      else forEach (List.range 8) (fun n u => u.modHc n (fun h => { h with lost := true })) (t.incBy evtHub_hubdrop t.backlog.length)
    { t with axes := [], slots := [], dueQ := [], crossings := [], line := [], grants := [], gov := [], govPend := [], log := [], inbox := [], backlog := [], lostFor := [],
             leadRuns := [], alignCount := 0, stepDue := true, rateFrac := 0, timeHi := 0 }
  else if d = Dm.net then
    let u : State := { t with flows := [], fwd := [], slowQ := [], fullTold := false, asGood := 0,
                              netPorts := [], owners := t.owners.filter (fun p => p.1 / 0x10000 != 5) }
    u.chargeFwd
  else if 8 ≤ d ∧ d < 14 then
    t.modPort (d - 8) (fun p => { ({} : CanPort) with
      rxA := p.rxA, rxB := p.rxB, win := p.win, wakeTx := p.wakeTx, fwWoke := p.fwWoke, suspEnd := p.suspEnd, rate := p.rate })
  else if 14 ≤ d ∧ d < 22 then
    let u := forEach (List.range 8) (fun k v => v.modCh (8 * (d - 14) + k) (fun c => { ({} : Chan) with theta := c.theta })) t
    let u := if 20 ≤ d then forEach (List.range 4) (fun k v => v.modBr (4 * (d - 20) + k) (fun _ => {})) u else u
    u.modBank (d - 14) (fun x => { ({} : Bank) with linkUp := x.linkUp })
  else if d = Dm.field then { t with fqTold := 0, fiDeb := 0 }
  else if d = Dm.uwb then t.uwbGone s.immWords
  else t

/-- Only AON is left On, with nothing under way. -/
def State.hibernates (s : State) : Bool := (List.range 24).all (fun d => d == 0 || ((s.dom d).st != .on && (s.dom d).going.isNone))

/-- Output INH `k` is driven high: a domain that PWR_INH maps to it is On or in its entry or exit; it floats otherwise
(R337); bit 0 of the mask is ignored. -/
def State.inhHigh (s : State) (k : Nat) : Bool :=
  (List.range 24).any (fun d => d != 0 && (s.get (pwrInh_domains k)).testBit d && ((s.dom d).st == .on || ((s.dom d).going.isSome && (s.dom d).begun)))

/-! ### Wake (R328 to R336) -/

/-- A field of wake source `c`'s record. -/
def State.wkf (s : State) (c k hi lo : Nat) : Nat := bits (s.rd (pwrWakecfg_word c k).addr).toNat hi lo

/-- The domains that a source brings On: the port's own for a CAN source, SBI for the sideband, never AON (R328). -/
def State.wakeMask (s : State) (c : Nat) : Nat :=
  let m := s.wkf c 0 23 0 / 2 * 2
  if 0x10 ≤ c then m ||| 2 ^ Dm.can (c - 0x10) else if c = 9 then m ||| 2 ^ Dm.sbi else m

/-- The mirror bit of a source is set (R346). -/
def State.mirror (s : State) (c : Nat) : State :=
  if c < 8 then s.put compatWakesrc_wk (s.get compatWakesrc_wk ||| 2 ^ c)
  else if c = 0x0A ∨ c = 0x0B then s.put compatWakesrc_timer 1
  else if c = 0x10 then s.put compatWakesrc_can0 1
  else if 0x11 ≤ c then s.put compatWakesrc_can1 1
  else s

/-- A wake of source `c` recorded: WAKESRC, WAKEINFO and the mirror (R331, R346). -/
def State.noteWake (s : State) (c : Nat) : State :=
  let src := s.get pwrWakesrc_src
  let t := if src = 0 then s.put pwrWakeinfo_first c else s
  ((t.put pwrWakesrc_src (src ||| 2 ^ c)).inc pwrWakeinfo_count).mirror c

/-- A wake brings On what it names: the domains with what they need, IRQ_N, PWR_SLEPT, and the WAKE event (R331, R333). -/
def State.wakeTo (s : State) (c : Nat) (ds : List Nat) : State :=
  let t := match s.hibAt with
    | some h =>
      let (m, u) := s.aonMs ((s.now - h) / 100000)
      ({ u with hibAt := none } : State).put pwrSlept_ms (satTo (2 ^ 32 - 1) m)
    | none => s
  let woken := ds.filter (fun d => !t.domOn d)
  let t := forEach ds (fun d u =>
    let u := if 8 ≤ d ∧ d < 14 ∧ u.domOn d = false then u.modPort (d - 8) (fun p => { p with wakeTx := true }) else u
    u.askDom d) t
  let t := t.kickExits.kickEntries
  let t : State := if s.wkf c 0 28 28 = 1 then { t with aonIrq := true } else t
  (t.post (0 :: woken.flatMap (fun d => t.ownerList 9 d)) 20 0x01 0 (2 ^ c) (t.get pwrSlept_ms)).parkRestart

/-- The steps of a wake by source `c` that brings On the domains of `mask`: recorded, and where they are not all On already it brings
them On (R331, R333, R345). Without a valid VSUP a wake is recorded only: AON is alive above AON hold, and the
power-up start to come brings the domains On (R44, R320). -/
def State.wakeBy (s : State) (c mask : Nat) : State :=
  if s.vsup = .belowAon then s
  else
    let t := s.noteWake c
    let ds := ((maskList 24 mask).flatMap t.bringSet).eraseDups
    if s.vsup ≠ .valid ∨ ds.all (fun d => t.domOn d && !(t.dom d).awaits) = true then t else t.wakeTo c ds

/-- A wake of source `c` by its record. -/
def State.wake (s : State) (c : Nat) : State := s.wakeBy c (s.wakeMask c)

/-- A source is enabled. -/
def State.wakeOn (s : State) (c : Nat) : Bool := s.wkf c 0 31 31 == 1

/-- A static wake input with EDGE level stands at its level while a domain it names is neither On nor on its way there
(R330). -/
def State.levelWake (s : State) (c : Nat) : Bool :=
  s.wakeOn c && s.wkf c 0 30 29 == 3 && ((s.wkLevel.testBit c) == (s.wkf c 0 24 24 == 0)) &&
    (maskList 24 (s.wakeMask c)).any (fun d => (s.dom d).st != .on && (s.dom d).going != some .on && (s.dom d).next != some .on)

/-- Every level wake that holds is raised. -/
def State.levelWakes (s : State) : State := forEach (List.range 8) (fun c t => if t.levelWake c then t.wake c else t) s

/-- AON keeps holding IRQ_N only while a source with IRQ = 1 has its bit set (R331). -/
def State.irqCheck (s : State) : State :=
  { s with aonIrq := s.aonIrq && (List.range 22).any (fun c => (s.get pwrWakesrc_src).testBit c && s.wkf c 0 28 28 == 1) }

/-- The word that gives a port's nominal bit rate: CANn_CFG1, kept for the detector while the domain is Off (R335). -/
def State.rateWord (s : State) (n : Nat) : Nat :=
  if (s.dom (Dm.can n)).st = .off then (s.port n).rate.toNat else (s.rd (canCfg_word n 1).addr).toNat

/-- The nominal bit rate of a port is at least 50 kbit/s: at most 1600 clocks of 80 MHz a bit (R335; spec/13, R279). -/
def State.canFast (s : State) (n : Nat) : Bool :=
  let w := s.rateWord n
  decide ((bits w 31 24 + 1) * (1 + (bits w 23 16 + 1) + (bits w 15 9 + 1)) ≤ 1600)

/-- The wake-up frame detector of a port is armed (R329, R334, R335). -/
def State.detector (s : State) (n : Nat) : Bool :=
  s.wakeOn (0x10 + n) && s.canFast n && (!s.domOn (Dm.can n) || decide (2 ≤ s.canSt n)) && !s.flag (pwrFw_susp n)

/-- The port sends its NM message with the sleep-ready bit (R339). -/
def State.sendNm (s : State) (n : Nat) (ready : Bool) : State :=
  let b := s.nmf n 3 9 7
  let bit := if ready then 2 ^ s.nmf n 3 6 4 else 0
  let data := BitVec.ofNat 8 (s.nmf n 3 31 24) :: (List.range 7).map (fun k => if k + 1 = b then BitVec.ofNat 8 bit else (0 : Byte))
  (s.ownTx n 0 { ident := s.nmf n 0 28 0, ext := s.nmf n 0 30 30 == 1, data := data } (.nm ready)).1

/-- A port is back in NORMAL: NM starts as awake; after a wake the wake frame is sent and, after one of its own
detector, the watch for false wakes begins (R336, R339, R341). -/
def State.canBack (s : State) (n : Nat) : State :=
  let p := s.port n
  let t := (s.put (canState_state n) 0).modPort n (fun p => { p with
    nmSt := 0, nmAt := s.now, nmSentReady := false, wakeTx := false, fwWoke := false, fwGood := false,
    fwAt := if p.fwWoke then some s.now else none })
  if p.wakeTx ∧ t.nmf n 3 3 3 = 1 then t.sendNm n false else t

/-- A wake of a port's own detector (R335, R336). -/
def State.canWake (s : State) (n : Nat) : State :=
  let t := s.modPort n (fun p => { p with fwWoke := true, wakeTx := true })
  let on := s.domOn (Dm.can n)
  let t := t.wake (0x10 + n)
  if on then t.canBack n else t

/-! ### The ends of entries and exits -/

/-- An entry has ended: its image is held or its state lost; what waits for it goes on; a wake held during it brings it
back (R324, R326, R333). -/
def State.endEntry (s : State) (d : Nat) : State :=
  let x := s.dom d
  let t := s.modDom d (fun x => { x with going := none, begun := false, next := none })
  let t := if x.st = .off then (t.loseDom d).put (saveDom_valid d) 0 else if x.from_ = .off then t else t.put (saveDom_valid d) 1
  let t := t.domOut d (fun j => sleepState j.cmd == some x.st) true
  let t := match x.next with
    | some .on => t.askOn d
    | some g => t.modDom d (fun y => { y with going := some g, begun := false })
    | none => t
  let t := t.kickEntries.kickExits
  let t : State := if t.hibernates then { t with hibAt := some t.now } else t
  t.levelWakes

/-- The wire states of a bank after a time without current, by the millisecond step of the wire model (spec/07, R155,
R156). -/
def decayTheta (tau : Nat) : Nat → Nat → Nat
  | 0, th => th
  | k + 1, th => if th = 0 then 0 else decayTheta tau k ((th : Int) + rdiv (-(th : Int)) ((100 * tau : Nat) : Int)).toNat

/-- What a domain does when it comes back; a bank's off timers have run on in AON time (R325, R336; spec/07, R156, R163; spec/09, R212).
`kept`: from its image. -/
def State.exitFx (s : State) (d : Nat) (kept : Bool) : State :=
  let away := (s.now - (s.dom d).since) / 100000
  if d = Dm.sys then (if kept then s.sysBack else s.keyStart)
  else if d = Dm.crk then
    let (m, t) := s.aonMs away
    let t : State := { t with devTime := (t.devTime + ms m) % 2 ^ 64, tickAt := t.now }
    let t := t.put crankTsync_coarse 1
    forEach (List.range 8) (fun n u =>
      if kept then u.modAx n (fun a => { a with
        v := 0, st := if a.st = .noSource then .noSource else .init, resumed := a.st != .noSource, n := 0, stamped := false, hold := false,
        edgeA := none, edgeB := none, heardAt := u.now })
      else u) t
  else if d = Dm.net then (s.retrain 4).retrain 5
  else if d = Dm.eth then (s.retrain 0).retrain 1
  else if d = Dm.t1s then (s.retrain 2).retrain 3
  else if 8 ≤ d ∧ d < 14 then (if kept ∨ (s.port (d - 8)).wakeTx = true then s.canBack (d - 8) else s)
  else if 14 ≤ d ∧ d < 22 then
    let (m, t) := s.aonMs away
    forEach (List.range 8) (fun k u =>
      let n := 8 * (d - 14) + k
      u.modCh n (fun c => { c with
        theta := decayTheta (bits (u.cfgw n 5) 31 16) m c.theta
        coolEnd := if c.coolEnd ≤ (s.dom d).since then c.coolEnd else c.coolEnd + (s.now - (s.dom d).since) - ms m })) t
  else if d = Dm.field then ((s.put fieldStat_linkOk 1).put fieldStat_powerOk 1).fqSync
  else if d = Dm.uwb then s.uwbBack
  else if d = Dm.sbi then { s with sbHold := false }
  else s

/-- An exit has ended: the domain is On, and what waited for it goes on (R322, R323). -/
def State.endExit (s : State) (d : Nat) (kept : Bool) : State :=
  let nx := (s.dom d).next
  let t := s.modDom d (fun x => { x with st := .on, going := none, begun := false, next := none })
  let t := t.exitFx d kept
  let t := t.put (saveDom_valid d) 0
  let t := t.domOut d (fun j => !isSleep j.cmd) true
  let t := match nx with
    | some g => if g = DomState.on then t else t.modDom d (fun x => { x with going := some g, begun := false })
    | none => t
  t.kickExits.kickEntries

end Sys2Proof.Machine
end

