-- ==== Sys2Proof/Machine/Keys.lean ====
section
/-! DEFINITION. The meanings of the key store's commands and events (spec/18, R383 to R398). -/

namespace Sys2Proof.Machine

/-- The events of class 23 go to HC0 and to the slot's owner (R415). -/
def State.keyPost (s : State) (code src arg data : Nat) (slot : Option Nat := none) : State :=
  s.post (0 :: (match slot with | some n => s.ownerList 8 n | none => [])) 23 code src arg data

/-! ### Roots and lifecycle (R384, R385, R391) -/

/-- A root is written: the slots it parents are erased with every key derived from it (R391). -/
def State.writeRoot (s : State) (owner : Bool) (key : List Byte) : State :=
  let t := (s.modKa (fun a => let b := a.eraseSlots owner; if owner then { b with owner := some key } else { b with mfr := some key })).useArray
  let t := (t.eraseKeys ((List.range 64).filter (fun n => decide (n < 16) != owner))).uncache (fun d => d.ofRoot owner)
  let t : State := { t with ram := t.ram.filter (fun p => !(decide (p.1 < 64) && (decide (p.1 < 16) != owner))) }
  (t.loadKey (if owner then 65 else 64) key).keyPost 0x05 (b2n owner) 0 0

/-- KEY_ROOT_WRITE (R391). -/
def execKeyRootWrite (h : Hdr) (root : Byte) (key : List Byte) (s : State) : Host.Outcome State Fault Refusal :=
  act (fun s => s.runP h (.keyRootWrite h root key) (fun t =>
    if 1 < root.toNat ∨ key.length ≠ 32 then t.no St.badParam
    else if h.hc ≠ 0 then t.no St.notOwner
    else if t.otp.lc ≠ 1 then t.no St.locked
    else t.yes)) s

/-- The bytes whose CMAC under K_LC is AUTH (R384). -/
def authText (state made : Nat) : List Byte := [0x4C, BitVec.ofNat 8 state] ++ devId ++ beBytes 2 made

/-- The state and overlay that a transition leads to from a lifecycle state, and whether its AUTH is under K_LC; none where
it is no transition from there (R384; a change of state under DEBUG is none, log 29). -/
def transition (lc : Nat) (debug roots : Bool) (state : Nat) : Option (Nat × Bool × Bool) :=
  match state, lc, debug with
  | 0x01, 0, false => some (1, false, false)
  | 0x02, 1, false => if roots then some (2, false, true) else none
  | 0x03, 2, false => some (3, false, true)
  | 0x01, 3, false => some (1, false, true)
  | 0x10, 1, false => some (1, true, true)
  | 0x10, 3, false => some (3, true, true)
  | 0x11, k, true => some (k, false, false)
  | _, _, _ => none

/-- A transition takes effect: the count rises, staged keys go, a release ends, and the key arrays are what the new state
gives (R384, R385, R396, R407). -/
def State.setLifecycle (s : State) (lc : Nat) (debug : Bool) : State :=
  let was := s.dbgArr.isSome
  let t : State := { s with otp := { s.otp with lc := lc, made := s.otp.made + 1 } }
  let t := (match t.keyWrite with | some w => (t.unstage.endJob w.job St.flushed 0) | none => t.unstage).endRelease 0x13
  let t : State := if lc = 3 ∧ s.otp.lc = 2 then { t.eraseKeys returnRecords with keyArr := t.keyArr.toReturn } else t
  let t : State := if was = debug then t else { t with dbgArr := if debug then some {} else none }
  let t : State :=
    if was ≠ debug ∨ (lc = 3 ∧ s.otp.lc = 2) then
      (({ t with cache := [] } : State).loadKeys).modImm (fun i => { i with fresh := t.ka.mark })
    else t
  (t.keyPost 0x02 0 (lc + b2n debug * 0x100) (30 - t.otp.made)).immCheck

/-- The transition that LIFECYCLE_SET names now. -/
def State.transitionTo (s : State) (state : Byte) : Option (Nat × Bool × Bool) :=
  transition s.otp.lc s.dbgArr.isSome (s.ka.mfr.isSome && s.ka.owner.isSome) state.toNat

/-- LIFECYCLE_SET (R384). -/
def execLifecycleSet (h : Hdr) (state : Byte) (auth : List Byte) (s : State) : Host.Outcome State Fault Refusal :=
  act (fun s => s.runP h (.lifecycleSet h state auth) (fun t =>
    if h.hc ≠ 0 then t.no St.notOwner
    else match t.transitionTo state with
      | none => t.no St.badState
      | some (_, _, keyed) =>
        if 30 ≤ t.otp.made then t.no St.noResource
        else if keyed then
          let (k, u) := t.derive .lifecycle
          match k with
          | some key => if auth = Config.aesCmac key (authText state.toNat t.otp.made) then u.yes else u.no St.authFail
          | none => u.no St.authFail
        else if auth = List.replicate 16 0 then t.yes else t.no St.authFail)) s

/-! ### Replacing a working key (R392 to R396) -/

/-- The lifecycle lets slot `n` be staged and used (R383, R392). -/
def State.slotLive (s : State) (n : Nat) : Bool := s.otp.lc == 1 || s.otp.lc == 2 || (s.otp.lc == 3 && decide (n < 16))

/-- The staged key that forty unwrapped bytes hold for slot `n`, or the status that refuses them (R392). -/
def stageOf (n : Nat) (present : Nat) (b : List Byte) : Except Byte Staged :=
  let usage := (nth 0 b 33).toNat
  let version := beNat (b.drop 36)
  if b.length ≠ 40 ∨ (nth 0 b 32).toNat ≠ n ∨ version ≤ present then .error St.authFail
  else if nth 0 b 34 ≠ 0 ∨ nth 0 b 35 ≠ 0 ∨ 15 < usage then .error St.badParam
  else .ok { slot := n, key := b.take 32, usage := usage, version := version }

/-- What an unwrapped key for slot `n` does: it is staged, in place of one for the same slot, where it is good and there is room
(R392). -/
def State.stageBy (s : State) (n : Nat) (key : Option (List Byte)) : Ans :=
  match key with
  | none => .no s St.authFail
  | some b =>
    match stageOf n (((s.ka.slot n).version).getD 0) b with
    | .error st => .no s st
    | .ok x =>
      let l := s.staged.filter (fun y => y.slot != n)
      if 4 ≤ l.length then .no s St.noResource else { s := { s with staged := l ++ [x] } }

/-- KEY_STAGE (R392). -/
def execKeyStage (h : Hdr) (slot : Byte) (wrapped : List Byte) (s : State) : Host.Outcome State Fault Refusal :=
  act (fun s => s.runI h (.keyStage h slot wrapped) (fun t =>
    let n := slot.toNat
    if 63 < n ∨ wrapped.length ≠ 48 then .no t St.badParam
    else if ¬ t.owns h.hc.val 8 n then .no t St.notOwner
    else if t.slotLive n = false then .no t St.locked
    else
      let (k, u) := t.derive (.kek n)
      match k with
      | none => .no u St.badState
      | some kek => u.stageBy n (Config.aesUnwrap kek wrapped))) s

/-- KEY_VERIFY (R393). -/
def execKeyVerify (h : Hdr) (slot : Byte) (nonce : List Byte) (s : State) : Host.Outcome State Fault Refusal :=
  act (fun s => s.runI h (.keyVerify h slot nonce) (fun t =>
    let n := slot.toNat
    if 63 < n ∨ nonce.length ≠ 16 then .no t St.badParam
    else if ¬ t.owns h.hc.val 8 n then .no t St.notOwner
    else if t.slotLive n = false then .no t St.locked
    else match t.stagedOf n with
      | none => .no t St.badState
      | some x =>
        { s := { t with staged := t.staged.map (fun y => if y.slot = n then { y with verified := true } else y) },
          cont := wordsOf (Config.aesCmac x.key (ascii "GZKV" ++ nonce ++ beBytes 1 n ++ beBytes 4 x.version)) })) s

/-- A slot of the array in use changed. -/
def State.modKeySlot (s : State) (n : Nat) (f : KeySlot → KeySlot) : State := s.modKa (fun a => a.setSlot n (f (a.slot n)))

/-- A KEY_COMMIT whose turn at the key array has come: the spare record is being written. A commit whose staged key is
gone by then writes nothing. -/
def State.keyBegin (s : State) (j : Job) (slot : Nat) : State :=
  match s.stagedOf slot with
  | some x =>
    { s.modKeySlot slot (fun k => k.setSpare { key := x.key, usage := x.usage, version := x.version, crcGood := false }) with
      keyWrite := some { job := j.id, key := x } }
  | none => s.endJob j.id St.badState 0

/-- The next record write begins. -/
def State.kickFlash (s : State) : State :=
  match s.keyWrite, s.writing with
  | none, some j => (match j.cmd with | .keyCommit _ slot => s.keyBegin j slot.toNat | _ => s)
  | _, _ => s

/-- KEY_COMMIT: the first of its three writes begins, into the spare record (R394). -/
def execKeyCommit (h : Hdr) (slot : Byte) (s : State) : Host.Outcome State Fault Refusal :=
  let i := Instr.keyCommit h slot
  act (fun s => s.dispatch h i (fun t =>
    let n := slot.toNat
    if 63 < n then t.complete h 0x53 St.badParam 0
    else if ¬ t.owns h.hc.val 8 n then t.complete h 0x53 St.notOwner 0
    else if t.slotLive n = false then t.complete h 0x53 St.locked 0
    else match t.stagedOf n with
      | none => t.complete h 0x53 St.badState 0
      | some x =>
        if x.verified = false then t.complete h 0x53 St.badState 0
        else (t.addJob h i).2.kickFlash)) s

/-- A write of the commit under way is complete. The commit point is the end of the second; an ABORT that waits wins at the
end of the first (R394; spec/04, R89). -/
def State.keyStep (s : State) (w : KeyWrite) : State :=
  let x := w.key
  let nx : State := { s with keyWrite := some { w with step := w.step + 1 } }
  match w.step with
  | 1 =>
    let t := (nx.modKeySlot x.slot (fun k => k.setSpare { key := x.key, usage := x.usage, version := x.version })).useArray
    if ((t.job w.job).map (fun j => decide (j.aborts ≠ []))).getD false then
      ({ t with keyWrite := none } : State).endJob w.job St.aborted 0
    else t.modKeySlot x.slot (fun k => { k with copyA := none })
  | 2 =>
    let t := nx.modKeySlot x.slot (fun k => { k with copyA := some x.version, copyB := none })
    let t : State := { t with staged := t.staged.filter (fun y => y.slot != x.slot) }
    let t := (t.uncache (fun d => d.slotOf == some x.slot)).loadKey x.slot x.key
    let t := if x.slot = t.immf 1 25 20 then t.freshReset else t
    (t.keyPost 0x01 x.slot 0 x.version (some x.slot)).endJob w.job St.ok x.version
  | _ => { s.modKeySlot x.slot (fun k => { k with copyB := some x.version }) with keyWrite := none }

/-! ### Challenges (R398) -/

/-- KEY_CHALLENGE (R398). -/
def execKeyChallenge (h : Hdr) (slot : Byte) (nonce : List Byte) (s : State) : Host.Outcome State Fault Refusal :=
  act (fun s => s.runI h (.keyChallenge h slot nonce) (fun t =>
    let n := slot.toNat
    let l := t.challenges.filter (fun x => decide (t.now < x + sec 1))
    if 63 < n ∨ nonce.length ≠ 16 then .no t St.badParam
    else if t.slotLive n = false then .no t St.locked
    else match t.useKey n 1 with
      | none => .no t St.badState
      | some key =>
        if 20 ≤ l.length then .no t St.busy
        else { s := { t with challenges := t.now :: l }, cont := wordsOf (Config.aesCmac key (ascii "GZCH" ++ nonce ++ devId)) })) s

/-! ### Shares and random source (R389, R390) -/

/-- Every share pair masked afresh (R389). -/
def State.remaskAll (s : State) : State :=
  let (ram, k) := s.ram.foldl (fun (p : Sparse Shares × Nat) x =>
    (p.1 ++ [(x.1, x.2.remask ((List.range x.2.a.length).map (Config.freeByte p.2)))], p.2 + 1)) ([], s.freeCount)
  let (cache, k) := s.cache.foldl (fun (p : List CacheKey × Nat) x =>
    (p.1 ++ [{ x with sh := x.sh.remask ((List.range x.sh.a.length).map (Config.freeByte p.2)) }], p.2 + 1)) ([], k)
  { s with ram := ram, cache := cache, freeCount := k, remaskAt := s.now }

/-- REMASK: every share pair is re-masked with fresh random values, while the random source is healthy (R389, R390). -/
def execRemask (s : State) : Host.Outcome State Fault Refusal :=
  act (fun s =>
    if s.sysUp = true ∧ s.domOn Dm.sys = true ∧ s.flag keyStat_rngOk = true ∧ s.remaskAt + ms (s.get keyCfg_remask) ≤ s.now then s.remaskAll
    else s) s

/-- RNG_HEALTH_TEST: a failure may come at any time; a test that passes is run every second (R390). -/
def execRngHealthTest (pass : Bool) (s : State) : Host.Outcome State Fault Refusal :=
  act (fun s =>
    let due := match s.rngAt with | some t => decide (t + sec 1 ≤ s.now) | none => true
    if s.sysUp = false ∨ s.domOn Dm.sys = false then s
    else if pass then (if due then { s with rngAt := some s.now }.put keyStat_rngOk 1 else s)
    else ({ s with rngAt := some s.now }.put keyStat_rngOk 0).keyPost 0x03 0 0 0) s

end Sys2Proof.Machine
end

