-- ==== Sys2Proof/Machine/Imm.lean ====
section
/-! DEFINITION. The meanings of the immobiliser's commands and events (spec/18, R400 to R415). -/

namespace Sys2Proof.Machine

/-! ### Enrolment (R405) -/

/-- The enrolment that a record's words give, if its fields are in range for slot `k` (R405). -/
def tokOf (k : Nat) (ws : List Word) : Option Tok :=
  let f := setField ws
  let treply := f 2 31 0
  let centre := (k + 1) * 1000000
  if f 3 7 1 ≠ 0 ∨ (ws.drop 8).any (fun w => w != 0) = true then none
  else if within 1 10000 (f 3 31 16) = false ∨ within 1 2 (f 3 15 8) = false then none
  else if treply + 200000 < centre ∨ centre + 200000 < treply then none
  else some { id := BitVec.ofNat 64 (f 0 31 0 * 2 ^ 32 + f 1 31 0), treply := treply, tol := f 3 31 16, typ := f 3 15 8, parkWake := f 3 0 0 == 1 }

/-- IMM_ENROLL, with its checks in R405's order. -/
def execImmEnroll (h : Hdr) (token : Byte) (record : List Byte) (s : State) : Host.Outcome State Fault Refusal :=
  act (fun s => s.runP h (.immEnroll h token record) (fun t =>
    let k := token.toNat
    if 7 < k ∨ record.length ≠ 48 then t.no St.badParam
    else match tokOf k (wordsOf record) with
      | none => t.no St.badParam
      | some x =>
        if t.enrolled.any (fun p => p.1 != k && p.2.id == x.id) then t.no St.badParam
        else if ¬ t.owns h.hc.val 0x0B 0 then t.no St.notOwner
        else if t.immLive = false then t.no St.locked
        else if (t.ka.tok k).isSome then t.no St.badState
        else
          let (key, u) := t.derive (.token (t.immf 1 31 26) x.id)
          match key with
          | none => u.no St.authFail
          | some kt =>
            if (record.drop 16).take 16 = Config.aesCmac kt (ascii "GZEN" ++ beBytes 8 x.id.toNat ++ beBytes 4 x.treply) then u.yes
            else u.no St.authFail)) s

/-- IMM_REVOKE (R405). -/
def execImmRevoke (h : Hdr) (token : Byte) (s : State) : Host.Outcome State Fault Refusal :=
  act (fun s => s.runP h (.immRevoke h token) (fun t =>
    let k := token.toNat
    if 7 < k then t.no St.badParam
    else if ¬ t.owns h.hc.val 0x0B 0 then t.no St.notOwner
    else if t.immLive = false then t.no St.locked
    else if (t.ka.tok k).isNone then t.no St.badState
    else t.yes)) s

/-- A token slot's record is written or freed; a release bound to a token that is revoked ends (R405, R407). -/
def State.setTok (s : State) (k : Nat) (x : Option Tok) : State :=
  let t := ((s.modKa (fun a => a.setTok k x)).useArray).modTok k (fun _ => {})
  if x = none ∧ t.imm.bound = some k then t.endRelease 0x12 else t

/-! ### State (R414) -/

/-- RESULT of IMM_STATE. -/
def State.immResult (s : State) : Nat :=
  let i := s.imm
  (match i.rel with | .blocked => 0 | .released => 1 | .ending => 2) + i.bound.getD 0 % 8 * 4 + b2n i.req * 0x20 + s.parkShown * 0x40 +
    listMask (s.enrolled.map (fun p => p.1)) * 0x100

/-- One slot's 16-bit entry: class and distance. -/
def State.tokEntry (s : State) (k : Nat) : Nat := (s.tokStat k).last * 0x4000 + (s.tokStat k).dist % 0x4000

/-- IMM_STATE, in every state of UWB and without ownership (R414). -/
def execImmState (h : Hdr) (s : State) : Host.Outcome State Fault Refusal :=
  act (fun s => s.runI h (.immState h) (fun t =>
    { s := t, result := t.immResult, cont := (List.range 4).map (fun j => word (t.tokEntry (2 * j) * 0x10000 + t.tokEntry (2 * j + 1))) })) s

/-! ### Polls (R400, R403, R406) -/

/-- A request is served now: it stands, the lifecycle allows it, UWB is On, or in Retention, from which AON brings it On for each poll
(R407, R412; log 107), no poll runs, and no release is ending. -/
def State.immServes (s : State) : Bool :=
  s.imm.req && s.immLive && s.uwbPolls && s.imm.poll.isNone && s.imm.rel != .ending

/-- POLL_START: the first poll of a request, or ACTIVE_PER after the start of the last (R406). -/
def execPollStart (s : State) : Host.Outcome State Fault Refusal :=
  act (fun s =>
    let due := match s.imm.lastAt with | none => true | some t => decide (t + ms (s.immf 1 19 10) ≤ s.now)
    if s.immServes = true ∧ s.imm.retryAt = none ∧ due = true then s.startPoll else s) s

/-- POLL_RETRY: the retry of a rejected poll when its delay has run (R403). -/
def execPollRetry (s : State) : Host.Outcome State Fault Refusal :=
  act (fun s => match s.imm.retryAt with
    | some e => if s.immServes = true ∧ e ≤ s.now then s.startPoll else s
    | none => s) s

/-- A poll `p` is decided by the answers heard (R400 to R407). -/
def State.pollDecide (s : State) (p : Poll) (answers : List PollAnswer) : State :=
  let t := (s.modImm (fun i => { i with poll := none })).emit
    (.uwb true p.count (s.immf 0 31 31) p.key)
  let cs := t.classes p (t.immf 0 29 20) answers
  match collision cs with
  | some (k, au) => t.reject cs k au
  | none => t.decidePoll cs

/-- POLL_DECISION: 18 ms after its POLL, with the FINAL sent 9 ms after it, a poll is decided (R400 to R407). -/
def execPollDecision (answers : List PollAnswer) (s : State) : Host.Outcome State Fault Refusal :=
  act (fun s => match s.imm.poll with
    | none => s
    | some p =>
      if s.now < p.startAt + ms 18 ∨ s.uwbPolls = false then s
      else s.pollDecide p answers) s

/-- The frame that is due is sent (R408 to R410). -/
def State.sendDue (s : State) : State :=
  let i := s.imm
  let t := s.modImm (fun x => { x with frameAt := s.now + ms (s.immf 1 9 0) })
  if 2 ^ 32 ≤ i.fresh then t.immBlocked
  else if i.fresh = 2 ^ 32 - 1 then
    let u := t.sendRel 0x14 true
    let u := if i.rel = .released then (u.immPost 0x02 (i.bound.getD 0x3FF) 0x14 (2 ^ 32 - 1)).parkRestart else u
    u.immBlocked
  else if i.rel = .released then (t.sendRel i.reason false).modImm (fun x => { x with reason := 0x02 })
  else
    let u := t.sendRel i.reason true
    if i.blocks ≤ 1 then u.immBlocked else u.modImm (fun x => { x with blocks := i.blocks - 1 })

/-- RELEASE_FRAME: a frame is due every REL_PER, while SYS runs: a release frame, or one of three BLOCK frames, or the one
BLOCK frame of an exhausted counter (R408 to R410). -/
def execReleaseFrame (s : State) : Host.Outcome State Fault Refusal :=
  act (fun s =>
    let i := s.imm
    if i.rel = .blocked ∨ s.now < i.frameAt ∨ s.sysUp = false ∨ s.domOn Dm.sys = false then s
    else s.sendDue) s

/-! ### Parked polling (R411 to R413) -/

/-- Tokens after a parked poll: one that has raised a wake stays quiet until three polls in a row have missed it. -/
def State.parkHold (s : State) (cs : List (Nat × Tok × AnsClass)) : State :=
  cs.foldl (fun (u : State) c => match c.2.2 with
    | .valid _ => u.modTok c.1 (fun x => { x with hold := if x.hold = 0 then 0 else 3 })
    | _ => u.modTok c.1 (fun x => { x with hold := x.hold - 1 })) s

/-- A parked poll and what its answers do (R411 to R413). -/
def State.parkedPoll (s : State) (answers : List PollAnswer) : State :=
  let t := s.startPoll
  let p := t.imm.poll.getD { startAt := s.now, count := 0, toks := [] }
  let t := t.modImm (fun i => { i with poll := none, parkPoll := t.now, lastAt := none })
  let t := t.emit (.uwb true p.count (t.immf 0 31 31) p.key)
  let cs := t.classes p (t.immf 0 19 10) answers
  match collision cs with
  | some (k, au) => t.reject cs k au
  | none =>
    let t := t.modImm (fun i => { i with rejRun := 0, retries := 0 })
    let t := cs.foldl (fun (u : State) c => u.noteAnswer c.1 c.2.2) t
    let wakers := (validOf cs).filter (fun x => x.2.1.parkWake && (t.tokStat x.1).hold == 0)
    let t := t.parkHold cs
    if wakers = [] then t
    else
      let t := wakers.foldl (fun (u : State) x => u.modTok x.1 (fun y => { y with hold := 3 })) t
      if t.wakeOn 0x0B then t.wake 0x0B else t

/-- PARKED_POLL: a poll at the park period, or the retry of a rejected one; a VALID token with PARKWAKE raises wake 0x0B
(R411 to R413). -/
def execParkedPoll (answers : List PollAnswer) (s : State) : Host.Outcome State Fault Refusal :=
  act (fun s =>
    let per := match s.parkCode with | 1 => 1000 | 2 => 4000 | _ => 0
    let due := match s.imm.retryAt with
      | some e => decide (e ≤ s.now)
      | none => decide (ms per * 1000 ≤ (s.now - s.imm.parkPoll) * s.imm.parkRate)
    if s.parks = false ∨ per = 0 ∨ due = false then s
    else s.parkedPoll answers) s

/-- PARK_MODE: the park clock has reached 72 h or STOP_DAYS (R411). -/
def execParkMode (s : State) : Host.Outcome State Fault Refusal :=
  act (fun s => if s.parks then s.parkNote else s) s

end Sys2Proof.Machine
end

