-- ==== Sys2Proof/Machine/Power.lean ====
section
/-! DEFINITION. The meanings of the power and wake commands and events (spec/15, R320 to R346). -/

namespace Sys2Proof.Machine

/-! ### DOMAIN_SET (R323, R324, R333) -/

/-- The state code of DOMAIN_SET. -/
def domTarget (st : Nat) : DomState := match st with | 0 => .on | 1 => .ret | _ => .off

/-- A named domain is asked to sleep: it waits for its turn, or does so after the transition under way. -/
def State.askSleep (s : State) (d : Nat) (g : DomState) : State :=
  let x := s.dom d
  match x.going with
  | none =>
    if x.st = g then s
    else
      let t := s.modDom d (fun y => { y with going := some g, begun := false })
      if 8 ≤ d ∧ d < 14 then t.modPort (d - 8) (fun p => { p with nmSentReady := false }) else t
  | some h => s.modDom d (fun y => { y with next := if h = g then none else some g })

/-- A named domain is needed by one that is not named and On, or on its way there, since it may not be On without (R321, R323; DEDUCED,
log 128). -/
def State.neededOutside (s : State) (mask : Nat) : Bool :=
  (List.range 24).any (fun k => !mask.testBit k && (s.domOn k || (s.dom k).going == some .on) && (domChain k).any (fun d => mask.testBit d))

/-- DOMAIN_SET (R323, R324, R325). -/
def execDomainSet (h : Hdr) (mask : Word) (state : Byte) (s : State) : Host.Outcome State Fault Refusal :=
  let i := Instr.domainSet h mask state
  act (fun s => s.dispatch h i (fun t =>
    let m := mask.toNat
    let ds := maskList 24 m
    let g := domTarget state.toNat
    if m % 2 = 1 ∨ 2 ^ 24 ≤ m ∨ 2 < state.toNat then t.complete h 0x70 St.badParam 0
    else if ds.all (fun d => t.owns h.hc.val 9 d) = false then t.complete h 0x70 St.notOwner 0
    else if g ≠ .on ∧ (t.neededOutside m = true ∨ (t.flag pwrStart_limp = true ∧ ds.any (fun d => decide (14 ≤ d) && decide (d < 22)) = true)) then
      t.complete h 0x70 St.badState 0
    else
      let wait := listMask (ds.filter (fun d => (t.dom d).st != g || (t.dom d).going.isSome))
      let wait := if g = .on then listMask (ds.filter (fun d => !t.domOn d)) else wait
      let (id, u) := t.addJob h i wait
      let u := if g = .on then forEach ds (fun d v => v.askOn d) u else (forEach ds (fun d v => v.askSleep d g) u).kickEntries.levelWakes
      u.settleDom id)) s

/-- DOMAIN_ENTRY_COMPLETE: an entry that has begun ends (R324). -/
def execDomainEntryComplete (d : Fin 24) (s : State) : Host.Outcome State Fault Refusal :=
  act (fun s =>
    let t := s.kickEntries
    let x := t.dom d.val
    if x.begun = true ∧ x.going ≠ some .on ∧ x.going.isSome then t.endEntry d.val else t) s

/-! ### Wake sources (R328 to R332) -/

/-- Source `c` exists. -/
def wakeSrc (c : Nat) : Bool := decide (c < 0x0C) || (decide (0x10 ≤ c) && decide (c < 0x16))

/-- The ranges and reserved bits of a wake record for source `c` (R328, R341). -/
def wakeConds (c : Nat) (ws : List Word) : List Bool :=
  let f := setField ws
  if 0x10 ≤ c then
    [f 0 30 29 == 0, decide (f 0 27 24 ≤ 10), f 1 30 29 == 0, f 3 28 24 == 0, f 3 3 2 != 3, f 3 1 0 == 0]
  else if c = 0x0A then
    [f 0 30 29 == 0, f 0 27 24 == 0, decide (1 ≤ f 1 31 0), decide (f 1 31 0 ≤ 0x7FFFFFFF), f 2 31 1 == 0, f 3 31 0 == 0]
  else if c = 9 then
    [f 0 30 29 == 0, f 0 27 24 == 0, f 1 31 24 == 0, f 2 31 0 == 0, f 3 31 0 == 0]
  else
    [decide (c < 8) || f 0 30 29 == 0, (if c < 8 then f 0 27 25 == 0 else f 0 27 24 == 0), f 1 31 0 == 0, f 2 31 0 == 0, f 3 31 0 == 0]

/-- The record is acceptable as a whole. -/
def wakeRecOk (c : Nat) (ws : List Word) : Bool := (wakeConds c ws).all id

/-- A wake record takes effect: the timer starts from TIME, a CAN port's tightened filter ends (R328, R332, R341). -/
def State.wakeApply (s : State) (c : Nat) : State :=
  let t : State :=
    if c = 0x0A then { s with wakeTimer := if s.wakeOn c then some (s.now + ms (s.wkf c 1 31 0)) else none }
    else if 0x10 ≤ c then s.put (pwrFw_tight (c - 0x10)) 0
    else s
  t.irqCheck.levelWakes

/-- A wake record stored and applied. -/
def State.wakeCommit (s : State) (c : Nat) (ws : List Word) : State :=
  (forEach (List.range 4) (fun k t => t.wr (pwrWakecfg_word c k).addr (ws.getD k 0)) s).wakeApply c

/-- WAKE_CONFIG (R328, R335). -/
def execWakeConfig (h : Hdr) (source : Byte) (record : List Word) (s : State) : Host.Outcome State Fault Refusal :=
  act (fun s => s.runI h (.wakeConfig h source record) (fun t =>
    let c := source.toNat
    if wakeSrc c = false ∨ record.length ≠ 4 ∨ wakeRecOk c record = false then .no t St.badParam
    else if ¬ (t.owns h.hc.val 0x0A 1 = true ∧ (c < 0x10 ∨ t.owns h.hc.val 3 (c - 0x10) = true)) then .no t St.notOwner
    else if 0x10 ≤ c ∧ setField record 0 31 31 = 1 ∧ t.canFast (c - 0x10) = false then .no t St.badState
    else { s := t.wakeCommit c record })) s

/-- WAKE_TIMER_EXPIRY: the wake timer, accurate to 3 %, has run out (R332). -/
def execWakeTimerExpiry (s : State) : Host.Outcome State Fault Refusal :=
  act (fun s =>
    match s.wakeTimer with
    | none => s
    | some e =>
      let tm := ms (s.wkf 0x0A 1 31 0)
      if e ≤ s.now + tm * 3 / 100 then
        ({ s with wakeTimer := if s.wkf 0x0A 2 0 0 = 1 then some (s.now + tm) else none } : State).wake 0x0A
      else s) s

/-- PWR_DOMSTATE's code of a domain; UWB is On for a poll from Retention (R348; spec/18, R412). -/
def State.domCode (s : State) (d : Nat) : Nat :=
  let x := s.dom d
  if x.going.isSome ∧ x.begun = true then 3
  else if d = Dm.uwb ∧ x.st = .ret ∧ s.imm.poll.isSome = true then 2
  else match x.st with | .on => 2 | .ret => 1 | .off => 0

/-- PWR_DOMSTATEk. -/
def State.domWord (s : State) (k : Nat) : Nat :=
  ((List.range (if k = 0 then 16 else 8)).map (fun j => s.domCode (16 * k + j) * 4 ^ j)).sum

/-- PWR_STATUS: the domains On, and the two words of PWR_DOMSTATE (R80; log 23). -/
def execPwrStatus (h : Hdr) (s : State) : Host.Outcome State Fault Refusal :=
  act (fun s => s.runI h (.pwrStatus h) (fun t =>
    { s := t, result := listMask ((List.range 24).filter (fun d => t.domCode d == 2)), cont := [word (t.domWord 0), word (t.domWord 1), 0, 0] })) s

/-! ### Sleep agreement (R338 to R340) -/

/-- The ranges and reserved bits of an NM record (R338). -/
def nmConds (ws : List Word) : List Bool :=
  let f := setField ws
  [f 0 29 29 == 0, f 1 30 29 == 0, decide (1 ≤ f 3 23 16), decide (1 ≤ f 3 15 10), decide (1 ≤ f 3 9 7), f 3 2 0 == 0]

/-- The record is acceptable as a whole. -/
def nmRecOk (ws : List Word) : Bool := (nmConds ws).all id

/-- A DOMAIN_SET that names the port's domain is in progress: its command has not completed, or, where SYS was named and it completed early,
the domain's sleep goes on (R324, R338). -/
def State.canSleeping (s : State) (n : Nat) : Bool :=
  s.jobs.any (fun j => match j.cmd with | .domainSet _ m _ => m.toNat.testBit (Dm.can n) | _ => false) || (s.dom (Dm.can n)).awaits

/-- NM_CONFIG (R338). -/
def execNmConfig (h : Hdr) (port : Byte) (record : List Word) (s : State) : Host.Outcome State Fault Refusal :=
  act (fun s => s.runI h (.nmConfig h port record) (fun t =>
    let n := port.toNat
    if 5 < n ∨ record.length ≠ 4 ∨ nmRecOk record = false then .no t St.badParam
    else if ¬ t.owns h.hc.val 3 n then .no t St.notOwner
    else if t.canSleeping n then .no t St.badState
    else
      let u := forEach (List.range 4) (fun k v => v.wr (pwrNm_word n k).addr (record.getD k 0)) t
      { s := u.modPort n (fun p => { p with nmSt := 0, nmAt := u.now, nmSentReady := false }) })) s

/-- The port's domain waits for its sleep agreement. -/
def State.nmWaits (s : State) (n : Nat) : Bool :=
  let x := s.dom (Dm.can n)
  x.st == .on && !x.begun && (x.going == some .ret || x.going == some .off)

/-- Sleep agreement runs on a port: ENABLE, its domain On, and NORMAL (R339). -/
def State.nmRuns (s : State) (n : Nat) : Bool := s.nmf n 0 31 31 == 1 && s.domOn (Dm.can n) && s.canSt n == 0

/-- PWR_NMSTAT's code: off, awake, ready, in wait-bus-sleep, or asleep with its domain (R348). -/
def State.nmShown (s : State) (n : Nat) : Nat :=
  if s.nmf n 0 31 31 = 0 then 0
  else if s.domOn (Dm.can n) = false then 4
  else if s.canSt n ≠ 0 then 0
  else if (s.port n).nmSt = 3 then 3
  else if s.nmWaits n then 2 else 1

/-- NM_PERIOD: the port's NM message is due (R339). -/
def execNmPeriod (port : Fin 6) (s : State) : Host.Outcome State Fault Refusal :=
  act (fun s =>
    let n := port.val
    let p := s.port n
    if s.nmRuns n ∧ p.nmSt = 0 ∧ p.nmAt ≤ s.now then
      (s.sendNm n (s.nmWaits n)).modPort n (fun p => { p with nmAt := s.now + ms (10 * s.nmf n 3 15 10) })
    else s) s

/-- NM_AGREEMENT: a message with sleep-ready 1 has been sent, and none with 0 received for 3 × PERIOD: wait-bus-sleep
begins (R340). -/
def execNmAgreement (port : Fin 6) (s : State) : Host.Outcome State Fault Refusal :=
  act (fun s =>
    let n := port.val
    let p := s.port n
    if s.nmRuns n ∧ s.nmWaits n ∧ p.nmSt = 0 ∧ p.nmSentReady = true ∧ p.nmNotReady + ms (30 * s.nmf n 3 15 10) ≤ s.now then
      s.modPort n (fun p => { p with nmSt := 3, nmWbs := s.now })
    else s) s

/-- WAIT_BUS_SLEEP_END: the port's domain begins its entry (R340). -/
def execWaitBusSleepEnd (port : Fin 6) (s : State) : Host.Outcome State Fault Refusal :=
  act (fun s =>
    let n := port.val
    let p := s.port n
    if p.nmSt = 3 ∧ s.nmWaits n = true ∧ p.nmWbs + ms (10 * s.nmf n 3 23 16) ≤ s.now then
      ((s.modPort n (fun p => { p with nmSt := 0, nmSentReady := false })).beginEntry (Dm.can n)).levelWakes
    else s) s

/-! ### CAN wake-up frames and false wakes (R335, R336, R341) -/

/-- CAN_WAKE_FRAME: a frame reaches a port's wake-up frame detector (R329, R335, R341). -/
def execCanWakeFrame (port : Fin 6) (f : CanFrame) (s : State) : Host.Outcome State Fault Refusal :=
  act (fun s =>
    let n := port.val
    if s.detector n = true ∧ s.wakeMatches n f = true then s.canWake n else s) s

/-- FRAME_ERROR_WAKE: a detector's frame-error counter passes 31 (R335). -/
def execFrameErrorWake (port : Fin 6) (s : State) : Host.Outcome State Fault Refusal :=
  act (fun s =>
    let n := port.val
    if s.detector n then (s.put (pwrFw_errwake n) 1).canWake n else s) s

/-- A wake by a frame after which nothing useful came: counted, and at the threshold the filter's action is taken, with an event and
a fault (R341). -/
def State.falseWake (s : State) (n : Nat) : State :=
  let c := 0x10 + n
  let t := (s.inc (pwrFw_total n)).inc (pwrFw_consec n)
  let thr := t.wkf c 3 7 4
  if thr = 0 ∨ t.get (pwrFw_consec n) < thr then t
  else
    let fa := t.wkf c 3 3 2
    let t := t.put (pwrFw_consec n) 0
    let t :=
      if fa = 1 then t.put (pwrFw_tight n) 1
      else if fa = 2 then
        (t.put (pwrFw_susp n) 1).modPort n (fun p => { p with suspEnd := t.now + sec (60 * 2 ^ t.wkf c 0 27 24) })
      else t
    (t.post ([0] ++ t.ownerList 3 n) 20 0x02 n fa 0).fault (0x48 + n) 0x2A n

/-- FALSE_WAKE_CHECK: 200 ms after a detector's wake brought the port back: a wake with no other error-free frame was
false, and FW_THR of them in a row act as FW_ACT gives (R341). -/
def execFalseWakeCheck (port : Fin 6) (s : State) : Host.Outcome State Fault Refusal :=
  act (fun s =>
    let n := port.val
    match (s.port n).fwAt with
    | none => s
    | some a =>
      if s.now < a + ms 200 then s
      else
        let t := s.modPort n (fun p => { p with fwAt := none })
        if (s.port n).fwGood then t.put (pwrFw_consec n) 0 else t.falseWake n) s

/-- WAKE_SUSPEND_END: a suspended detector resumes with its filter as it was (R341). -/
def execWakeSuspendEnd (port : Fin 6) (s : State) : Host.Outcome State Fault Refusal :=
  act (fun s =>
    let n := port.val
    if s.flag (pwrFw_susp n) ∧ (s.port n).suspEnd ≤ s.now then s.put (pwrFw_susp n) 0 else s) s

end Sys2Proof.Machine
end

