-- ==== Sys2Proof/Machine/Scree.lean ====
section
/-! DEFINITION. Scree: accepting reports, retests, reactions, hardware actions, quiet points and the fault commands
(spec/17, R363 to R382). -/

namespace Sys2Proof.Machine

/-! ### Kinds and sources (R363, R365, R368) -/

/-- SRC of a message. -/
def srcOf (m : Word) : Nat := bits m.toNat 31 22
/-- KIND of a message. -/
def kindOf (m : Word) : Nat := bits m.toNat 21 16

/-- A SRC value that a block instance has (R363). -/
def srcValid (c : Nat) : Bool :=
  decide (c ≤ 0x4D) || within 0x50 0x55 c || within 0x58 0x70 c || c == 0x78 || c == 0x79 || within 0x80 0x87 c

/-- What a kind's retest looks at (R368). -/
inductive Retest where
  | word | comparator | driver | recheck | link | none
  deriving DecidableEq, Repr

/-- The retest that a kind's row names (R365). -/
def retestOf (k : Nat) : Retest :=
  if k ∈ [0x01, 0x02, 0x03, 0x04, 0x05, 0x0E] then .driver
  else if k ∈ [0x08, 0x09] then .comparator
  else if k ∈ [0x0A, 0x0B, 0x0C, 0x10, 0x11, 0x14, 0x15, 0x18, 0x19, 0x1A, 0x24, 0x25, 0x26, 0x27] then .recheck
  else if k ∈ [0x12, 0x1B, 0x1D, 0x1E, 0x1F] then .word
  else if k ∈ [0x13, 0x20, 0x21, 0x22, 0x23, 0x28, 0x2B, 0x2E] then .link
  else .none

/-- The kinds with no retest: PERSISTENT at their report (R368). -/
def noRetest (k : Nat) : Bool := retestOf k == .none

/-- The hardware actions that a kind allows beside NONE, LIMP and SYS_RESET (R365). -/
def extraActions (k : Nat) : List Nat :=
  if k ≤ 0x09 ∨ k = 0x0C ∨ k = 0x0D then [1, 2]
  else if k = 0x0A ∨ k = 0x0B ∨ k = 0x0E then [1]
  else if k = 0x10 ∨ k = 0x11 ∨ k = 0x12 ∨ k = 0x14 ∨ k = 0x15 then [2]
  else if k = 0x19 ∨ (0x22 ≤ k ∧ k ≤ 0x29) ∨ k = 0x2B then [3]
  else []

/-- A combination of REACTION, ACTION and TIME that R381 accepts for a kind. -/
def reactionOk (k reaction action time : Nat) : Bool :=
  (action == 0 || action == 4 || action == 5 || decide (action ∈ extraActions k)) &&
    (if reaction ≤ 1 then action == 0 else decide (reaction ≤ 3) && action != 0) &&
    (if reaction = 2 then within 1 1000 time else time == 0)

/-- The contexts that own the resource a source names; none for a device block (R377). -/
def State.srcOwners (s : State) (c : Nat) : List Nat :=
  if c < 0x40 then s.ownerList 0 c
  else if c < 0x48 then ((List.range 8).flatMap (fun k => s.ownerList 0 (8 * (c - 0x40) + k))).eraseDups
  else if c < 0x4E then s.ownerList 3 (c - 0x48)
  else if c < 0x56 then s.ownerList 0x0C (c - 0x50)
  else if 0x58 ≤ c ∧ c < 0x60 then s.ownerList 1 (c - 0x58)
  else if 0x60 ≤ c ∧ c < 0x70 then s.ownerList 6 (c - 0x60)
  else if c = 0x70 then s.ownerList 9 Dm.field
  else if c = 0x85 then s.ownerList 0x0B 0
  else s.ownerList 0x0A 0

/-- FLT_N is pulled low: an uncleared entry of a kind with PIN 1 stands (R376). -/
def State.fltN (s : State) : Bool := s.log.any (fun e => e.st != .cleared && s.flag (screeKind_pin (kindOf e.msg)))

/-! ### Entries and events (R366, R377, R379) -/

/-- The class code of an entry. -/
def FClass.code : FClass → Nat
  | .none => 0 | .transient => 1 | .persistent => 2

/-- The state code of an entry. -/
def FState.code : FState → Nat
  | .retest => 0 | .open_ => 1 | .handled => 2 | .acted => 3 | .latched => 4 | .cleared => 5

/-- A FAULT event of an entry, for a kind whose reaction is not LOG. -/
def State.faultEvent (s : State) (e : FEntry) (code : Nat) (unlogged : Bool := false) : State :=
  if e.reaction = 0 then s
  else
    let arg := (if unlogged then 0 else e.slot) + e.cls.code * 2 ^ 9 + e.action * 2 ^ 11 + s.get (screeKind_recov (kindOf e.msg)) * 2 ^ 14 +
      b2n unlogged * 2 ^ 22
    s.post (0 :: s.srcOwners (srcOf e.msg)) 3 code (srcOf e.msg) arg e.msg.toNat

/-- The uncleared entry that carries a message. -/
def State.entryOf (s : State) (m : Word) : Option FEntry := s.log.find? (fun e => e.msg == m && e.st != .cleared)

/-- An entry replaced, by its slot. -/
def State.setEntry (s : State) (e : FEntry) : State := { s with log := s.log.map (fun x => if x.slot == e.slot then e else x) }

/-! ### Hardware actions (R371) -/

/-- The block of a source is isolated; that it stays so is read from the log (R371; `State.isolated`). -/
def State.isolate (s : State) (c : Nat) : State :=
  if 0x48 ≤ c ∧ c < 0x4E then s.disableTx (c - 0x48)
  else if 0x50 ≤ c ∧ c < 0x54 then s.retrain (c - 0x50)
  else if 0x54 ≤ c ∧ c < 0x56 then s.ridgeDrop (c - 0x54) 3
  else s.fqSync

/-- The isolation of a block has ended: it returns to its state before (R371). -/
def State.unisolate (s : State) (c : Nat) : State :=
  if 0x54 ≤ c ∧ c < 0x56 ∧ s.isolated c = false then s.retrain (c - 0x50) else s.fqSync

/-- A hardware action for a source. -/
def State.hwAction (s : State) (c action : Nat) : State :=
  match action with
  | 1 => if c < 64 then s.disableCh c else s
  | 2 =>
    let b := if c < 64 then c / 8 else c - 0x40
    if b < 8 then forEach (List.range 8) (fun k t => t.disableCh (8 * b + k)) s else s
  | 3 => s.isolate c
  | 4 => s.coastExpire
  | 5 => s.sysReset 6
  | _ => s

/-- An action taken: counted, reported, then done. -/
def State.takeAction (s : State) (e : FEntry) (unlogged : Bool := false) : State :=
  let t := if e.action = 0 then s else (s.inc screeActcnt_actions).inc (screeSum_actions (kindOf e.msg))
  let t := if e.action = 0 then t else t.faultEvent e 0x03 unlogged
  t.hwAction (srcOf e.msg) e.action

/-! ### Reports (R364, R367, R369, R376, R379) -/

/-- The log slot of a new entry: the lowest empty one, else the one cleared longest ago. -/
def State.freeEntry (s : State) : Option Nat :=
  match (List.range 512).find? (fun k => !s.log.any (fun e => e.slot == k)) with
  | some k => some k
  | none => ((s.log.filter (fun e => e.st == .cleared)).foldl (fun (b : Option FEntry) e => match b with
      | none => some e
      | some x => if e.clearedAt < x.clearedAt then some e else some x) none).map (fun e => e.slot)

/-- The entry that a first report of a message creates, in a slot. -/
def State.newEntry (s : State) (m : Word) (slot : Nat) : FEntry :=
  let k := kindOf m
  let r := s.get (screeKind_reaction k)
  let none_ := noRetest k
  { slot := slot, msg := m, reaction := r, planned := s.get (screeKind_action k), recov := s.get (screeKind_recov k),
    action := if r = 3 then s.get (screeKind_action k) else 0,
    st := if r = 3 then .acted else if none_ then (if r = 2 then .open_ else .acted) else .retest,
    cls := if none_ then .persistent else .none,
    timer := if r = 2 then some (s.now + ms (s.get (screeKind_time k))) else none,
    reactEnd := if r = 3 ∨ (r ≤ 1 ∧ none_ = true) then some s.now else none,
    first := s.time32, last := s.time32, createdAt := s.now, lastAt := s.now }

/-- A report accepted: merged into the uncleared entry with the same message, or a new entry with its retest, timer or
immediate action; a comparator's self-test begins at once (R368); a fault that finds no place takes its action at once and is not logged. -/
def State.accept (s : State) (m : Word) : State :=
  let k := kindOf m
  let t := s.inc screeCnt_reports
  match t.entryOf m with
  | some e => t.setEntry { e with
      occ := satInc 255 e.occ, lastAt := t.now, last := t.time32
      again := e.again || e.nextOn.any (fun on => decide (t.now ≤ on + us 100)) }
  | none =>
    let t := t.inc (screeSum_entries k)
    match t.freeEntry with
    | some n =>
      let e := t.newEntry m n
      let u : State := { t with log := t.log.filter (fun x => x.slot != n) ++ [e] }
      let u := u.faultEvent { e with action := 0 } 0x01
      let u := if k = 0x08 ∨ k = 0x09 then u.beginTest (bits m.toNat 5 0) else u
      if e.reaction = 3 then u.takeAction e else u
    | none =>
      let e := t.newEntry m 0
      let u := (t.inc screeCnt_unlogged).faultEvent { e with action := 0 } 0x01 true
      if e.planned = 0 then u else u.takeAction { e with action := e.planned } true

/-- FAULT_REPORT: Scree accepts a posted message (R363, R364, R367; log 7). -/
def execFaultReport (msg : Word) (s : State) : Host.Outcome State Fault Refusal :=
  act (fun s =>
    if s.domOn Dm.crk = true ∧ kindOf msg ∈ faultKinds ∧ srcValid (srcOf msg) = true then
      ({ s with inbox := dropFirst (fun w => w == msg) s.inbox } : State).accept msg
    else s) s

/-- What a transient result of a retest shows: a passed self-test sets PASS; a converter's readings
count again (spec/06, R133, R137); a level is back inside its region, a limit
no longer acts (R368). -/
def State.retestPass (s : State) (m : Word) : State :=
  let k := kindOf m
  let d := bits m.toNat 15 0
  if k = 0x08 ∨ k = 0x09 then (if (s.ch (d % 64)).testAt.isSome then s.endTest (d % 64) true 0 false else s)
  else if k = 0x11 then
    (s.modBank (d % 8) (fun x => if bitOf d 8 then { x with auxFail := false } else { x with curFail := false })).olAfresh [d % 8]
  else if k = 0x25 then s.put fieldStat_lpOv 0
  else s

/-- What a persistent result of a retest does: a comparator self-test that fails latches the channel and is reported as any other, with the
function and copy of the entry, as the row carries none; one whose result SELFTEST_END has given has done so there (R368; spec/07, R167;
log 102). -/
def State.retestFail (s : State) (m : Word) : State :=
  if (kindOf m = 0x08 ∨ kindOf m = 0x09) ∧ (s.ch (bits m.toNat 5 0)).testAt.isSome = true then s.endTest (bits m.toNat 5 0) false (bits m.toNat 10 8) (bits m.toNat 11 11 == 1) else s

/-- The retest of an entry that has no class yet classifies it (R366, R368, R369). -/
def State.retested (s : State) (e : FEntry) (msg : Word) (transient : Bool) : State :=
  let timed := e.timer.isSome
  let e' : FEntry := {
    e with
    cls := if transient then .transient else .persistent
    st := if e.st = .retest then (if timed then (if transient then .handled else .open_) else .acted) else e.st
    timer := if timed ∧ transient = true then none else e.timer
    reactEnd := if e.reactEnd.isSome then e.reactEnd else if timed ∧ transient = false then none else some s.now
    last := s.time32 }
  let t := if transient then (s.inc screeActcnt_transient).retestPass msg else s.retestFail msg
  (t.setEntry e').faultEvent e' 0x02

/-- The retest of an entry can run: that of a word in SYS memory waits for SYS (R368; spec/01, R11). -/
def State.mayRetest (s : State) (m : Word) : Bool :=
  !((kindOf m == 0x1E && srcOf m == 0x80) || kindOf m == 0x1F) || (s.sysUp && s.domOn Dm.sys)

/-- Whether the condition that a RECHECK measures again still stands, where the state holds it (R368). -/
def State.stillThere (s : State) (m : Word) : Option Bool :=
  let d := bits m.toNat 15 0
  match kindOf m with
  | 0x0A => some (s.flag (chDiag_olonLive (d % 64)))
  | 0x0B => some (s.flag (chDiag_oloffLive (d % 64)))
  | 0x0C => some (s.flag (chDiag_stbLive (d % 64)))
  | 0x10 => some (decide (16 * (s.get (bankTwarn_level (d % 8)) + 51) ≤ s.get (bankMeas_tcase (d % 8))))
  | 0x14 => some (s.uvCh (8 * (d % 8)))
  | 0x15 => some (decide (928000 ≤ s.vbatCode (d % 8) * 625))
  | 0x1A => some (decide (s.get sysPdiss_limit ≤ s.get sysPdiss_mean))
  | 0x24 => some (s.flag fieldStat_lpUv)
  | 0x27 => some ((s.get fqFault_thermal).testBit (d % 16))
  | _ => none

/-- Whether the source that a LINK retest watches has recovered, where the state holds it (R368). -/
def State.recovered (s : State) (m : Word) : Option Bool :=
  let d := bits m.toNat 15 0
  match kindOf m with
  | 0x13 => some (s.bank (d % 8)).linkUp
  | 0x20 | 0x21 => some ((s.ax (d % 8)).st == .tracking)
  | 0x22 => some (s.flag fieldStat_linkOk)
  | 0x23 => some (s.flag fieldStat_powerOk)
  | 0x28 => some (s.get (canState_errstate (d % 8)) == 0)
  | 0x2B => some (s.ridgeUp (d % 2))
  | 0x2E => some ((List.range 4).all (fun c => !d.testBit c || s.linkedMask.testBit c))
  | _ => none

/-- What a comparator's self-test that was started for an entry says: the row's word at its end after 200 µs, or the result that SELFTEST_END
has given since; none while it runs, and none where it has ended with no result (R368; spec/07, R167). -/
def State.testSays (s : State) (e : FEntry) (n : Nat) (transient : Bool) : Option Bool :=
  match (s.ch n).testAt with
  | some a => if a + us 200 ≤ s.now then some transient else none
  | none => if e.createdAt + us 200 ≤ (s.ch n).testedAt then some (s.flag ⟨(bankCmptest_pass (bankOf n)).addr, n % 8, n % 8⟩) else none

/-- What the retests that watch have seen by this tick: the next turn-on edge within 10 s of the report, the recovery within 10 ms of it
(R368). -/
def State.watchRetests (s : State) : State :=
  if s.domOn Dm.crk = false ∨ s.log.all (fun e => e.cls != .none) = true then s
  else { s with log := s.log.map (fun e =>
    if e.cls ≠ .none then e
    else match retestOf (kindOf e.msg) with
      | .driver =>
        let c := s.ch (srcOf e.msg % 64)
        if e.nextOn.isNone ∧ c.drive ≠ .off ∧ e.createdAt < c.edgeAt ∧ c.edgeAt ≤ min s.now (e.createdAt + sec 10) then { e with nextOn := some c.edgeAt }
        else e
      | .link => if s.now ≤ e.createdAt + ms 10 ∧ s.recovered e.msg = some true then { e with recov10 := true } else e
      | _ => e) }

/-- What a retest that ends now finds, TRANSIENT or not; none where it cannot end yet. The row's word counts for what the state does not
hold: the words read again, the self-test, a gate's check, and the levels that other rows do not bring (R368; log 106). -/
def State.retestSays (s : State) (e : FEntry) (m : Word) (transient : Bool) : Option Bool :=
  match retestOf (kindOf m) with
  | .none => none
  | .word => if s.mayRetest m then some transient else none
  | .comparator => s.testSays e (bits m.toNat 5 0) transient
  | .driver => match e.nextOn with
    | some on => if e.again then some false else if on + us 100 ≤ s.now then some transient else none
    | none =>
      if e.createdAt + sec 10 ≤ s.now then some false
      else if transient = false ∧ s.now ≤ e.createdAt + us 30 then some false
      else none
  | .recheck =>
    if s.now < e.createdAt + (if kindOf m = 0x14 then ms 100 else ms 1) then none
    else match s.stillThere m with
      | some b => some (!b)
      | none => some transient
  | .link =>
    if e.recov10 = true ∨ (s.now ≤ e.createdAt + ms 10 ∧ s.recovered m = some true) then some true
    else if e.createdAt + ms 10 ≤ s.now then some false else none

/-- The timer of a TIMED entry has run out: its action is taken (R369, R371). -/
def State.escalate (s : State) (e : FEntry) : State :=
  let e' : FEntry := { e with timer := none, escalated := true, action := e.planned, st := .acted, reactEnd := some s.now, last := s.time32 }
  (s.setEntry e').takeAction e'

/-- The timer of the entry that carries a message, if it runs out in this tick: its expiry comes before what meets it there (R375). -/
def State.expireFirst (s : State) (m : Word) : State :=
  match s.entryOf m with
  | some e => if e.timer.any (fun d => decide (d ≤ s.now)) then s.escalate e else s
  | none => s

/-- The entry whose retest still runs: the uncleared one that carries a message, else one cleared before its retest ended (R368). -/
def State.underTest (s : State) (m : Word) : Option FEntry :=
  match s.entryOf m with
  | some e => if e.cls = .none then some e else none
  | none => s.log.find? (fun e => e.msg == m && e.cls == .none)

/-- RETEST_COMPLETE: the retest of an entry classifies it; a TRANSIENT result stops a running timer (R366, R368, R369, R375). -/
def execRetestComplete (msg : Word) (transient : Bool) (s : State) : Host.Outcome State Fault Refusal :=
  act (fun s =>
    if s.domOn Dm.crk = false then s
    else
      let t := s.expireFirst msg
      match t.underTest msg with
      | none => t
      | some e => match t.retestSays e msg transient with
        | none => t
        | some b => t.retested e msg b) s

/-- REACTION_TIMER_EXPIRY: the timer of a TIMED entry has run out: its action is taken (R369, R371). -/
def execReactionTimerExpiry (msg : Word) (s : State) : Host.Outcome State Fault Refusal :=
  act (fun s => if s.domOn Dm.crk = false then s else s.expireFirst msg) s

/-- An entry is cleared: reported, and a block it isolated returns (R371, R377). -/
def State.clearEntry (s : State) (e : FEntry) : State :=
  let e' : FEntry := { e with st := .cleared, timer := none, clearedAt := s.now, last := s.time32 }
  let t := (s.setEntry e').faultEvent e' 0x04
  if e.action = 3 then t.unisolate (srcOf e.msg) else t

/-- The quiet point of an entry has come: QUIET after the later of its last report and the end of its reaction (R373). -/
def State.quietDue (s : State) (e : FEntry) : Bool :=
  e.st != .cleared && e.st != .latched &&
    e.reactEnd.any (fun r => decide (max e.lastAt r + ms (10 * s.get (screeQuiet_quiet (kindOf e.msg))) ≤ s.now))

/-- At its quiet point RECOV rises; the entry is cleared, or latches at RMAX (R373). -/
def State.quiet (s : State) (e : FEntry) : State :=
  let k := kindOf e.msg
  let t := s.inc (screeKind_recov k)
  if t.get (screeKind_recov k) < t.get (screeKind_rmax k) then t.clearEntry e
  else
    let e' : FEntry := { e with st := .latched, last := s.time32 }
    (t.setEntry e').faultEvent e' 0x05

/-- QUIET_POINT: QUIET after the last report and the end of the reaction, RECOV rises; the entry is cleared, or latches
at RMAX (R373). -/
def execQuietPoint (msg : Word) (s : State) : Host.Outcome State Fault Refusal :=
  act (fun s =>
    match s.entryOf msg with
    | none => s
    | some e => if s.domOn Dm.crk = true ∧ s.quietDue e = true then s.quiet e else s) s

/-- FAULT_SUMMARY_WRITE: SYS writes changed counts, at most once every 60 s (R380). -/
def execFaultSummaryWrite (s : State) : Host.Outcome State Fault Refusal :=
  act (fun s =>
    if s.sysUp = true ∧ s.domOn Dm.sys = true ∧ (s.summaryAt = 0 ∨ s.summaryAt + sec 60 ≤ s.now) then s.summaryWrite else s) s

/-! ### Commands (R370, R374, R379, R381) -/

/-- The words of a log entry (R379). -/
def FEntry.words (e : FEntry) : List Word :=
  [e.msg, word (e.occ * 2 ^ 24 + e.st.code * 2 ^ 21 + e.cls.code * 2 ^ 19 + e.action * 2 ^ 16 + e.recov * 2 ^ 8), e.first, e.last]

/-- FAULT_READ (R379). -/
def execFaultRead (h : Hdr) (index : Half) (count : Byte) (s : State) : Host.Outcome State Fault Refusal :=
  act (fun s => s.runI h (.faultRead h index count) (fun t =>
    if count = 0 ∨ 15 < count.toNat then .no t St.badParam
    else
      let l := t.log.reverse.drop index.toNat
      { s := t, result := (l.drop count.toNat).length, cont := (l.take count.toNat).flatMap FEntry.words })) s

/-- FAULT_HANDLED; an expiry of the entry's timer in the same tick comes first (R370, R375). -/
def execFaultHandled (h : Hdr) (fault : Word) (s : State) : Host.Outcome State Fault Refusal :=
  act (fun s => s.runI h (.faultHandled h fault) (fun t =>
    let t := if t.domOn Dm.crk then t.expireFirst fault else t
    if ¬ (t.sysHolder h.hc.val = true ∨ h.hc.val ∈ t.srcOwners (srcOf fault)) then .no t St.notOwner
    else match t.entryOf fault with
    | none => .no t St.badParam
    | some e =>
      if e.timer.isSome then { s := t.setEntry { e with timer := none, st := .handled, reactEnd := some t.now, last := t.time32 } }
      else if e.escalated then .no t St.badState
      else { s := t })) s

/-- FAULT_CLEAR; quiet points of the same tick come first (R374, R375). -/
def execFaultClear (h : Hdr) (kind : Byte) (src : Half) (s : State) : Host.Outcome State Fault Refusal :=
  act (fun s => s.runI h (.faultClear h kind src) (fun t =>
    let k := kind.toNat
    let c := src.toNat
    if (k ≠ 0xFF ∧ k ∉ faultKinds) ∨ (c ≠ 0xFFFF ∧ srcValid c = false) then .no t St.badParam
    else
      let all := t.sysHolder h.hc.val
      let t := if t.domOn Dm.crk then (t.log.filter t.quietDue).foldl (fun (v : State) e => v.quiet e) t else t
      let hit := t.log.filter (fun e => e.st != .cleared && e.st != .retest && e.timer.isNone && (k == 0xFF || kindOf e.msg == k) &&
        (c == 0xFFFF || srcOf e.msg == c) && (all || decide (h.hc.val ∈ t.srcOwners (srcOf e.msg))))
      let u := hit.foldl (fun (v : State) e => v.clearEntry e) t
      let u := if all then forEach (if k = 0xFF then faultKinds else [k]) (fun j v => v.put (screeKind_recov j) 0) u else u
      { s := u, result := hit.length })) s

/-- FAULT_REACTION (R381). -/
def execFaultReaction (h : Hdr) (kind reaction action : Byte) (time quiet : Half) (s : State) : Host.Outcome State Fault Refusal :=
  act (fun s => s.runI h (.faultReaction h kind reaction action time quiet) (fun t =>
    let k := kind.toNat
    if k ∉ faultKinds ∨ reactionOk k reaction.toNat action.toNat time.toNat = false ∨ within 1 60000 quiet.toNat = false then .no t St.badParam
    else if ¬ t.sysHolder h.hc.val then .no t St.notOwner
    else
      { s := (((t.put (screeKind_reaction k) reaction.toNat).put (screeKind_action k) action.toNat).put (screeKind_time k) time.toNat).put
          (screeQuiet_quiet k) quiet.toNat })) s

/-- An uncleared entry whose action took LIMP stands (R372). -/
def State.limpHeld (s : State) : Bool := s.log.any (fun e => e.st != .cleared && e.action == 4)

end Sys2Proof.Machine
end

