-- ==== Sys2Proof/Machine/SysOps.lean ====
section
/-! DEFINITION. What the System commands do: the status byte, aborts, quotas, handovers and closing (spec/04, R68, R87 to
R89; spec/05, R101 to R117; spec/03, R55). -/

namespace Sys2Proof.Machine

/-! ### The global status byte (spec/04, R68) -/

/-- The running firmware image is on trial, or its revert is pending. -/
def State.onTrial (s : State) : Bool := s.flash.fwState == 4 || s.flash.fwState == 5

/-- The GSB now. -/
def State.gsb (s : State) : Nat :=
  b2n (s.log.any (fun e => e.st != .cleared)) * 128 + b2n ((s.hc 0).ering != []) * 64 + b2n ((s.hc 0).cring != []) * 32 +
    b2n (s.flag pwrCoast_active) * 16 + b2n (s.flag pwrStart_limp) * 8 + b2n s.onTrial * 4 + b2n s.crce * 2 + b2n s.rdy

/-! ### LIMP_RELEASE and QUOTA_SET (spec/03, R55; spec/05, R109 to R112) -/

/-- LIMP_RELEASE by a context: its status and effect (R55; spec/17, R372). -/
def State.limpRelease (s : State) (hc : Nat) : State × Byte :=
  let ph := s.get pwrStart_phase
  if s.sysHolder hc = false then (s, St.notOwner)
  else if ph ≠ 2 ∧ ph ≠ 3 then (s, St.badState)
  else if s.limpHeld then (s, St.locked)
  else if s.flag pwrStart_limp = false then (s, St.ok)
  else (s.limpEnd, St.ok)

/-- The least and the greatest value of a quota item (R109). -/
def quotaRange (item : Nat) : Nat × Nat :=
  match item with
  | 0 => (0, 64) | 1 => (0, 4096) | 2 => (0, 6016) | 3 => (0, 100) | 4 => (0, 100) | 5 => (1, 1000) | 6 => (0, 1024) | _ => (0, 512)

/-- QUOTA_SET by a context: its status, and present use (R111, R112). A new CMD_RATE keeps the tokens that the bucket holds, up to the
new value (R110: it holds at most CMD_RATE, and only the refill adds; DEDUCED, log 109). -/
def State.quotaSet (s : State) (byHc n item value : Nat) : State × Byte × Nat :=
  let r := quotaRange item
  if 7 < n ∨ 7 < item ∨ value < r.1 ∨ r.2 < value then (s, St.badParam, 0)
  else if s.sysHolder byHc = false then (s, St.notOwner, 0)
  else
    let t := (s.refill n).put (hcQuota_value n item) value
    let t := if item = 5 then t.modHc n (fun h => { h with deficit := value * 1000 - min (s.quota n 5 * 1000 - h.deficit) (value * 1000) }) else t
    (t.recheckQuota (some item) n, St.ok, s.quotaUse n item)

/-! ### Handovers (spec/05, R101 to R104) -/

/-- Whether a range of resources of a kind exists (R101). -/
def resRange (kind first count : Nat) : Bool :=
  let last := first + count
  match kind with
  | 0 => decide (last ≤ 64) | 1 => decide (last ≤ 8) | 2 => decide (last ≤ 4096) | 3 => decide (last ≤ 6)
  | 4 => decide (last ≤ 1024) | 5 => decide (last ≤ 512) | 6 => decide (last ≤ 16)
  | 7 => decide (last ≤ 40) || (decide (64 ≤ first) && decide (last ≤ 68))
  | 8 => decide (last ≤ 64) | 9 => decide (last ≤ 24) | 10 => decide (last ≤ 6) | 11 => decide (last ≤ 1) | 12 => decide (last ≤ 6)
  | _ => false

/-- A slot's action names a resource (spec/10, R219). -/
def Slot.names (x : Slot) (kind idx : Nat) : Bool :=
  match kind with
  | 0 => decide (idx ∈ x.chans)
  | 3 => x.action == 7 && bits x.tgt 2 0 == idx
  | 6 => x.action == 6 && x.fld 5 (16 + idx) (16 + idx) == 1
  | _ => false

/-- One resource goes to a new owner, or becomes free (R104; spec/18, R396). -/
def State.handTo (s : State) (kind idx : Nat) (dest : Option Nat) : State :=
  let t := match s.owner kind idx with
    | some o => s.cancelWhere (fun _ x => x.owner == o && x.names kind idx)
    | none => s
  let t := t.setOwner kind idx dest
  if kind = 8 then { t with staged := t.staged.filter (fun x => x.slot != idx) }
  else if kind = 4 ∧ dest.isNone then { t with pairs := Sparse.set (fun _ => {}) t.pairs idx {} }
  else if kind = 5 ∧ dest.isNone then (t.freeFlow idx).leftFree
  else t

/-- The quota item that a grant of a kind counts against. -/
def kindItem (kind : Nat) : Option Nat := match kind with | 0 => some 0 | 4 => some 6 | 5 => some 7 | _ => none

/-- A context may hand a resource over: it owns it, or it is HC0 or holds SYS (R103). -/
def State.mayHand (s : State) (hc kind idx : Nat) : Bool := s.sysHolder hc || s.owns hc kind idx

/-- The resources of a range that a handover takes, in index order: those that are owned, that the context may hand over, and
that do not belong to the receiver already. -/
def State.handList (s : State) (hc kind first count : Nat) (dest : Option Nat) : List Nat :=
  ((List.range count).map (fun k => first + k)).filter (fun k => s.mayHand hc kind k && (s.owner kind k).isSome && s.owner kind k != dest)

/-- After channels go to a new owner, the two halves of a bridge that the handover touches have two owners (R103). -/
def State.splits (s : State) (l : List Nat) (dest : Option Nat) : Bool :=
  let own (n : Nat) : Option Nat := if n ∈ l then dest else s.owner 0 n
  (List.range 8).any (fun k => s.bridged (48 + 2 * k) && (decide (48 + 2 * k ∈ l) || decide (49 + 2 * k ∈ l)) &&
    own (48 + 2 * k) != own (49 + 2 * k))

/-- OWN_GRANT and OWN_RELEASE: the resources handed over, up to the receiver's quota for a grant, with status and number
(R103, R104). DESIGN CHOICE: a grant that the quota cuts short between the two halves of a bridge would split it, and is BAD_PARAM
(log 97). -/
def State.hand (s : State) (hc kind first count : Nat) (dest : Option Nat) (grant : Bool) : State × Byte × Nat :=
  let l := s.handList hc kind first count dest
  let (l, st) : List Nat × Byte := match grant, kindItem kind, dest with
    | true, some item, some r =>
      let room := s.quota r item - s.quotaUse r item
      if room < l.length then (l.take room, St.overQuota) else (l, St.ok)
    | _, _, _ => (l, St.ok)
  if kind = 0 ∧ s.splits l dest = true then (s, St.badParam, 0)
  else ((forEach l (fun k t => t.handTo kind k dest) s).recheckAll, st, l.length)

/-- KIND 0x02: each armed slot of the range that the context may release is cancelled and freed (R103). -/
def State.handSlots (s : State) (hc first count : Nat) : State × Byte × Nat :=
  let l := ((List.range count).map (fun k => first + k)).filter (fun k => match s.slot k with
    | some x => (s.sysHolder hc || x.owner == hc) && x.st != .done
    | none => false)
  ((forEach l (fun k t => t.cancelSlot k St.cancelled) s).recheckAll, St.ok, l.length)

/-! ### Closing a context (spec/05, R114, R117; spec/19, R427) -/

/-- Everything that context `n` owns passes to HC0 or becomes free. -/
def State.disown (s : State) (n : Nat) : State :=
  let l := (s.owners.filter (fun p => p.2 == some n)).map (fun p => p.1)
  l.foldl (fun (t : State) key =>
    let kind := key / 0x10000
    t.handTo kind (key % 0x10000) (if kind = 2 ∨ kind = 4 ∨ kind = 5 then none else some 0)) s

/-- The staging locks of a context are released. -/
def State.dropLocks (s : State) (n : Nat) : State :=
  { s with
    fwLock := match s.fwLock with | some l => if l.hc = n then none else some l | none => none,
    cfgLock := match s.cfgLock with | some l => if l.hc = n then none else some l | none => none }

/-- HC_CLOSE's effect, with the number of commands flushed: a disable of all that the context owns, on the work of every context,
and the end of the context's own (R114, R117; log 78). -/
def State.closeHc (s : State) (n : Nat) : State × Nat :=
  let own := s.ownedBy n
  let rs := own.flatMap (fun p => kindRes p.1 p.2)
  let t := (s.put (hcState_closed n) 1).put (hcState_sleep n) 0
  let t := t.cancelWhere (fun _ x => x.owner == n || own.any (fun p => x.names p.1 p.2))
  let hit (m : Nat) (i : Instr) : Bool := m == n || (!isDisable i && (meets (t.resOf i) rs ||
    (match i with | .flowAdd _ f _ | .flowRemove _ f => decide ((5, f.toNat) ∈ own) | _ => false)))
  let waits := t.jobs.filter (fun j => j.uds.isNone && hit j.hdr.hc.val j.cmd && t.line.any (fun r => r.src == ReqSrc.job j.id))
  let ids := waits.map (fun j => j.id)
  let queued := ((List.range 8).map (fun m => ((t.hc m).queue.filter (fun e => hit m e.cmd)).length)).sum
  let k := queued + (t.hc n).bad.length + waits.length
  let t := t.modHc n (fun h => { h with late := [] })
  let t := (t.flushQueued hit St.flushed).endBad n (fun _ => true) (some St.flushed)
  let t := t.withdraw (fun r => match r.src with | .job id => decide (id ∈ ids) | _ => false) St.flushed
  let t := (((t.disown n).dropRxOf n).dropLocks n).freeClosed n
  (t.recheckAll, k)

/-! ### ABORT (spec/04, R87 to R89) -/

/-- The outcome of an ABORT that wins: the target's record first. -/
def State.abortWon (s : State) (h : Hdr) : State := s.complete h 0x02 St.ok 0
/-- The outcome of an ABORT that comes too late. -/
def State.abortLost (s : State) (h : Hdr) : State := s.complete h 0x02 St.tooLate 0

/-- A started pulse, profile or move that an ABORT ends: the output goes off, a bridge brakes. -/
def State.abortMotion (s : State) (id n : Nat) : State :=
  let t := s.endJob id St.aborted 0
  let mine := (s.pairOf n).any (fun c =>
    (match (s.ch c).pulse with | some p => p.job == some id | none => false) ||
      (match (s.ch c).profile with | some p => p.job == some id | none => false)) ||
    (decide (48 ≤ n) && (match (s.br (bridgeOf n)).move with | some m => m.job == some id | none => false))
  if mine = false then t
  else if s.bridged n then t.stopMotor (bridgeOf n) 2 false
  else t.cmdOff n 2

/-- A turn-on that waits for budget or for its edge, aborted: only the target's own request is withdrawn, and a channel whose edge has not
started stays off (R87; spec/11, R242). -/
def State.abortWait (s : State) (id : Nat) (cont : List Word := []) : State :=
  let due := (List.range 64).filter (fun n => match (s.ch n).edgeJob with | some (k, _) => k == id | none => false)
  let s := forEach due (fun n t => ((t.modCh n (fun x => { x with edgeJob := none })).chanOff n).clearCmd n) s
  (({ s with line := s.line.filter (fun r => r.src != ReqSrc.job id) } : State).endJob id St.aborted 0 cont).reexamine

/-- The channel, or the bridge's even channel, of a command of class M on an output. -/
def motionCh (i : Instr) : Option Nat :=
  match i with
  | .chPulse _ c _ | .chStartProfile _ c _ _ => some c.toNat
  | .motorTarget _ b _ _ _ => some (48 + 2 * b.toNat)
  | _ => none

/-- An aborted DOMAIN_SET: entries and exits that have begun go on; the rest stays as it was, a sleep that was to follow a transition under
way included (spec/15, R324). -/
def State.abortDoms (s : State) (j : Job) : State :=
  let t := s.endJob j.id St.aborted 0
  forEach (maskList 24 j.wait) (fun d u =>
    let x := u.dom d
    if isSleep j.cmd = false ∨ u.jobs.any (fun k => isSleep k.cmd && k.wait.testBit d) = true then u
    else
      let u := if x.next = some .ret ∨ x.next = some .off then u.modDom d (fun y => { y with next := none }) else u
      if x.begun = false ∧ (x.going = some .ret ∨ x.going = some .off) then u.dropDom d else u)
    t

/-- ABORT of a dispatched command; of a frame in transmission and of a record being written, the outcome waits for its end (R87, R89). -/
def State.abortJob (s : State) (h : Hdr) (j : Job) : State :=
  let waiting := s.line.any (fun r => r.src == ReqSrc.job j.id)
  match motionCh j.cmd with
  | some n => (if waiting then s.abortWait j.id else s.abortMotion j.id n).abortWon h
  | none =>
    if classP (opcOf j.cmd) then
      let begun : Bool := match s.keyWrite with | some w => w.job == j.id | none => (s.writing.map (fun x => x.id)) == some j.id
      if begun then s.modJob j.id (fun x => { x with aborts := x.aborts ++ [h] })
      else (s.endJob j.id St.aborted 0).abortWon h
    else match j.cmd with
      | .chOn .. =>
        if j.done ≠ 0 ∨ j.count ≠ 0 then s.abortLost h else (s.abortWait j.id (maskCont 0)).abortWon h
      | .spkArm _ n _ =>
        match s.slot n.toNat with
        | some x => if x.job = j.id ∧ x.st ≠ .done then (s.cancelSlot n.toNat St.aborted).abortWon h else s.abortLost h
        | none => s.abortLost h
      | .canTx _ p q _ =>
        match (s.txq p.toNat q.toNat).find? (fun x => x.kind == TxKind.cmd j.id) with
        | some x =>
          let t := s.maySend p.toNat
          if (t.port p.toNat).onAir = some x.id then t.modTx p.toNat q.toNat x.id (fun y => { y with last := true, aborts := y.aborts ++ [h] })
          else ((t.dropTx p.toNat q.toNat x.id).endUnsent p.toNat x j.id St.aborted).abortWon h
        | none => s.abortLost h
      | .domainSet .. => if j.done ≠ 0 then s.abortLost h else (s.abortDoms j).abortWon h
      | .canState _ p _ =>
        match (s.port p.toNat).stop with
        | some (_, some id) => if id = j.id then ((s.modPort p.toNat (fun q => { q with stop := none })).endJob j.id St.aborted 0).abortWon h else s.abortLost h
        | _ => s.abortLost h
      | _ => s.abortLost h

/-- The oldest of a list of jobs. -/
def oldestJob : List Job → Option Job
  | [] => none
  | j :: l => match oldestJob l with
    | none => some j
    | some k => if k.no < j.no then some k else some j

/-- ABORT: the oldest issued and uncompleted command of the context with the TAG, in its queue or dispatched (R89). -/
def State.abortBy (s : State) (h : Hdr) (tag : Half) : State :=
  let n := h.hc.val
  let has (i : Instr) : Bool := match hdrOf i with | some x => x.tag == tag | none => false
  let q := (s.hc n).queue.find? (fun e => has e.cmd)
  let j := oldestJob (s.jobs.filter (fun j => j.hdr.hc.val == n && j.uds.isNone && has j.cmd))
  let queued (e : QEntry) : State :=
    match e.cmd, hdrOf e.cmd with
    | .abort .., _ => s.abortLost h
    | _, some x =>
      ((s.modHc n (fun c => { c with queue := dropFirst (fun y => y.no == e.no) c.queue })).complete x (opcOf e.cmd) St.aborted 0).abortWon h
    | _, none => s.abortLost h
  let other : Nat × State := match q, j with
    | some e, some k => if e.no < k.no then (e.no, queued e) else (k.no, s.abortJob h k)
    | some e, none => (e.no, queued e)
    | none, some k => (k.no, s.abortJob h k)
    | none, none => (s.nextId, s.abortLost h)
  match (s.hc n).bad.find? (fun b => b.hdr.tag == tag) with
  | some b => if b.no < other.1 then (s.endBad n (fun x => x.no == b.no) (some St.aborted)).abortWon h else other.2
  | none => other.2

end Sys2Proof.Machine
end

