-- ==== Sys2Proof/Machine/System.lean ====
section
/-! DEFINITION. Meanings of the System commands, group 0x0_ (spec/04, R80; spec/03, R55 to R58; spec/05, R103 to R117). -/

namespace Sys2Proof.Machine

/-- NOP. -/
def execNop (h : Hdr) (s : State) : Host.Outcome State Fault Refusal :=
  act (fun s => s.runI h (.nop h) (fun t => { s := t })) s

/-- BARRIER: RESULT is the number of earlier commands it waited for (R86). -/
def execBarrier (h : Hdr) (s : State) : Host.Outcome State Fault Refusal :=
  act (fun s =>
    let k := match (s.hc h.hc.val).queue.find? (fun e => e.cmd == .barrier h) with
      | some e => e.ahead
      | none => s.aheadNow h.hc.val
    s.runI h (.barrier h) (fun t => { s := t, result := k })) s

/-- ABORT: dispatched ahead of its context's queue; the target is stopped before its commit point, or the ABORT comes too late
(R87 to R89). -/
def execAbort (h : Hdr) (target : Half) (s : State) : Host.Outcome State Fault Refusal :=
  act (fun s => s.dispatch h (.abort h target) (fun t => t.abortBy h target)) s

/-- GET_STATUS: the GSB, PHASE, and OVER_QUOTA of the context, which acceptance has kept at 0 (R68, R113). -/
def execGetStatus (h : Hdr) (s : State) : Host.Outcome State Fault Refusal :=
  act (fun s => s.runI h (.getStatus h) (fun t =>
    { s := t, result := t.gsb + t.get pwrStart_phase * 0x100 + t.get (hcState_overQuota h.hc.val) * 0x800 })) s

/-- LIMP_RELEASE (spec/03, R55). -/
def execLimpRelease (h : Hdr) (s : State) : Host.Outcome State Fault Refusal :=
  act (fun s => s.runI h (.limpRelease h) (fun t =>
    let (u, st) := t.limpRelease h.hc.val
    { s := u, status := st })) s

/-- A limp map that may be programmed: no reserved bit set, 64 entries, a COAST_TIME in range (spec/03, R52, R56, R60). -/
def limpMapOk (entries : List Half) (coast : Half) : Bool :=
  entries.length == 64 && entries.all (fun e => bits e.toNat 9 8 == 0) &&
    (coast == 0 || (decide (10 ≤ coast.toNat) && decide (coast.toNat ≤ 10000)))

/-- The next free OTP slot. -/
def Otp.freeSlot (o : Otp) : Option Nat := (List.range 4).find? (fun k => (nth none o.slots k).isNone)

/-- LIMP_MAP_PROGRAM: checked at its dispatch, written by the flash (spec/03, R56). -/
def execLimpMapProgram (h : Hdr) (entries : List Half) (bases : Half) (coast : Half) (s : State) : Host.Outcome State Fault Refusal :=
  act (fun s => s.runP h (.limpMapProgram h entries bases coast) (fun t =>
    if limpMapOk entries coast = false then t.no St.badParam
    else if h.hc.val ≠ 0 then t.no St.notOwner
    else if t.otp.lc ≠ 1 ∧ t.otp.lc ≠ 3 then t.no St.locked
    else if t.otp.freeSlot.isNone then t.no St.noResource
    else t.yes)) s

/-- SYS_RESET: its completion is written and released as if NOTIFY were set, then SYS is reset, or a power-up start is due 1 ms
later, before which SYS writes the fault summary (R80; spec/03, R57; spec/17, R380). -/
def execSysReset (h : Hdr) (scope : Byte) (s : State) : Host.Outcome State Fault Refusal :=
  act (fun s => s.dispatch h (.sysReset h scope) (fun t =>
    if 1 < scope.toNat then t.complete h 0x07 St.badParam 0
    else
      let u := t.complete { h with notify := true } 0x07 St.ok 0
      if scope = 0 then u.sysDown 7
      else { u.summaryWrite with devResetAt := some (u.now + ms 1) })) s

/-- OWN_GRANT (spec/05, R103, R104). -/
def execOwnGrant (h : Hdr) (kind : Byte) (first count : Half) (dest : Byte) (s : State) : Host.Outcome State Fault Refusal :=
  act (fun s => s.runI h (.ownGrant h kind first count dest) (fun t =>
    if resRange kind.toNat first.toNat count.toNat = false ∨ (kind ≠ 2 ∧ 7 < dest.toNat) then .no t St.badParam
    else if kind = 2 then
      let (u, st, k) := t.handSlots h.hc.val first.toNat count.toNat
      { s := u, status := st, result := k }
    else if t.closed dest.toNat = true ∨ t.bound dest.toNat = false then .no t St.badState
    else
      let (u, st, k) := t.hand h.hc.val kind.toNat first.toNat count.toNat (some dest.toNat) true
      { s := u, status := st, result := k })) s

/-- OWN_RELEASE: to HC0, or free for the kinds claimed on use (spec/05, R103, R104). -/
def execOwnRelease (h : Hdr) (kind : Byte) (first count : Half) (s : State) : Host.Outcome State Fault Refusal :=
  act (fun s => s.runI h (.ownRelease h kind first count) (fun t =>
    if resRange kind.toNat first.toNat count.toNat = false then .no t St.badParam
    else
      let (u, st, k) :=
        if kind = 2 then t.handSlots h.hc.val first.toNat count.toNat
        else t.hand h.hc.val kind.toNat first.toNat count.toNat (if kind = 4 ∨ kind = 5 then none else some 0) false
      { s := u, status := st, result := k })) s

/-- QUOTA_SET (spec/05, R111, R112). -/
def execQuotaSet (h : Hdr) (hc item : Byte) (value : Word) (s : State) : Host.Outcome State Fault Refusal :=
  act (fun s => s.runI h (.quotaSet h hc item value) (fun t =>
    let (u, st, k) := t.quotaSet h.hc.val hc.toNat item.toNat value.toNat
    { s := u, status := st, result := k })) s

/-- HC_CLOSE (spec/05, R117). -/
def execHcClose (h : Hdr) (hc : Byte) (s : State) : Host.Outcome State Fault Refusal :=
  act (fun s => s.runI h (.hcClose h hc) (fun t =>
    let n := hc.toNat
    if n = 0 ∨ 7 < n ∨ n = h.hc.val then .no t St.badParam
    else if t.sysHolder h.hc.val = false then .no t St.notOwner
    else if t.closed n then { s := t }
    else
      let (u, k) := t.closeHc n
      { s := u, result := k })) s

end Sys2Proof.Machine
end

