-- ==== Sys2Proof/Machine/Image.lean ====
section
/-! DEFINITION. Firmware and configuration images: their headers, how an image is verified, and what the flash areas hold
(spec/19, R417 to R421). -/

namespace Sys2Proof.Machine

/-! ### Firmware images (R418, R419) -/

/-- The body of a firmware image. -/
def imgBody (b : List Byte) : List Byte := b.drop 256

/-- MAGIC, HDRVER, PART, the reserved bytes and the size are right (reason 1). -/
def imgShape (b : List Byte) : Bool :=
  decide (256 ≤ b.length) && pN b 0 4 == 0x475A4657 && pN b 4 2 == 1 && pZ b 6 2 && bits (pN b 0x0E 1) 7 4 == 0 && pZ b 0x0F 1 &&
    pW b 0x10 == Config.partCode && pZ b 0x18 8 && pZ b 0xE0 32 && 256 + pN b 0x14 4 == b.length

/-- An owner tag is acceptable: correct where it is there, and there where one is needed (R419, R421). -/
def tagOk (need : Bool) (key : Option (List Byte)) (tag covered : List Byte) : Bool :=
  if tag.all (fun x => x == 0) then !need
  else match key with
    | some k => Config.aesCmac k covered == tag
    | none => false

/-- Section `k` lies inside the body and matches its CRC-32 (reason 7). -/
def sectionOk (b : List Byte) (k : Nat) : Bool :=
  let off := pN b (0x20 + 16 * k) 4
  let size := pN b (0x24 + 16 * k) 4
  decide (off + size ≤ pN b 0x14 4) && crc32 (((imgBody b).drop off).take size) == pN b (0x28 + 16 * k) 4

/-- The reason code of the first check of R419 that fails; 0 where the image verifies. -/
def imageReason (o : Otp) (ownerKey : Option (List Byte)) (a : Area) : Nat :=
  match a with
  | .empty | .torn => 1
  | .delivered => if o.svnMin ≠ 0 ∧ Config.factorySvn < o.svnMin then 2 else if o.revoked ≠ 0 ∧ bitOf o.revoked Config.factoryKey = true then 3 else 0
  | .bytes b =>
    if imgShape b = false then 1
    else if pN b 0x0C 1 < o.svnMin ∨ 63 < pN b 0x0C 1 then 2
    else if 3 < pN b 0x0D 1 ∨ bitOf o.revoked (pN b 0x0D 1) = true then 3
    else if Config.sha256 (imgBody b) ≠ (b.drop 0x70).take 32 then 4
    else if Config.ecdsaVerify (Config.vendorKey (pN b 0x0D 1)) (b.take 0x90) ((b.drop 0x90).take 64) = false then 5
    else if tagOk (o.requireOwner && ownerKey.isSome) ownerKey ((b.drop 0xD0).take 16) (b.take 0xD0) = false then 6
    else if (List.range 5).all (sectionOk b) = false then 7
    else 0

/-- VERSION of an image; 0 of an area that holds none. -/
def Area.version : Area → Word
  | .empty | .torn => 0
  | .delivered => Config.factoryVersion
  | .bytes b => pW b 8
/-- SVN of an image. -/
def Area.svn : Area → Nat
  | .empty | .torn => 0
  | .delivered => Config.factorySvn
  | .bytes b => pN b 0x0C 1
/-- REVOKE of an image. -/
def Area.revoke : Area → Nat
  | .empty | .torn => 0
  | .delivered => Config.factoryRevoke % 16
  | .bytes b => bits (pN b 0x0E 1) 3 0
/-- The version of section `k` of an image. -/
def Area.sectionVersion (k : Nat) : Area → Word
  | .empty | .torn => 0
  | .delivered => Config.factorySection k
  | .bytes b => pW b (0x2C + 16 * k)

/-- The owner image key as the ROM derives it (R388). -/
def State.ownerKey (s : State) : Option (List Byte) := s.derived .ownerImage
/-- The reason code for an area under this device's policy. -/
def State.reasonOf (s : State) (a : Area) : Nat := imageReason s.otp s.ownerKey a

/-! ### Configuration images (R420, R421) -/

/-- The records of a configuration image: address and value. -/
def cfgRecs (b : List Byte) : List (Nat × Word) := (List.range (pN b 0x14 4)).map (fun k => (pN b (64 + 8 * k) 4, pW b (68 + 8 * k)))

/-- MAGIC, HDRVER, NREC, the reserved bytes, the size and the CRC are right. -/
def cfgShape (b : List Byte) : Bool :=
  decide (64 ≤ b.length) && decide (b.length ≤ 262144) && pN b 0 4 == 0x475A4346 && pN b 4 2 == 1 && pZ b 6 2 && 64 + 8 * pN b 0x14 4 == b.length &&
    pZ b 0x1C 4 && pZ b 0x30 16 && crc32 (b.take 0x18 ++ b.drop 64) == pN b 0x18 4

/-- The owner tag of a configuration is correct: needed wherever the owner root is present. -/
def cfgTagOk (ownerKey : Option (List Byte)) (b : List Byte) : Bool :=
  tagOk ownerKey.isSome ownerKey ((b.drop 0x20).take 16) (b.take 0x20 ++ b.drop 64)

/-- The bytes an area holds. -/
def Area.image : Area → List Byte
  | .bytes b => b
  | _ => []

/-- VERSION of a configuration; 0 of an area that holds none. -/
def Area.cfgVersion (a : Area) : Word := pW a.image 8
/-- CRC of a configuration. -/
def Area.cfgCrc (a : Area) : Word := pW a.image 0x18

/-- A configuration works with a firmware VERSION (R421). -/
def cfgFits (b : List Byte) (version : Word) : Bool := decide (pN b 0x0C 4 ≤ version.toNat) && decide (version.toNat ≤ pN b 0x10 4)

end Sys2Proof.Machine
end

