-- ==== Sys2Proof/Machine/Events.lean ====
section
/-! DEFINITION. Meanings of the event-delivery commands and of a class's release (spec/16, R352 to R361). -/

namespace Sys2Proof.Machine

/-- A class's rules set (R352, R356): a class that meets the new COUNT or TIME, and one whose ENABLE goes to 0, is released at once
unless EVT_GDIS holds it; it is then due at its end. -/
def State.setClass (s : State) (n c enable count wake time : Nat) : State :=
  let was := s.get (evtClass_enable n c)
  let t := (((s.put (evtClass_enable n c) enable).put (evtClass_count n c) count).put (evtClass_wake n c) wake).put (evtClass_time n c) time
  if was = 1 ∧ enable = 0 ∧ ((t.hc n).pendOf c).1 ≠ 0 then
    if t.flag (evtCtl_gdis n) then t.modHc n (fun h => { h with due := c :: h.due.filter (· != c) })
    else t.releaseClass n c
  else t.tryRelease n c

/-- The ranges of a class's rules; class 0 cannot be disabled (R352, R362). -/
def classOk (c enable count wake time : Nat) : Bool :=
  decide (c < 24) && decide (enable ≤ 1) && decide (wake ≤ 1) && decide (1 ≤ count) && decide (1 ≤ time) &&
    decide (count ≤ 255) && decide (time ≤ 65535) && (c != 0 || enable == 1)

/-- EVT_CLASS_SET (R352, R356). -/
def execEvtClassSet (h : Hdr) (cls enable count wake : Byte) (time : Half) (s : State) : Host.Outcome State Fault Refusal :=
  act (fun s => s.runI h (.evtClassSet h cls enable count wake time) (fun t =>
    if classOk cls.toNat enable.toNat count.toNat wake.toNat time.toNat then
      { s := t.setClass h.hc.val cls.toNat enable.toNat count.toNat wake.toNat time.toNat }
    else .no t St.badParam)) s

/-- Records pending for a context: completions in class 0 and events together (R357). -/
def State.pendRecs (s : State) (n : Nat) : Nat :=
  ((s.hc n).cpend.map (fun x => x.item.recs)).sum + ((s.hc n).epend.map (fun x => x.item.recs)).sum

/-- What was released in this very tick and has not been sent is held after all: pending again, its classes due; what a
transport has carried at its release stays sent (R357; log 130). -/
def State.unrelease (s : State) (n : Nat) : State :=
  s.modHc n (fun h =>
    let fresh : ∀ {α : Type}, RingItem α → Bool := fun r => !r.delivered && r.sentAt == s.now
    let es := h.ering.filter fresh
    let cs := h.cring.filter fresh
    { h with
      ering := h.ering.filter (fun r => !fresh r), epend := es.map (fun (r : RingItem EvRec) => ⟨s.now, r.item⟩) ++ h.epend, eseq := h.eseq - BitVec.ofNat 16 es.length,
      cring := h.cring.filter (fun r => !fresh r), cpend := cs.map (fun (r : RingItem Compl) => ⟨s.now, r.item⟩) ++ h.cpend, cseq := h.cseq - BitVec.ofNat 16 cs.length,
      due := ((if cs = [] then [] else [0]) ++ es.map (fun (r : RingItem EvRec) => r.item.cls) ++ h.due).eraseDups })

/-- EVT_GDIS's bit set, which holds a class released in the same tick too, or cleared: every class whose condition has been met is then
released, in rising order (R353, R357). -/
def State.setGdis (s : State) (n : Nat) (on : Bool) : State :=
  if on then (s.unrelease n).putB (evtCtl_gdis n) true
  else
    let t := s.putB (evtCtl_gdis n) false
    forEach (List.range 24) (fun c u => u.tryRelease n c) t

/-- EVT_GDIS (R357). -/
def execEvtGdis (h : Hdr) (disable : Byte) (s : State) : Host.Outcome State Fault Refusal :=
  act (fun s => s.runI h (.evtGdis h disable) (fun t =>
    if 1 < disable.toNat then .no t St.badParam
    else { s := t.setGdis h.hc.val (disable == 1), result := t.pendRecs h.hc.val })) s

/-- HOST_SLEEP: at the end of a declaration the groups it held back are sent (R360, R361). -/
def execHostSleep (h : Hdr) (sleep : Byte) (s : State) : Host.Outcome State Fault Refusal :=
  act (fun s => s.runI h (.hostSleep h sleep) (fun t =>
    let n := h.hc.val
    if 1 < sleep.toNat then .no t St.badParam
    else
      let u := t.putB (hcState_sleep n) (sleep == 1)
      { s := if sleep = 0 then u.sendNew n (u.flowKey n) else u })) s

/-- EVENT_RELEASE: a class of a context meets COUNT or TIME, after every lower class that is due by now (R353, R354, R357). -/
def execEventRelease (hc : Fin 8) (cls : Fin 24) (s : State) : Host.Outcome State Fault Refusal :=
  act (fun s => if s.sysUp ∧ s.domOn Dm.sys = true then forEach (List.range (cls.val + 1)) (fun c t => t.tryRelease hc.val c) s else s) s

/-- IRQ_N is held low: HC0 has a released group not acknowledged, of a wake class where HC0 is declared
asleep; or AON holds it after a wake (R359, R360; spec/15, R331). -/
def State.irqLow (s : State) : Bool :=
  s.aonIrq ||
  (if s.flag (hcState_sleep 0) then
    ((s.hc 0).ering.any (fun r => s.get (evtClass_wake 0 r.item.cls) == 1)) || (s.get (evtClass_wake 0 0) == 1 && (s.hc 0).cring != [])
  else (s.hc 0).ering != [] || (s.hc 0).cring != [])

end Sys2Proof.Machine
end

