-- ==== Sys2Proof/Machine/Inputs.lean ====
section
/-! DEFINITION. The meanings of the input and field-bank commands and events (spec/12, R252 to R275), of the LH inputs
(spec/03, R54) and of the V5OUT overload (spec/02, R30). -/

namespace Sys2Proof.Machine

/-! ### Switch inputs -/

/-- Word 0 of a SWIN record is in range (R259): MODE, CPER, and the reserved bits. -/
def swinOk (w : Nat) : Bool := bits w 31 30 != 3 && decide (bits w 12 9 ≤ 8) && bits w 3 0 == 0

/-- The state of a switch input set. -/
def State.setSwin (s : State) (n : Nat) (closed : Bool) : State :=
  let (r, b) := swinBit n
  s.put ⟨(swinState_state r).addr, b, b⟩ (b2n closed)

/-- A SWIN record commits: the state of an input whose MODE is OFF reads 0 (R252, R259). -/
def State.swinCommit (s : State) (n : Nat) (w : Word) : State :=
  let t := s.wr (swinCfg_word n).addr w
  if bits w.toNat 31 30 = 0 then (t.setSwin n false).immCheck else t

/-- SWIN_CONFIG (R256, R259). -/
def execSwinConfig (h : Hdr) (input : Byte) (record : List Word) (s : State) : Host.Outcome State Fault Refusal :=
  act (fun s => s.runI h (.swinConfig h input record) (fun t =>
    let n := input.toNat
    let w := record.getD 0 0
    let swin := decide (n < 40)
    let ain := decide (64 ≤ n) && decide (n < 68)
    if record.length ≠ 2 ∨ record.getD 1 0 ≠ 0 ∨ (swin = false ∧ ain = false) then .no t St.badParam
    else if swin = true ∧ (swinOk w.toNat = false ∨ t.wetOk n w.toNat = false) then .no t St.badParam
    else if ain = true ∧ bits w.toNat 30 0 ≠ 0 then .no t St.badParam
    else if ¬ t.owns h.hc.val 7 n then .no t St.notOwner
    else if swin then { s := t.swinCommit n w } else { s := t.wr (ainCfg_word (n - 64)).addr w })) s

/-- SWIN_READ (R260). -/
def execSwinRead (h : Hdr) (s : State) : Host.Outcome State Fault Refusal :=
  act (fun s => s.runI h (.swinRead h) (fun t =>
    { s := t, result := t.get (swinState_state 0), cont := [word (t.get (swinState_state 1) % 256), 0, 0, 0] })) s

/-- ANALOG_READ: the code of a conversion, which is free (R261; log 4). -/
def execAnalogRead (h : Hdr) (input : Byte) (s : State) : Host.Outcome State Fault Refusal :=
  act (fun s => s.runI h (.analogRead h input) (fun t =>
    let n := input.toNat
    if n < 40 ∨ (64 ≤ n ∧ n < 68) then
      let (x, u) := t.drawNat
      { s := u.put (ana_code (if n < 40 then n else n - 24)) (x % 1024), result := x % 1024 }
    else .no t St.badParam)) s

/-- A switch input's debounced level changes: STATE and CHG, the immobiliser's condition, the event and the reference mark, and the
wake by a cyclic input (R258, R328, R330). -/
def State.swinChange (s : State) (n : Nat) (closed : Bool) : State :=
  let cyc := s.swinCyclic n
  let tm := if cyc then s.devTime else s.devTime - debTicks (s.swf n 17 13)
  let t := (s.setSwin n closed).immCheck
  let (r, b) := swinBit n
  let t := t.put ⟨(swinChg_chg r).addr, b, b⟩ 1
  let t := if s.swf n 28 28 = 1 then t.postAt (t.ownerList 7 n) 13 0x01 n (b2n closed) 0 (word tm) else t
  let t := if closed ∧ t.domOn Dm.crk = true then t.axRefInput (1 + n) tm else t
  if cyc ∧ s.swf n 4 4 = 1 ∧ s.wakeOn 8 = true then t.wake 8 else t

/-- SWIN_DEBOUNCED_CHANGE: the debounced state takes a new level: its change bit, its event, an axis reference it serves,
and a wake where it was sensed cyclically (R258, R260, R263; spec/09, R210). -/
def execSwinDebouncedChange (input : Fin 40) (closed : Bool) (s : State) : Host.Outcome State Fault Refusal :=
  act (fun s => if s.swf input.val 31 30 = 0 ∨ s.swin input.val = closed then s else s.swinChange input.val closed) s

/-- STATIC_WAKE_INPUT: a static wake comparator takes a level; an armed edge or level raises a wake (R262, R328, R330). -/
def execStaticWakeInput (input : Fin 8) (level : Bool) (s : State) : Host.Outcome State Fault Refusal :=
  act (fun s =>
    let c := input.val
    let was := s.wkLevel.testBit c
    let t : State := { s with wkLevel := setBits s.wkLevel c c (b2n level) }
    if s.wakeOn c = false then t
    else match s.wkf c 0 30 29 with
      | 3 => if t.levelWake c then t.wake c else t
      | e => if was ≠ level ∧ (e = 2 ∨ (e = 0) = (level = true)) then t.wake c else t) s

/-! ### Field bank -/

/-- FIELD_OUT on the outputs of a mask that the context owns: outputs refused answer NOT_OWNER or LOCKED, the lowest
standing for the command; with ATOMIC one refusal stops all (R84, R269). -/
def State.fieldOutBy (s : State) (hc mask value : Nat) (atomic : Bool) : State × Byte :=
  let bad := fun k => if ¬ s.owns hc 6 k then some St.notOwner
    else if value.testBit k ∧ (s.get fqLatch_latched).testBit k = true then some St.locked else none
  let st := ((maskList 16 mask).findSome? bad).getD St.ok
  if atomic = true ∧ st ≠ St.ok then (s, st)
  else ((s.fqSet (listMask ((maskList 16 mask).filter (fun k => s.owns hc 6 k))) value).1, st)

/-- FIELD_OUT (R268, R269). -/
def execFieldOut (h : Hdr) (mask value : Half) (s : State) : Host.Outcome State Fault Refusal :=
  act (fun s => s.runI h (.fieldOut h mask value) (fun t =>
    let (u, st) := t.fieldOutBy h.hc.val mask.toNat value.toNat h.atomic
    { s := u, status := st })) s

/-- The fault flags of the field outputs: limiting, thermally off, latched, or commanded on in undervoltage (R272). -/
def State.fqFlags (s : State) : Nat :=
  s.get fqFault_limit ||| s.get fqFault_thermal ||| s.get fqLatch_latched ||| (if s.flag fieldStat_lpUv then s.get fqState_cmd else 0)

/-- FIELD_READ, without ownership (R272). -/
def execFieldRead (h : Hdr) (s : State) : Host.Outcome State Fault Refusal :=
  act (fun s => s.runI h (.fieldRead h) (fun t => { s := t.fqLimits, result := t.fiState + t.fqLimits.fqFlags * 0x10000 })) s

/-- Word 0 of a field record is in range (R273). -/
def fieldRecOk (fi : Bool) (w : Nat) : Bool := if fi then bits w 23 0 == 0 else decide (bits w 31 28 ≤ 8) && bits w 26 0 == 0

/-- A field record commits: FI_STATE shows the states after INV from the commit on, which is no debounced change (R271, R273, R275; log
103). -/
def State.fieldCommit (s : State) (fi : Bool) (n : Nat) (w : Word) : State := s.wr (if fi then fiCfg_word n else fqCfg_word n).addr w

/-- FIELD_CONFIG (R273). -/
def execFieldConfig (h : Hdr) (ch : Byte) (record : List Word) (s : State) : Host.Outcome State Fault Refusal :=
  act (fun s => s.runI h (.fieldConfig h ch record) (fun t =>
    let n := ch.toNat
    let w := record.getD 0 0
    let fi := decide (16 ≤ n)
    if 31 < n ∨ record.length ≠ 2 ∨ record.getD 1 0 ≠ 0 ∨ fieldRecOk fi w.toNat = false then .no t St.badParam
    else if ¬ (if fi then t.owns h.hc.val 9 Dm.field else t.owns h.hc.val 6 n) then .no t St.notOwner
    else { s := t.fieldCommit fi (n % 16) w })) s

/-- A field input's debounced state after INV takes a new level, stamped at the edge (R200, R272; spec/09, R210). -/
def State.fiChange (s : State) (n : Nat) (active : Bool) : State :=
  if s.fiState.testBit n = active then s
  else
    let tm := s.devTime - debTicks (s.fif n 30 26)
    let t : State := { s with fiDeb := setBits s.fiDeb n n (b2n (active != (s.fif n 25 25 == 1))) }
    let t := t.put fiChg_chg (t.get fiChg_chg ||| 2 ^ n)
    let t := if s.fif n 24 24 = 1 then t.postAt (t.ownerList 9 Dm.field) 14 0x01 n (b2n active) 0 (word tm) else t
    if active then t.axRefInput (0x29 + n) tm else t

/-- FI_DEBOUNCED_CHANGE (R258, R272). -/
def execFiDebouncedChange (input : Fin 16) (active : Bool) (s : State) : Host.Outcome State Fault Refusal :=
  act (fun s => if s.fieldLive then s.fiChange input.val active else s) s

/-- FQ_OVERLOAD: 2 ms of continuous limiting, reported once per turn-on (R268). -/
def execFqOverload (fq : Fin 16) (s : State) : Host.Outcome State Fault Refusal :=
  act (fun s =>
    let k := fq.val
    if (s.get fqState_on).testBit k ∧ s.fqTold.testBit k = false then
      ({ s with fqTold := s.fqTold ||| 2 ^ k } : State).fault (0x60 + k) 0x26 k
    else s) s

/-- A field output that its temperature has switched off: shown, latched where it may not come back by itself, and posted (R265, R268). -/
def State.fqTrip (s : State) (k : Nat) : State :=
  let t := s.put fqFault_thermal (s.get fqFault_thermal ||| 2 ^ k)
  let t := if bits (s.rd (fqCfg_word k).addr).toNat 27 27 = 0 then t.put fqLatch_latched (t.get fqLatch_latched ||| 2 ^ k) else t
  t.fqSync.fault (0x60 + k) 0x27 k

/-- FQ_THERMAL: the thermal trip: off, and latched without AUTORST (R268). -/
def execFqThermal (fq : Fin 16) (s : State) : Host.Outcome State Fault Refusal :=
  act (fun s => if (s.get fqState_on).testBit fq.val then s.fqTrip fq.val else s) s

/-- FQ_COOLED: 20 K below the trip: an output that is not latched restarts if it is still commanded on (R268). -/
def execFqCooled (fq : Fin 16) (s : State) : Host.Outcome State Fault Refusal :=
  act (fun s =>
    let k := fq.val
    if (s.get fqLatch_latched).testBit k then s
    else (s.put fqFault_thermal (s.get fqFault_thermal &&& (65535 - 2 ^ k))).fqSync) s

/-- FIELD_LINK: no valid barrier frame for 100 µs (R265). `rejected`: the frames rejected in that time (R275). -/
def execFieldLink (rejected : Nat) (s : State) : Host.Outcome State Fault Refusal :=
  act (fun s => if s.fieldLive then (((s.fiRaw.incBy fieldStat_linkerr rejected).put fieldStat_linkOk 0).fqSync).fault 0x70 0x22 0 else s) s

/-- FIELD_POWER: the supply across the barrier fails (R265). -/
def execFieldPower (s : State) : Host.Outcome State Fault Refusal :=
  act (fun s =>
    if s.domOn Dm.field ∧ s.flag fieldStat_powerOk = true then
      (((s.put fieldStat_linkOk 0).put fieldStat_powerOk 0).fqSync).fault 0x70 0x23 0
    else s) s

/-- FIELD_LINK_RETURN: valid frames return: the outputs take their commanded states, and the inputs resume with the
debounced states that the frames carry (R265). `rejected`: the frames rejected since the link was lost (R275). -/
def execFieldLinkReturn (fi : Half) (rejected : Nat) (s : State) : Host.Outcome State Fault Refusal :=
  act (fun s =>
    if s.domOn Dm.field ∧ s.fieldLive = false then
      let t := (((s.incBy fieldStat_linkerr rejected).put fieldStat_linkOk 1).put fieldStat_powerOk 1).fqSync
      forEach (List.range 16) (fun n u => u.fiChange n (fi.toNat.testBit n)) t
    else s) s

/-- FIELD_LP_UV: field L+ in undervoltage: every output off, commanded states kept (R266). -/
def execFieldLpUv (s : State) : Host.Outcome State Fault Refusal :=
  act (fun s =>
    if s.domOn Dm.field ∧ s.flag fieldStat_lpUv = false then
      (((s.put fieldStat_lpUv 1).put fieldStat_lpOv 0).fqSync).fault 0x70 0x24 0
    else s) s

/-- FIELD_LP_RECOVERY: L+ is back in its operating region: after undervoltage the outputs commanded on switch on together (R266). That the
row also tells the end of an overvoltage, which no row of its own does, is a DESIGN CHOICE (log 116). -/
def execFieldLpRecovery (s : State) : Host.Outcome State Fault Refusal :=
  act (fun s => if s.domOn Dm.field then ((s.put fieldStat_lpUv 0).put fieldStat_lpOv 0).fqSync else s) s

/-- FIELD_LP_OV: field L+ has risen above operating: outputs hold (R266). -/
def execFieldLpOv (s : State) : Host.Outcome State Fault Refusal :=
  act (fun s => if s.domOn Dm.field then ((s.put fieldStat_lpUv 0).put fieldStat_lpOv 1).fqSync.fault 0x70 0x25 0 else s) s

/-! ### V5OUT and LH inputs -/

/-- V5OUT_OVERLOAD: the 5 V supply limits its current (spec/02, R30; spec/17, kind 0x19). -/
def execV5outOverload (s : State) : Host.Outcome State Fault Refusal :=
  act (fun s => if s.v5out then s.fault 0x87 0x19 1 else s) s

/-- The channels that follow an LH input act on its level: by the limp map, or by CH_FOLLOW_LH. -/
def State.lhFollowers (s : State) (k : Nat) : State :=
  forEach (List.range 64) (fun n u =>
    match (u.ch n).follow with
    | some f =>
      if f.sel = k ∧ u.domOn (Dm.bank (bankOf n)) = true then
        (if f.limp then u.limpFollow n else u.followLevel n (u.lhActive f.sel f.inv))
      else u
    | none => u) s

/-- LH_INPUT_CHANGE: an LH input has held a new level for 20 µs: the channels that follow it act (spec/03, R54;
spec/08, R173). -/
def execLhInputChange (lh : Fin 4) (high : Bool) (s : State) : Host.Outcome State Fault Refusal :=
  act (fun s =>
    let k := lh.val
    if bitOf s.lhLevel k = high then s else ({ s with lhLevel := setBits s.lhLevel k k (b2n high) } : State).lhFollowers k) s

end Sys2Proof.Machine
end

