-- ==== Sys2Proof/Machine/Sprocket.lean ====
section
/-! DEFINITION. The meanings of the Sprocket commands and events (spec/10, R216 to R235) and of the tracker's tick
(spec/09, R206). -/

namespace Sys2Proof.Machine

/-! ### Arming (R216 to R219) -/

/-- The fields that an action's TARGET and parameters may hold, and LEAD where the action has no entry (R219). -/
def actionOk (ws : List Word) : Bool :=
  let f := setField ws
  let a := f 0 19 16
  let tgt := f 0 15 8
  let p12 := f 6 31 0 == 0 && f 7 31 0 == 0
  let noLead := f 0 24 24 == 0
  match a with
  | 0 | 1 => decide (tgt < 64) && f 5 31 0 == 0 && p12
  | 2 => decide (tgt < 64) && f 5 9 0 == 0 && p12 && noLead
  | 3 => decide (tgt < 64) && within 20 60000000 (f 5 31 0) && p12
  | 4 => decide (tgt < 64) && within 1 6 (f 5 31 24) && decide (f 5 23 16 < 4) && f 5 15 0 == 0 && p12
  | 5 => decide (tgt < 8) && decide (f 5 31 24 < 8) && f 5 11 0 == 0 && noLead
  | 6 => tgt == 0 && p12 && noLead
  | 7 => decide (tgt / 16 ≤ 8) && decide (tgt % 8 ≤ 5) && decide (f 5 30 29 ≤ 1) && noLead
  | 8 => tgt == 0 && p12 && noLead
  | _ => false

/-- The slot record is in range (R218, R219). -/
def State.slotRecOk (s : State) (ws : List Word) : Bool :=
  let f := setField ws
  let timed := f 0 31 30 == 1
  decide (f 0 31 30 ≤ 1) && (if timed then f 0 29 27 == 0 && f 0 26 25 == 0 && f 0 23 23 == 0 else f 0 26 25 != 3) &&
    (f 0 23 23 == 0 || s.axKind (f 0 29 27) == 1) && f 0 21 20 == 0 && (f 3 15 0 != 0 || f 4 31 0 == 0) && actionOk ws

/-- The slot that a record makes. -/
def mkSlot (hc job : Nat) (ws : List Word) : Slot :=
  let t : Nat := setField ws 1 31 0 * 2 ^ 32 + setField ws 2 31 0
  let r := setField ws 3 15 0
  { owner := hc, rec_ := ws, job := job, target := if setField ws 0 31 30 = 1 then (t : Int) else signed 64 t,
    left := if r = 0xFFFF then none else some r }

/-- The issuing context owns every resource the action names (R216, step 3). -/
def State.actionOwned (s : State) (hc : Nat) (x : Slot) : Bool :=
  x.chans.all (fun c => s.owns hc 0 c) &&
    (x.action != 6 || (maskList 16 (x.fld 5 31 16)).all (fun k => s.owns hc 6 k)) &&
    (x.action != 7 || s.owns hc 3 (x.tgt % 8))

/-- The status with which an arming is refused, by the checks of R216 in their order. -/
def State.armRefusal (s : State) (hc n : Nat) (ws : List Word) : Option Byte :=
  let x := mkSlot hc 0 ws
  if 4095 < n ∨ ws.length ≠ 8 ∨ s.slotRecOk ws = false then some St.badParam
  else match s.slot n with
    | some y => if y.owner = hc then some St.badState else some St.notOwner
    | none =>
      if s.actionOwned hc x = false then some St.notOwner
      else if s.quota hc 1 < s.countClaimed hc 2 + 1 ∨ s.flag (hcState_overQuota hc) = true then some St.overQuota
      else if x.power = true ∧ (s.flag pwrStart_limp = true ∨ x.chans.any (fun c => (s.ch c).disabled) = true) then some St.badState
      else none

/-- SPK_ARM (R216). -/
def execSpkArm (h : Hdr) (slot : Half) (record : List Word) (s : State) : Host.Outcome State Fault Refusal :=
  let i := Instr.spkArm h slot record
  act (fun s => s.dispatch h i (fun t =>
    let n := slot.toNat
    match t.armRefusal h.hc.val n record with
    | some st => t.complete h 0x24 st 0
    | none =>
      let (id, u) := t.addJob h i
      (u.setOwner 2 n (some h.hc.val)).setSlot n (some (mkSlot h.hc.val id record)))) s

/-- SPK_CANCEL (R235). -/
def execSpkCancel (h : Hdr) (first count : Half) (s : State) : Host.Outcome State Fault Refusal :=
  act (fun s => s.runI h (.spkCancel h first count) (fun t =>
    let mine := t.armed.filter (fun n => decide (first.toNat ≤ n) && decide (n < first.toNat + count.toNat) &&
      (match t.slot n with | some x => x.owner == h.hc.val && x.st != .done | none => false))
    { s := forEach mine (fun n u => u.cancelSlot n St.cancelled) t, result := mine.length })) s

/-- STATE of a slot (R236). -/
def State.slotCode (s : State) (n : Nat) : Nat :=
  match s.slot n with
  | none => 0
  | some x => match x.st with | .armed => 1 | .requesting => 2 | .deferred => 3 | .done => 4

/-- SPK_READ (R217). -/
def execSpkRead (h : Hdr) (slot : Half) (s : State) : Host.Outcome State Fault Refusal :=
  act (fun s => s.runI h (.spkRead h slot) (fun t =>
    let n := slot.toNat
    if 4095 < n then .no t St.badParam
    else match t.slot n with
      | none => { s := t, cont := List.replicate 8 0 }
      | some x => { s := t, result := t.slotCode n + x.owner * 8 + x.firings * 0x10000, cont := (List.range 8).map (fun k => x.rec_.getD k 0) })) s

/-! ### Lead tables (R224) -/

/-- The rules of a lead table (R224). -/
def leadConds (ws : List Word) : List Bool :=
  let f := setField ws
  [decide (f 0 31 24 < f 0 23 16), decide (f 0 23 16 < f 0 15 8), decide (5 ≤ f 1 31 24), decide (f 1 31 24 ≤ 100),
   f 1 23 16 == 0]

/-- The record is acceptable as a whole. -/
def leadRecOk (ws : List Word) : Bool := (leadConds ws).all id

/-- LEAD_READ (R217, R224). -/
def execLeadRead (h : Hdr) (ch : Byte) (s : State) : Host.Outcome State Fault Refusal :=
  act (fun s => s.runI h (.leadRead h ch) (fun t =>
    if 63 < ch.toNat then .no t St.badParam
    else { s := t, cont := (List.range 8).map (fun k => t.rd (spkLead_word ch.toNat k).addr) })) s

/-- LEAD_SET (R224). -/
def execLeadSet (h : Hdr) (ch : Byte) (table : List Word) (s : State) : Host.Outcome State Fault Refusal :=
  act (fun s => s.runI h (.leadSet h ch table) (fun t =>
    let n := ch.toNat
    if 63 < n ∨ table.length ≠ 8 ∨ leadRecOk table = false then .no t St.badParam
    else if ¬ t.owns h.hc.val 0 n then .no t St.notOwner
    else { s := forEach (List.range 8) (fun k u => u.wr (spkLead_word n k).addr (table.getD k 0)) t })) s

/-! ### The tracker tick (R206, R220, R221) -/

/-- The channel that an action turns on. -/
def Slot.target1 (x : Slot) : Nat := if x.action = 5 then 48 + 2 * x.tgt else x.tgt

/-- The action would ask for budget now: a turn-on from OFF, or of a move also from a brake; not a wiper's parking where it is parked, nor
where an earlier action on its way holds what the channel was granted (R188, R189, R219, R221, R223). -/
def State.wantsBudget (s : State) (x : Slot) : Bool :=
  let c := x.target1
  let asks := s.onCase c == .ask || (x.action == 5 && s.onCase c == .already && !s.isOn c)
  (x.action == 0 || x.action == 3 || x.action == 4 || x.action == 5) && asks &&
    !(x.action == 4 && s.parkedSet (x.fld 5 31 24) (s.pset c (x.fld 5 23 16))) && !s.grants.any (fun g => g.src == ReqSrc.act c)

/-- A slot's budget request, with a deferral limit or none (R13, R221, R229). -/
def State.spkAsk (s : State) (n : Nat) (x : Slot) (limit : Option Nat) : State :=
  s.request (.spk n) [(x.target1, s.budgetI x.target1)] (s.chPrio x.target1) (some x.owner) limit

/-- One slot at a tick: whether it is pending, whether it falls due and why, and its pre-request (R220, R221, R229). -/
def State.spkEval (s : State) (n : Nat) : State :=
  match s.slot n with
  | none => s
  | some x =>
    if x.due.isSome ∨ ¬ (x.st = .armed ∨ x.st = .requesting) then s
    else if x.pending (s.ax x.axis) = false then (if x.ready then s.setSlot n (some { x with ready := false }) else s)
    else
      let l := s.leadTicks x
      if s.reached x l then s.setSlot n (some { x with
        due := some (if x.ready then 0 else 1, s.now), aim := if x.anyRev then x.revHit (s.ax x.axis) l else none })
      else
        let t := s.setSlot n (some { x with ready := true })
        if x.st = .armed ∧ t.reached x (l + us 4) = true ∧ t.wantsBudget x = true then
          (t.setSlot n (some { x with ready := true, st := .requesting })).spkAsk n x none
        else t

/-- TRACKER_TICK: every axis advances by its velocity, and every armed event is evaluated (R206, R220, R232). -/
def execTrackerTick (s : State) : Host.Outcome State Fault Refusal :=
  act (fun s =>
    if s.domOn Dm.crk = false ∨ s.now < s.tickAt + us 1 then s
    else
      let t : State := { s with tickAt := s.tickAt + us 1 }
      let t := (forEach (List.range 8) (fun n u => if (u.ax n).st = .noSource then u else u.axAdvance n) t).dropCrossed
      forEach (List.range 8) (fun n u => u.modAx n (fun a => { a with outWas := a.out })) (forEach t.armed (fun n u => u.spkEval n) t)) s

/-! ### Firing (R222, R223, R229, R230) -/

/-- The due slot that fires next: those of a jump or step in their order, then the lowest slot (R222, R231). -/
def State.nextDue (s : State) : Option Nat :=
  match s.dueQ with
  | n :: _ => some n
  | [] => s.armed.find? (fun n => match s.slot n with | some x => x.due.isSome && x.st != .deferred && x.st != .done | none => false)

/-- The rate of R222 lets an event fire now. -/
def State.fireRate (s : State) : Bool :=
  s.fireTimes.all (fun t => decide (t + 10 ≤ s.now)) && decide ((s.fireTimes.filter (fun t => decide (s.now < t + ms 1))).length < 1000)

/-- A firing is noted for the rate and the peak. -/
def State.noteFire (s : State) : State :=
  let l := s.now :: s.fireTimes.filter (fun t => decide (s.now < t + ms 1))
  let t : State := { s with fireTimes := l }
  t.put spkLoad_peak (max (t.get spkLoad_peak) l.length)

/-- A grant or request that the event does not use goes back. -/
def State.spkReturn (s : State) (n : Nat) : State :=
  ({ s with line := s.line.filter (fun r => r.src != ReqSrc.spk n) } : State).release (fun g => g.src == ReqSrc.spk n && g.edge.isNone)

/-- The lateness of the event exceeds a nonzero LATE_MAX (R230). -/
def State.overLate (s : State) (x : Slot) : Bool :=
  x.fld 0 7 0 != 0 && (match s.lateness x with | none => true | some u => decide (x.fld 0 7 0 * 1000 < u))

/-- The frame of a TX_FRAME action (R219). -/
def Slot.txFrame (x : Slot) : CanFrame :=
  let ext := x.fld 5 31 31 == 1
  { ident := if ext then x.fld 5 28 0 else x.fld 5 10 0, ext := ext, fmt := x.fld 5 30 29,
    data := (beBytes 4 (x.fld 6 31 0) ++ beBytes 4 (x.fld 7 31 0)).take (x.tgt / 16) }

/-- A case warning of the bank holds the action's turn-on back (R229; spec/07, R164). -/
def State.spkHeld (s : State) (x : Slot) : Bool :=
  s.chPrio x.target1 != 0 && s.flag (bankTwarn_active (bankOf x.target1))

/-- A fired turn-on commits with no edge, on a channel that cannot start it now (R219; spec/07, R161). -/
def State.storeAct (s : State) (x : Slot) : State :=
  let c := x.target1
  let t := s.dropActs c
  match x.action with
  | 0 => t.commitLater c
  | 3 => t.storePulse c (x.fld 5 31 0)
  | 4 => t.storeProfile c (x.fld 5 31 24) (t.pset c (x.fld 5 23 16))
  | _ => t.storeMove x.tgt (t.moveOf x.tgt (x.fld 5 31 24) (x.fld 5 23 12) (x.fld 6 31 0 * 2 ^ 32 + x.fld 7 31 0) none)

/-- A fired turn-on on its way, whose bank has raised its case warning since, is held: what it was granted is returned, and it waits as a
deferral of its budget request (spec/07, R164). -/
def State.holdAct (s : State) (x : Slot) : State :=
  let c := x.target1
  let t := (s.pairOf c).foldl (fun u k => u.modCh k (fun y => { y with cooling := false })) (s.storeAct x)
  (t.request (.act c) [(c, t.budgetI c)] (t.chPrio c) (some x.owner) (some (t.chDefer c))).reexamine

/-- A fired action reaches its bank (R219): a turn-off, a change of duty, or the turn-on of the command it acts as; a channel that has
latched, been disabled or come under the limp map since then takes none, one held off takes it with no edge. -/
def State.spkLand (s : State) (x : Slot) : State :=
  let c := x.target1
  match x.action with
  | 1 => s.cmdOff c 2
  | 2 => s.setDuty c (x.fld 5 31 20) (x.fld 5 19 12) (x.fld 5 11 10)
  | a => match s.onCase c with
    | .refuse _ => s.dropActs c
    | .later => s.storeAct x
    | .already => (s.spkTurnOn x).markEdge c
    | .ask =>
      if a = 4 ∧ s.parkedSet (x.fld 5 31 24) (s.pset c (x.fld 5 23 16)) = true then (s.spkTurnOn x).markEdge c
      else if s.grants.any (fun g => g.src == ReqSrc.act c) then (if s.spkHeld x then s.holdAct x else (s.spkTurnOn x).markEdge c)
      else s

/-- The fixed path of 1 µs from Sprocket to the start of the edge at the bank: the actions that have come to its end, in the order of
their firing; while a bank's link is lost nothing reaches it, and under the limp map no power action is done (R223, "Firing";
spec/01, R7; spec/03, R55). -/
def State.landActs (s : State) : State :=
  let there (a : SpkAct) : Bool := decide (a.at_ + us 1 ≤ s.now) && (s.bank (bankOf a.slot.target1)).linkUp
  (s.acts.filter there).foldl (fun t a =>
    if a ∈ t.acts then
      let u : State := { t with acts := t.acts.erase a }
      if u.flag pwrStart_limp then u.dropActs a.slot.target1 else u.spkLand a.slot
    else t) s

/-- A power action fires: an earlier one on its channel whose edge has not started makes none, and what that was granted serves this one or
is released (R223). -/
def State.spkSend (s : State) (n : Nat) (x : Slot) : State :=
  let c := x.target1
  let mine (k : Nat) : Bool := decide (k ∈ s.pairOf c)
  let t : State := if x.action = 2 then s else if x.action = 1 then s.dropActs c
    else { s with acts := s.acts.filter (fun a => !(a.slot.chans.any mine && a.slot.action != 2)) }
  let t : State := { t with grants := t.grants.map (fun g => if g.src == ReqSrc.spk n && g.edge.isNone then { g with src := .act c } else g) }
  let t : State := { t with acts := t.acts ++ [{ slot := x, at_ := s.now }] }
  if x.action = 1 then t.reexamine else t

/-- The effect of an action at its firing (R219): a power action sets out for its bank, the others are done. -/
def State.spkAct (s : State) (n : Nat) (x : Slot) : State :=
  match x.action with
  | 6 => (s.fieldOutBy x.owner (x.fld 5 31 16) (x.fld 5 15 0) false).1
  | 7 => s.spkTx (x.tgt % 8) (x.tgt / 8 % 2) x.txFrame n x.owner
  | 8 =>
    let pos := if x.timed then 0 else (s.ax x.axis).out
    s.post [x.owner] 9 0x01 x.src n (x.fld 5 31 0) (words64 pos ++ [word (s.devTime / 2 ^ 32), 0])
  | _ => s.spkSend n x

/-- The status with which the basic command refuses the action at its firing, beyond the misses of R229 (R177, R181,
R219; log 24). -/
def State.spkRefusal (s : State) (x : Slot) : Option Byte :=
  match x.action with
  | 3 => if s.onCase x.tgt = .already then some St.badState else none
  | 4 => s.profileCheck x.tgt (x.fld 5 31 24) (x.fld 5 23 16)
  | 5 =>
    let c := x.target1
    if motorSetFor (s.pset c 0) (x.fld 5 31 24) = false then some St.badParam
    else if s.bridged c = false ∨ (s.bank (bankOf c)).storeOk = false then some St.badState
    else none
  | 6 => if s.domOn Dm.field then none else some St.badState
  | _ => none

/-- The status with which the basic command would end where it refuses a part of the action and does the rest: a field output that is latched
(spec/12, R268, R269). -/
def State.spkPartly (s : State) (x : Slot) : Option Byte :=
  if x.action = 6 then
    let st := (s.fieldOutBy x.owner (x.fld 5 31 16) (x.fld 5 15 0) false).2
    if st = St.ok then none else some st
  else none

/-- The channel of an action refuses at its firing: latched, or following an LH input (R229). -/
def State.spkBarred (s : State) (x : Slot) : Bool := x.chans.any (fun c => (s.ch c).latched || (s.ch c).follow.isSome)

/-- An action that its command refuses ends the event with that status; an event with REPEAT 0xFFFF, which ends in none of those ways,
goes on to its next target (R219, R234; log 24). -/
def State.spkRefused (s : State) (n : Nat) (x : Slot) (st : Byte) : State :=
  if x.left = none then s.fired n 0 0 true else s.endSlot n st 0

/-- An event whose turn-on has no budget at its firing waits for it up to DEFER: its pre-request keeps its place in the line, and the limit
runs from now; one that made none asks now, and one whose bank has raised its case warning returns its grant and is held (R13, R229; spec/07,
R164; spec/11, R240, R243). -/
def State.spkDefer (s : State) (n : Nat) (x : Slot) (why : Nat) : State :=
  let t : State := { s with dueQ := s.dueQ.filter (· != n) }
  let t := t.setSlot n (some { x with st := .deferred, granted := none, due := some (why, s.now) })
  let mine (r : Req) : Bool := r.src == ReqSrc.spk n
  let d := s.chDefer x.target1
  if x.granted.isNone ∧ s.line.any mine = true then
    let u : State := { t with line := t.line.map (fun r => if mine r then { r with limit := some (s.now + ms d) } else r) }
    if d = 0 then (u.line.filter mine).foldl (fun (v : State) r => v.limitReq r) u else u
  else (t.spkReturn n).spkAsk n x (some d)

/-- The next due event fires, is skipped or waits for its grant (R222, R229, R230). -/
def State.spkFire (s : State) (n : Nat) (x : Slot) (why : Nat) : State :=
  if why ≠ 0 ∧ (x.skips = true ∨ s.overLate x = true) then (s.spkReturn n).fired n (if why = 4 then 3 else 2) why true
  else if s.spkBarred x then (s.spkReturn n).fired n 2 5 true
  else match s.spkRefusal x with
    | some st => (s.spkReturn n).spkRefused n x st
    | none =>
      let out := if why = 0 then 0 else 1
      if (s.spkPartly x).isSome then ((((s.spkReturn n).spkAct n x).spkRefused n x ((s.spkPartly x).getD 0))).noteFire
      else if s.wantsBudget x = false then (((s.spkReturn n).spkAct n x).fired n out why false).noteFire
      else if x.granted.isSome = true ∧ s.spkHeld x = false then ((s.spkAct n x).fired n out why false).noteFire
      else if why = 0 ∧ x.skips = true then (s.spkReturn n).fired n 3 4 true
      else s.spkDefer n x why

/-- SPROCKET_FIRE: the next due event, at the rate of R222; one that waited more than 1 µs for its turn, but
for a late grant, is an overload miss (R222, R229). -/
def execSprocketFire (slot : Fin 4096) (s : State) : Host.Outcome State Fault Refusal :=
  act (fun s =>
    let n := slot.val
    match s.slot n with
    | some x =>
      match x.due with
      | some (r, at_) =>
        if s.domOn Dm.crk = true ∧ s.nextDue = some n ∧ s.fireRate = true then
          (if r ≠ 4 ∧ r ≠ 6 ∧ at_ + us 1 < s.now then (s.inc spkLoad_overload).spkFire n x 6 else s.spkFire n x r)
        else s
      | none => s
    | none => s) s

/-- SPK_GRANT_RETURN: 100 µs after the grant the event has not fired: the grant goes back (R221). -/
def execSpkGrantReturn (slot : Fin 4096) (s : State) : Host.Outcome State Fault Refusal :=
  act (fun s =>
    let n := slot.val
    match s.slot n with
    | some x =>
      match x.granted with
      | some g =>
        if x.st = .requesting ∧ x.due.isNone ∧ g + us 100 ≤ s.now then
          (s.setSlot n (some { x with st := .armed, granted := none })).spkReturn n
        else s
      | none => s
    | none => s) s

end Sys2Proof.Machine
end

