-- ==== Sys2Proof/Machine/RegViews.lean ====
section
/-! DEFINITION. What a register shows where it is a view of state that the model keeps elsewhere (the register tables of
spec/03 to spec/19), and what a read does: captures and the clearing of RC fields (spec/00, R4). -/

namespace Sys2Proof.Machine

/-- MSTATE of BANKn_MOTORb (spec/08, R194). -/
def MState.code : MState → Nat
  | .idle => 0 | .running => 1 | .decel => 2 | .braking => 3 | .pinch => 4 | .park => 5

/-- Time left in a unit of `u` ticks, which of the two neighbours of an inexact quotient being open (log 10). -/
def State.timeLeft (s : State) (end_ u : Nat) : Nat := (rdiv ((end_ - s.now : Nat) : Int) (u : Int)).toNat

/-- The word with a field replaced. -/
def withFld (w : Nat) (f : Fld) (v : Nat) : Nat := setBits w f.hi f.lo v

/-! ### Views, block by block -/

/-- SYS, HC and EVT registers (spec/04, R96; spec/05, R119; spec/16, R362). -/
def State.viewSys (s : State) (r : RegAt) (w : Nat) : Nat :=
  let n := r.i
  match r.kind with
  | .hcUse => min 8191 (s.quotaUse n r.j)
  | .hcRing => ((s.hc n).queue.length + (s.hc n).bad.length) * 0x1000000 + ((s.hc n).cring.map (fun x => x.item.recs)).sum * 0x10000 + ((s.hc n).ering.map (fun x => x.item.recs)).sum
  | .hcOwnch => listMask ((List.range 32).filter (fun k => s.owns n 0 (32 * r.j + k)))
  | .sysPoolstat => withFld w sysPoolstat_free s.poolFree
  | .evtPend => listMask ((List.range 32).filter (fun c => ((s.hc n).pendOf c).1 != 0))
  | .evtHeld => ((s.hc n).epend.map (fun x => x.item.recs)).sum * 0x10000 + ((s.hc n).ering.map (fun x => x.item.recs)).sum
  | .evtHub => withFld w evtHub_backlog s.backlog.length
  | _ => w

/-- BANK and CH registers (spec/06, R146; spec/07, R168; spec/08, R194). -/
def State.viewBank (s : State) (r : RegAt) (w : Nat) : Nat :=
  let n := r.i
  match r.kind with
  | .chState => s.chWord n
  | .chProt =>
    let c := s.ch n
    c.cause * 0x10000000 + min 15 (s.restartN n) * 0x1000000 + b2n c.latched * 0x800000 + min 7 (s.restartN n) * 0x100000 + min 65535 (s.timeLeft c.coolEnd 100000)
  | .bankPwm =>
    let c := 8 * n + r.j
    setBits (setBits w 30 30 (b2n (s.clamps c))) 31 31 (if (s.ch c).drive = .off then 0 else bits w 31 31)
  | .chI2t => withFld w (chI2t_theta n) (s.thetaMilli n)
  | .bankUcode =>
    let b := s.bank n
    (if b.loaded then (s.flash.active.sectionVersion 1).toNat % 65536 else 0) * 0x10000 + b2n b.pendingStore * 8 + b.store % 2 * 4 + b2n b.storeOk * 2 + b2n b.loaded
  | .bankFollow => ((List.range 8).map (fun k => (match (s.ch (8 * n + k)).follow with
      | some f => 8 + b2n f.inv * 4 + f.sel % 4
      | none => 0) * 16 ^ k)).sum
  | .bankMotor =>
    if 6 ≤ n then
      let b := s.br (4 * (n - 6) + r.j)
      withFld (withFld w (bankMotor_norm n r.j) (b2n b.norm)) (bankMotor_mstate n r.j) b.mstate.code
    else w
  | _ => w

/-- CRANK, SPK and GOV registers (spec/09, R215; spec/10, R236; spec/11, R250). SHARE reads its Reset value at the first instant of a
power-up start; from the first tick on it shows S, which before full service is BUDGET (R238; DEDUCED, log 98). -/
def State.viewCrank (s : State) (r : RegAt) (w : Nat) : Nat :=
  let n := r.i
  match r.kind with
  | .axStat => s.axStat n
  | .axPoslo => unsigned 64 (s.ax n).out % 2 ^ 32
  | .axPoshi => (s.ax n).snapHi.toNat
  | .axVel => (s.ax n).snapVel.toNat
  | .axSnaptime => (s.ax n).snapTime.toNat
  | .crankTimelo => s.devTime % 2 ^ 32
  | .crankTimehi => s.timeHi.toNat
  | .spkStat => s.armed.length * 0x10000 + (4096 - s.armed.length)
  | .spkFree => listMask ((List.range 32).filter (fun j => (s.slot (32 * n + j)).isNone))
  | .spkSlot => match s.slot n with
    | some x => min 65535 x.firings * 0x10000 + x.last % 4 * 0x100 + x.owner * 8 + s.slotCode n
    | none => 0
  | .govCluster => withFld w govCluster_linked s.linkedMask
  | .govMap => withFld w (govMap_members n) (bits w 19 16 ||| 2 ^ s.ownNumber)
  | .govPeak => withFld w (govPeak_peakuse n) (max (bits w 15 0) (min 65535 (s.usedOf (s.govIdx n))))
  | .govStat => (if s.now = s.t0 then 0 else min 65535 (s.shareOf (s.govIdx n))) * 0x10000 + min 65535 (s.usedOf (s.govIdx n))
  | .govWait =>
    let g := s.govIdx n
    min 255 (s.line.filter (fun q => !q.held && decide (g ∈ s.reqGroups q))).length * 0x1000000 + min 65535 (s.demand g 1 + s.demand g 2)
  | .govFlags =>
    let g := s.govIdx n
    b2n (s.grp g).fallback * 8 + b2n (s.grp g).holdUntil.isSome * 4 + b2n (s.frozen g) * 2 + b2n (decide (s.shareOf g < s.usedOf g))
  | _ => w

/-- CAN, NETSW and flow registers (spec/13, R297; spec/14, R319); the pair and the entry that a context has selected. -/
def State.viewNet (s : State) (hc : Nat) (r : RegAt) (w : Nat) : Nat :=
  let n := r.i
  let sel := Sparse.get (fun _ => 0) s.pairSel (8 * n + hc)
  match r.kind with
  | .canState => withFld (withFld w (canState_state n) (s.canSt n)) (canState_backoff n) (b2n (s.anyHeld n))
  | .canTxstat => withFld (withFld w (canTxstat_q0 n) (s.port n).q0.length) (canTxstat_q1 n) (s.port n).q1.length
  | .canSofhi => (s.port n).sofHi.toNat
  | .canCollCnt =>
    let ts := (Sparse.get (fun _ => ([], 0)) (s.port n).colls r.j).1
    withFld w (canCollCnt_window n r.j) (min 255 (ts.filter (fun t => decide (s.now < t + sec 1))).length)
  | .canPairsel => sel
  | .canPairmask => (s.pair sel).mask.toNat
  | .canPairmatch => (s.pair sel).pattern.toNat
  | .canPairinfo =>
    match s.owner 4 sel with
    | some o => 0x80000000 + o * 0x10000000 + (s.pair sel).port % 8 * 0x2000000 + (s.pair sel).queue % 2 * 0x1000000
    | none => 0
  | .canRxwin => ((Sparse.get (fun _ => ([] : List Word)) (s.port n).win hc).getD r.j 0).toNat
  | .netFlowstat =>
    withFld (withFld w netFlowstat_used s.flowList.length) netFlowstat_pinned (s.flowList.filter (fun p => p.2.fld 0 27 27 == 1)).length
  | .netAsofflo => s.asOffset % 2 ^ 32
  | .netAsoffhi => s.asHi.toNat
  | .netAsstat => withFld (withFld w netAsstat_rate s.asRate) netAsstat_gm (b2n s.grandmaster)
  | .flowInfo => match s.flow n with
    | some x => 0x80000000 + x.fld 0 27 27 * 0x40000000 + b2n x.learned * 0x20000000 + (s.owner 5 n).getD 0 * 0x4000000 + x.kind * 0x400000 +
        min (2 ^ 22 - 1) ((s.now - x.hitAt) / 100000)
    | none => 0
  | _ => w

/-- PWR, SCREE, SWIN, KEY and IMM registers; PARENT of an empty slot shows its Reset value (DEDUCED, log 98) (spec/03, R67; spec/12, R273;
spec/15, R348; spec/17, R382; spec/18, R416). -/
def State.viewAon (s : State) (r : RegAt) (w : Nat) : Nat :=
  let n := r.i
  match r.kind with
  | .pwrCoast =>
    let e := match s.coastAt with | some a => withFld w pwrCoast_elapsed (satTo 16383 ((s.now - a) / 100000)) | none => w
    withFld e pwrCoast_bankCoast (listMask ((List.range 8).filter (fun b => (s.bank b).coastAt.isSome)))
  | .pwrDomstate => s.domWord n
  | .pwrTimer => match s.wakeTimer with | some e => min (2 ^ 32 - 1) (s.timeLeft e 100000) | none => 0
  | .pwrFw => withFld w (pwrFw_suspLeft n) (if s.flag (pwrFw_susp n) then s.timeLeft (s.port n).suspEnd (sec 60) else 0)
  | .pwrNmstat => s.nmShown n
  | .fiState => withFld w fiState_state s.fiState
  | .swinWet => min 255 (s.wetSums 40 0).1 * 0x100 + min 255 (s.wetSums 40 0).2
  | .screeStat =>
    let live := s.log.filter (fun e => e.st != .cleared)
    live.length * 0x400000 + (live.filter (fun e => e.st == .latched)).length * 0x1000 + b2n (live.any (fun e => e.action == 4)) * 8 + b2n s.fltN * 4 + b2n (live != []) * 2
  | .screeOwnsum => s.faultSummary
  | .keyLc => s.otp.made * 0x1000000 + (30 - s.otp.made) * 0x10000 + b2n s.dbgArr.isSome * 0x100 + s.otp.lc
  | .keyDevid => if n = 0 then Config.deviceId.toNat % 2 ^ 32 else Config.deviceId.toNat / 2 ^ 32
  | .keyStat =>
    withFld (withFld w keyStat_cacheUsed s.cache.length) keyStat_staged s.staged.length / 16 * 16 + b2n s.dbgArr.isSome * 8 + s.get keyStat_rngOk * 4 +
      b2n s.ka.owner.isSome * 2 + b2n s.ka.mfr.isSome
  | .keySlot =>
    let k := s.ka.slot n
    k.code * 0x40000000 + (match s.stagedOf n with | some x => if x.verified then 2 else 1 | none => 0) * 0x10000000 + b2n (decide (16 ≤ n) && k.code != 0) * 0x8000000 +
      (match k.live with | some x => x.usage % 256 | none => 0)
  | .keySlotver => (s.ka.slot n).version.getD 0
  | .immStat => b2n s.keysOk * 0x80000000 + s.immResult % 65536
  | .immTok =>
    let e := s.ka.tok n
    b2n e.isSome * 0x80000000 + b2n (match e with | some t => t.parkWake | none => false) * 0x40000000 + (s.tokStat n).last % 4 * 0x10000000 +
      min 15 (s.invalidCount n) * 0x1000000 + (s.tokStat n).dist % 0x4000
  | .immFresh => s.imm.fresh % 2 ^ 32
  | .immPark => s.parkShown % 4 * 0x40000000 + s.parkClock % 0x40000000
  | _ => w

/-- UPD registers (spec/19, R442). -/
def State.viewUpd (s : State) (r : RegAt) (w : Nat) : Nat :=
  let f := s.flash
  let lock := fun (l : Option StageLock) => match l with | some x => 0x80000000 + x.hc * 0x10000000 | none => 0
  match r.kind with
  | .updFwstat => lock s.fwLock + f.reason * 0x10000 + (match s.fwLock with | some x => min 255 (x.idle / sec 1) | none => 0) * 0x100 + f.fwState
  | .updNext => f.fwNext
  | .updTrial => min 65535 (f.runtime + s.runTicks / sec 1) * 0x10000 + min 255 f.boots * 0x100 + b2n (f.fwState == 5) * 2 + b2n s.onTrial
  | .updVer =>
    let a := match r.i with | 0 => f.active | 1 => f.fallback | _ => f.staging
    if (if r.i = 2 then decide (f.fwState ∈ [2, 3, 4, 5]) else s.reasonOf a == 0) then a.version.toNat else 0
  | .updPolicy => s.otp.svnMin % 64 * 0x10000 + s.otp.revoked % 16 * 0x100 + b2n s.otp.requireOwner
  | .updCfgstat => lock s.cfgLock + f.cfgStage * 0x10000 + w % 4
  | .updCfgnext => f.cfgNext
  | .updJournal => f.stage * 0x1000000 + f.block % 256 * 0x10000 + w % 65536
  | _ => w

/-- The word that writes have stored in a register: of a GOV configuration register the latest written, which takes effect at the next
epoch boundary, and of a bank's PWM base the one that takes effect at the end of the running frame (spec/00, R4; spec/08, R169; spec/11,
R247). -/
def State.stored (s : State) (a : Nat) : Word :=
  match s.govPend.reverse.find? (fun p => p.1 == a) with
  | some p => p.2
  | none => match (List.range 8).find? (fun b => (bankPwmbase_period b).addr == a) with
    | some b => match (s.bank b).newPeriod with
      | some v => word (withFld (s.rd a).toNat (bankPwmbase_period b) v)
      | none => s.rd a
    | none => s.rd a

/-- A field of that word. -/
def State.storedF (s : State) (f : Fld) : Nat := bits (s.stored f.addr).toNat f.hi f.lo

/-- What the word at an assigned address shows to a context, before any RC field clears. -/
def State.view (s : State) (hc a : Nat) (r : RegAt) : Nat :=
  let w := (s.stored a).toNat
  if a < 0x30000 then s.viewSys r w
  else if 0x40000 ≤ a ∧ a < 0x60000 then s.viewBank r w
  else if 0x60000 ≤ a ∧ a < 0x80000 then s.viewCrank r w
  else if 0x90000 ≤ a ∧ a < 0xC0000 then s.viewNet hc r w
  else if 0xE0000 ≤ a ∧ a < 0xF0000 then s.viewUpd r w
  else s.viewAon r w

/-- What a read finds that no row brings: codes of conversions that run on their own, AIN0 to AIN3 while CRK is On, and field L+, the field
inputs' comparators and the field outputs that limit (R261, R266, R268, R275; log 4, log 70, log 115). -/
def State.convert (s : State) (a : Nat) (r : RegAt) : State :=
  if r.kind = .fiState then s.fiRaw
  else if r.kind = .fqFault then s.fqLimits
  else if (r.kind = .ana ∧ 40 ≤ r.i ∧ s.domOn Dm.crk = true) ∨ r.kind = .fieldLp then
    let (x, t) := s.drawNat
    t.wr a (word (x % 1024))
  else s

/-- What a read captures for later reads (R215, R288, R306). -/
def State.capture (s : State) (r : RegAt) : State :=
  match r.kind with
  | .axPoslo => s.modAx r.i (fun a => { a with
      snapHi := word (unsigned 64 a.out / 2 ^ 32), snapVel := word (s.axVel r.i), snapTime := word s.devTime })
  | .crankTimelo => { s with timeHi := word (s.devTime / 2 ^ 32) }
  | .canSoflo => s.modPort r.i (fun p => { p with sofHi := s.rd (canSofhi_time r.i).addr })
  | .netAsofflo => { s with asHi := word (s.asOffset / 2 ^ 32) }
  | _ => s

/-- A performed read clears the register's RC fields; the fewest free cells start again from the present number (R4; log 88). -/
def State.clearRC (s : State) (a : Nat) (d : RegDesc) (r : RegAt) : State :=
  let w := (s.rd a).toNat
  let keep := w &&& (0xFFFFFFFF - d.rc)
  match r.kind with
  | .sysPoolstat => s.wr a (word (keep + s.poolFree * 0x10000))
  | _ => if d.rc = 0 then s else s.wr a (word keep)

/-- A performed read of an assigned address by a context: the value shown, the captures, and the RC fields cleared. -/
def State.readReg (s : State) (hc a : Nat) (d : RegDesc) (r : RegAt) : Nat × State :=
  let s := s.convert a r
  (s.view hc a r, (s.capture r).clearRC a d r)

end Sys2Proof.Machine
end

