-- ==== Sys2Proof/Machine/RegWrite.lean ====
section
/-! DEFINITION. Register writes: the fields of each writable register with their ranges, who may write it, and what a write
does beyond storing (spec/00, R4 to R6; spec/01, R14 to R17; the register tables of spec/03 to spec/19). -/

namespace Sys2Proof.Machine

/-! ### Fields and ranges -/

/-- How a writable register stores: the record its word belongs to, as addresses, the word's place in it, its fields, the
rules of the record, and which of those rules weigh several words or fields against each other. -/
structure RegRule where
  addrs : List Nat
  k : Nat := 0
  fields : List (Nat × Nat × Nat)
  conds : List Word → List Bool
  cross : List Nat := []

/-- The fields of an axis record (spec/09, R196). -/
def axFields : List (Nat × Nat × Nat) :=
  [(0, 31, 30), (0, 29, 26), (0, 25, 24), (0, 23, 16), (0, 15, 15), (0, 14, 12), (1, 31, 0), (2, 31, 16), (2, 15, 8), (2, 7, 0),
   (3, 31, 24), (3, 23, 22), (3, 21, 16), (3, 15, 0), (4, 31, 16), (5, 31, 0), (6, 31, 31), (6, 28, 0), (7, 31, 23), (7, 22, 18),
   (7, 17, 17), (7, 16, 16), (7, 15, 8)]

/-- The fields of a lead table (spec/10, R224). -/
def leadFields : List (Nat × Nat × Nat) :=
  [(0, 31, 24), (0, 23, 16), (0, 15, 8), (0, 7, 0), (1, 31, 24), (1, 15, 0), (2, 31, 16), (2, 15, 0), (3, 31, 16), (3, 15, 0),
   (4, 31, 16), (4, 15, 0), (5, 31, 16), (5, 15, 0), (6, 31, 16), (6, 15, 0), (7, 31, 16), (7, 15, 0)]

/-- The fields of the wake record of source `c` (spec/15, R328). -/
def wakeFields (c : Nat) : List (Nat × Nat × Nat) :=
  if c < 8 then [(0, 31, 31), (0, 30, 29), (0, 28, 28), (0, 24, 24), (0, 23, 0)]
  else if c = 9 then [(0, 31, 31), (0, 28, 28), (0, 23, 0), (1, 23, 0)]
  else if c = 0x0A then [(0, 31, 31), (0, 28, 28), (0, 23, 0), (1, 31, 0), (2, 0, 0)]
  else if 0x10 ≤ c then
    [(0, 31, 31), (0, 28, 28), (0, 27, 24), (0, 23, 0), (1, 31, 31), (1, 28, 0), (2, 31, 0), (3, 31, 29), (3, 23, 16), (3, 15, 8),
     (3, 7, 4), (3, 3, 2)]
  else [(0, 31, 31), (0, 28, 28), (0, 23, 0)]

/-- The fields of an NM record (spec/15, R338). -/
def nmFields : List (Nat × Nat × Nat) :=
  [(0, 31, 31), (0, 30, 30), (0, 28, 0), (1, 31, 31), (1, 28, 0), (2, 31, 0), (3, 31, 24), (3, 23, 16), (3, 15, 10), (3, 9, 7), (3, 6, 4), (3, 3, 3)]

/-- A CAN record written through registers: R279, R280 and the ranges; that words 2 and 3 be 0 where MODE does not use them,
and TM_LIMIT's range where TMMODE does not use it, bind CAN_CONFIG only, so that no write is barred for good (R278,
spec/13 R297; log 32). -/
def canRegConds (ws : List Word) : List Bool :=
  let f := setField ws
  let mode := f 0 31 30
  let nom := (f 1 31 24 + 1) * (1 + (f 1 23 16 + 1) + (f 1 15 9 + 1))
  let tm := f 0 25 24
  [(f 0 28 28 == 0 || mode == 3), decide (1 ≤ f 0 15 8), decide (1 ≤ f 1 23 16), decide (f 1 8 2 ≤ f 1 15 9),
   decide (8 ≤ 1 + (f 1 23 16 + 1) + (f 1 15 9 + 1)), decide (80 ≤ nom),
   (f 0 29 29 == 0 || (decide (320 ≤ nom) && decide (3 ≤ f 1 23 16 + 1))),
   !(mode == 1 || mode == 2) || dataPhaseOk (ws.getD 2 0).toNat 10 nom,
   !(mode == 2 || mode == 3) || dataPhaseOk (ws.getD 3 0).toNat (if f 0 28 28 = 1 then 4 else 8) nom,
   (f 4 31 31 == 1 || decide (f 4 28 0 < 0x800)), decide (f 5 31 16 ≤ 1000), (tm == 0 || decide (1 ≤ f 5 31 16)),
   (if tm = 1 then within 1 3600 (f 5 15 0) else if tm = 2 then within 10 60000 (f 5 15 0) else decide (f 5 15 0 ≤ 60000)),
   decide (f 6 31 16 ≤ 60000)]

/-- A register that is a record of one word. -/
def rule1 (a : Nat) (fields : List (Nat × Nat)) (conds : (Nat → Nat → Nat) → List Bool) (cross : List Nat := []) : RegRule :=
  { addrs := [a], fields := fields.map (fun f => (0, f.1, f.2)), conds := fun ws => conds (fun hi lo => setField ws 0 hi lo), cross := cross }

/-- A register that is word `j` of a record of `n` words. -/
def ruleN (a j n : Nat) (fields : List (Nat × Nat × Nat)) (conds : List Word → List Bool) (cross : List Nat := []) : RegRule :=
  { addrs := (List.range n).map (fun m => a - 4 * j + 4 * m), k := j, fields := fields, conds := conds, cross := cross }

/-- How the RW fields of the register at an address store; none where it has none. The limit of 6144 that SYS_PORTQn's row QA states
holds for QB too (spec/05, R119; log 86). -/
def State.regRule (s : State) (a : Nat) (r : RegAt) : Option RegRule :=
  let n := r.i
  let whole : Option RegRule := some (rule1 a [(31, 0)] (fun _ => []))
  match r.kind with
  | .sysCoastcfg => some (rule1 a [(13, 0)] (fun f => [f 13 0 == 0 || within 10 10000 (f 13 0)]))
  | .sysHifcfg => some (rule1 a [(1, 0)] (fun _ => []))
  | .sysPortq => some (rule1 a (if n < 6 then [(31, 16), (15, 0)] else [(15, 0)]) (fun f => [decide (f 31 16 ≤ 6144), decide (f 15 0 ≤ 6144)]))
  | .sysPdiss => some (rule1 a [(31, 16)] (fun f => [within 100 600 (f 31 16)]))
  | .evtClass =>
    if r.j < 24 then some (rule1 a [(31, 31), (30, 30), (23, 16), (15, 0)] (fun f => [r.j != 0 || f 31 31 == 1, decide (1 ≤ f 23 16), decide (1 ≤ f 15 0)])) else none
  | .evtCtl => some (rule1 a [(0, 0)] (fun _ => []))
  | .screeKind =>
    if n ∈ faultKinds then some (rule1 a [(31, 31), (30, 28), (27, 26), (25, 16), (15, 8)] (fun f => [decide (1 ≤ f 15 8)])) else none
  | .screeQuiet => if n ∈ faultKinds then some (rule1 a [(15, 0)] (fun f => [within 1 60000 (f 15 0)])) else none
  | .bankOlcfg => some (rule1 a [(3, 2), (1, 0)] (fun _ => []))
  | .bankTwarn => some (rule1 a [(7, 0)] (fun f => [within 80 140 (f 7 0)]))
  | .bankPwmbase => some (rule1 a [(21, 0)] (fun f => [within 4000 4000000 (f 21 0)]))
  | .bankPwm => some (rule1 a [(21, 20), (19, 12), (11, 0)] (fun _ => []))
  | .chCfg => some (ruleN a r.j 8 chFields (chConds (chClass n) (s.get (govBudget_budget (s.govOf n)))) [8, 9, 14, 20])
  | .chPset => whole
  | .axCfg => some (ruleN a r.j 8 axFields axConds [8, 9, 11, 12, 16, 20, 22])
  | .spkLead => some (ruleN a r.j 8 leadFields leadConds)
  | .govMap => some (rule1 a [(25, 24), (19, 16), (15, 8)] (fun f => [decide (f 15 8 ≤ 100)]))
  | .govBudget => some (rule1 a [(31, 16), (15, 0)] (fun f => [within 10 4000 (f 31 16), decide (f 15 0 ≤ f 31 16)]))
  | .govReserve => some (rule1 a [(15, 0)] (fun f => [decide (f 15 0 ≤ s.storedF (govBudget_fixed n))]) [0])
  | .govDroop => some (rule1 a [(23, 16), (15, 0)] (fun f => [within 5 50 (f 23 16), f 15 0 == 0 || within 50 550 (f 15 0)]))
  | .govCtl => some (rule1 a [(7, 0)] (fun _ => []))
  | .swinCfg => some (rule1 a [(31, 30), (29, 29), (28, 28), (27, 24), (23, 18), (17, 13), (12, 9), (8, 7), (6, 5), (4, 4)] (fun f => [f 31 30 != 3, decide (f 12 9 ≤ 8)]))
  | .ainCfg => some (rule1 a [(31, 31)] (fun _ => []))
  | .fqCfg => some (rule1 a [(31, 28), (27, 27)] (fun f => [decide (f 31 28 ≤ 8)]))
  | .fiCfg => some (rule1 a [(31, 31), (30, 26), (25, 25), (24, 24)] (fun _ => []))
  | .canCfg => some (ruleN a r.j 8 canFields canRegConds [6, 7, 8, 11, 12])
  | .canPairsel => some (rule1 a [(9, 0)] (fun _ => []))
  | .netCtl => some (rule1 a [(17, 17), (16, 16), (11, 0)] (fun f => [within 1 3600 (f 11 0)]))
  | .netVlan => some (rule1 a [(31, 31), (27, 16), (13, 7), (6, 0)] (fun f => [decide (1 ≤ f 27 16), decide (f 27 16 ≤ 4094)]))
  | .phyCfg => some (ruleN a r.j 4 portFields (fun ws => (setField ws 3 30 30 == 0 || !s.otherSlave n) :: portConds n ws) [0])
  | .rdgCfg => some (ruleN a r.j 3 portFields (portConds (4 + n)))
  | .pwrInh => some (rule1 a [(23, 0)] (fun _ => []))
  | .pwrWakecfg => if wakeSrc n then some (ruleN a r.j 4 (wakeFields n) (wakeConds n)) else none
  | .pwrNm => some (ruleN a r.j 4 nmFields nmConds)
  | .keyCfg => some (rule1 a [(6, 0)] (fun f => [within 1 64 (f 6 0)]))
  | .immCfg0 => some (rule1 a [(31, 31), (30, 30), (29, 20), (19, 10), (9, 4), (3, 0)]
      (fun f => [within 50 1000 (f 29 20), within 50 1000 (f 19 10), decide (1 ≤ f 3 0)]))
  | .immCfg1 => some (rule1 a [(31, 26), (25, 20), (19, 10), (9, 0)] (fun f => [within 50 1000 (f 19 10), within 20 500 (f 9 0)]))
  | .immCfg2 => some (rule1 a [(31, 28), (27, 27), (25, 20), (19, 17), (15, 0)] (fun f => [decide (1 ≤ f 31 28), decide (f 25 20 ≤ 0x28), decide (f 19 17 ≤ 5)]))
  | .immRelid => some (rule1 a [(31, 31), (30, 30), (28, 0)] (fun _ => []))
  | .immCtl => some (rule1 a [(0, 0)] (fun _ => []))
  | .updSrc => some (rule1 a [(7, 0)] (fun _ => []))
  | .updUds => some (rule1 a [(31, 31), (30, 30), (29, 27), (26, 21), (20, 18), (15, 0)] (fun f => [decide (1 ≤ f 29 27), decide (f 20 18 ≤ 5)]))
  | .updUdsreq | .updUdsrsp => some (rule1 a [(31, 31), (30, 29), (28, 0)] (fun f => [decide (f 30 29 ≤ 1)]))
  | _ => none

/-- The register's word after a write of `w` to its RW fields: a field that its rules refuse stays as it was; fields that
are not RW stay. -/
def State.merged (s : State) (rule : RegRule) (w : Word) : Word :=
  (fieldWrite rule.conds rule.fields rule.k w (rule.addrs.map s.stored)).getD rule.k 0

/-! ### Ownership (R14) -/

/-- All eight channels of a bank. -/
def State.ownsBank (s : State) (hc b : Nat) : Bool := (List.range 8).all (fun k => s.owns hc 0 (8 * b + k))

/-- Registers of a channel that hold its status, which any context may read (spec/05, R101; log 87). -/
def chStatusReg (k : RegKind) : Bool :=
  match k with
  | .chState | .chI | .chVt | .chI2t | .chDiag | .chProt => true
  | _ => false

/-- A context owns at least one channel of a bank (log 87). -/
def State.inBank (s : State) (hc b : Nat) : Bool := (List.range 8).any (fun k => s.owns hc 0 (8 * b + k))

/-- A BANK or CH register may be read: a channel's status by any context, its other registers by its owner, and what belongs to the
bank by an owner of one of its channels (R14; spec/05, R101; log 87). -/
def State.mayReadPower (s : State) (hc a : Nat) (r : RegAt) : Bool :=
  if chStatusReg r.kind then true
  else match r.kind with
  | .bankPwm | .bankArrival => s.owns hc 0 (8 * r.i + r.j)
  | .bankMotor | .bankPinch =>
    if r.i < 6 then s.inBank hc r.i else s.owns hc 0 (8 * r.i + 2 * r.j) && s.owns hc 0 (8 * r.i + 2 * r.j + 1)
  | _ => if a < 0x50000 then s.inBank hc r.i else s.owns hc 0 r.i

/-- The issuing context may read the register: the blocks of spec/03 to spec/08 that are read by their owner only, the pages of the host
contexts, and PWR, whose network-management records belong to their ports, and SAVE; reads of every other block need no ownership (R14,
R101; spec/15, R348). -/
def State.mayRead (s : State) (hc : Nat) (a : Nat) (r : RegAt) : Bool :=
  if a < 0x10000 then s.owns hc 0x0A 0
  else if a < 0x18000 then hc == 0 || hc == r.i
  else if 0x20000 ≤ a ∧ a < 0x30000 then (if r.kind = .evtHub then hc == 0 else hc == 0 || hc == r.i)
  else if 0x40000 ≤ a ∧ a < 0x54000 then s.mayReadPower hc a r
  else if 0xC0000 ≤ a ∧ a < 0xC8000 then (if r.kind = .pwrNm then s.owns hc 3 r.i else s.owns hc 0x0A 1)
  else if 0xC8000 ≤ a ∧ a < 0xD0000 then s.owns hc 0x0A 2
  else if 0xF0000 ≤ a then s.owns hc 0x0A 5
  else true

/-- The issuing context may write the register. -/
def State.mayWrite (s : State) (hc : Nat) (a : Nat) (r : RegAt) (w : Word) : Bool :=
  let n := r.i
  match r.kind with
  | .sysCoastcfg | .sysLimpctl | .sysLimpmap | .sysLimpbase | .sysHifcfg | .sysHifstat | .sysPoolstat | .sysPortq | .sysPdiss => s.owns hc 0x0A 0
  | .hcQuota => s.sysHolder hc
  | .hcBind | .hcAddr1 | .hcAddr2 | .hcState | .hcUse | .hcRing | .hcOwnch | .hcRefused => false
  | .evtClass | .evtCtl | .evtPend | .evtStat | .evtHeld => hc == 0 || hc == n
  | .evtHub => hc == 0
  | .screeStat | .screeCnt | .screeActcnt | .screeOwnsum | .screePeer | .screeKind | .screeQuiet | .screeSum => s.sysHolder hc
  | .bankPwm | .bankArrival => s.owns hc 0 (8 * n + r.j)
  | .bankMotor | .bankPinch => n < 6 || (s.owns hc 0 (8 * n + 2 * r.j) && s.owns hc 0 (8 * n + 2 * r.j + 1))
  | .axCfg | .axStat | .axPoslo | .axPoshi | .axVel | .axSnaptime | .axDiag | .axRef | .axReftime => s.owns hc 1 n
  | .govMap | .govBudget | .govReserve | .govDroop | .govStat | .govWait | .govFlags | .govCnt | .govPeak | .govCtl | .govCluster | .netCtl => s.sysHolder hc
  | .spkLead | .spkLeadstat => s.owns hc 0 n
  | .swinCfg => s.owns hc 7 n
  | .ainCfg => s.owns hc 7 (64 + n)
  | .swinChg => (maskList 32 w.toNat).all (fun b => decide (40 ≤ 32 * n + b) || s.owns hc 7 (32 * n + b))
  | .fqCfg => s.owns hc 6 n
  | .fiCfg | .fiChg => s.owns hc 9 Dm.field
  | .canPairsel => true
  | .netVlan => s.ownsPorts hc (bits (s.rd a).toNat 13 7 ||| bits w.toNat 13 7)
  | .phyCfg | .phyStat | .phyDrop => s.owns hc 0x0C n
  | .rdgCfg | .rdgStat | .rdgErr => s.owns hc 0x0C (4 + n)
  | .pwrNm => s.owns hc 3 n
  | .pwrWakecfg => s.owns hc 0x0A 1 && (n < 0x10 || s.owns hc 3 (n - 0x10))
  | .saveStat | .saveDom => s.owns hc 0x0A 2
  | .immCfg0 | .immCfg1 | .immCfg2 | .immRelid | .immCtl | .immStat | .immTok | .immCnt | .immFresh | .immPark => s.owns hc 0x0B 0
  | .compatWakesrc => s.owns hc 0x0A 5
  | _ =>
    if 0x40000 ≤ a ∧ a < 0x50000 then s.ownsBank hc n
    else if 0x50000 ≤ a ∧ a < 0x54000 then s.owns hc 0 n
    else if 0x90000 ≤ a ∧ a < 0x9C000 then s.owns hc 3 n
    else if 0xC0000 ≤ a ∧ a < 0xC8000 then s.owns hc 0x0A 1
    else if 0xD0000 ≤ a ∧ a < 0xD8000 then s.owns hc 0x0A 3
    else if 0xE0000 ≤ a ∧ a < 0xF0000 then s.owns hc 0x0A 4
    else true

/-! ### What a write does -/

/-- A channel record's word written: ENABLE and BRIDGE act as in CH_CONFIG where they change, the odd channel of a pair keeps
the even one's BRIDGE, and every other field is stored (R142, R127, R146, R372). -/
def State.putChWord (s : State) (n k : Nat) (w : Word) : State × Byte :=
  let old := s.chRec n
  let held := k == 0 && bitOf w.toNat 31 && s.safeHeld n
  let moved := k == 0 && chClass n == .HB && n % 2 == 0 && bitOf w.toNat 30 != s.bridged n && !s.pairOff n
  let w := if held then word (setBits w.toNat 31 31 (setField old 0 31 31)) else w
  let w := if moved then word (setBits w.toNat 30 30 (b2n (s.bridged n))) else w
  let new := s.mirrorBridge n (modNth old k (fun _ => w))
  let t := if k = 0 ∧ setField new 0 31 31 ≠ setField old 0 31 31 then s.chCommit n new else s.putChRec n new
  (t, if held then St.locked else if moved then St.badState else St.ok)

/-- The word of a SCREE_KIND register: ACTION, REACTION and TIME stay where R381 refuses them together. -/
def State.kindWord (s : State) (k : Nat) (w : Word) : Word :=
  let f := fun hi lo => bits w.toNat hi lo
  if reactionOk k (f 27 26) (f 30 28) (f 25 16) then w
  else word (setBits w.toNat 30 16 (bits (s.rd (screeKind_action k).addr).toNat 30 16))

/-- The word of a channel's record: BUDGET_I stays where it lies above the BUDGET of the channel's group (spec/11, R239). -/
def State.budgetWord (s : State) (n k : Nat) (w : Word) : Word :=
  if k = 6 ∧ s.get (govBudget_budget (s.govOf n)) < bits w.toNat 31 16 then word (setBits w.toNat 31 16 (s.budgetI n)) else w

/-- The new word of a register's RW fields takes effect: what a write does beyond storing it (the register tables). A LIMIT lowered
below SYS_PDISS.MEAN is exceeded at once (spec/06, R132). -/
def State.putReg (s : State) (hc a : Nat) (r : RegAt) (w : Word) : State × Byte :=
  let n := r.i
  let u := s.wr a w
  match r.kind with
  | .chCfg => s.putChWord n r.j w
  | .axCfg => (s.axCommit n (modNth (s.axRec n) r.j (fun _ => w)), St.ok)
  | .canCfg => if s.get (canState_state n) = 0 then (s, St.badState) else (u.canErr n 0 0 (if s.get (canState_errstate n) = 2 then 2 else 0), St.ok)
  | .phyCfg => (s.putPortRec n (modNth (s.portRec n) r.j (fun _ => w)), St.ok)
  | .rdgCfg => (s.putPortRec (4 + n) (modNth (s.portRec (4 + n)) r.j (fun _ => w)), St.ok)
  | .govMap | .govBudget | .govReserve | .govDroop | .govCtl => ({ s with govPend := s.govPend ++ [(a, w)] }, St.ok)
  | .swinCfg => (s.swinCommit n w, St.ok)
  | .fiCfg => (s.fieldCommit true n w, St.ok)
  | .bankPwmbase =>
    if s.flag pwrStart_limp then (s, St.badState) else (s.setBase n (bits w.toNat 21 0), St.ok)
  | .bankPwm =>
    let c := 8 * n + r.j
    if s.flag pwrStart_limp = true ∨ (s.ch c).disabled = true then (s, St.badState)
    else (s.setDuty c (bits w.toNat 11 0) (bits w.toNat 19 12) (bits w.toNat 21 20), St.ok)
  | .evtClass => (s.setClass n r.j (bits w.toNat 31 31) (bits w.toNat 23 16) (bits w.toNat 30 30) (bits w.toNat 15 0), St.ok)
  | .sysPdiss =>
    let above := decide (s.get sysPdiss_mean ≤ s.get sysPdiss_limit) && decide (bits w.toNat 31 16 < s.get sysPdiss_mean)
    (if above then u.fault 0x80 0x1A 0 else u, St.ok)
  | .evtCtl => (s.setGdis n (bitOf w.toNat 0), St.ok)
  | .canPairsel => ({ s with pairSel := Sparse.set (fun _ => 0) s.pairSel (8 * n + hc) (w.toNat % 1024) }, St.ok)
  | .pwrWakecfg =>
    if r.j = 0 ∧ 0x10 ≤ n ∧ bitOf w.toNat 31 = true ∧ s.canFast (n - 0x10) = false then (s, St.badState) else (u.wakeApply n, St.ok)
  | .pwrNm =>
    if s.canSleeping n then (s, St.badState) else (u.modPort n (fun p => { p with nmSt := 0, nmAt := u.now, nmSentReady := false }), St.ok)
  | .immCfg0 | .immCfg1 | .immCfg2 | .immRelid | .immCtl => (u.immCheck, St.ok)
  | _ => (u, St.ok)

/-- PWR_SBREQ written: the domains named that SBALLOW holds come On as a wake of source 0x09, which must be armed (spec/15,
R345; log 34). -/
def State.sbReq (s : State) (w : Word) : State :=
  let m := bits w.toNat 23 0 &&& s.wkf 9 1 23 0
  if m = 0 ∨ s.wakeOn 9 = false then s else s.wakeBy 9 (m / 2 * 2)

/-- W1C and WO bits written as 1 (spec/00, R4): what each does. -/
def State.trigger (s : State) (hc a : Nat) (d : RegDesc) (r : RegAt) (t : Word) : State × Byte :=
  let one := t.toNat &&& d.w1c
  let u := if one = 0 then s else s.wr a (word ((s.rd a).toNat &&& (0xFFFFFFFF - one)))
  match r.kind with
  | .sysLimpctl => if bitOf t.toNat 0 then s.limpRelease hc else (s, St.ok)
  | .bankCmptest =>
    if bitOf t.toNat 8 then
      (forEach (List.range 8) (fun k v => if v.chCode (8 * r.i + k) = 0 then v.beginTest (8 * r.i + k) else v) s, St.ok)
    else (s, St.ok)
  | .pwrSbreq => (s.sbReq t, St.ok)
  | .pwrWakesrc => (u.irqCheck, St.ok)
  | _ => (u, St.ok)

/-- UPD_POLICY.REQUIRE_OWNER, an RWL field: in ASSEMBLY writing 1 programs OTP; in any other state it is LOCKED (R442). -/
def State.putPolicy (s : State) (m v : Word) : State × Byte :=
  if bitOf m.toNat 0 = false then (s, St.ok)
  else if s.otp.lc ≠ 1 then (s, St.locked)
  else if bitOf v.toNat 0 then ({ s with otp := { s.otp with requireOwner := true } }, St.ok)
  else (s, St.ok)

/-- A performed write of an assigned address: the bits of `m` take the values of `v`; for a whole write `m` is all ones
(spec/00, R4 to R6; spec/04, R81). -/
def State.writeReg (s : State) (hc a : Nat) (d : RegDesc) (r : RegAt) (m v : Word) : State × Byte :=
  match r.kind with
  | .hcQuota =>
    let w := (s.rd a &&& ~~~m) ||| (v &&& m)
    let (lo, hi) := quotaRange r.j
    if within lo hi (w.toNat % 8192) then
      let (t, st, _) := s.quotaSet hc r.i r.j (w.toNat % 8192)
      (t, st)
    else (s, St.ok)
  | .updPolicy => s.putPolicy m v
  | _ =>
    match s.regRule a r with
    | some rule =>
      let shown := if r.kind = .govMap then s.stored a else word (s.view hc a r)
      let w := (shown &&& ~~~m) ||| (v &&& m)
      let w := match r.kind with | .swinCfg => s.wetWord r.i w | .screeKind => s.kindWord r.i w | .chCfg => s.budgetWord r.i r.j w | _ => w
      let base := if r.kind = .canPairsel then word 0 else s.stored a
      let new := if r.kind = .canPairsel then w &&& 0x3FF else s.merged rule w
      if r.kind = .bankPwmbase ∧ within 4000 4000000 (bits w.toNat 21 0) = false then (s, St.ok)
      else if new = base ∧ r.kind ∉ [.bankPwm, .bankPwmbase, .canPairsel, .pwrWakecfg, .canCfg, .pwrNm] then (s, St.ok)
      else s.putReg hc a r new
    | none => s.trigger hc a d r (v &&& m)

end Sys2Proof.Machine
end

