-- ==== Sys2Proof/Machine/RegBus.lean ====
section
/-! DEFINITION. Register accesses as the hosts make them: the checks in order, the expert window, and SPI frames (spec/01,
R14 to R17; spec/03, R50, R58; spec/04, R68 to R76, R80, R81). -/

namespace Sys2Proof.Machine

/-! ### The checks of an access (R14, R17, R50, R58) -/

/-- The blocks that may be written before full service: SYS, PWR and UPD (R50). -/
def earlyWrite (a : Nat) : Bool := decide (a < 0x10000) || (decide (0xC0000 ≤ a) && decide (a < 0xC8000)) || (decide (0xE0000 ≤ a) && decide (a < 0xF0000))

/-- An access to an address: the status that ends it there, or the register it reaches; none at an offset no table assigns
(R145). -/
def State.regGate (s : State) (a : Nat) (write : Bool) : Byte × Option (RegDesc × RegAt) :=
  match blockRegs a, domOfAddr a with
  | some l, some d =>
    if write = true ∧ s.get pwrStart_phase ≠ 3 ∧ earlyWrite a = false then (St.badState, none)
    else if s.domOn d = false ∨ (d = Dm.sys ∧ s.sysUp = false) then (St.badState, none)
    else (St.ok, findReg l a)
  | _, _ => (St.badParam, none)

/-- A register read by a context: status, value, and the state after it. -/
def State.hostRead (s : State) (hc a : Nat) : Byte × Nat × State :=
  match s.regGate a false with
  | (st, none) => (st, 0, s)
  | (st, some (d, r)) =>
    if st ≠ St.ok then (st, 0, s)
    else if s.mayRead hc a r = false then (St.notOwner, 0, s)
    else
      let (v, t) := s.readReg hc a d r
      (St.ok, v % 2 ^ 32, t)

/-- A register write by a context: the bits of `m` take the values of `v`. -/
def State.hostWrite (s : State) (hc a : Nat) (m v : Word) : Byte × State :=
  match s.regGate a true with
  | (st, none) => (st, s)
  | (st, some (d, r)) =>
    if st ≠ St.ok then (st, s)
    else if s.mayWrite hc a r (v &&& m) = false then (St.notOwner, s)
    else
      let (t, st) := s.writeReg hc a d r m v
      (st, t)

/-- What a read would show, with nothing captured or cleared (R81). -/
def State.peek (s : State) (hc a : Nat) : Nat :=
  match regAt a with
  | some (_, r) => s.view hc a r % 2 ^ 32
  | none => 0

/-- A whole write. -/
def allOnes : Word := word 0xFFFFFFFF

/-! ### Accesses in the order of issue (spec/01, R7, R15; log 89) -/

/-- A register access by a context waits: it is held, or the register's bank cannot be reached. -/
def State.accessWaits (s : State) (hc no a : Nat) : Bool := s.accessHeld hc no a || s.regCut a

/-- A register write that must wait, behind the context's earlier ones. -/
def State.holdWrite (s : State) (hc a : Nat) (m v : Word) : State :=
  (s.modHc hc (fun h => { h with late := h.late ++ [{ no := s.nextId, addr := a, mask := m, data := v }] })).nextName

/-- A register write of a context's own, outside its commands: one that must wait is answered with what its checks give now, and
performed when nothing holds it any more (R15, R7). -/
def State.accessWrite (s : State) (hc a : Nat) (m v : Word) : Byte × State :=
  let r := s.hostWrite hc a m v
  if s.accessWaits hc s.nextId a then
    if r.1 = St.ok ∨ r.1 = St.locked then (r.1, s.holdWrite hc a m v) else (r.1, s)
  else r

/-- A waiting write may be performed: nothing holds it, and the block that it goes to may be written in the present phase. -/
def State.lateReady (s : State) (hc : Nat) (w : LateWrite) : Bool :=
  !s.accessWaits hc w.no w.addr && (s.get pwrStart_phase == 3 || earlyWrite w.addr)

/-- Each context's first waiting write that may be performed is performed. -/
def State.settleLate (s : State) : State :=
  forEach (List.range 8) (fun n t =>
    match (t.hc n).late.find? (fun w => t.lateReady n w) with
    | none => t
    | some w => ((t.modHc n (fun h => { h with late := h.late.filter (fun x => x.no != w.no) })).hostWrite n w.addr w.mask w.data).2) s

/-! ### Rows for single writes and reads -/

/-- REGISTER_WRITE: a context writes a register (R4, R6). -/
def execRegisterWrite (hc : Fin 8) (addr : Nat) (data : Word) (s : State) : Host.Outcome State Fault Refusal :=
  actOtp (fun s => (s.accessWrite hc.val (addr % 2 ^ 24) allOnes data).2) s

/-- CHANNEL_CFG_WRITE: a write of CHn_CFGk (spec/06, R146). -/
def execChannelCfgWrite (hc : Fin 8) (ch : Fin 64) (k : Fin 8) (data : Word) (s : State) : Host.Outcome State Fault Refusal :=
  act (fun s => (s.accessWrite hc.val (chCfg_word ch.val k.val).addr allOnes data).2) s

/-- AXIS_CFG_WRITE: a write of CRANK_AXn_CFGk (spec/09, R215). -/
def execAxisCfgWrite (hc : Fin 8) (axis k : Fin 8) (data : Word) (s : State) : Host.Outcome State Fault Refusal :=
  act (fun s => (s.accessWrite hc.val (axCfg_word axis.val k.val).addr allOnes data).2) s

/-- CMPTEST_RUN: BANKn_CMPTEST.RUN written (spec/07, R167). -/
def execCmptestRun (hc : Fin 8) (bank : Fin 8) (s : State) : Host.Outcome State Fault Refusal :=
  act (fun s => (s.accessWrite hc.val (bankCmptest_run bank.val).addr allOnes (word 0x100)).2) s

/-- REQUIRE_OWNER_WRITE: UPD_POLICY written (spec/19, R442). -/
def execRequireOwnerWrite (hc : Fin 8) (data : Word) (s : State) : Host.Outcome State Fault Refusal :=
  actOtp (fun s => (s.accessWrite hc.val updPolicy_requireOwner.addr allOnes data).2) s

/-- COMPAT_WAKESRC_READ: not performed while an earlier command of the context holds it (spec/15, R346; spec/01, R15). -/
def execCompatWakesrcRead (hc : Fin 8) (s : State) : Host.Outcome State Fault Refusal :=
  act (fun s => if s.accessHeld hc.val s.nextId compatWakesrc_wk.addr then s else (s.hostRead hc.val compatWakesrc_wk.addr).2.2) s

/-! ### The expert window (R80, R81) -/

/-- Words padded to whole records. -/
def padWords (l : List Word) : List Word := l ++ List.replicate ((4 - l.length % 4) % 4) 0

/-- Consecutive reads that stop at the first one that fails: its status and the words read. -/
def State.readMany (s : State) (hc a : Nat) : Nat → List Word → Byte × List Word × State
  | 0, ws => (St.ok, ws, s)
  | k + 1, ws =>
    match s.hostRead hc a with
    | (st, v, t) => if st = St.ok then t.readMany hc (a + 4) k (ws ++ [word v]) else (st, ws, s)

/-- REG_READ. -/
def execRegRead (h : Hdr) (addr : Word) (count : Byte) (s : State) : Host.Outcome State Fault Refusal :=
  act (fun s => s.runI h (.regRead h addr count) (fun t =>
    if 2 ^ 24 ≤ addr.toNat ∨ count = 0 ∨ 60 < count.toNat then .no t St.badParam
    else
      match t.readMany h.hc.val addr.toNat count.toNat [] with
      | (st, ws, u) => { s := u, status := st, result := if st = St.ok then (ws.getD 0 0).toNat else ws.length, cont := padWords ws })) s

/-- REG_WRITE. -/
def execRegWrite (h : Hdr) (addr data : Word) (s : State) : Host.Outcome State Fault Refusal :=
  actOtp (fun s => s.runI h (.regWrite h addr data) (fun t =>
    if 2 ^ 24 ≤ addr.toNat then .no t St.badParam
    else
      let (st, u) := t.hostWrite h.hc.val addr.toNat allOnes data
      { s := u, status := st })) s

/-- REG_MODIFY: one access changes the bits of MASK; RESULT is the value a read would return after it (R81). -/
def execRegModify (h : Hdr) (addr mask value : Word) (s : State) : Host.Outcome State Fault Refusal :=
  actOtp (fun s => s.runI h (.regModify h addr mask value) (fun t =>
    if 2 ^ 24 ≤ addr.toNat then .no t St.badParam
    else
      let (st, u) := t.hostWrite h.hc.val addr.toNat mask value
      { s := u, status := st, result := if st = St.ok then u.peek h.hc.val addr.toNat else 0 })) s

/-! ### SPI frames (R68 to R76, R448) -/

/-- The HIF answers frames: its domain is On and VIO stands. -/
def State.hifAnswers (s : State) : Bool := s.domOn Dm.hif && s.vioOk

/-- The first byte the block sends: the GSB at the falling edge of CS_N, or 0 where CS_N fell too soon (R68, R448). -/
def State.gsbByte (s : State) (f : SpiFrame) : Byte := if f.soon then 0 else BitVec.ofNat 8 s.gsb

/-- The bytes on SDO: the first byte, zeros up to `pos`, the answer bytes and their CRC, zeros to the frame's end. -/
def spiOut (f : SpiFrame) (g : Byte) (pos : Nat) (answer : List Byte) (crc : Bool) : List Byte :=
  let b := g :: List.replicate (pos - 1) 0 ++ answer ++ (if crc then [crc8 (g :: answer)] else [])
  (b ++ List.replicate f.bytes.length 0).take f.bytes.length

/-- A frame of the type `ty` whose host CRC stands at `crcAt` and whose answer begins at `pos`: a one-byte frame is a poll,
a rejected one has no effect and is counted, any other one takes effect once its CRC is in (R68 to R70). A frame of
another type is no frame of this row. -/
def State.spiFrame (s : State) (f : SpiFrame) (ty crcAt pos : Nat) (effect : State → State × List Byte) : State :=
  let g := s.gsbByte f
  let t0 := (f.bytes.getD 0 0).toNat
  if s.hifAnswers = false ∨ f.bytes = [] then s
  else if f.bytes.length = 1 then { s with sdo := [g] }
  else if t0 ≠ ty ∧ 1 ≤ t0 ∧ t0 ≤ 4 then s
  else if t0 ≠ ty ∨ f.bytes.length ≤ crcAt then { s.inc sysHifstat_frameErr with crce := true, sdo := spiOut f g 1 [] false }
  else if crc8 (f.bytes.take crcAt) ≠ f.bytes.getD crcAt 0 then
    { s.inc sysHifstat_frameErr with crce := true, sdo := spiOut f g pos [0xFF] false }
  else
    let (t, ans) := effect s
    { t with crce := false, sdo := spiOut f g pos ans true }

/-- STATUS_POLL: a one-byte frame returns the GSB and changes nothing else (R68). -/
def execStatusPoll (_b : Byte) (s : State) : Host.Outcome State Fault Refusal :=
  act (fun s => if s.hifAnswers then { s with sdo := [BitVec.ofNat 8 s.gsb] } else s) s

/-- SPI_REG_READ: the answer is there in time where the turnaround lasts 280 ns, the bound of R72; with a shorter one it may
be BUSY, and the read is then not performed (R72, R73; log 35). It is BUSY too while an earlier command of HC0 on the same resource has
not completed (R15; log 89). -/
def execSpiRegRead (f : SpiFrame) (s : State) : Host.Outcome State Fault Refusal :=
  act (fun s =>
    let w := s.get sysHifcfg_rdwait + 1
    s.spiFrame f 1 4 (5 + w) (fun t =>
      let a := beNat ((f.bytes.drop 1).take 3)
      let (late, u) := if 280 ≤ w * 8 * f.periodNs then (false, t) else t.drawBool
      let (st, v, x) := t.hostRead 0 a
      let busy := (late || t.accessHeld 0 t.nextId a) && st == St.ok
      let st := if busy then St.busy else st
      let x := if busy then u else { x with freeCount := max x.freeCount u.freeCount }
      (x.put sysHifstat_lastStatus st.toNat, st :: beBytes 4 (if busy then 0 else v)))) s

/-- SPI_REG_WRITE (R72, R73). -/
def execSpiRegWrite (f : SpiFrame) (s : State) : Host.Outcome State Fault Refusal :=
  actOtp (fun s => s.spiFrame f 2 8 9 (fun t =>
    let (st, u) := t.accessWrite 0 (beNat ((f.bytes.drop 1).take 3)) allOnes (word (beNat ((f.bytes.drop 4).take 4)))
    (u.put sysHifstat_lastStatus st.toNat, [st]))) s

/-- PACKET_PUSH: the packet is offered to HC0, and the answer is its PUSH_STATUS (R74, R75). -/
def execPacketPush (f : SpiFrame) (s : State) : Host.Outcome State Fault Refusal :=
  act (fun s =>
    let len := (readHdr (f.bytes.drop 1)).len
    let p := 4 * ceilDiv len 4
    s.spiFrame f 3 (9 + p) (10 + p) (fun t =>
      let (u, st) := t.acceptPkt 0 ((f.bytes.drop 1).take (8 + len)) 2056
      (u, [st]))) s

/-- A ring without the whole delivered groups that lie within its first `k` records (R76). -/
def ackGroups {α : Type} (recs : α → Nat) : Nat → List (RingItem α) → List (RingItem α)
  | _, [] => []
  | k, r :: rest => if r.delivered = true ∧ recs r.item ≤ k then ackGroups recs (k - recs r.item) rest else r :: rest

/-- How many groups at the head of a ring fit `k` records (R76). -/
def fitGroups {α : Type} (recs : α → Nat) : Nat → List (RingItem α) → Nat
  | _, [] => 0
  | k, r :: rest => if recs r.item ≤ k then fitGroups recs (k - recs r.item) rest + 1 else 0

/-- The first `k` groups marked delivered. -/
def markGroups {α : Type} (k : Nat) (l : List (RingItem α)) : List (RingItem α) :=
  (l.take k).map (fun r => { r with delivered := true }) ++ l.drop k

/-- A pull of HC0's ring: ACK's records are released, then whole groups up to MAX records go out (R76). -/
def State.pullRing (s : State) (events : Bool) (ack max : Nat) : State × List Word :=
  if events then
    let t := (s.modHc 0 (fun h => { h with ering := ackGroups EvRec.recs ack h.ering })).afterAck 0
    let k := fitGroups EvRec.recs max (t.hc 0).ering
    (t.modHc 0 (fun h => { h with ering := markGroups k h.ering }), ((t.hc 0).ering.take k).flatMap evWords)
  else
    let t := (s.modHc 0 (fun h => { h with cring := ackGroups Compl.recs ack h.cring })).afterAck 0
    let k := fitGroups Compl.recs max (t.hc 0).cring
    (t.modHc 0 (fun h => { h with cring := markGroups k h.cring }), ((t.hc 0).cring.take k).flatMap (complWords 0))

/-- RING_PULL (R76): a frame whose RING, ACK or MAX is out of range, or that comes while packets are not served, releases
and returns nothing. -/
def execRingPull (f : SpiFrame) (s : State) : Host.Outcome State Fault Refusal :=
  act (fun s => s.spiFrame f 4 4 5 (fun t =>
    let b := fun k => (f.bytes.getD k 0).toNat
    if t.serves 0 = false ∨ 1 < b 1 ∨ 32 < b 2 ∨ within 16 32 (b 3) = false then (t, [0])
    else
      let (u, ws) := t.pullRing (b 1 == 1) (b 2) (b 3)
      (u, BitVec.ofNat 8 (ws.length / 4) :: bytesOf ws))) s

/-! ### The sideband (spec/15, R342 to R345) -/

/-- SIDEBAND_ADDRESS_MATCH: while SBI is not On, the own address counts and, with the source armed, is acknowledged and wakes, with SBCL held
low until SBI is On (R328, R343). -/
def execSidebandAddressMatch (addr : BitVec 7) (s : State) : Host.Outcome State Fault Refusal :=
  act (fun s =>
    if addr.toNat ≠ s.otp.sbAddr ∨ s.domOn Dm.sbi = true ∨ s.vsup = .belowAon then s
    else
      let t := s.inc pwrSbstat_matches
      if t.wakeOn 9 then (({ t with sbHold := true } : State).emit .sbAck).wake 9 else t) s

/-- SIDEBAND_POINTER_WRITE: a write of 3 bytes sets the pointer; other lengths but 7 are ignored and counted (R344). -/
def execSidebandPointerWrite (bytes : List Byte) (s : State) : Host.Outcome State Fault Refusal :=
  act (fun s =>
    if s.domOn Dm.sbi = false then s
    else if bytes.length = 3 then { s with sbPtr := beNat bytes }
    else s.inc pwrSbstat_ignored) s

/-- SIDEBAND_WRITE: a write of 7 bytes sets the pointer and writes PWR_SBREQ; elsewhere, and at other lengths but 3, it is
ignored and counted (R344, R345). -/
def execSidebandWrite (bytes : List Byte) (s : State) : Host.Outcome State Fault Refusal :=
  act (fun s =>
    if s.domOn Dm.sbi = false then s
    else if bytes.length ≠ 7 ∨ beNat (bytes.take 3) ≠ pwrSbreq_req.addr then s.inc pwrSbstat_ignored
    else ({ s with sbPtr := beNat (bytes.take 3) } : State).sbReq (word (beNat (bytes.drop 3)))) s

/-- One word as the sideband reads it: registers of the AON blocks, and of the CRK blocks while CRK is On; 0 elsewhere;
nothing is cleared. -/
def State.sbWord (s : State) : Nat × State :=
  let a := s.sbPtr
  let t : State := { s with sbPtr := (a + 4) % 2 ^ 24 }
  let ok := match domOfAddr a with | some d => d == Dm.aon || (d == Dm.crk && s.domOn Dm.crk) | none => false
  match regAt a with
  | some (_, r) =>
    if ok then
      let u := t.convert a r
      (u.view 0 a r % 2 ^ 32, u.capture r)
    else (0, t)
  | none => (0, t)

/-- Words read over the sideband from the pointer on, which moves past each (R343 to R345). -/
def State.sbReadWords (s : State) (words : Nat) : State :=
  (List.range words).foldl (fun (t : State) _ =>
    let (v, u) := t.sbWord
    { u with sbOut := u.sbOut ++ beBytes 4 v }) { s with sbOut := [] }

/-- SIDEBAND_READ: words from the pointer on (R344). -/
def execSidebandRead (words : Nat) (s : State) : Host.Outcome State Fault Refusal :=
  act (fun s => if s.domOn Dm.sbi = false then s else s.sbReadWords words) s

end Sys2Proof.Machine
end

