-- ==== Sys2Proof/Machine/Cfg.lean ====
section
/-! DEFINITION. The configuration: which fields it may set, when it is well-formed, which one is in force, and how its records
take effect at full service and when a domain returns from Off (spec/19, R420 to R422; spec/04, R97, R98; spec/05, R456;
spec/15, R322). -/

namespace Sys2Proof.Machine

/-! ### The fields a configuration may set (R421) -/

/-- The bits of the fields of word `k` of a record. -/
def fieldMask (fs : List (Nat × Nat × Nat)) (k : Nat) : Nat :=
  (fs.filter (fun f => f.1 == k)).foldl (fun m f => setBits m f.2.1 f.2.2 (2 ^ (f.2.1 + 1 - f.2.2) - 1)) 0

/-- The bits of a register that are fields with a CFG reset value, or OTP fields that configuration may overwrite. -/
def cfgBits (a : Nat) (r : RegAt) : Nat :=
  match r.kind with
  | .sysHifcfg | .evtCtl | .canPairsel | .immCtl => 0
  | .hcBind => 0xFFFFC000
  | .hcAddr1 | .hcAddr2 | .netMachi | .netIpv4 => 0xFFFFFFFF
  | .netMaclo => 0xFFFF0000
  | .hcOwnch => if r.i = 0 then 0 else 0xFFFFFFFF
  | .hcQuota => 0x1FFF
  | .crankPublish => 0xFF
  | .rdgCluster => 3
  | _ => match ({} : State).regRule a r with
    | some rule => fieldMask rule.fields rule.k
    | none => 0

/-- A record of one register's blank words in which every other word is in range, so that the range of one word can be
tested alone: a port speed, an NM record and a timer that a blank record leaves at a reserved value are given one in range. -/
def cfgBase (r : RegAt) (ws : List Word) : List Word :=
  match r.kind with
  | .phyCfg => if r.i < 2 then modNth (modNth ws 0 (fun _ => 0x04000000)) 3 (fun _ => 1) else modNth ws 0 (fun _ => 0x04000001)
  | .pwrNm => modNth ws 3 (fun _ => 0x00010480)
  | .pwrWakecfg => if r.i = 0x0A then modNth ws 1 (fun _ => 1) else ws
  | _ => ws

/-- The conditions of a rule that bind one word alone hold of a record. -/
def RegRule.holds (rule : RegRule) (ws : List Word) : Bool :=
  (rule.conds ws).zipIdx.all (fun p => p.1 || decide (p.2 ∈ rule.cross))

/-- Every value of a record's word lies in its field's range. -/
def cfgRange (a : Nat) (r : RegAt) (v : Word) : Bool :=
  let f := fun hi lo => bits v.toNat hi lo
  match r.kind with
  | .hcBind =>
    if r.i = 0 then f 31 29 == 1
    else f 31 29 != 1 && decide (f 31 29 ≤ 4) && (f 31 29 != 2 || decide (f 21 19 ≤ 5)) && (f 31 29 != 3 || decide (f 21 19 ≤ 3))
  | .hcQuota => within (quotaRange r.j).1 (quotaRange r.j).2 v.toNat
  | .screeKind => decide (1 ≤ f 15 8) && decide (f 25 16 ≤ 1000) && decide (f 30 28 ≤ 5)
  | _ => match ({} : State).regRule a r with
    | some rule => rule.holds (modNth (cfgBase r (rule.addrs.map (fun x => word (regDefault x)))) rule.k (fun _ => v))
    | none => true

/-- One record names a register with such a field, sets no other bit, and its values are in range. -/
def cfgRecOk (p : Nat × Word) : Bool :=
  decide (p.1 < 2 ^ 24) && (match regAt p.1 with
    | some (_, r) => cfgBits p.1 r != 0 && (p.2.toNat &&& (0xFFFFFFFF - cfgBits p.1 r)) == 0 && cfgRange p.1 r p.2
    | none => false)

/-! ### Storing -/

/-- The configuration's fields of a register take the bits of a value. -/
def State.cfgStore (s : State) (a : Nat) (v : Word) : State :=
  match regAt a with
  | some (_, r) =>
    let m := cfgBits a r
    if m = 0 then s else s.wr a (word (((s.rd a).toNat &&& (0xFFFFFFFF - m)) + (v.toNat &&& m)))
  | none => s

/-- One record stored; ACTION, REACTION and TIME of a fault kind stay where R381 refuses them together, MODE and IWET of a switch input where
the wetting limit would break (spec/12, R275; spec/17, R382). -/
def State.cfgPut1 (s : State) (p : Nat × Word) : State :=
  match regAt p.1 with
  | some (_, r) => s.cfgStore p.1 (match r.kind with | .screeKind => s.kindWord r.i p.2 | .swinCfg => s.wetWord r.i p.2 | _ => p.2)
  | none => s

/-- Records stored in order. -/
def State.cfgPut (s : State) (l : List (Nat × Word)) : State := l.foldl (fun (t : State) p => t.cfgPut1 p) s

/-- The configuration's fields at their blank values; the Coast time keeps its OTP value (R422; spec/03, R67). -/
def State.cfgBlank (s : State) : State :=
  s.regs.foldl (fun (t : State) p => if p.1 = sysCoastcfg_coastTime.addr then t else t.cfgStore p.1 (word (regDefault p.1))) s

/-- The rules that weigh several words or fields hold of the records as they end up (log 32). -/
def cfgCrossOk (l : List (Nat × Word)) : Bool :=
  let t := ({} : State).cfgPut l
  l.all (fun p => match regAt p.1 with
    | some (_, r) =>
      match t.regRule p.1 r with
      | some rule =>
        let ws := rule.addrs.map t.rd
        (match r.kind with
          | .canCfg => canRecOk ws
          | .swinCfg => true
          | _ => rule.cross.all (fun k => (rule.conds ws).getD k true))
      | none => true
    | none => true)

/-! ### Well-formed and compatible (R421) -/

/-- Well-formed but for its owner tag. -/
def cfgWellFormed (b : List Byte) : Bool := cfgShape b && (cfgRecs b).all cfgRecOk && cfgCrossOk (cfgRecs b)

/-- Well-formed. -/
def State.cfgOk (s : State) (a : Area) : Bool :=
  match a with
  | .bytes b => cfgWellFormed b && cfgTagOk s.ownerKey b
  | _ => false

/-- Well-formed, and compatible with the firmware image in ACTIVE. -/
def State.cfgUsable (s : State) (a : Area) : Bool := s.cfgOk a && cfgFits a.image s.flash.active.version

/-- The configuration that a start applies, with the code of UPD_CFGSTAT.APPLY (R422). -/
def State.chooseCfg (s : State) : Area × Nat :=
  if s.cfgUsable s.flash.cfgActive then (s.flash.cfgActive, 0)
  else if s.cfgUsable s.flash.cfgFallback then (s.flash.cfgFallback, 2)
  else (.empty, 3)

/-! ### Bindings and channel ownership (spec/04, R97, R98; spec/05, R456) -/

/-- What a context is bound to. -/
def State.bindKey (s : State) (n : Nat) : List Nat :=
  let w := (s.rd (hcBind_transport n).addr).toNat
  let a1 := (s.rd (hcAddr1_addr n).addr).toNat
  let a2 := (s.rd (hcAddr2_addr n).addr).toNat
  match bits w 31 29 with
  | 2 => [2, bits w 21 19, a1, a2]
  | 3 => [3, bits w 21 19, a1 % 65536, a2]
  | 4 => [4, bits w 18 17, bits w 16 14]
  | _ => [0]

/-- Of two contexts bound identically the lower-numbered is bound; answers whether there was such a conflict. -/
def State.settleBinds (s : State) : State × Bool :=
  let bad := (List.range 8).filter (fun n => s.bound n && decide (1 ≤ n) && (List.range n).any (fun m => decide (1 ≤ m) && s.bound m && s.bindKey m == s.bindKey n))
  (forEach bad (fun n t => t.put (hcBind_transport n) 0) s, bad != [])

/-- The contexts HC1 to HC7 that the configuration names for a channel. -/
def State.namedFor (s : State) (c : Nat) : List Nat :=
  (List.range 8).filter (fun n => decide (1 ≤ n) && bitOf (s.rd (hcOwnch_mask n (c / 32)).addr).toNat (c % 32))

/-- Ownership of the channels by the configuration; answers whether there was a conflict (R456). -/
def State.settleOwners (s : State) : State × Bool :=
  let first (c : Nat) : Option Nat := (s.namedFor c).head?
  let split (c : Nat) : Bool := decide (48 ≤ c) && s.bridged c && (match first (c / 2 * 2), first (c / 2 * 2 + 1) with
    | some a, some b => a != b
    | _, _ => false)
  let dest (c : Nat) : Nat := (first (if split c then c / 2 * 2 else c)).getD 0
  (forEach (List.range 64) (fun c t => t.setOwner 0 c (some (dest c))) s,
    (List.range 64).any (fun c => decide (2 ≤ (s.namedFor c).length) || split c))

/-! ### Taking effect -/

/-- The records of the configuration in force that lie in a domain; every record for none. -/
def State.cfgList (s : State) (d : Option Nat) : List (Nat × Word) :=
  (match s.cfgNow with | .bytes b => cfgRecs b | _ => []).filter (fun p => d.isNone || domOfAddr p.1 == d)

/-- Channel `n`'s record takes effect: ENABLE 0 disables it, and the two halves of a bridge show one BRIDGE (R142, R127). -/
def State.cfgChan (s : State) (n : Nat) : State :=
  let t := s.putChRec n (s.mirrorBridge n (s.chRec n))
  if setField (t.chRec n) 0 31 31 = 0 then t.disableCh n else t

/-- Axis `n`'s record takes effect; `old` is the state before the configuration was stored (spec/09, R197). -/
def State.cfgAxis (s old : State) (n : Nat) : State :=
  let ws := s.axRec n
  (forEach (List.range 8) (fun k t => t.wr (axCfg_word n k).addr (old.rd (axCfg_word n k).addr)) s).axCommit n ws

/-- The records of one domain, or of all, are stored and take effect. -/
def State.cfgTake (s : State) (d : Option Nat) : State :=
  let t := s.cfgPut (s.cfgList d)
  let has := fun k => d.isNone || d == some k
  let t := forEach ((List.range 64).filter (fun n => has (Dm.bank (bankOf n)))) (fun n u => u.cfgChan n) t
  let t := if has Dm.crk then forEach (List.range 8) (fun n u => u.cfgAxis s n) t else t
  let t := if has Dm.aon then (forEach ((List.range 40).filter (fun n => t.swf n 31 30 == 0)) (fun n u => u.setSwin n false) t).wakeApply 0x0A |>.immCheck else t
  if has Dm.uwb then t.immCheck else t

/-- A state's channels from the configuration and context bindings: the ownership and, where it is to be settled, the bindings;
answers whether there was a conflict. -/
def State.cfgHosts (s : State) : State × Bool :=
  let (t, b) := s.settleBinds
  let (u, o) := t.settleOwners
  (u, b || o)

/-- The configuration is chosen, stored and takes effect, its bindings and ownership are settled, and UPD_CFGSTAT, UPD_CFGVER,
UPD_CFGCRC and the event CONFIG_APPLIED report it (R422, R441). -/
def State.applyConfig (s : State) : State :=
  let (area, code) := s.chooseCfg
  let t := ({ s.cfgBlank with cfgNow := area } : State).cfgTake none
  let (t, clash) := t.cfgHosts
  let code := if clash then 1 else code
  let ver := match area with | .bytes _ => area.cfgVersion.toNat | _ => 0
  let crc := match area with | .bytes _ => area.cfgCrc.toNat | _ => 0
  (((t.put updCfgstat_apply code).put updCfgver_value ver).put updCfgcrc_value crc).recheckAll

end Sys2Proof.Machine
end

