-- ==== Sys2Proof/Machine/UpdOps.lean ====
section
/-! DEFINITION. Firmware and configuration update: the JOURNAL's copies, what a power-up start decides, the trial, and the
staging areas (spec/19, R423 to R436). -/

namespace Sys2Proof.Machine

/-! ### Events, faults and small changes -/

/-- The state with the flash changed. -/
def State.modFlash (s : State) (f : Flash → Flash) : State := { s with flash := f s.flash }

/-- An UPDATE event, to HC0, the owner of the UPD block and the contexts concerned (R441). -/
def State.updPost (s : State) (code src arg data : Nat) (dest : List Nat := []) : State :=
  s.post (0 :: s.ownerList 0x0A 4 ++ dest) 22 code src arg data

/-- IMAGE_VERIFY: its reason, whether it concerns a configuration, and the area: 0 STAGING, 1 ACTIVE, 2 FALLBACK (R441). -/
def State.badImage (s : State) (reason : Nat) (config : Bool) (area : Nat) : State :=
  s.fault 0x86 0x32 (reason + b2n config * 0x10 + area * 0x20)

/-- STAGING marked empty. -/
def Flash.unstage (f : Flash) : Flash := { f with staging := .empty, fwState := 0, fwSize := 0, fwNext := 0 }

/-- The trial is over. -/
def Flash.trialOver (f : Flash) : Flash := { f with boots := 0, runtime := 0, revert := 0, trialHc := 0 }

/-! ### Copies (R432, R433) -/

/-- Blocks of a stage of a copy, in UPD_JOURNAL's codes. -/
def stageBlocks (stage : Nat) : Nat :=
  match stage with
  | 1 | 3 => 32
  | 2 | 4 => 4
  | _ => 36

/-- The destination of a stage's block: whether it is a configuration area, and the area's code. -/
def stageDest (stage block : Nat) : Bool × Nat :=
  match stage with
  | 1 => (false, 2) | 2 => (true, 2) | 3 => (false, 1) | 4 => (true, 1)
  | 6 => (decide (32 ≤ block), 1)
  | _ => (decide (32 ≤ block), 2)

/-- An area replaced: by whether it holds a configuration, and its code. -/
def Flash.setArea (f : Flash) (config : Bool) (area : Nat) (a : Area) : Flash :=
  match config, area with
  | false, 1 => { f with active := a }
  | false, _ => { f with fallback := a }
  | true, 1 => { f with cfgActive := a }
  | true, _ => { f with cfgFallback := a }

/-- What a stage's block comes from. -/
def Flash.stageSrc (f : Flash) (stage block : Nat) : Area :=
  match stage with
  | 1 => f.active | 2 => f.cfgActive | 3 => f.staging | 4 => f.cfgStaging
  | 6 => if block < 32 then f.fallback else f.cfgFallback
  | _ => if block < 32 then f.active else f.cfgActive

/-- A block is the last of its area. -/
def lastBlock (stage block : Nat) : Bool := block + 1 == stageBlocks stage || (block == 31 && decide (6 ≤ stage))

/-- A block erased and programmed: the destination holds no image until its last block is good. -/
def Flash.landed (f : Flash) (stage block : Nat) (ok : Bool) : Flash :=
  let (config, area) := stageDest stage block
  f.setArea config area (if ok = true ∧ lastBlock stage block = true then f.stageSrc stage block else .torn)

/-- CONFIG_STAGING has gone into CONFIG_ACTIVE, or is not wanted any more (log 37). -/
def Flash.cfgDone (f : Flash) : Flash := { f with cfgStaging := .empty, cfgStage := 0, cfgSize := 0, cfgNext := 0 }

/-- The 64 KB block that a stage's block is copied to, under bits [22:8] of its address (R417). -/
def stageAddr (stage block : Nat) : Nat :=
  match stageDest stage block with
  | (false, 1) => 0x100 * (block % 32)
  | (false, _) => 0x4000 + 0x100 * (block % 32)
  | (true, 1) => 0x6000 + 0x100 * (block % 32)
  | (true, _) => 0x6800 + 0x100 * (block % 32)

/-- The blocks of a staging area that bytes `a` to `b` are the first to be written into are erased (R424). -/
def State.eraseStaging (s : State) (config : Bool) (a b : Nat) : State :=
  forEach ((List.range 32).filter (fun k => decide (a ≤ 0x10000 * k) && decide (0x10000 * k < b)))
    (fun k t => t.erase ((if config then 0x6400 else 0x2000) + 0x100 * k)) s

/-- A copy begins: its stages, from the first block. -/
def State.beginCopy (s : State) (why : CopyFor) (stages : List Nat) : State :=
  s.modFlash (fun f => { f with copying := some { why := why, stages := stages } })

/-! ### What a start decides (R430, R431, R436) -/

/-- The Verone loader is to run: no copy is to be done and ACTIVE does not verify (R430, R439). -/
def State.toVerone (s : State) : Bool := s.flash.copying.isNone && s.reasonOf s.flash.active != 0

/-- CONFIG_STAGING waits, and is compatible with a firmware VERSION. -/
def State.cfgReady (s : State) (version : Word) : Bool :=
  (s.flash.cfgStage == 2 || s.flash.cfgStage == 4) && cfgFits s.flash.cfgStaging.image version

/-- CONFIG_ACTIVE works with a firmware VERSION; an empty one, the blank configuration, works with every one (log 38). -/
def State.cfgActiveFits (s : State) (version : Word) : Bool :=
  match s.flash.cfgActive with
  | .bytes b => cfgFits b version
  | .empty => true
  | _ => false

/-- A configuration-only update: copied where it is compatible with ACTIVE, else kept and reported (R432). -/
def State.cfgUpdate (s : State) : State :=
  if s.flash.cfgStage ≠ 2 ∧ s.flash.cfgStage ≠ 4 then s
  else if s.cfgReady s.flash.active.version then s.beginCopy .config [2, 4]
  else
    let t := s.modFlash (fun f => { f with cfgStage := 4 })
    t.updPost 0x09 1 4 t.flash.cfgStaging.cfgVersion.toNat [t.flash.cfgHc]

/-- STAGING rejected with a reason (R431). -/
def State.rejectStaging (s : State) (reason : Nat) : State :=
  let t := s.modFlash (fun f => { f with fwState := 6, reason := reason })
  t.updPost 0x02 0 reason t.flash.staging.version.toNat [t.flash.fwHc]

/-- STAGING is STAGED: it is verified, its configuration chosen, and the copy begun; or it is rejected. `keep` is false where
neither ACTIVE nor FALLBACK verifies, so that FALLBACK is left as it is (R431). -/
def State.stagedStart (s : State) (keep : Bool) : State :=
  let a := s.flash.staging
  let r := s.reasonOf a
  let withCfg := s.cfgReady a.version
  let r := if r ≠ 0 then r else if withCfg = true ∨ s.cfgActiveFits a.version = true then 0 else 8
  if r ≠ 0 then ((s.badImage r (r == 8) 0).rejectStaging r)
  else
    (s.modFlash (fun f => { f with fwState := 3 })).beginCopy (.update withCfg)
      ((if keep then [1, 2] else []) ++ [3] ++ (if withCfg then [4] else []))

/-- The trial image starts once more, or is to be reverted (R434, R436). -/
def State.trialStart (s : State) : State :=
  let f := s.flash
  if f.fwState = 5 ∨ 3 ≤ f.boots then
    let r := s.reasonOf f.fallback
    if r ≠ 0 then (s.badImage r false 2).modFlash (fun f => f.unstage.trialOver)
    else (s.modFlash (fun f => { f with fwState := 3 })).beginCopy (.revert (if f.fwState = 5 then f.revert else 1)) [6]
  else
    let t := s.modFlash (fun f => { f with boots := f.boots + 1 })
    (t.updPost 0x03 0 t.flash.boots t.flash.active.version.toNat [t.flash.trialHc])

/-- ACTIVE verifies: the trial, a staged image, then a staged configuration. -/
def State.activeStart (s : State) : State :=
  let t := if s.flash.fwState = 4 ∨ s.flash.fwState = 5 then s.trialStart
    else if s.flash.fwState = 2 then s.stagedStart true else s
  if t.flash.copying.isSome then t else t.cfgUpdate

/-- The ROM's work at a power-up start: an unfinished copy goes on; else ACTIVE is verified, and FALLBACK where it fails
(R430, R433). -/
def State.romStart (s : State) : State :=
  let go : State :=
    let r := s.reasonOf s.flash.active
    if r = 0 then s.activeStart
    else
      let t := s.badImage r false 1
      let rf := t.reasonOf t.flash.fallback
      if rf = 0 then t.beginCopy .restore [6]
      else
        let t := t.badImage rf false 2
        let t := if t.flash.fwState = 2 then t.stagedStart false else t
        if t.flash.copying.isNone then t.put pwrRstcause_verone 1 else t
  match s.flash.copying with
  | some c => (s.modFlash (fun f => { f with copying := some { c with tries := 0 } })).inc updJournal_resumes
  | none => go

/-! ### The end of a copy (R431, R432, R436) -/

/-- PHASE leaves COPY: it is BASIC, unless another copy follows. -/
def State.afterCopy (s : State) : State :=
  if s.flash.copying.isSome then s else s.put pwrStart_phase 2

/-- A copy is complete. -/
def State.copyDone (s : State) (why : CopyFor) : State :=
  let t := s.modFlash (fun f => { f with copying := none })
  match why with
  | .update withCfg =>
    let t := t.modFlash (fun f => { (if withCfg then f.cfgDone else f) with fwState := 4, boots := 1, runtime := 0, revert := 0, trialHc := f.fwHc, stage := 5, block := 0 })
    let t : State := { t with runTicks := 0 }
    (t.updPost 0x03 0 1 t.flash.active.version.toNat [t.flash.trialHc]).afterCopy
  | .config => (t.modFlash Flash.cfgDone).afterCopy
  | .revert cause =>
    let boots := t.flash.boots
    let hc := t.flash.trialHc
    let t := t.modFlash (fun f => f.unstage.trialOver)
    (((t.updPost 0x05 0 cause t.flash.active.version.toNat [hc]).fault 0x86 0x33 (cause + boots * 0x100)).cfgUpdate).afterCopy
  | .restore =>
    let t := t.modFlash (fun f => if f.fwState = 4 ∨ f.fwState = 5 then f.unstage.trialOver else f)
    t.activeStart.afterCopy

/-- The third failed read-back of a block stops the copy: the start goes on in the Verone loader (R432). -/
def State.copyFailed (s : State) (c : Copying) (stage : Nat) : State :=
  let (config, area) := stageDest stage c.block
  let t := s.modFlash (fun f => { f with
    copying := none,
    fwState := match c.why with | .update _ => 2 | .revert _ => 5 | _ => f.fwState,
    revert := match c.why with | .revert k => k | _ => f.revert })
  ((t.badImage 7 config area).put pwrStart_phase 5).put pwrRstcause_verone 1

/-- One block of a copy: programmed and read back, with whether it compares (R432). -/
def State.copyBlock (s : State) (ok : Bool) : State :=
  match s.flash.copying with
  | none => s
  | some c =>
    match c.stages with
    | [] => s
    | st :: rest =>
      if s.get pwrStart_phase ≠ 4 then s
      else
        let t := (s.erase (stageAddr st c.block)).modFlash (fun f => f.landed st c.block ok)
        if ok = false then
          if c.tries + 1 < 3 then t.modFlash (fun f => { f with copying := some { c with tries := c.tries + 1 } })
          else t.copyFailed c st
        else
          let t := t.modFlash (fun f => { f with stage := st, block := c.block })
          if c.block + 1 < stageBlocks st then t.modFlash (fun f => { f with copying := some { c with block := c.block + 1, tries := 0 } })
          else if rest ≠ [] then t.modFlash (fun f => { f with copying := some { c with stages := rest, block := 0, tries := 0 } })
          else t.copyDone c.why

/-- The FALLBACK repair, done in the background (R435). -/
def State.repairDone (s : State) : State :=
  if s.flash.repair ∧ s.flash.copying.isNone then
    (forEach (List.range 36) (fun k t => t.erase (stageAddr 7 k)) s).modFlash (fun f => { f with
      fallback := f.active, cfgFallback := f.cfgActive, repair := false, stage := 7, block := 35 })
  else s

/-! ### Downloads (R423 to R428) -/

/-- A context may begin downloads (R423). -/
def State.mayBegin (s : State) (hc : Nat) : Bool := hc == 0 || bitOf (s.get updSrc_sources) hc

/-- The lock is taken; a partial download of the same context and size goes on, else STAGING is marked empty (R424). -/
def State.updTake (s : State) (hc size : Nat) : State × Byte × Nat :=
  let t : State := { s with fwLock := some { hc := hc } }
  if s.flash.fwState = 1 ∧ s.flash.fwSize = size ∧ s.flash.fwHc = hc then (t, St.ok, s.flash.fwNext)
  else (t.modFlash (fun f => { f with staging := .bytes [], fwState := 1, fwSize := size, fwNext := 0, fwHc := hc }), St.ok, 0)

/-- UPDATE_BEGIN by a context: its status and RESULT (R423, R424, R429). -/
def State.updBegin (s : State) (hc size : Nat) : State × Byte × Nat :=
  if size = 0 ∨ 2097152 < size then (s, St.badParam, 0)
  else if s.mayBegin hc = false then (s, St.notOwner, 0)
  else if s.onTrial then (s, St.badState, 0)
  else match s.fwLock with
    | some l => if l.hc ≠ hc then (s, St.busy, l.hc) else s.updTake hc size
    | none => s.updTake hc size

/-- CONFIG_BEGIN by a context: its status and RESULT (R423, R424). -/
def State.cfgBegin (s : State) (hc size : Nat) : State × Byte × Nat :=
  if size = 0 ∨ 262144 < size then (s, St.badParam, 0)
  else if s.mayBegin hc = false then (s, St.notOwner, 0)
  else if (match s.cfgLock with | some l => l.hc != hc | none => false) then (s, St.busy, 0)
  else
    let t : State := { s with cfgLock := some { hc := hc } }
    if s.flash.cfgStage = 1 ∧ s.flash.cfgSize = size ∧ s.flash.cfgHc = hc then (t, St.ok, s.flash.cfgNext)
    else (t.modFlash (fun f => { f with cfgStaging := .bytes [], cfgStage := 1, cfgSize := size, cfgNext := 0, cfgHc := hc }), St.ok, 0)

/-- What refuses a DATA command: the lock is another's, its offset, or its length (R425). -/
def dataRefused (lock : Option StageLock) (hc offset len next size : Nat) : Option (Byte × Nat) :=
  if (match lock with | some l => l.hc != hc | none => true) then some (St.busy, 0)
  else if offset ≠ next then some (St.badParam, next)
  else if size < offset + len then some (St.badParam, 0)
  else none

/-- A DATA command's bytes and the new mark are in flash. -/
def State.dataDone (s : State) (config : Bool) (data : List Byte) : State × Nat :=
  if config then
    let n := s.flash.cfgNext + data.length
    ({ (s.eraseStaging true s.flash.cfgNext n).modFlash (fun f => { f with cfgStaging := .bytes (f.cfgStaging.image ++ data), cfgNext := n }) with
        cfgLock := s.cfgLock.map (fun l => { l with idle := 0 }) }, n)
  else
    let n := s.flash.fwNext + data.length
    ({ (s.eraseStaging false s.flash.fwNext n).modFlash (fun f => { f with staging := .bytes (f.staging.image ++ data), fwNext := n }) with
        fwLock := s.fwLock.map (fun l => { l with idle := 0 }) }, n)

/-- A context may END its download: it holds the lock and every byte has come (R426). -/
def endAllowed (lock : Option StageLock) (hc : Nat) (receiving : Bool) (next size : Nat) : Bool :=
  (match lock with | some l => l.hc == hc | none => false) && receiving && next == size

/-- UPDATE_END commits: STAGED, or in the Verone loader verified at once (R426, R439). -/
def State.updEnd (s : State) (hc : Nat) : State × Byte :=
  let t : State := { s with fwLock := none }
  let a := t.flash.staging
  let r := if t.get pwrStart_phase = 5 then t.reasonOf a else 0
  if r = 0 then ((t.modFlash (fun f => { f with fwState := 2 })).updPost 0x01 0 hc a.version.toNat [hc], St.ok)
  else (t.rejectStaging r, if r = 5 ∨ r = 6 then St.authFail else St.badParam)

/-- CONFIG_END commits: READY where the configuration is well-formed, else REJECTED (R426). -/
def State.cfgEnd (s : State) (hc : Nat) : State × Byte :=
  let t : State := { s with cfgLock := none }
  let a := t.flash.cfgStaging
  let st := if cfgWellFormed a.image = false then St.badParam else if cfgTagOk t.ownerKey a.image = false then St.authFail else St.ok
  if st = St.ok then ((t.modFlash (fun f => { f with cfgStage := 2 })).updPost 0x01 1 hc a.cfgVersion.toNat [hc], st)
  else ((t.modFlash (fun f => { f with cfgStage := 3 })).updPost 0x02 1 (if st = St.authFail then 6 else 1) a.cfgVersion.toNat [hc], st)

/-- UPDATE_CONFIRM may run: what refuses it (R435). -/
def State.confirmRefused (s : State) (hc : Nat) : Option Byte :=
  if s.owns hc 0x0A 4 = false ∧ ¬ (s.onTrial = true ∧ s.flash.trialHc = hc) then some St.notOwner
  else if s.flash.fwState ≠ 4 then some St.badState
  else none

/-- UPDATE_CONFIRM commits: the trial ends, SVNMIN and the revoked keys go into OTP, STAGING is empty, CONFIRMED is posted, and a
FALLBACK that would fail is to be repaired (R435). -/
def State.confirm (s : State) : State :=
  let a := s.flash.active
  let o := { s.otp with svnMin := max s.otp.svnMin a.svn, revoked := s.otp.revoked ||| a.revoke }
  let hc := s.flash.trialHc
  let t : State := { s.modFlash (fun f => f.unstage.trialOver) with otp := o, runTicks := 0 }
  let t := t.updPost 0x04 0 0 a.version.toNat [hc]
  if t.reasonOf t.flash.fallback ≠ 0 then t.modFlash (fun f => { f with repair := true }) else t

/-- UPDATE_CANCEL by a context (R428). -/
def State.updCancel (s : State) (hc : Nat) : State × Byte :=
  let holder : Bool := match s.fwLock with | some l => l.hc == hc | none => false
  if holder = false ∧ s.owns hc 0x0A 4 = false then (s, St.notOwner)
  else match s.flash.fwState with
    | 1 | 2 => ({ s.modFlash Flash.unstage with fwLock := none }, St.ok)
    | 4 => (s.modFlash (fun f => { f with fwState := 5, revert := 3 }), St.ok)
    | _ => (s, St.badState)

/-- Time passes for the staging locks, which counts while SYS is On, and for the trial, while PHASE is FULL (R427, R434). -/
def State.updTick (s : State) : State :=
  let on := s.domOn Dm.sys
  let up := fun (l : Option StageLock) => if on then l.map (fun x => { x with idle := x.idle + 1 }) else l
  { s with
    fwLock := up s.fwLock, cfgLock := up s.cfgLock,
    runTicks := if s.onTrial = true ∧ s.get pwrStart_phase = 3 then s.runTicks + 1 else s.runTicks }

end Sys2Proof.Machine
end

