-- ==== Sys2Proof/Machine/Update.lean ====
section
/-! DEFINITION. Meanings of the update commands, group 0x6_, of GET_INFO, and of the events of flash, JOURNAL and trial
(spec/19; spec/04, R80, R87). -/

namespace Sys2Proof.Machine

/-- GET_INFO: the configuration CRC, part code, versions and lifecycle word (spec/04, R80; spec/19, R422). -/
def execGetInfo (h : Hdr) (s : State) : Host.Outcome State Fault Refusal :=
  act (fun s => s.runI h (.getInfo h) (fun t =>
    { s := t, result := t.get updCfgcrc_value,
      cont := [Config.partCode, t.flash.active.version, word (t.get updCfgver_value), word (t.otp.lc + b2n t.dbgArr.isSome * 0x100)] })) s

/-! ### Firmware (R423 to R429, R435) -/

/-- UPDATE_BEGIN (R423, R424, R429). -/
def execUpdateBegin (h : Hdr) (size : Word) (s : State) : Host.Outcome State Fault Refusal :=
  act (fun s => s.runI h (.updateBegin h size) (fun t =>
    let (u, st, r) := t.updBegin h.hc.val size.toNat
    { s := u, status := st, result := r })) s

/-- UPDATE_DATA: checked at its dispatch, written by the flash (R425). -/
def execUpdateData (h : Hdr) (offset : Word) (data : List Byte) (s : State) : Host.Outcome State Fault Refusal :=
  act (fun s => s.runP h (.updateData h offset data) (fun t =>
    if data.length = 0 ∨ 2048 < data.length then t.no St.badParam
    else match dataRefused t.fwLock h.hc.val offset.toNat data.length t.flash.fwNext t.flash.fwSize with
      | some (st, r) => t.no st r
      | none => t.yes)) s

/-- UPDATE_END (R426). -/
def execUpdateEnd (h : Hdr) (s : State) : Host.Outcome State Fault Refusal :=
  act (fun s => s.runP h (.updateEnd h) (fun t =>
    if endAllowed t.fwLock h.hc.val (t.flash.fwState == 1) t.flash.fwNext t.flash.fwSize then t.yes else t.no St.badState)) s

/-- UPDATE_CONFIRM (R435). -/
def execUpdateConfirm (h : Hdr) (s : State) : Host.Outcome State Fault Refusal :=
  act (fun s => s.runP h (.updateConfirm h) (fun t =>
    match t.confirmRefused h.hc.val with
    | some st => t.no st
    | none => t.yes)) s

/-- UPDATE_STATUS: the firmware state; the detail in its continuation records is left open (R442; log 36). -/
def execUpdateStatus (h : Hdr) (s : State) : Host.Outcome State Fault Refusal :=
  act (fun s => s.runI h (.updateStatus h) (fun t =>
    let (b, u) := t.drawBytes 32
    { s := u, result := t.flash.fwState, cont := wordsOf b })) s

/-- UPDATE_CANCEL (R428). -/
def execUpdateCancel (h : Hdr) (s : State) : Host.Outcome State Fault Refusal :=
  act (fun s => s.runI h (.updateCancel h) (fun t =>
    let (u, st) := t.updCancel h.hc.val
    { s := u, status := st })) s

/-! ### Configuration (R423 to R426) -/

/-- CONFIG_BEGIN (R423, R424). -/
def execConfigBegin (h : Hdr) (size : Word) (s : State) : Host.Outcome State Fault Refusal :=
  act (fun s => s.runI h (.configBegin h size) (fun t =>
    let (u, st, r) := t.cfgBegin h.hc.val size.toNat
    { s := u, status := st, result := r })) s

/-- CONFIG_DATA (R425). -/
def execConfigData (h : Hdr) (offset : Word) (data : List Byte) (s : State) : Host.Outcome State Fault Refusal :=
  act (fun s => s.runP h (.configData h offset data) (fun t =>
    if data.length = 0 ∨ 2048 < data.length then t.no St.badParam
    else match dataRefused t.cfgLock h.hc.val offset.toNat data.length t.flash.cfgNext t.flash.cfgSize with
      | some (st, r) => t.no st r
      | none => t.yes)) s

/-- CONFIG_END (R426). -/
def execConfigEnd (h : Hdr) (s : State) : Host.Outcome State Fault Refusal :=
  act (fun s => s.runP h (.configEnd h) (fun t =>
    if endAllowed t.cfgLock h.hc.val (t.flash.cfgStage == 1) t.flash.cfgNext t.flash.cfgSize then t.yes else t.no St.badState)) s

/-! ### The end of a record's write (spec/04, R87, R89) -/

/-- The effect of a class P command whose record is written, with its status and RESULT. -/
def State.written (s : State) (j : Job) : State × Byte × Nat :=
  let n := j.hdr.hc.val
  match j.cmd with
  | .keyRootWrite _ root key => ((s.eraseKey (64 + b2n (root == 1))).writeRoot (root == 1) key, St.ok, 0)
  | .lifecycleSet _ state _ =>
    match s.transitionTo state with
    | some (lc, debug, _) => (s.setLifecycle lc debug, St.ok, lc + b2n debug * 0x100)
    | none => (s, St.badState, 0)
  | .immEnroll _ token record => ((s.eraseKey (66 + token.toNat)).setTok token.toNat (tokOf token.toNat (wordsOf record)), St.ok, 0)
  | .immRevoke _ token => ((s.eraseKey (66 + token.toNat)).setTok token.toNat none, St.ok, 0)
  | .limpMapProgram _ entries bases coast =>
    match s.otp.freeSlot with
    | some k =>
      ({ s with otp := { s.otp with slots := modNth s.otp.slots k (fun _ => some { entries := entries, bases := bases, coast := coast.toNat }) } }, St.ok, k)
    | none => (s, St.noResource, 0)
  | .updateData _ offset data =>
    let f := s.flash
    if f.fwState = 1 ∧ f.fwHc = n ∧ f.fwNext = offset.toNat ∧ offset.toNat + data.length ≤ f.fwSize then
      let (t, r) := s.dataDone false data
      (t, St.ok, r)
    else (s, St.badParam, f.fwNext)
  | .configData _ offset data =>
    let f := s.flash
    if f.cfgStage = 1 ∧ f.cfgHc = n ∧ f.cfgNext = offset.toNat ∧ offset.toNat + data.length ≤ f.cfgSize then
      let (t, r) := s.dataDone true data
      (t, St.ok, r)
    else (s, St.badParam, f.cfgNext)
  | .updateEnd _ =>
    if endAllowed s.fwLock n (s.flash.fwState == 1) s.flash.fwNext s.flash.fwSize then
      let (t, st) := s.updEnd n
      (t, st, 0)
    else (s, St.badState, 0)
  | .configEnd _ =>
    if endAllowed s.cfgLock n (s.flash.cfgStage == 1) s.flash.cfgNext s.flash.cfgSize then
      let (t, st) := s.cfgEnd n
      (t, st, 0)
    else (s, St.badState, 0)
  | .updateConfirm _ => if s.flash.fwState = 4 then (s.confirm, St.ok, 0) else (s, St.badState, 0)
  | _ => (s, St.ok, 0)

/-- FLASH_WRITE_COMPLETE: the write under way is complete: that of a KEY_COMMIT's step, or the record of the class P command
dispatched first, which takes effect and completes; then the next write begins (R87; spec/18, R394; spec/19, R425). -/
def execFlashWriteComplete (s : State) : Host.Outcome State Fault Refusal :=
  actOtp (fun s =>
    if s.sysUp = false ∨ s.domOn Dm.sys = false then s
    else match s.keyWrite, s.writing with
      | some w, _ => ((s.eraseKey w.key.slot).keyStep w).kickFlash
      | none, some j =>
        let (t, st, r) := s.written j
        (t.endJob j.id st r).kickFlash
      | none, none => s) s

/-! ### Locks, copies and the trial (R427, R432, R434, R435) -/

/-- LOCK_LAPSED: a staging lock has been idle for 60 s of SYS On (R427). -/
def execLockLapsed (config : Bool) (s : State) : Host.Outcome State Fault Refusal :=
  act (fun s =>
    match (if config then s.cfgLock else s.fwLock) with
    | none => s
    | some l =>
      if l.idle < sec 60 then s
      else
        let t : State := if config then { s with cfgLock := none } else { s with fwLock := none }
        t.updPost 0x06 (b2n config) l.hc (if config then s.flash.cfgNext else s.flash.fwNext) [l.hc]) s

/-- COPY_BLOCK: one block of a copy is erased, programmed and read back; `ok` says whether it compares (R432). -/
def execCopyBlock (ok : Bool) (s : State) : Host.Outcome State Fault Refusal := act (fun s => s.copyBlock ok) s

/-- TRIAL_RUNTIME_WRITE: 60 s of trial run time go into the JOURNAL (R434). -/
def execTrialRuntimeWrite (s : State) : Host.Outcome State Fault Refusal :=
  act (fun s =>
    if s.onTrial = true ∧ sec 60 ≤ s.runTicks then
      { s.modFlash (fun f => { f with runtime := f.runtime + s.runTicks / sec 1 }) with runTicks := s.runTicks % sec 1 }
    else s) s

/-- TRIAL_RUNTIME_LIMIT: at 1800 s of run time a revert is pending for the next power-up start (R434). -/
def execTrialRuntimeLimit (s : State) : Host.Outcome State Fault Refusal :=
  act (fun s =>
    let r := s.flash.runtime + s.runTicks / sec 1
    if s.flash.fwState = 4 ∧ 1800 ≤ r then
      let t := s.modFlash (fun f => { f with fwState := 5, revert := 2 })
      (t.updPost 0x07 0 0 r [t.flash.trialHc]).fault 0x86 0x33 (2 + min 255 s.flash.boots * 0x100)
    else s) s

/-- FALLBACK_REPAIR: in the background after a confirmation, FALLBACK and CONFIG_FALLBACK become copies of what runs (R435). -/
def execFallbackRepair (s : State) : Host.Outcome State Fault Refusal :=
  act (fun s => if s.get pwrStart_phase = 3 ∧ s.sysUp = true ∧ s.domOn Dm.sys = true then s.repairDone else s) s

end Sys2Proof.Machine
end

