-- ==== Sys2Proof/Machine/Uds.lean ====
section
/-! DEFINITION. Meanings of the UDS services: each row takes the bytes of a request after its SID (spec/19, R440). What the
spec leaves to ISO 14229 itself is PRESUMED (log 42). -/

namespace Sys2Proof.Machine

/-! ### The server -/

/-- The context whose identity the server has. -/
def State.udsHc (s : State) : Nat := s.get updUds_hc

/-- The server answers: it is on, and its context is bound to a CAN or Ethernet command flow and served; over UDP a request comes
from the binding's peer, so that the binding is one to Ethernet. -/
def State.udsOn (s : State) : Bool :=
  s.flag updUds_enable && (s.transport s.udsHc == 3 || (s.transport s.udsHc == 2 && !s.flag updUds_eth)) && !s.closed s.udsHc && s.serves s.udsHc

/-- A negative response sent. -/
def State.udsNo (s : State) (sid nrc : Byte) : State := s.udsSend [0x7F, sid, nrc]

/-- The server has heard a request: S3 starts again. -/
def State.udsHeard (s : State) : State := { s with uds := { s.uds with lastAt := s.now } }
/-- The server's session and SecurityAccess set. -/
def State.udsSession (s : State) (programming unlocked : Bool) : State :=
  { s with uds := { s.uds with programming := programming, unlocked := unlocked, seed := none } }

/-- A request taken in: nothing where the server does not answer; its time starts S3 again. -/
def State.udsTake (s : State) (f : State → State) : State :=
  if s.udsOn then f s.udsHeard else s

/-- The programming session and an unlocked SecurityAccess, which some services need: 0x7F or 0x33 without them. -/
def State.udsOpen (s : State) (sid : Byte) (f : State → State) : State :=
  if s.uds.programming = false then s.udsNo sid 0x7F
  else if s.uds.unlocked = false then s.udsNo sid 0x33
  else f s

/-- A request may act as a command of the context now. -/
def State.udsMayAct (s : State) : Bool :=
  !(s.refill s.udsHc).flag (hcState_overQuota s.udsHc) && (s.refill s.udsHc).hasToken s.udsHc
/-- The state with the context's token for a request taken. -/
def State.udsPaid (s : State) : State := (s.refill s.udsHc).takeToken s.udsHc

/-- A request that acts as a command of the context takes one of its tokens, and is refused while the context is over a quota
(spec/05, R110, R112). -/
def State.udsToken (s : State) (sid : Byte) (f : State → State) : State :=
  if s.udsMayAct then f s.udsPaid else (s.refill s.udsHc).udsNo sid 0x21

/-- The header under which a UDS request acts. -/
def State.udsHdr (s : State) : Hdr := { hc := ⟨s.udsHc % 8, Nat.mod_lt _ (by decide)⟩ }

/-- A class P command begun for a request; `ok` is its positive response. -/
def State.udsJob (s : State) (i : Instr) (ok : List Byte) : State :=
  let (n, t) := s.addJob s.udsHdr i
  t.modJob n (fun j => { j with uds := some (ok, s.now) })

/-- A request of the context is still being carried out. -/
def State.udsBusy (s : State) : Bool := s.jobs.any (fun j => j.uds.isSome)

/-! ### Sessions, reset, data (SIDs 0x10, 0x11, 0x22, 0x3E) -/

/-- UDS_SESSION_CONTROL: 0x01 default, 0x02 programming; a change of session locks SecurityAccess. -/
def execUdsSessionControl (data : List Byte) (s : State) : Host.Outcome State Fault Refusal :=
  act (fun s => s.udsTake (fun t =>
    match data with
    | [sub] =>
      if sub = 1 ∨ sub = 2 then
        (t.udsSession (sub == 2) false).udsSend [0x50, sub, 0x00, 0x32, 0x01, 0xF4]
      else t.udsNo 0x10 0x12
    | _ => t.udsNo 0x10 0x13)) s

/-- hardReset, answered and then as SYS_RESET of scope DEVICE. -/
def State.udsReset (s : State) : State := { (s.udsSend [0x51, 0x01]).summaryWrite with devResetAt := some (s.now + ms 1) }

/-- UDS_ECU_RESET: hardReset, which acts as SYS_RESET of scope DEVICE. -/
def execUdsEcuReset (data : List Byte) (s : State) : Host.Outcome State Fault Refusal :=
  act (fun s => s.udsTake (fun t =>
    match data with
    | [sub] =>
      if sub = 1 then t.udsToken 0x11 State.udsReset
      else t.udsNo 0x11 0x12
    | _ => t.udsNo 0x11 0x13)) s

/-- UDS_READ_DATA_BY_ID: the firmware VERSION, DEVID, and the configuration VERSION. -/
def execUdsReadDataById (data : List Byte) (s : State) : Host.Outcome State Fault Refusal :=
  act (fun s => s.udsTake (fun t =>
    match data with
    | [a, b] =>
      let did := a.toNat * 256 + b.toNat
      if did = 0xF189 then t.udsSend ([0x62, a, b] ++ beBytes 4 t.flash.active.version.toNat)
      else if did = 0xF18C then t.udsSend ([0x62, a, b] ++ devId)
      else if did = 0xF1A0 then t.udsSend ([0x62, a, b] ++ beBytes 4 (t.get updCfgver_value))
      else t.udsNo 0x22 0x31
    | _ => t.udsNo 0x22 0x13)) s

/-- UDS_TESTER_PRESENT: 0x00 is answered, 0x80 is not. -/
def execUdsTesterPresent (data : List Byte) (s : State) : Host.Outcome State Fault Refusal :=
  act (fun s => s.udsTake (fun t =>
    match data with
    | [sub] => if sub = 0 then t.udsSend [0x7E, 0x00] else if sub = 0x80 then t else t.udsNo 0x3E 0x12
    | _ => t.udsNo 0x3E 0x13)) s

/-- UDS_SESSION_TIMEOUT: 5 s without a request end the programming session. -/
def execUdsSessionTimeout (s : State) : Host.Outcome State Fault Refusal :=
  act (fun s =>
    if s.uds.programming = true ∧ s.uds.lastAt + sec 5 ≤ s.now then
      s.udsSession false false
    else s) s

/-! ### SecurityAccess (SID 0x27) -/

/-- SecurityAccess is locked after three failed keys. -/
def State.udsLocked (s : State) : Bool := match s.uds.lockEnd with | some e => decide (s.now < e) | none => false

/-- A seed of sixteen random bytes is sent. -/
def State.udsSeed (s : State) : State :=
  let (b, u) := s.drawBytes 16
  ({ u with uds := { u.uds with seed := some b } } : State).udsSend ([0x67, 0x11] ++ b)

/-- UDS_REQUEST_SEED: sixteen random bytes. -/
def execUdsRequestSeed (data : List Byte) (s : State) : Host.Outcome State Fault Refusal :=
  act (fun s => s.udsTake (fun t =>
    match data with
    | sub :: rest =>
      if sub ≠ 0x11 then t.udsNo 0x27 0x12
      else if rest ≠ [] then t.udsNo 0x27 0x13
      else if t.udsLocked then t.udsNo 0x27 0x37
      else
        t.udsSeed
    | [] => t.udsNo 0x27 0x13)) s

/-- A right key unlocks SecurityAccess. -/
def State.udsGoodKey (s : State) : State :=
  ({ s with uds := { s.uds with unlocked := true, seed := none, fails := 0 } } : State).udsSend [0x67, 0x12]
/-- A wrong key: the third in a row locks SecurityAccess for 10 s. -/
def State.udsBadKey (s : State) : State :=
  if 2 ≤ s.uds.fails then
    ({ s with uds := { s.uds with seed := none, fails := 0, lockEnd := some (s.now + sec 10) } } : State).udsNo 0x27 0x36
  else ({ s with uds := { s.uds with seed := none, fails := s.uds.fails + 1 } } : State).udsNo 0x27 0x35

/-- UDS_SEND_KEY: the response of R398 to the seed unlocks; the third failure in a row locks SecurityAccess for 10 s. -/
def execUdsSendKey (data : List Byte) (s : State) : Host.Outcome State Fault Refusal :=
  act (fun s => s.udsTake (fun t =>
    match data with
    | sub :: key =>
      if sub ≠ 0x12 then t.udsNo 0x27 0x12
      else if key.length ≠ 16 then t.udsNo 0x27 0x13
      else if t.udsLocked then t.udsNo 0x27 0x37
      else match t.uds.seed, t.useKey (t.get updUds_slot) 1 with
        | none, _ => t.udsNo 0x27 0x24
        | _, none => t.udsNo 0x27 0x22
        | some seed, some k =>
          if key = Config.aesCmac k (ascii "GZCH" ++ seed ++ devId) then
            t.udsGoodKey
          else t.udsBadKey
    | [] => t.udsNo 0x27 0x13)) s

/-- UDS_SECURITY_LOCK_END: the 10 s are over. -/
def execUdsSecurityLockEnd (s : State) : Host.Outcome State Fault Refusal :=
  act (fun s => match s.uds.lockEnd with
    | some e => if e ≤ s.now then { s with uds := { s.uds with lockEnd := none } } else s
    | none => s) s

/-! ### Routines and transfer (SIDs 0x31, 0x34, 0x36, 0x37) -/

/-- A service's immediate outcome answered: the positive response, or the negative one of its status. -/
def State.udsDone (s : State) (ok : List Byte) (st : Byte) : State := s.udsAnswer ok s.now st

/-- UDS_ROUTINE_CONTROL: confirm, cancel and status. -/
def execUdsRoutineControl (data : List Byte) (s : State) : Host.Outcome State Fault Refusal :=
  act (fun s => s.udsTake (fun t => t.udsOpen 0x31 (fun t =>
    match data with
    | [sub, a, b] =>
      let rid := a.toNat * 256 + b.toNat
      let ok := [0x71, sub, a, b]
      if sub = 1 ∧ rid = 0x0201 then
        t.udsToken 0x31 (fun u =>
          if u.udsBusy then u.udsNo 0x31 0x21
          else match u.confirmRefused u.udsHc with
            | some st => u.udsDone ok st
            | none => u.udsJob (.updateConfirm u.udsHdr) ok)
      else if sub = 1 ∧ rid = 0x0202 then
        t.udsToken 0x31 (fun u =>
          let (v, st) := u.updCancel u.udsHc
          v.udsDone ok st)
      else if sub = 3 ∧ rid = 0x0200 then t.udsToken 0x31 (fun u => u.udsDone (ok ++ beBytes 4 u.flash.fwState) St.ok)
      else if sub ≠ 1 ∧ sub ≠ 3 then t.udsNo 0x31 0x12
      else t.udsNo 0x31 0x31
    | _ => t.udsNo 0x31 0x13))) s

/-- The data bytes that one TransferData may bring: maxNumberOfBlockLength less the SID and the counter. -/
def State.udsLen (s : State) : Nat := if s.flag updUds_eth then 1456 else 2048

/-- A download is begun as UPDATE_BEGIN or CONFIG_BEGIN does. -/
def State.udsDownload (s : State) (config : Bool) (size : Nat) : State :=
  let (v, st, _) := if config then s.cfgBegin s.udsHc size else s.updBegin s.udsHc size
  let block := s.udsLen + 2
  let v := v.udsDone ([0x74, 0x20] ++ beBytes 2 block) st
  if st = St.ok then { v with uds := { v.uds with active := true, config := config, seq := 0, answer := [] } } else v

/-- UDS_REQUEST_DOWNLOAD: UPDATE_BEGIN or CONFIG_BEGIN. -/
def execUdsRequestDownload (data : List Byte) (s : State) : Host.Outcome State Fault Refusal :=
  act (fun s => s.udsTake (fun t => t.udsOpen 0x34 (fun t =>
    if data.length ≠ 10 then t.udsNo 0x34 0x13
    else
      let addr := beNat ((data.drop 2).take 4)
      let size := beNat (data.drop 6)
      if nth 0 data 0 ≠ 0 ∨ nth 0 data 1 ≠ 0x44 ∨ 1 < addr then t.udsNo 0x34 0x31
      else t.udsToken 0x34 (fun u => u.udsDownload (addr == 1) size)))) s

/-- The offset of the next byte of the running download. -/
def State.udsNext (s : State) : Nat := if s.uds.config then s.flash.cfgNext else s.flash.fwNext
/-- The status that UPDATE_DATA or CONFIG_DATA would answer to the next bytes of the running download. -/
def State.udsDataSt (s : State) (len : Nat) : Byte :=
  if len = 0 ∨ s.udsLen < len then St.badParam
  else match dataRefused (if s.uds.config then s.cfgLock else s.fwLock) s.udsHc s.udsNext len s.udsNext
      (if s.uds.config then s.flash.cfgSize else s.flash.fwSize) with
    | some (st, _) => st
    | none => St.ok
/-- The next bytes of the running download go to the flash. -/
def State.udsData (s : State) (c : Byte) (rest : List Byte) : State :=
  ({ s with uds := { s.uds with seq := c.toNat } } : State).udsJob
    (if s.uds.config then .configData s.udsHdr (word s.udsNext) rest else .updateData s.udsHdr (word s.udsNext) rest) [0x76, c]

/-- UDS_TRANSFER_DATA: UPDATE_DATA or CONFIG_DATA at the next offset. -/
def execUdsTransferData (data : List Byte) (s : State) : Host.Outcome State Fault Refusal :=
  act (fun s => s.udsTake (fun t => t.udsOpen 0x36 (fun t =>
    match data with
    | [] => t.udsNo 0x36 0x13
    | c :: rest =>
      let u := t.uds
      if u.active = false then t.udsNo 0x36 0x24
      else if t.udsBusy then t.udsNo 0x36 0x21
      else if c.toNat = u.seq ∧ u.answer ≠ [] then t.udsSend u.answer
      else if c.toNat ≠ (u.seq + 1) % 256 then t.udsNo 0x36 0x73
      else t.udsToken 0x36 (fun t =>
        let st := t.udsDataSt rest.length
        if st ≠ St.ok then t.udsNo 0x36 (udsNrc 0x36 st) else t.udsData c rest)))) s

/-- UPDATE_END or CONFIG_END may end the running download. -/
def State.udsMayEnd (s : State) : Bool :=
  if s.uds.config then endAllowed s.cfgLock s.udsHc (s.flash.cfgStage == 1) s.flash.cfgNext s.flash.cfgSize
  else endAllowed s.fwLock s.udsHc (s.flash.fwState == 1) s.flash.fwNext s.flash.fwSize
/-- The running download ends. -/
def State.udsExit (s : State) : State :=
  ({ s with uds := { s.uds with active := false } } : State).udsJob (if s.uds.config then .configEnd s.udsHdr else .updateEnd s.udsHdr) [0x77]

/-- UDS_TRANSFER_EXIT: UPDATE_END or CONFIG_END. -/
def execUdsTransferExit (data : List Byte) (s : State) : Host.Outcome State Fault Refusal :=
  act (fun s => s.udsTake (fun t => t.udsOpen 0x37 (fun t =>
    if data ≠ [] then t.udsNo 0x37 0x13
    else if t.uds.active = false then t.udsNo 0x37 0x24
    else if t.udsBusy then t.udsNo 0x37 0x21
    else t.udsToken 0x37 (fun t => if t.udsMayEnd = false then t.udsNo 0x37 0x22 else t.udsExit)))) s

end Sys2Proof.Machine
end

