-- ==== Sys2Proof/Machine/BootOps.lean ====
section
/-! DEFINITION. Power-up starts, the supplies, resynchronisation after a SYS reset, and the returns of domains: the
operations of the start and supply rows (spec/03, R44 to R65; spec/15, R322, R325; spec/19, R437, R438). -/

namespace Sys2Proof.Machine

/-! ### Without VSUP, and the beginning of a power-up start (R44, R47, R57) -/

/-- What remains when VSUP is not valid: flash, one-time memory, retention memory and AON with the immobiliser's release state,
the levels of the wires, and the wire states; every other domain is unpowered, FQ0 to FQ15 are off, and DEBUG has ended (R32, R44;
spec/15, R326; spec/18, R385, R407). -/
def State.powerDown (s : State) : State :=
  let s := if s.dbgArr.isSome then s.endRelease 0x13 else s
  let s := if (s.dom Dm.uwb).st = .off then s else s.uwbGone s.immWords
  let t : State := { ({} : State) with
    pending := s.pending, now := s.now, otp := s.otp, freeCount := s.freeCount, nextId := s.nextId, sent := s.sent
    devTime := s.devTime, regs := s.regs, uvMask := s.uvMask, degMask := s.degMask, olFrom := s.olFrom, vioOk := s.vioOk
    lhLevel := s.lhLevel, keyArr := s.keyArr, imm := s.imm, summaryFlash := s.summaryFlash, flash := s.flash, erases := s.erases
    wkLevel := s.wkLevel, wakeTimer := s.wakeTimer, aonIrq := s.aonIrq, rstLow := s.rstLow, t0 := s.t0
    vsup := s.vsup, powerLost := s.powerLost, testPins := s.testPins }
  let t := forEach (List.range 64) (fun n u => u.modCh n (fun c => { c with theta := (s.ch n).theta })) t
  let t := forEach (List.range 8) (fun b u => u.modBank b (fun x => { x with limpDue := none })) t
  let t := forEach ((List.range 24).filter (fun d => d != 0)) (fun d u => u.modDom d (fun _ =>
    { st := .off, since := if (s.dom d).st = .on then s.now else (s.dom d).since })) t
  ((((t.put pwrStart_phase 0).put pwrStart_limp 0).put pwrCoast_active 0).put pwrCoast_bankCoast 0).fqClear

/-- The registers that AON holds through a start that is not POWER_ON: PWR, SAVE and COMPAT (R44; spec/15, R326). -/
def aonKeeps (a : Nat) : Bool := (decide (0xC0000 ≤ a) && decide (a < 0xD0000)) || (decide (0xF0000 ≤ a) && decide (a < 0x100000))

/-- A bank's wire states at a start: 0 after POWER_ON, else decayed by AON's time since the bank was On (spec/07, R156). -/
def State.startTheta (s : State) (cause b : Nat) : State :=
  let (m, t) := s.aonMs ((s.now - (s.dom (Dm.bank b)).since) / 100000)
  let m := if (s.dom (Dm.bank b)).st = .on then 0 else m
  forEach (List.range 8) (fun k u => u.modCh (8 * b + k) (fun c => { c with
    theta := if cause = 0 then 0 else decayTheta (bits (s.cfgw (8 * b + k) 5) 31 16) m c.theta })) t

/-- A domain comes On in a power-up start: no image of it is held any more. -/
def State.comesOn (s : State) (d : Nat) : State := (s.modDom d (fun _ => { st := .on, since := s.now })).put (saveDom_valid d) 0

/-- The first instant of a power-up start, t0: `cause` 0 POWER_ON, 1 VSUP_DIP, 2 DEVICE_CMD. CRK and the banks come On, and the
banks are to apply their limp entries each at its stagger step. AON carries device time, the wire states and the immobiliser's
release state, but not after POWER_ON (R44, R47, R48, R57; spec/09, R212; spec/17, R376; spec/18, R409). -/
def State.startT0 (s : State) (cause : Nat) : State :=
  let gone := s.now - (s.dom Dm.crk).since
  let coarse := cause != 0 && (cause == 1 || s.flag crankTsync_coarse || gone != 0)
  let (away, s) := s.aonMs (gone / 100000)
  let s := forEach (List.range 8) (fun b u => u.startTheta cause b) s
  let t : State := { s with
    regs := if cause = 0 then [] else s.regs.filter (fun p => aonKeeps p.1)
    devTime := if cause = 0 then 0 else (s.devTime + ms away) % 2 ^ 64
    aonIrq := s.aonIrq && cause != 0, wakeTimer := if cause = 0 then none else s.wakeTimer
    imm := if cause = 0 then { fresh := s.keyArr.mark, parkAt := s.now, parkPoll := s.now } else { s.imm with fresh := s.keyArr.mark }
    vsup := .valid, powerLost := false, t0 := s.now, tickAt := s.now, sysAgain := false, sbHold := false }
  let t := (forEach [Dm.crk, 14, 15, 16, 17, 18, 19, 20, 21] (fun d u => u.comesOn d) t).screeOtp
  let t := forEach (List.range 8) (fun b u => u.modBank b (fun x => { x with limpDue := some (s.now + 30000 + 20000 * b) })) t
  let t := ((t.put pwrStart_phase 0).put pwrStart_limp 0).put pwrRstcause_sysStarts 0
  let t := (t.put ⟨pwrRstcause_powerOn.addr, cause, cause⟩ 1).put crankTsync_coarse (b2n coarse)
  if cause = 2 then t else t.put compatWakesrc_pwrup 1

/-- A power-up start begins: its first instant, then the ROM's decision about ACTIVE and an update, and the key store's
reading of its slots (spec/18, R384, R395; spec/19, R430). -/
def State.powerUp (s : State) (cause : Nat) : State := ((s.powerDown.startT0 cause).romStart).keyStart

/-! ### VBAT of a feed group (R44, R46, R48) -/

/-- The four banks of a feed group. -/
def banksOf (g : Nat) : List Nat := [4 * g, 4 * g + 1, 4 * g + 2, 4 * g + 3]

/-- A fault of a kind for each bank of a feed group that is On. -/
def State.groupFault (s : State) (g kind : Nat) : State :=
  forEach ((banksOf g).filter (fun b => s.domOn (Dm.bank b))) (fun b t => t.fault (0x40 + b) kind b) s

/-- A channel in VBAT undervoltage: its switches go off, a turn-on that was to come back by budget is withdrawn, and what it was
commanded to waits. -/
def State.uvOff (s : State) (n : Nat) : State :=
  let t := (((s.loseEdge n none).unask n).driveTo n .off).modCh n (fun c => { c with pulse := c.pulse.map (fun p => { p with startAt := none }) })
  if s.bridged n then t.modBr (bridgeOf n) (fun b => { b with
    st := .coast, brakeEnd := none, reverseLeft := none, mstate := .idle, pass := none, leftAt := b.leaves .coast s.now }) else t

/-- The channels of a bank that are commanded on, off and free to run ask for budget, each at its own class, with no limit; a half-bridge
whose low side was commanded takes it back (R44, R455; spec/11, R240); one that is still too hot waits in COOLING (spec/07, R154). A bank
whose link is lost cannot ask. -/
def State.uvResume (s : State) (b : Nat) : State :=
  if s.domOn (Dm.bank b) = false ∨ (s.bank b).linkUp = false then s
  else
    forEach ((List.range 8).map (fun k => 8 * b + k)) (fun n t =>
      let c := t.ch n
      let asked := t.line.any (fun r => r.src == ReqSrc.uv n)
      let want := (t.pairOf n).any (fun k => (t.ch k).cmdOn)
      if t.head n ≠ n ∨ t.uvCh n = true ∨ c.drive ≠ .off ∨ c.latched ∨ c.cooling ∨ c.disabled ∨ asked = true then t
      else if want = true ∧ t.tooHot n = true then t.modCh n (fun x => { x with cooling := true })
      else if want = true then t.request (.uv n) [(n, t.budgetI n)] (t.chPrio n) (t.owner 0 n) none
      else if c.lowSide = true ∧ t.bridged n = false then t.driveTo n .low
      else t) s

/-- The banks of a group that are to drive limp entries do so one after another, the first at once, whatever stagger was under way;
before the limp map is in force a bank waits for its step of the power-up start, and the others' channels come back by budget
(R46, R48). DESIGN CHOICE: the stagger of each feed group runs on its own, so that banks of two groups may start in one 0.2 ms step (log 110). -/
def State.uvBack (s : State) (g : Nat) : State :=
  forEach (banksOf g) (fun b t =>
    if t.flag pwrStart_limp = true ∨ (t.bank b).ownLimp = true then t.modBank b (fun x => { x with limpDue := some (t.now + 20000 * (b % 4)) })
    else if (t.bank b).limpDue.isSome then t
    else t.uvResume b) s

/-- The channels of a bank that the limp map holds in their last state, commanded on and off, ask for their turn-on again. -/
def State.limpHold (s : State) (b : Nat) : State :=
  forEach ((List.range 8).map (fun k => 8 * b + k)) (fun n t =>
    let c := t.ch n
    if t.limpMode n = 5 ∧ c.cmdOn = true ∧ c.drive = .off ∧ t.uvCh n = false ∧ c.latched = false ∧ c.cooling = false ∧ c.disabled = false then
      t.request (.uv n) [(n, t.budgetI n)] (t.chPrio n) (t.owner 0 n) none
    else t) s

/-- A bank's own limp entries end where the device's are not in force: its outputs stay, and what they are becomes commanded
state (R63). -/
def State.bankAdopt (s : State) (b : Nat) : State :=
  let u := forEach (List.range 8) (fun k u => u.adoptOut (8 * b + k)) s
  ((if u.limpPwm b then u.put (bankPwmbase_period b) (limpPeriod (bits (u.get sysLimpbase_base) (2 * b + 1) (2 * b))) else u).modBank b
    (fun x => { x with ownLimp := false, limpDue := none })).olAfresh [b]

/-! ### Resynchronisation (R64, R65) -/

/-- SYS claims the hold: every bank's outputs stay as they are (R61, R64). -/
def State.claimCoast (s : State) : State :=
  match s.coastAt with
  | some a =>
    if s.now < a + ms s.coastTime then
      (({ s with coastAt := none } : State).put pwrCoast_elapsed (satTo 16383 ((s.now - a) / 100000))).put pwrCoast_active 0
    else s.coastExpire
  | none => s

/-- The commands whose work SYS itself carried: those of class P and the UDS requests; all others that have not completed
run on in CRK, a bank or a port. -/
def State.carried (s : State) : List Job := s.jobs.filter (fun j => j.uds.isSome || classP (opcOf j.cmd))

/-- Their completions: FLUSHED with RESYNC, since a command of class P that had committed has completed; a UDS request gets
no response. -/
def State.flushCarried (s : State) : State :=
  s.carried.foldl (fun (t : State) j =>
    let t : State := { t with jobs := t.jobs.filter (fun x => x.id != j.id) }
    let t := if j.uds.isSome then t else t.complete j.hdr (opcOf j.cmd) St.flushed 0 [] true
    j.aborts.foldl (fun (u : State) h => u.complete h 0x02 St.tooLate 0) t) s

/-- The event HOST_STATE_LOST, to every host context. -/
def State.stateLost (s : State) : State := s.post (List.range 8) 1 0x03 0 0 0

/-- The ownership of everything but what is claimed on use, back as the configuration gives it (R65; log 43); answers whether
the configuration's ownership is in conflict. -/
def State.ownersAfresh (s : State) : State × Bool :=
  ({ s with owners := s.owners.filter (fun p => p.1 / 0x10000 == 2 || p.1 / 0x10000 == 4 || p.1 / 0x10000 == 5) } : State).settleOwners

/-- The pool's records failed their check: every queue is flushed, and ownership is rebuilt (R65). -/
def State.poolLost (s : State) : State :=
  let t := forEach (List.range 8) (fun n u => u.endBad n (fun _ => true) (some St.flushed)) s
  ((t.flushQueued (fun _ _ => true) St.flushed).ownersAfresh).1.stateLost

/-- The contexts that own a channel. -/
def State.channelOwners (s : State) : List Nat := (List.range 8).filter (fun n => (List.range 64).any (fun c => s.owns n 0 c))

/-- A domain goes Off at once, to be brought On again; a sleep that waited for its turn follows. -/
def State.bounce (s : State) (e : Nat) : State :=
  let g := (s.dom e).going
  (((s.modDom e (fun x => { x with going := some .off, begun := false, next := none })).beginEntry e).endEntry e).modDom e (fun x => { x with next := g })

/-- A running code differs from ACTIVE: reported with its section; a bank's store counts as failed and is reloaded, another
processor's domain is taken Off and On (spec/19, R438). -/
def State.codeBad (s : State) (k : Nat) : State :=
  let t := s.fault 0x86 0x32 (9 + 0x20 + (if k < 8 then 1 else k - 6) * 0x100)
  if k < 8 then ((t.fault (0x40 + k) 0x12 k).ucodeFail k).modBank k (fun x => { x with pendingStore := true })
  else
    let ds := (if k = 8 then [Dm.eth, Dm.t1s, Dm.net] else if k = 9 then [Dm.field] else [Dm.uwb]).filter t.domOn
    forEach ds (fun d u => u.askOn d) (forEach ds (fun d u => u.bounce d) t)

/-- The processors that run loaded code: eight banks, the switch, the field die and the UWB baseband. -/
def State.codeRuns (s : State) (k : Nat) : Bool :=
  if k < 8 then s.domOn (Dm.bank k) && (s.bank k).loaded
  else s.domOn (if k = 8 then Dm.net else if k = 9 then Dm.field else Dm.uwb)

/-- The five steps of resynchronisation. `eccOk`: the pool's records pass their check; `codeOk`: the running codes agree
with ACTIVE, banks first (R64, R65). -/
def State.resync (s : State) (eccOk : Bool) (codeOk : List Bool) : State :=
  let t := s.claimCoast
  let t : State := { t with sysUp := true, serving := true, uds := {} }
  let t := if eccOk then t else t.poolLost
  let t := t.flushCarried
  let t := t.sysBack
  let t := if t.get pwrStart_phase = 3 then { t with rdy := true } else t
  let t := t.post t.channelOwners 1 0x02 0 (t.get ⟨pwrRstcause_powerOn.addr, 9, 0⟩) (t.get pwrCoast_elapsed)
  forEach ((List.range 11).filter (fun k => t.codeRuns k && !codeOk.getD k true)) (fun k u => u.codeBad k) t

/-! ### Full service (R47) -/

/-- The domains that full service brings On (R47; spec/15, R327). -/
def serviceDoms : List Nat := [Dm.sbi, Dm.net, Dm.eth, Dm.t1s, 8, 9, 10, 11, 12, 13, Dm.field, Dm.uwb]

/-- The section of the image that holds the code of domain `d`'s processor; 0 where it has none (spec/19, R437). -/
def codeSection (d : Nat) : Nat :=
  if 14 ≤ d ∧ d < 22 then 1 else if d = Dm.net then 2 else if d = Dm.field then 3 else if d = Dm.uwb then 4 else 0

/-- A load that has failed twice is reported with its section (spec/19, R437). -/
def State.loadBad (s : State) (d : Nat) : State := s.fault 0x86 0x32 (7 + 0x20 + codeSection d * 0x100)

/-- The domains whose processors load their code at full service, in the order of `loadOk`. -/
def loadDoms : List Nat := (List.range 8).map Dm.bank ++ [Dm.net, Dm.field, Dm.uwb]

/-- The domains that a failed load keeps Off: the processor's own, unless it is a bank, and what needs it (spec/19, R437;
spec/15, R320). -/
def heldOff (bad : List Nat) : List Nat :=
  serviceDoms.filter (fun d => decide (d ∈ bad) || (domChain d).any (fun k => decide (k ∈ bad)))

/-- The initial state of a domain: On under a blank configuration, and where a domain that is to be On needs it (R327; log 6). -/
def State.initialState (s : State) (d : Nat) : DomState :=
  let given (k : Nat) : DomState := match s.cfgNow with
    | .bytes _ => if Config.domainInit k = 0 then .on else if Config.domainInit k = 1 then .ret else .off
    | _ => .on
  if (List.range 24).any (fun k => decide (d ∈ domChain k) && given k == .on) then .on else given d

/-- SYS moves each domain to its initial state, as a DOMAIN_SET would, but without sleep agreement; a bank stays On while the limp map is in force
(R323, R327; log 6). -/
def State.startDoms (s : State) : State :=
  let ds := (List.range 24).filter (fun d => d != 0 && s.domOn d && s.initialState d != .on && !(s.flag pwrStart_limp && decide (14 ≤ d) && decide (d < 22)))
  if ds = [] then s
  else
    let t := forEach ds (fun d u => u.askSleep d (s.initialState d)) s
    (forEach (ds.filter (fun d => decide (8 ≤ d) && decide (d < 14))) (fun d u => u.beginEntry d) t).kickEntries.levelWakes

/-- SYS has loaded the configuration and the other processors, and bound the contexts: PHASE FULL (R47; spec/11, R248;
spec/17, R380; spec/19, R437, R441). -/
def State.fullService (s : State) (loadOk : List Bool) : State :=
  let bad := (loadDoms.zip loadOk).filterMap (fun p => if p.2 ∨ (14 ≤ p.1 ∧ p.1 < 22 ∧ s.domOn p.1 = false) then none else some p.1)
  let t := forEach (serviceDoms.filter (fun d => !decide (d ∈ heldOff bad))) (fun d u => u.comesOn d) s
  let t := if t.domOn Dm.uwb then t.modImm (fun i => { i with absentAt := none }) else t
  let t := if t.domOn Dm.field then (t.put fieldStat_linkOk 1).put fieldStat_powerOk 1 else t
  let t := t.applyConfig.immCheck
  let t := ((if t.domOn Dm.net then (t.retrain 4).retrain 5 else t).elect).summaryLoad
  let t := forEach (List.range 8) (fun b u =>
    if u.domOn (Dm.bank b) ∧ Dm.bank b ∉ bad then u.modBank b (fun x => { x with pendingStore := true }) else u) t
  let t := forEach bad (fun d u => u.loadBad d) t
  let tFull := satTo 4095 ((t.now - t.t0) / 100000)
  let t := (t.put pwrStart_phase 3).put pwrStart_tFull tFull
  let t := ({ t with fullAt := t.now, rdy := true } : State).govFullService
  let t := ((t.olAfresh (List.range 8)).fqSync).startDoms
  let t := t.post [0] 1 0x01 0 0 tFull
  t.updPost 0x08 1 (t.get updCfgstat_apply) (t.get updCfgcrc_value)

/-! ### Returns of domains (spec/15, R322, R325, R326) -/

/-- COAST_TIME of the map slot in use. -/
def State.otpCoast (s : State) : Nat :=
  if s.flag pwrStart_mapblank then 500
  else match nth none s.otp.slots (s.get pwrStart_mapslot) with
    | some x => x.coast
    | none => 500

/-- SYS is back from Off at PHASE BASIC: it claims a hold that still runs, and serves HC0 (spec/15, R324). -/
def State.sysBasic (s : State) : State :=
  ({ s.claimCoast with sysUp := true, serving := true, sysReturn := false, sysAgain := true } : State).put pwrStart_phase 2

/-- SYS back from Off reaches full service: its contexts and their ownership come from the configuration in force (spec/15, R322, R324). -/
def State.sysReborn (s : State) : State :=
  let (t, b) := ((s.put sysCoastcfg_coastTime s.otpCoast).cfgTake (some Dm.sys)).settleBinds
  let (t, o) := t.ownersAfresh
  let area := t.cfgNow
  let t := match area with
    | .bytes _ => (t.put updCfgver_value area.cfgVersion.toNat).put updCfgcrc_value area.cfgCrc.toNat
    | _ => t
  let code := if b || o then 1 else if area = .empty then 3 else if area = t.flash.cfgActive then 0 else 2
  let t := (t.put updCfgstat_apply code).put pwrStart_phase 3
  (({ t with rdy := true, sysAgain := false } : State).drainBacklog.recheckAll).stateLost

/-- A domain whose code could not be loaded is held Off, and with it those that wait for it; the commands that asked for them
fail (spec/19, R437; log 50). -/
def State.holdOff (s : State) (d : Nat) : State :=
  let ds := d :: (List.range 24).filter (fun e => decide (d ∈ domChain e) && (s.dom e).going == some .on)
  let t := forEach ds (fun e u =>
    (u.modDom e (fun x => { x with going := none, begun := false, next := none, st := if e = d then .off else x.st })).domOut e
      (fun j => !isSleep j.cmd) false) (s.loadBad d)
  let t := forEach ds (fun e u => u.domOut e (fun j => isSleep j.cmd) ((t.dom e).st == .off)) t
  (t.put (saveDom_valid d) 0).kickExits.kickEntries

/-- The image of a domain fails its ECC check: its state is lost and reported, and it returns as from Off, SYS first where that needs
it; that exit ends by a row of its own (R322, R326; log 129). -/
def State.eccBad (s : State) (d : Nat) : State :=
  let t := (((s.loseDom d).fault 0x83 0x1D d).inc saveStat_eccerr).put (saveDom_valid d) 0
  let t := t.modDom d (fun x => { x with st := .off, from_ := .off, begun := false })
  (forEach ((t.bringSet d).filter (fun k => k != d)) (fun k u => u.askDom k) t).kickExits

/-- The values of the configuration in force in a domain that is back from Off, written by SYS; CRK waits for them until SYS is On (R322). -/
def State.cfgBack (s : State) (d : Nat) : State :=
  if d = Dm.crk ∧ s.domOn Dm.sys = false then s.modDom d (fun x => { x with cfgDue := true })
  else (if d = Dm.net then s.wr rdgCluster_number.addr 0 else s).cfgTake (some d)

/-- SYS is On: the domains that came back before it take their CFG values (R322). -/
def State.cfgLate (s : State) : State :=
  forEach ((List.range 24).filter (fun d => (s.dom d).cfgDue)) (fun d t => (t.modDom d (fun x => { x with cfgDue := false })).cfgTake (some d)) s

/-- An exit ends: from its image where one is held and passes its check, which else begins the return from Off; from Off with the
configuration's values and its code loaded; a bank whose load fails runs ROM microcode only, any other domain is held Off (R322, R325,
R326; spec/19, R437). -/
def State.finishExit (s : State) (d : Nat) (eccOk loadOk : Bool) : State :=
  let held := (s.dom d).from_ == .ret && s.flag (saveDom_valid d)
  if held = true ∧ eccOk = false then s.eccBad d
  else
    let fails := !held && !loadOk && codeSection d != 0
    if fails = true ∧ codeSection d ≠ 1 then s.holdOff d
    else
      let t := if held = true ∨ d = Dm.sys then s
        else
          let u := s.cfgBack d
          if fails then u.loadBad d
          else if 14 ≤ d ∧ d < 22 then u.modBank (d - 14) (fun x => { x with pendingStore := true })
          else u
      let t := t.endExit d held
      let t := if d = Dm.crk then t.elect else t
      let t := if 14 ≤ d ∧ d < 22 then t.olAfresh [d - 14] else t
      if d = Dm.sys then (if held then t.cfgLate else t.sysBasic.cfgLate) else t

end Sys2Proof.Machine
end

