-- ==== Sys2Proof/Machine/Boot.lean ====
section
/-! DEFINITION. Meanings of the supply, start, reset and Coast rows (spec/03, R44 to R65) and of the end of a domain's
exit (spec/15, R322 to R326). -/

namespace Sys2Proof.Machine

/-! ### VSUP and VIO (R31, R32, R44, R46) -/

/-- VSUP_VALID: VSUP has been above its valid threshold for 100 µs: a power-up start begins, POWER_ON where AON's power was
lost, else VSUP_DIP (R44, R47, R57). -/
def execVsupValid (s : State) : Host.Outcome State Fault Refusal :=
  act (fun s => if s.vsup = .valid then s else s.powerUp (if s.powerLost then 0 else 1)) s

/-- VSUP_BELOW_AON_HOLD: AON and retention memory are lost (R44). -/
def execVsupBelowAonHold (s : State) : Host.Outcome State Fault Refusal :=
  act (fun s =>
    let t := if s.vsup = .valid then s.powerDown else s
    { t with vsup := .belowAon, powerLost := true, regs := [] }) s

/-- VSUP_DIP: VSUP has fallen below its valid threshold: every output is off (R32, R44). -/
def execVsupDip (s : State) : Host.Outcome State Fault Refusal :=
  act (fun s => if s.vsup = .valid then { s.powerDown with vsup := .notValid } else s) s

/-- VSUP_OVERVOLTAGE: posts VSUP_OV (R44). -/
def execVsupOvervoltage (s : State) : Host.Outcome State Fault Refusal :=
  act (fun s => if s.vsup = .valid then s.fault 0x87 0x18 0 else s) s

/-- VIO_LOW: the HIF terminals are as in Off, and a frame in progress is discarded (R31). -/
def execVioLow (s : State) : Host.Outcome State Fault Refusal :=
  act (fun s => { s with vioOk := false, sdo := [] }) s

/-- VIO_RISE: HC0 is available again (R46). -/
def execVioRise (s : State) : Host.Outcome State Fault Refusal :=
  act (fun s => { s with vioOk := true }) s

/-! ### VBAT (R44, R46, R48) -/

/-- VBAT_UNDERVOLTAGE: the group's banks switch their channels off and keep their commanded state; VBAT_UV for each (R44). -/
def execVbatUndervoltage (group : Fin 2) (s : State) : Host.Outcome State Fault Refusal :=
  act (fun s =>
    let g := group.val
    if bitOf s.uvMask g then s
    else
      let t := ({ s with uvMask := s.uvMask ||| 2 ^ g, degMask := s.degMask ||| 2 ^ g } : State).groupFault g 0x14
      let t := forEach ((List.range 32).map (fun k => 32 * g + k)) (fun n u => u.uvOff n) t
      t.release (fun x => feedOf x.ch == g)) s

/-- VBAT_UV_RECOVERY: channels commanded on come back by budget; under the limp map the banks drive their entries, one in
each 0.2 ms (R44, R46, R48). -/
def execVbatUvRecovery (group : Fin 2) (s : State) : Host.Outcome State Fault Refusal :=
  act (fun s =>
    let g := group.val
    if bitOf s.uvMask g then ({ s with uvMask := setBits s.uvMask g g 0 } : State).uvBack g else s) s

/-- VBAT_DEGRADED: open-load detection is suspended (R44; spec/06, R137). -/
def execVbatDegraded (group : Fin 2) (s : State) : Host.Outcome State Fault Refusal :=
  act (fun s => { s with degMask := s.degMask ||| 2 ^ group.val }) s

/-- VBAT_DEGRADED_END: open-load detection and normal sense accuracy are back (R44; spec/06, R137). -/
def execVbatDegradedEnd (group : Fin 2) (s : State) : Host.Outcome State Fault Refusal :=
  act (fun s =>
    let g := group.val
    if bitOf s.degMask g = true ∧ bitOf s.uvMask g = false then ({ s with degMask := setBits s.degMask g g 0 } : State).olAfresh (banksOf g) else s) s

/-- VBAT_OVERVOLTAGE: outputs hold; VBAT_OV for each bank of the group (R44). -/
def execVbatOvervoltage (group : Fin 2) (s : State) : Host.Outcome State Fault Refusal :=
  act (fun s => s.groupFault group.val 0x15) s

/-! ### The power-up start (R47 to R50) -/

/-- LIMP_MAP_APPLY: at its stagger step a bank applies its limp entries; the first such step of a start reads OTP, PHASE
becomes LIMP_ONLY and the limp map is in force (R47, R48, R51). -/
def execLimpMapApply (bank : Fin 8) (s : State) : Host.Outcome State Fault Refusal :=
  act (fun s =>
    let b := bank.val
    match (s.bank b).limpDue with
    | none => s
    | some d =>
      if s.now < d ∨ s.vsup ≠ .valid ∨ s.domOn (Dm.bank b) = false then s
      else
        let t := if s.get pwrStart_phase = 0 then ((s.readOtp).put pwrStart_phase 1).put pwrStart_limp 1 else s
        let coast := decide (2 ≤ t.get pwrStart_phase)
        (t.limpBank b coast).limpHold b) s

/-- BASIC_SERVICE: HIF and SYS come On and HC0 is served: PHASE BASIC, or COPY where a copy is to be done, or VERONE where no
image verifies (R47, R49, R50, R58; spec/19, R430, R439). -/
def execBasicService (s : State) : Host.Outcome State Fault Refusal :=
  act (fun s =>
    if s.get pwrStart_phase = 1 ∧ s.sysReturn = false ∧ s.sysUp = false ∧ s.rstLow = false ∧ s.vsup = .valid ∧
        (List.range 8).all (fun b => (s.bank b).limpDue.isNone) = true then
      let t := forEach [Dm.hif, Dm.sys] (fun d u => u.comesOn d) s
      let t := ({ t with sysUp := true, serving := true } : State).put pwrStart_phase
        (if t.toVerone then 5 else if t.flash.copying.isSome then 4 else 2)
      t.sysBack
    else s) s

/-- FULL_SERVICE: after a return of SYS from Off its contexts are bound again (spec/15, R324); in a power-up start the configuration is in
force, the other processors are loaded and HC1 to HC7 are bound: PHASE FULL, RDY, START_COMPLETE (R47; spec/19, R422, R437). `loadOk`: the
loads pass, at once or repeated; banks first, then the switch, the field die and the UWB baseband. -/
def execFullService (loadOk : List Bool) (s : State) : Host.Outcome State Fault Refusal :=
  act (fun s =>
    if s.get pwrStart_phase = 2 ∧ s.sysUp = true ∧ s.domOn Dm.sys = true ∧ s.flash.copying.isNone = true then
      (if s.sysAgain then s.sysReborn else s.fullService loadOk)
    else s) s

/-! ### Resets (R57, R58) -/

/-- DEVICE_RESET_START: 1 ms after a SYS_RESET of scope DEVICE committed, a power-up start begins (R57). -/
def execDeviceResetStart (s : State) : Host.Outcome State Fault Refusal :=
  act (fun s => match s.devResetAt with
    | some d => if d ≤ s.now ∧ s.vsup = .valid then s.powerUp 2 else s
    | none => s) s

/-- RST_PIN: RST_N has been low for 1 µs; SYS stays in reset while it is low (R57). -/
def execRstPin (s : State) : Host.Outcome State Fault Refusal :=
  act (fun s => if s.rstLow then s else ({ s with rstLow := true } : State).sysReset 3) s

/-- RST_PIN_RELEASE: SYS may leave the reset (R57). -/
def execRstPinRelease (s : State) : Host.Outcome State Fault Refusal :=
  act (fun s => { s with rstLow := false }) s

/-- WATCHDOG: the SYS watchdog has had no service for 50 ms, while SYS is On and not held in reset, a restart under Coast hold included (R57,
R62). -/
def execWatchdog (s : State) : Host.Outcome State Fault Refusal :=
  act (fun s => if s.domOn Dm.sys = true ∧ s.rstLow = false then s.sysReset 4 else s) s

/-- LOCKSTEP: the two SYS cores differ, while SYS is On and not held in reset (R57, R62). -/
def execLockstep (s : State) : Host.Outcome State Fault Refusal :=
  act (fun s => if s.domOn Dm.sys = true ∧ s.rstLow = false then s.sysReset 5 else s) s

/-- RESYNCHRONISATION: the end of a SYS start (R64, R65; spec/19, R438). -/
def execResynchronisation (eccOk : Bool) (codeOk : List Bool) (s : State) : Host.Outcome State Fault Refusal :=
  act (fun s =>
    if s.vsup = .valid ∧ s.domOn Dm.sys = true ∧ s.sysUp = false ∧ s.sysReturn = false ∧ s.rstLow = false ∧ 2 ≤ s.get pwrStart_phase then
      s.resync eccOk codeOk
    else s) s

/-! ### Coast hold (R61, R63) -/

/-- COAST_EXPIRY: the Coast timer reaches COAST_TIME (R61). -/
def execCoastExpiry (s : State) : Host.Outcome State Fault Refusal :=
  act (fun s => match s.coastAt with
    | some a => if a + ms s.coastTime ≤ s.now ∧ s.domOn Dm.crk = true then s.coastExpire else s
    | none => s) s

/-- BANK_LINK_LOSS: a bank has had no valid link traffic for 100 µs: it alone enters Coast hold on its backup timer, and BANK_LINK
is posted (spec/01, R7; R63). -/
def execBankLinkLoss (bank : Fin 8) (s : State) : Host.Outcome State Fault Refusal :=
  act (fun s =>
    let b := bank.val
    if (s.bank b).linkUp = false ∨ s.domOn (Dm.bank b) = false then s
    else
      let t := s.fault (0x40 + b) 0x13 b
      (t.modBank b (fun x => { x with
        linkUp := false, coastAt := some t.now, coastMs := if t.coastAt.isSome then t.coastTime else t.get sysCoastcfg_coastTime })).put
          ⟨pwrCoast_bankCoast.addr, 8 + b, 8 + b⟩ 1) s

/-- BANK_LINK_RETURN: the link is back: the bank's own hold ends with its outputs as they are, its limp entries become
commanded state, and what waited for the link goes on (R63, R64). -/
def execBankLinkReturn (bank : Fin 8) (s : State) : Host.Outcome State Fault Refusal :=
  act (fun s =>
    let b := bank.val
    if (s.bank b).linkUp then s
    else
      let own := (s.bank b).ownLimp
      let t := (s.modBank b (fun x => { x with linkUp := true, coastAt := none })).put ⟨pwrCoast_bankCoast.addr, 8 + b, 8 + b⟩ 0
      let t := if own = true ∧ s.flag pwrStart_limp = false then t.bankAdopt b else t
      (if s.flag pwrStart_limp then t.modBank b (fun x => { x with ownLimp := false }) else t.uvResume b).reexamine) s

/-- BANK_COAST_EXPIRY: the bank's backup timer of COAST_TIME + 1 ms: the bank alone applies its limp entries (R63). -/
def execBankCoastExpiry (bank : Fin 8) (s : State) : Host.Outcome State Fault Refusal :=
  act (fun s =>
    let b := bank.val
    match (s.bank b).coastAt with
    | none => s
    | some a =>
      if s.now < a + ms ((s.bank b).coastMs + 1) then s
      else
        ((s.modBank b (fun x => { x with coastAt := none, ownLimp := true })).put ⟨pwrCoast_bankCoast.addr, 8 + b, 8 + b⟩ 0).limpBank b true) s

/-! ### The end of an exit (spec/15, R322) -/

/-- DOMAIN_EXIT_COMPLETE: an exit that has begun ends (spec/15, R322 to R326; spec/19, R437). `loadOk`: the load of its code
passes, at once or repeated. -/
def execDomainExitComplete (d : Fin 24) (eccOk loadOk : Bool) (s : State) : Host.Outcome State Fault Refusal :=
  act (fun s =>
    let t := s.kickExits
    let x := t.dom d.val
    if x.going = some .on ∧ x.begun = true ∧ ¬ (d.val = Dm.sys ∧ x.from_ ≠ .ret ∧ s.rstLow = true) then t.finishExit d.val eccOk loadOk else t) s

end Sys2Proof.Machine
end

