-- ==== Sys2Proof/Machine/Dispatch.lean ====
section
/-! DEFINITION. What each command does: one arm per constructor of Instr, one call of its meaning. -/

namespace Sys2Proof.Machine

def exec (i : Instr) (s : State) : Host.Outcome State Fault Refusal :=
  match i with
  | .statusPoll b => Sys2Proof.Machine.execStatusPoll b s
  | .spiRegRead f => Sys2Proof.Machine.execSpiRegRead f s
  | .spiRegWrite f => Sys2Proof.Machine.execSpiRegWrite f s
  | .packetPush f => Sys2Proof.Machine.execPacketPush f s
  | .ringPull f => Sys2Proof.Machine.execRingPull f s
  | .packetMessage hc m => Sys2Proof.Machine.execPacketMessage hc m s
  | .ringAck hc m => Sys2Proof.Machine.execRingAck hc m s
  | .recordsResend hc events => Sys2Proof.Machine.execRecordsResend hc events s
  | .canSegmentTimeout hc => Sys2Proof.Machine.execCanSegmentTimeout hc s
  | .nop h => Sys2Proof.Machine.execNop h s
  | .barrier h => Sys2Proof.Machine.execBarrier h s
  | .abort h target => Sys2Proof.Machine.execAbort h target s
  | .getStatus h => Sys2Proof.Machine.execGetStatus h s
  | .getInfo h => Sys2Proof.Machine.execGetInfo h s
  | .limpRelease h => Sys2Proof.Machine.execLimpRelease h s
  | .limpMapProgram h entries bases coast => Sys2Proof.Machine.execLimpMapProgram h entries bases coast s
  | .sysReset h scope => Sys2Proof.Machine.execSysReset h scope s
  | .ownGrant h kind first count dest => Sys2Proof.Machine.execOwnGrant h kind first count dest s
  | .ownRelease h kind first count => Sys2Proof.Machine.execOwnRelease h kind first count s
  | .quotaSet h hc item value => Sys2Proof.Machine.execQuotaSet h hc item value s
  | .hcClose h hc => Sys2Proof.Machine.execHcClose h hc s
  | .chOn h mask => Sys2Proof.Machine.execChOn h mask s
  | .chOff h mask => Sys2Proof.Machine.execChOff h mask s
  | .chSetDuty h ch base duty phase => Sys2Proof.Machine.execChSetDuty h ch base duty phase s
  | .chPulse h ch width => Sys2Proof.Machine.execChPulse h ch width s
  | .chStartProfile h ch profile pset => Sys2Proof.Machine.execChStartProfile h ch profile pset s
  | .chConfig h ch record => Sys2Proof.Machine.execChConfig h ch record s
  | .chStatus h ch => Sys2Proof.Machine.execChStatus h ch s
  | .chClearLatch h mask => Sys2Proof.Machine.execChClearLatch h mask s
  | .chDisable h mask => Sys2Proof.Machine.execChDisable h mask s
  | .chFollowLh h ch lhsel inv => Sys2Proof.Machine.execChFollowLh h ch lhsel inv s
  | .bankBase h bank freq => Sys2Proof.Machine.execBankBase h bank freq s
  | .motorTarget h bridge axis duty target => Sys2Proof.Machine.execMotorTarget h bridge axis duty target s
  | .motorStop h bridge mode => Sys2Proof.Machine.execMotorStop h bridge mode s
  | .axisConfig h axis record => Sys2Proof.Machine.execAxisConfig h axis record s
  | .axisWrite h axis pos => Sys2Proof.Machine.execAxisWrite h axis pos s
  | .axisRead h axis => Sys2Proof.Machine.execAxisRead h axis s
  | .axisPublish h axis enable => Sys2Proof.Machine.execAxisPublish h axis enable s
  | .spkArm h slot record => Sys2Proof.Machine.execSpkArm h slot record s
  | .spkCancel h first count => Sys2Proof.Machine.execSpkCancel h first count s
  | .spkRead h slot => Sys2Proof.Machine.execSpkRead h slot s
  | .leadRead h ch => Sys2Proof.Machine.execLeadRead h ch s
  | .leadSet h ch table => Sys2Proof.Machine.execLeadSet h ch table s
  | .timeRead h => Sys2Proof.Machine.execTimeRead h s
  | .canConfig h port record => Sys2Proof.Machine.execCanConfig h port record s
  | .canState h port state => Sys2Proof.Machine.execCanState h port state s
  | .canTx h port txq frame => Sys2Proof.Machine.execCanTx h port txq frame s
  | .canFilter h pair port queue mask pattern => Sys2Proof.Machine.execCanFilter h pair port queue mask pattern s
  | .canRxPull h port queue => Sys2Proof.Machine.execCanRxPull h port queue s
  | .canRxAck h port queue count => Sys2Proof.Machine.execCanRxAck h port queue count s
  | .flowAdd h flow record => Sys2Proof.Machine.execFlowAdd h flow record s
  | .flowRemove h flow => Sys2Proof.Machine.execFlowRemove h flow s
  | .ethConfig h port record => Sys2Proof.Machine.execEthConfig h port record s
  | .netStats h port kind => Sys2Proof.Machine.execNetStats h port kind s
  | .ridgeState h link => Sys2Proof.Machine.execRidgeState h link s
  | .evtClassSet h cls enable count wake time => Sys2Proof.Machine.execEvtClassSet h cls enable count wake time s
  | .evtGdis h disable => Sys2Proof.Machine.execEvtGdis h disable s
  | .hostSleep h sleep => Sys2Proof.Machine.execHostSleep h sleep s
  | .faultRead h index count => Sys2Proof.Machine.execFaultRead h index count s
  | .faultHandled h fault => Sys2Proof.Machine.execFaultHandled h fault s
  | .faultClear h kind src => Sys2Proof.Machine.execFaultClear h kind src s
  | .faultReaction h kind reaction action time quiet => Sys2Proof.Machine.execFaultReaction h kind reaction action time quiet s
  | .keyRootWrite h root key => Sys2Proof.Machine.execKeyRootWrite h root key s
  | .keyStage h slot wrapped => Sys2Proof.Machine.execKeyStage h slot wrapped s
  | .keyVerify h slot nonce => Sys2Proof.Machine.execKeyVerify h slot nonce s
  | .keyCommit h slot => Sys2Proof.Machine.execKeyCommit h slot s
  | .keyChallenge h slot nonce => Sys2Proof.Machine.execKeyChallenge h slot nonce s
  | .lifecycleSet h state auth => Sys2Proof.Machine.execLifecycleSet h state auth s
  | .immEnroll h token record => Sys2Proof.Machine.execImmEnroll h token record s
  | .immRevoke h token => Sys2Proof.Machine.execImmRevoke h token s
  | .immState h => Sys2Proof.Machine.execImmState h s
  | .updateBegin h size => Sys2Proof.Machine.execUpdateBegin h size s
  | .updateData h offset data => Sys2Proof.Machine.execUpdateData h offset data s
  | .updateEnd h => Sys2Proof.Machine.execUpdateEnd h s
  | .updateConfirm h => Sys2Proof.Machine.execUpdateConfirm h s
  | .updateStatus h => Sys2Proof.Machine.execUpdateStatus h s
  | .updateCancel h => Sys2Proof.Machine.execUpdateCancel h s
  | .configBegin h size => Sys2Proof.Machine.execConfigBegin h size s
  | .configData h offset data => Sys2Proof.Machine.execConfigData h offset data s
  | .configEnd h => Sys2Proof.Machine.execConfigEnd h s
  | .domainSet h mask state => Sys2Proof.Machine.execDomainSet h mask state s
  | .wakeConfig h source record => Sys2Proof.Machine.execWakeConfig h source record s
  | .nmConfig h port record => Sys2Proof.Machine.execNmConfig h port record s
  | .pwrStatus h => Sys2Proof.Machine.execPwrStatus h s
  | .swinConfig h input record => Sys2Proof.Machine.execSwinConfig h input record s
  | .swinRead h => Sys2Proof.Machine.execSwinRead h s
  | .analogRead h input => Sys2Proof.Machine.execAnalogRead h input s
  | .fieldOut h mask value => Sys2Proof.Machine.execFieldOut h mask value s
  | .fieldRead h => Sys2Proof.Machine.execFieldRead h s
  | .fieldConfig h ch record => Sys2Proof.Machine.execFieldConfig h ch record s
  | .regRead h addr count => Sys2Proof.Machine.execRegRead h addr count s
  | .regWrite h addr data => Sys2Proof.Machine.execRegWrite h addr data s
  | .regModify h addr mask value => Sys2Proof.Machine.execRegModify h addr mask value s
  | .registerWrite hc addr data => Sys2Proof.Machine.execRegisterWrite hc addr data s
  | .channelCfgWrite hc ch k data => Sys2Proof.Machine.execChannelCfgWrite hc ch k data s
  | .axisCfgWrite hc axis k data => Sys2Proof.Machine.execAxisCfgWrite hc axis k data s
  | .cmptestRun hc bank => Sys2Proof.Machine.execCmptestRun hc bank s
  | .requireOwnerWrite hc data => Sys2Proof.Machine.execRequireOwnerWrite hc data s
  | .compatWakesrcRead hc => Sys2Proof.Machine.execCompatWakesrcRead hc s
  | .sidebandAddressMatch addr => Sys2Proof.Machine.execSidebandAddressMatch addr s
  | .sidebandPointerWrite bytes => Sys2Proof.Machine.execSidebandPointerWrite bytes s
  | .sidebandWrite bytes => Sys2Proof.Machine.execSidebandWrite bytes s
  | .sidebandRead words => Sys2Proof.Machine.execSidebandRead words s
  | .vsupValid => Sys2Proof.Machine.execVsupValid s
  | .vsupBelowAonHold => Sys2Proof.Machine.execVsupBelowAonHold s
  | .vsupDip => Sys2Proof.Machine.execVsupDip s
  | .vsupOvervoltage => Sys2Proof.Machine.execVsupOvervoltage s
  | .vbatUndervoltage group => Sys2Proof.Machine.execVbatUndervoltage group s
  | .vbatUvRecovery group => Sys2Proof.Machine.execVbatUvRecovery group s
  | .vbatDegraded group => Sys2Proof.Machine.execVbatDegraded group s
  | .vbatOvervoltage group => Sys2Proof.Machine.execVbatOvervoltage group s
  | .vioLow => Sys2Proof.Machine.execVioLow s
  | .vioRise => Sys2Proof.Machine.execVioRise s
  | .limpMapApply bank => Sys2Proof.Machine.execLimpMapApply bank s
  | .basicService => Sys2Proof.Machine.execBasicService s
  | .fullService loadOk => Sys2Proof.Machine.execFullService loadOk s
  | .deviceResetStart => Sys2Proof.Machine.execDeviceResetStart s
  | .rstPin => Sys2Proof.Machine.execRstPin s
  | .watchdog => Sys2Proof.Machine.execWatchdog s
  | .lockstep => Sys2Proof.Machine.execLockstep s
  | .resynchronisation eccOk codeOk => Sys2Proof.Machine.execResynchronisation eccOk codeOk s
  | .coastExpiry => Sys2Proof.Machine.execCoastExpiry s
  | .bankLinkLoss bank => Sys2Proof.Machine.execBankLinkLoss bank s
  | .bankLinkReturn bank => Sys2Proof.Machine.execBankLinkReturn bank s
  | .bankCoastExpiry bank => Sys2Proof.Machine.execBankCoastExpiry bank s
  | .lhInputChange lh high => Sys2Proof.Machine.execLhInputChange lh high s
  | .currentLimit ch => Sys2Proof.Machine.execCurrentLimit ch s
  | .shortHard ch amps v => Sys2Proof.Machine.execShortHard ch amps v s
  | .overcurrent ch amps v => Sys2Proof.Machine.execOvercurrent ch amps v s
  | .inrushRegimeEnd ch => Sys2Proof.Machine.execInrushRegimeEnd ch s
  | .overtempDt ch amps v => Sys2Proof.Machine.execOvertempDt ch amps v s
  | .overtempAbs ch amps v => Sys2Proof.Machine.execOvertempAbs ch amps v s
  | .wireModelUpdate ch amps v => Sys2Proof.Machine.execWireModelUpdate ch amps v s
  | .segImbalance ch seg amps v => Sys2Proof.Machine.execSegImbalance ch seg amps v s
  | .cmpMismatch ch func copyB amps v => Sys2Proof.Machine.execCmpMismatch ch func copyB amps v s
  | .selftestStart ch => Sys2Proof.Machine.execSelftestStart ch s
  | .selftestEnd ch pass func copyB => Sys2Proof.Machine.execSelftestEnd ch pass func copyB s
  | .restart ch => Sys2Proof.Machine.execRestart ch s
  | .restartAgeOut ch => Sys2Proof.Machine.execRestartAgeOut ch s
  | .bankTempWarn bank => Sys2Proof.Machine.execBankTempWarn bank s
  | .bankTempWarnEnd bank => Sys2Proof.Machine.execBankTempWarnEnd bank s
  | .edgeDelayMeasured ch on delay => Sys2Proof.Machine.execEdgeDelayMeasured ch on delay s
  | .clampPulseEnd ch energy => Sys2Proof.Machine.execClampPulseEnd ch energy s
  | .dissipationEstimate means => Sys2Proof.Machine.execDissipationEstimate means s
  | .senseAdc bank aux => Sys2Proof.Machine.execSenseAdc bank aux s
  | .openLoadOn ch => Sys2Proof.Machine.execOpenLoadOn ch s
  | .openLoadOff ch => Sys2Proof.Machine.execOpenLoadOff ch s
  | .offTestWindow ch => Sys2Proof.Machine.execOffTestWindow ch s
  | .shortToBat ch => Sys2Proof.Machine.execShortToBat ch s
  | .pwmPeriodEnd ch => Sys2Proof.Machine.execPwmPeriodEnd ch s
  | .baseFrameEnd bank => Sys2Proof.Machine.execBaseFrameEnd bank s
  | .pulseEnd ch width => Sys2Proof.Machine.execPulseEnd ch width s
  | .rampEnd ch => Sys2Proof.Machine.execRampEnd ch s
  | .arrivalConfirmed ch latency => Sys2Proof.Machine.execArrivalConfirmed ch latency s
  | .peakPhaseEnd ch => Sys2Proof.Machine.execPeakPhaseEnd ch s
  | .rippleCount bridge filled => Sys2Proof.Machine.execRippleCount bridge filled s
  | .motionEnd bridge => Sys2Proof.Machine.execMotionEnd bridge s
  | .targetCrossing bridge => Sys2Proof.Machine.execTargetCrossing bridge s
  | .brakeEnd bridge => Sys2Proof.Machine.execBrakeEnd bridge s
  | .stall bridge => Sys2Proof.Machine.execStall bridge s
  | .parkEdge bridge => Sys2Proof.Machine.execParkEdge bridge s
  | .parkTimeout bridge => Sys2Proof.Machine.execParkTimeout bridge s
  | .pinchDetection bridge => Sys2Proof.Machine.execPinchDetection bridge s
  | .lockTimeLimit bridge => Sys2Proof.Machine.execLockTimeLimit bridge s
  | .ucodeIdlePoint bank => Sys2Proof.Machine.execUcodeIdlePoint bank s
  | .ucodeCrc bank => Sys2Proof.Machine.execUcodeCrc bank s
  | .trackerTick => Sys2Proof.Machine.execTrackerTick s
  | .encoderCount axis a b => Sys2Proof.Machine.execEncoderCount axis a b s
  | .standstill axis => Sys2Proof.Machine.execStandstill axis s
  | .crankSource axis => Sys2Proof.Machine.execCrankSource axis s
  | .extrapolationEnd axis => Sys2Proof.Machine.execExtrapolationEnd axis s
  | .axisBroadcast => Sys2Proof.Machine.execAxisBroadcast s
  | .sprocketFire slot => Sys2Proof.Machine.execSprocketFire slot s
  | .spkGrantReturn slot => Sys2Proof.Machine.execSpkGrantReturn slot s
  | .grantExpiry ch => Sys2Proof.Machine.execGrantExpiry ch s
  | .deferralLimit req => Sys2Proof.Machine.execDeferralLimit req s
  | .droopFreeze group => Sys2Proof.Machine.execDroopFreeze group s
  | .droopFreezeEnd group => Sys2Proof.Machine.execDroopFreezeEnd group s
  | .epochBoundary => Sys2Proof.Machine.execEpochBoundary s
  | .memberLost group member => Sys2Proof.Machine.execMemberLost group member s
  | .fbHoldEnd group => Sys2Proof.Machine.execFbHoldEnd group s
  | .membersRelinked group => Sys2Proof.Machine.execMembersRelinked group s
  | .swinDebouncedChange input closed => Sys2Proof.Machine.execSwinDebouncedChange input closed s
  | .staticWakeInput input level => Sys2Proof.Machine.execStaticWakeInput input level s
  | .fiDebouncedChange input active => Sys2Proof.Machine.execFiDebouncedChange input active s
  | .fqOverload fq => Sys2Proof.Machine.execFqOverload fq s
  | .fqThermal fq => Sys2Proof.Machine.execFqThermal fq s
  | .fqCooled fq => Sys2Proof.Machine.execFqCooled fq s
  | .fieldLink rejected => Sys2Proof.Machine.execFieldLink rejected s
  | .fieldPower => Sys2Proof.Machine.execFieldPower s
  | .fieldLinkReturn fi rejected => Sys2Proof.Machine.execFieldLinkReturn fi rejected s
  | .fieldLpUv => Sys2Proof.Machine.execFieldLpUv s
  | .fieldLpRecovery => Sys2Proof.Machine.execFieldLpRecovery s
  | .fieldLpOv => Sys2Proof.Machine.execFieldLpOv s
  | .v5outOverload => Sys2Proof.Machine.execV5outOverload s
  | .canFrameReceived port f age => Sys2Proof.Machine.execCanFrameReceived port f age s
  | .acfMaxWait flow => Sys2Proof.Machine.execAcfMaxWait flow s
  | .canTxComplete port age delay => Sys2Proof.Machine.execCanTxComplete port age delay s
  | .canBusError port e more age delay => Sys2Proof.Machine.execCanBusError port e more age delay s
  | .backoffEnd port => Sys2Proof.Machine.execBackoffEnd port s
  | .busoffRecoveryStart port => Sys2Proof.Machine.execBusoffRecoveryStart port s
  | .busoffRecovered port => Sys2Proof.Machine.execBusoffRecovered port s
  | .timeMasterSync port => Sys2Proof.Machine.execTimeMasterSync port s
  | .timeMasterRoleChange port master => Sys2Proof.Machine.execTimeMasterRoleChange port master s
  | .nmPeriod port => Sys2Proof.Machine.execNmPeriod port s
  | .nmAgreement port => Sys2Proof.Machine.execNmAgreement port s
  | .waitBusSleepEnd port => Sys2Proof.Machine.execWaitBusSleepEnd port s
  | .canWakeFrame port f => Sys2Proof.Machine.execCanWakeFrame port f s
  | .falseWakeCheck port => Sys2Proof.Machine.execFalseWakeCheck port s
  | .wakeSuspendEnd port => Sys2Proof.Machine.execWakeSuspendEnd port s
  | .ethFrameReceived port f => Sys2Proof.Machine.execEthFrameReceived port f s
  | .egressAge port => Sys2Proof.Machine.execEgressAge port s
  | .plcaBeaconLoss port => Sys2Proof.Machine.execPlcaBeaconLoss port s
  | .netLink port up plcaOk => Sys2Proof.Machine.execNetLink port up plcaOk s
  | .gptpSyncReceived offset rate pdelay => Sys2Proof.Machine.execGptpSyncReceived offset rate pdelay s
  | .gptpSyncLoss => Sys2Proof.Machine.execGptpSyncLoss s
  | .ridgeFrameReceived link bytes => Sys2Proof.Machine.execRidgeFrameReceived link bytes s
  | .timeExchange link master offset delay => Sys2Proof.Machine.execTimeExchange link master offset delay s
  | .alignmentLoss => Sys2Proof.Machine.execAlignmentLoss s
  | .ridgeTraining link came peer acked swapped => Sys2Proof.Machine.execRidgeTraining link came peer acked swapped s
  | .ridgeDown link => Sys2Proof.Machine.execRidgeDown link s
  | .faultSummaryBroadcast => Sys2Proof.Machine.execFaultSummaryBroadcast s
  | .domainEntryComplete d => Sys2Proof.Machine.execDomainEntryComplete d s
  | .domainExitComplete d eccOk loadOk => Sys2Proof.Machine.execDomainExitComplete d eccOk loadOk s
  | .wakeTimerExpiry => Sys2Proof.Machine.execWakeTimerExpiry s
  | .eventRelease hc cls => Sys2Proof.Machine.execEventRelease hc cls s
  | .faultReport msg => Sys2Proof.Machine.execFaultReport msg s
  | .retestComplete msg transient => Sys2Proof.Machine.execRetestComplete msg transient s
  | .reactionTimerExpiry msg => Sys2Proof.Machine.execReactionTimerExpiry msg s
  | .quietPoint msg => Sys2Proof.Machine.execQuietPoint msg s
  | .faultSummaryWrite => Sys2Proof.Machine.execFaultSummaryWrite s
  | .remask => Sys2Proof.Machine.execRemask s
  | .rngHealthTest pass => Sys2Proof.Machine.execRngHealthTest pass s
  | .pollStart => Sys2Proof.Machine.execPollStart s
  | .pollDecision answers => Sys2Proof.Machine.execPollDecision answers s
  | .pollRetry => Sys2Proof.Machine.execPollRetry s
  | .releaseFrame => Sys2Proof.Machine.execReleaseFrame s
  | .parkedPoll answers => Sys2Proof.Machine.execParkedPoll answers s
  | .parkMode => Sys2Proof.Machine.execParkMode s
  | .lockLapsed config => Sys2Proof.Machine.execLockLapsed config s
  | .copyBlock ok => Sys2Proof.Machine.execCopyBlock ok s
  | .trialRuntimeWrite => Sys2Proof.Machine.execTrialRuntimeWrite s
  | .trialRuntimeLimit => Sys2Proof.Machine.execTrialRuntimeLimit s
  | .fallbackRepair => Sys2Proof.Machine.execFallbackRepair s
  | .udsSessionControl data => Sys2Proof.Machine.execUdsSessionControl data s
  | .udsEcuReset data => Sys2Proof.Machine.execUdsEcuReset data s
  | .udsReadDataById data => Sys2Proof.Machine.execUdsReadDataById data s
  | .udsRequestSeed data => Sys2Proof.Machine.execUdsRequestSeed data s
  | .udsSendKey data => Sys2Proof.Machine.execUdsSendKey data s
  | .udsSecurityLockEnd => Sys2Proof.Machine.execUdsSecurityLockEnd s
  | .udsRoutineControl data => Sys2Proof.Machine.execUdsRoutineControl data s
  | .udsRequestDownload data => Sys2Proof.Machine.execUdsRequestDownload data s
  | .udsTransferData data => Sys2Proof.Machine.execUdsTransferData data s
  | .udsTransferExit data => Sys2Proof.Machine.execUdsTransferExit data s
  | .udsTesterPresent data => Sys2Proof.Machine.execUdsTesterPresent data s
  | .rstPinRelease => Sys2Proof.Machine.execRstPinRelease s
  | .vbatDegradedEnd group => Sys2Proof.Machine.execVbatDegradedEnd group s
  | .currentSample bank slot code on edge settling segs => Sys2Proof.Machine.execCurrentSample bank slot code on edge settling segs s
  | .auxiliaryScan bank vout tch vbat tcase => Sys2Proof.Machine.execAuxiliaryScan bank vout tch vbat tcase s
  | .flashWriteComplete => Sys2Proof.Machine.execFlashWriteComplete s
  | .frameErrorWake port => Sys2Proof.Machine.execFrameErrorWake port s
  | .udsSessionTimeout => Sys2Proof.Machine.execUdsSessionTimeout s

end Sys2Proof.Machine
end

