-- ==== Sys2Proof/Machine/Tick.lean ====
section
/-! DEFINITION. The passing of one tick of 10 ns: what the block does when no command waits (log 1). -/

namespace Sys2Proof.Machine

/-- One tick of 10 ns passes: device time counts while CRK is On, one tick more or less where the rate
correction has gathered a whole one (R212, R213). -/
def State.tick (s : State) : State :=
  let t := { s with now := s.now + 1 }
  if s.domOn Dm.crk then
    let f := s.rateFrac + signed 16 (s.get crankTsync_rate)
    if 100000000 ≤ f then { t with devTime := (s.devTime + 2) % 2 ^ 64, rateFrac := f - 100000000 }
    else if f ≤ -100000000 then { t with rateFrac := f + 100000000 }
    else { t with devTime := (s.devTime + 1) % 2 ^ 64, rateFrac := f }
  else t

end Sys2Proof.Machine
end

