-- ==== Sys2Proof/Machine/Idle.lean ====
section
/-! DEFINITION. What the block does when no command waits: one tick of time, and what every tick brings without a row of
its own (log 1). -/

namespace Sys2Proof.Machine

/-- What the banks do at a tick: a bridge passes on from BRAKE_LOW, a PWM generator makes its edges, a pulse ends (spec/08, R127,
R170, R175). -/
def State.bankTick (s : State) : State :=
  let t := forEach (List.range 8) (fun k u => u.passTick k) s
  forEach (List.range 64) (fun n u => ((u.pwmTick n).pulseTick n).edgeTick n) t

/-- The first tick of a power-up start: the device is its own time master until a link has met a lower one (spec/09, R213). -/
def State.firstTick (s : State) : State := if s.now = s.t0 then s.elect else s

/-- What one tick brings, in this order: time passes, the switch sends what it may, the glitch filters pass their edges, fired actions reach
their banks, the banks make theirs, a release whose polls have stopped ends, the staging locks and the trial's run time are counted, the
governor's line, the packets that are no command, the waiting register writes, the quotas and the retests that watch are looked at again
(spec/01, R15; spec/05, R112; spec/09, R199; spec/11, R240; spec/14, R305; spec/17, R368; spec/18, R407; spec/19, R427, R434). -/
def State.ticked (s : State) : State :=
  s.firstTick.tick.timeTick.flowTick.slowTick.drainSwitch.keepTick.syncTick.beaconTick.axFilters.landActs.bankTick.immTick.updTick.reexamine.settleBad.settleLate.recheckAll.watchRetests

/-- One tick. The queue stays; one-time memory changes only by a register write that has waited. -/
def State.idle (s : State) : State :=
  let t := s.ticked
  { t with pending := s.pending, now := s.now + 1, otp := s.otp.burn t.otp }

end Sys2Proof.Machine
end

