-- ==== Sys2Proof/WellFormed.lean ====
section
/-! DEFINITION. Which commands can arrive: those whose lists have the lengths that the spec's records, frames and messages
have, and whose numbers fit their fields (spec/04, R80; spec/13, R283; spec/14, R299; spec/19, R423, R438). -/

namespace Sys2Proof

/-- A CAN frame that a bus can carry: its identifier fits its format, and its data its length (spec/13, R276, R283). -/
def CanFrame.wellFormed (f : CanFrame) : Bool :=
  decide (f.fmt ≤ 2) && decide (f.ident < (if f.ext then 2 ^ 29 else 2 ^ 11)) && (f.fmt != 2 || !f.ext) && (f.fmt == 0 || !f.rtr) &&
    decide (f.data.length ≤ (if f.fmt = 0 then 8 else if f.fmt = 1 then 64 else 2048))

/-- An Ethernet frame with 48-bit addresses. -/
def EthFrame.wellFormed (f : EthFrame) : Bool := decide (f.dst < 2 ^ 48) && decide (f.src < 2 ^ 48)

/-- The command's operands have the shapes that its packet, its frame or its event gives them. -/
def Instr.wellFormed (i : Instr) : Bool :=
  match i with
  | .limpMapProgram _ e _ _ => e.length == 64
  | .chConfig _ _ r | .axisConfig _ _ r | .spkArm _ _ r | .leadSet _ _ r | .canConfig _ _ r | .ethConfig _ _ r => r.length == 8
  | .flowAdd _ _ r => r.length == 16
  | .wakeConfig _ _ r | .nmConfig _ _ r => r.length == 4
  | .swinConfig _ _ r | .fieldConfig _ _ r => r.length == 2
  | .canTx _ _ _ f => decide (8 ≤ f.length)
  | .keyRootWrite _ _ k => k.length == 32
  | .keyStage _ _ w => w.length == 48
  | .keyVerify _ _ n | .keyChallenge _ _ n => n.length == 16
  | .lifecycleSet _ _ a => a.length == 16
  | .immEnroll _ _ r => r.length == 48
  | .updateData _ _ d | .configData _ _ d => decide (1 ≤ d.length) && decide (d.length ≤ 2048)
  | .canFrameReceived _ f _ | .canWakeFrame _ f => f.wellFormed
  | .ethFrameReceived _ f => f.wellFormed
  | .dissipationEstimate m => m.length == 8
  | .auxiliaryScan _ v t _ _ => v.length == 8 && t.length == 8
  | .resynchronisation _ c => c.length == 11
  | .fullService c => c.length == 11
  | _ => true

end Sys2Proof
end

