-- ==== Sys2Proof/Safety.lean ====
section
/-! DEFINITION. The words that statements about the block use. -/

namespace Sys2Proof.Machine

/-- A one-time memory that another may have become: every programmed bit stays. -/
def Otp.leadsTo (a b : Otp) : Prop :=
  a.slots.length = b.slots.length ∧ (∀ (k : Nat) (x : LimpSlot), a.slots[k]? = some (some x) → b.slots[k]? = some (some x)) ∧
    a.made ≤ b.made ∧ a.sbAddr = b.sbAddr ∧ a.svnMin ≤ b.svnMin ∧ (∀ k : Nat, a.revoked.testBit k = true → b.revoked.testBit k = true) ∧
    (a.requireOwner = true → b.requireOwner = true)

/-- The completions that a context has been given and has not acknowledged, oldest first: those in its ring, those that wait
for room in it, and those not yet released. -/
def State.answers (s : State) (n : Nat) : List Compl :=
  (s.hc n).cring.map (fun r => r.item) ++ (s.hc n).cwait ++ (s.hc n).cpend.map (fun x => x.item)

/-- The completion of a command with header `h` (spec/04, R78). -/
def State.complOf (s : State) (h : Hdr) (opc : Nat) (status : Byte) (result : Nat) (cont : List Word := []) : Compl :=
  { opc := BitVec.ofNat 8 opc, status := status, tag := h.tag, resync := false, time := s.time32, result := word result, cont := cont }

/-- In `t`, context `h.hc` has one completion more than in `s`: with this opcode, status, RESULT and continuation. -/
def State.answered (s t : State) (h : Hdr) (opc : Nat) (status : Byte) (result : Nat) (cont : List Word := []) : Prop :=
  t.answers h.hc.val = s.answers h.hc.val ++ [s.complOf h opc status result cont]

/-- A state without its host contexts (queues, completions, rings), whose turn it is among them, what was sent, and the model's own counters. -/
def State.noHosts (s : State) : State := { s with hcs := [], sent := [], nextId := 0, issuing := 0, turnHc := 0 }

/-- `u` with the queue of waiting commands, the time and the one-time memory of `s`: a command changes none of the three. -/
def State.keep (s u : State) : State := { u with pending := s.pending, now := s.now, otp := s.otp }

/-- The same for a command that may program one-time memory: what it programs is added to what stands (R442). -/
def State.keepBurn (s u : State) : State := { u with pending := s.pending, now := s.now, otp := s.otp.burn u.otp }

/-- A command of class I runs on `s` and completes: exec answers a next state in which everything but the host contexts and
what was sent is as in `u`, and the issuing context has one completion more, with a status, RESULT and continuation. -/
def State.takes (s : State) (c : Instr) (h : Hdr) (u : State) (result : Nat := 0) (cont : List Word := []) (status : Byte := St.ok) : Prop :=
  ∃ t : State, exec c s = .next t ∧ t.noHosts = u.noHosts ∧ s.answered t h (opcOf c) status result cont

/-- A command completes on `s` with an effect that may reach its own context too: exec answers the next state in which the
effect's state `u` has the command's one completion added, with a status, RESULT and continuation. -/
def State.does (s : State) (c : Instr) (h : Hdr) (u : State) (result : Nat := 0) (cont : List Word := []) (status : Byte := St.ok) : Prop :=
  exec c s = .next (s.keep (u.complete h (opcOf c) status result cont))

/-- The state with its dispatched commands replaced. -/
def State.setJobs (s : State) (l : List Job) : State := { s with jobs := l }

/-- A command begins on `s`: exec answers a next state in which it is the newest of the dispatched commands that have not
completed, everything else but the host contexts is as in `u`, and its context has no completion more. -/
def State.begins (s : State) (c : Instr) (h : Hdr) (u : State) : Prop :=
  ∃ (t : State) (j : Job), exec c s = .next t ∧ t.jobs = u.jobs ++ [j] ∧ j.cmd = c ∧ j.hdr = h ∧ j.wait = 0 ∧ j.aborts = [] ∧
    (t.setJobs u.jobs).noHosts = u.noHosts ∧ t.answers h.hc.val = s.answers h.hc.val

/-- It is a command's turn in a context that is not closed: it is the context's ready command of highest rank, the context is
served, and no gate refuses or holds it (spec/03, R50, R55; spec/04, R77, R82; spec/05, R117). -/
def State.runs (s : State) (h : Hdr) (c : Instr) : Bool := s.turn h c && !s.closed h.hc.val

end Sys2Proof.Machine
end

