-- ==== Sys2Proof/Certificates/Slice0/Obligations.lean ====
section
/-! DEFINITION. The statements for the provers, chapter by chapter. `runs` says that a command is its context's turn and no gate stops it;
`takes`, `does` and `begins` say that exec answers a next state and which. -/

open Sys2Proof Sys2Proof.Machine

/-! ### The queue, time and one-time memory -/

/-- A step takes the command at the front of the queue and runs it with the queue's rest; on an empty queue it is one tick of 10 ns (the
model's choice, log 1), in which one-time memory loses nothing.
Model: The tick on an empty queue is the model's choice (log 1). -/
def Obligations.StepRunsTheFrontCommand : Prop :=
  (∀ (c : Instr) (rest : List Instr) (s : State), step { s with pending := c :: rest } = exec c { s with pending := rest }) ∧
  (∀ s : State, s.pending = [] → step s = .next s.idle ∧ s.idle.now = s.now + 1 ∧ s.idle.pending = [] ∧ s.otp.leadsTo s.idle.otp)

/-- Every command runs, takes no time and leaves the queue alone: from every state, with every operand.
Model: That commands take no time is the model's choice (log 1). -/
def Obligations.EveryCommandRunsInNoTime : Prop :=
  ∀ (c : Instr) (s : State), ∃ t : State, exec c s = .next t ∧ t.pending = s.pending ∧ t.now = s.now

/-- What one-time memory has once held it holds after every step (spec/03, R56; spec/18, R384; spec/19, R442).
Model: That every command's outcome is passed through this rule is the model's reading (log 84). -/
def Obligations.OneTimeMemoryOnlyGrows : Prop :=
  ∀ (o : Otp) (s t : State), o.leadsTo s.otp → step s = .next t → o.leadsTo t.otp

/-- The machine at a power-up start, at VSUP valid (R5, R47, R156; log 6): no command waits; every register reads its reset value; AON,
CRK and the banks are On and no other domain; SYS and full service have not come; every channel is off, not commanded on and not
latched, with θ at 0; nothing is granted, logged, dispatched or armed; INH0 is high and INH1 floats (R337); and the one-time memory is one that a blank one may have become.
Model: Which domains are On at that instant is the model's reading (log 6); the reset values of fields without one are its choice (log 3). -/
def Obligations.ResetState : Prop :=
  State.reset.pending = [] ∧ (∀ a : Nat, State.reset.rd a = word (regDefault a)) ∧
    (∀ d : Nat, d < 24 → (State.reset.domOn d = true ↔ d = Dm.aon ∨ d = Dm.crk ∨ ∃ b : Nat, b < 8 ∧ d = Dm.bank b)) ∧
    State.reset.sysUp = false ∧ State.reset.serving = false ∧ State.reset.get pwrStart_phase = 0 ∧
    (∀ n : Nat, (State.reset.ch n).drive = .off ∧ (State.reset.ch n).cmdOn = false ∧ (State.reset.ch n).latched = false ∧ (State.reset.ch n).theta = 0) ∧
    (∀ n : Nat, (State.reset.hc n).queue = [] ∧ State.reset.answers n = []) ∧ State.reset.grants = [] ∧ State.reset.log = [] ∧
    State.reset.jobs = [] ∧ State.reset.slots = [] ∧ ({} : Otp).leadsTo State.reset.otp ∧ State.reset.inhHigh 0 = true ∧ State.reset.inhHigh 1 = false

/-- A command that a gate refuses completes with the gate's status, RESULT 0, and nothing else happens: ATOMIC or FENCE where the opcode
does not take it, a phase before full service that does not accept the command, the limp map in force, or a domain it needs that is
not On, without WAKE (R50, R55, R77, R78).
Model: A command that no push has queued counts as accepted in the same instant (log 8). -/
def Obligations.GatesRefuseWithoutEffect : Prop :=
  ∀ (s : State) (c : Instr) (h : Hdr) (st : Byte), hdrOf c = some h → s.serves h.hc.val = true → s.closed h.hc.val = false →
    (s.accepted h.hc.val c).pick h.hc.val [] (s.queueFor h.hc.val c) none = some c →
    (s.accepted h.hc.val c).inTurn h.hc.val c = true → s.gate h c = .refuse st → s.takes c h s 0 [] st

/-! ### Supplies, starts and resets (spec/03) -/

/-- The rows of the supply comparators, of a feed group's VBAT, of a start, and of the resets of SYS and their end (R31, R32, R44, R46
to R50, R57, R64).
Model: When the OTP is read is the model's reading (log 6), fault reports wait in the inbox (log 7). -/
def Obligations.SupplyAndStartRowsComplete : Prop :=
  (∀ s : State, s.vsup ≠ .valid → exec .vsupValid s = .next (s.keep (s.powerUp (if s.powerLost = true then 0 else 1)))) ∧
  (∀ s : State, (s.vsup = .valid → exec .vsupBelowAonHold s = .next (s.keep { s.powerDown with vsup := .belowAon, powerLost := true, regs := [] })) ∧
    (s.vsup ≠ .valid → exec .vsupBelowAonHold s = .next { s with vsup := .belowAon, powerLost := true, regs := [] })) ∧
  (∀ s : State, s.vsup = .valid →
    exec .vsupDip s = .next (s.keep { s.powerDown with vsup := .notValid }) ∧ s.powerDown.sysUp = false ∧ s.powerDown.serving = false ∧
      s.powerDown.flash = s.flash ∧ s.powerDown.keyArr = s.keyArr) ∧
  (∀ s : State, s.vsup = .valid → exec .vsupOvervoltage s = .next (s.keep (s.fault 0x87 0x18 0))) ∧
  (∀ s : State, exec .vioLow s = .next { s with vioOk := false, sdo := [] }) ∧
  (∀ s : State, exec .vioRise s = .next { s with vioOk := true }) ∧
  (∀ (g : Fin 2) (s : State), bitOf s.uvMask g.val = false →
    exec (.vbatUndervoltage g) s = .next (s.keep
      ((forEach ((List.range 32).map (fun k => 32 * g.val + k)) (fun n u => u.uvOff n)
        (({ s with uvMask := s.uvMask ||| 2 ^ g.val, degMask := s.degMask ||| 2 ^ g.val } : State).groupFault g.val 0x14)).release
          (fun x => feedOf x.ch == g.val)))) ∧
  (∀ (g : Fin 2) (s : State), bitOf s.uvMask g.val = true →
    exec (.vbatUvRecovery g) s = .next (s.keep (({ s with uvMask := setBits s.uvMask g.val g.val 0 } : State).uvBack g.val))) ∧
  (∀ (g : Fin 2) (s : State), exec (.vbatDegraded g) s = .next { s with degMask := s.degMask ||| 2 ^ g.val }) ∧
  (∀ (g : Fin 2) (s : State), bitOf s.degMask g.val = true → bitOf s.uvMask g.val = false →
    exec (.vbatDegradedEnd g) s = .next (s.keep (({ s with degMask := setBits s.degMask g.val g.val 0 } : State).olAfresh (banksOf g.val)))) ∧
  (∀ (g : Fin 2) (s : State), exec (.vbatOvervoltage g) s = .next { s with
    inbox := s.inbox ++ ((banksOf g.val).filter (fun b => s.domOn (Dm.bank b))).map (fun b => faultMsg (0x40 + b) 0x15 b) }) ∧
  (∀ (b : Fin 8) (s : State) (d : Nat), (s.bank b.val).limpDue = some d → d ≤ s.now → s.vsup = .valid → s.domOn (Dm.bank b.val) = true →
    let t := if s.get pwrStart_phase = 0 then (s.readOtp.put pwrStart_phase 1).put pwrStart_limp 1 else s
    exec (.limpMapApply b) s = .next (s.keep ((t.limpBank b.val (decide (2 ≤ t.get pwrStart_phase))).limpHold b.val))) ∧
  (∀ s : State, s.get pwrStart_phase = 1 → s.sysReturn = false → s.sysUp = false → s.rstLow = false → s.vsup = .valid →
    (List.range 8).all (fun b => (s.bank b).limpDue.isNone) = true →
    let t : State := { forEach [Dm.hif, Dm.sys] (fun d u => u.comesOn d) s with sysUp := true, serving := true }
    exec .basicService s = .next (s.keep
      ((t.put pwrStart_phase (if s.toVerone = true then 5 else if s.flash.copying.isSome = true then 4 else 2)).sysBack))) ∧
  (∀ (loads : List Bool) (s : State), s.get pwrStart_phase = 2 → s.sysUp = true → s.domOn Dm.sys = true → s.flash.copying.isNone = true →
    (s.sysAgain = false → exec (.fullService loads) s = .next (s.keep (s.fullService loads))) ∧
    (s.sysAgain = true → exec (.fullService loads) s = .next (s.keep s.sysReborn))) ∧
  (∀ (s : State) (d : Nat), s.devResetAt = some d → d ≤ s.now → s.vsup = .valid → exec .deviceResetStart s = .next (s.keep (s.powerUp 2))) ∧
  (∀ s : State, s.rstLow = false → exec .rstPin s = .next (s.keep (({ s with rstLow := true } : State).sysReset 3))) ∧
  (∀ s : State, exec .rstPinRelease s = .next { s with rstLow := false }) ∧
  (∀ s : State, s.vsup = .valid → s.domOn Dm.sys = true → s.rstLow = false → s.sysUp = true ∨ s.sysReturn = true ∨ 2 ≤ s.get pwrStart_phase →
    exec .watchdog s = .next (s.keep (s.sysDown 4)) ∧ exec .lockstep s = .next (s.keep (s.sysDown 5))) ∧
  (∀ (ecc : Bool) (codes : List Bool) (s : State), s.vsup = .valid → s.domOn Dm.sys = true → s.sysUp = false → s.sysReturn = false →
    s.rstLow = false → 2 ≤ s.get pwrStart_phase → exec (.resynchronisation ecc codes) s = .next (s.keep (s.resync ecc codes)))

/-- R51: with no slot of a good CRC every channel's entry is OFF and MAPBLANK is set; a programmed slot that fails its CRC posts
LIMP_MAP_CRC; in lifecycle state BLANK every entry is OFF. The map is read at the first step of a start (R47).
Model: That a failing slot posts its fault beside a good one is the model's reading (log 85); the fault waits in the inbox (log 7). -/
def Obligations.NoGoodSlotMeansEveryEntryOff : Prop :=
  (∀ s : State,
    let t := s.readOtp
    ((∀ x : LimpSlot, some x ∈ s.otp.slots → x.crcGood = false) →
      (∀ n : Nat, n < 64 → t.limpEntry n = 0 ∧ t.limpMode n = 0 ∧ t.limpOn n = false) ∧ t.flag pwrStart_mapblank = true) ∧
    (∀ (k : Nat) (x : LimpSlot), s.otp.slots[k]? = some (some x) → x.crcGood = false → faultMsg 0x83 0x1B k ∈ t.inbox) ∧
    (s.otp.lc = 0 → ∀ n : Nat, n < 64 → t.limpEntry n = 0 ∧ t.limpMode n = 0 ∧ t.limpOn n = false)) ∧
  (∀ (b : Fin 8) (s : State) (d : Nat), (s.bank b.val).limpDue = some d → d ≤ s.now → s.vsup = .valid → s.domOn (Dm.bank b.val) = true →
    s.get pwrStart_phase = 0 →
    let t := (s.readOtp.put pwrStart_phase 1).put pwrStart_limp 1
    exec (.limpMapApply b) s = .next (s.keep ((t.limpBank b.val false).limpHold b.val)))

/-- A SYS reset that is no storm and finds a COAST_TIME begins Coast hold: SYS is down, PWR_COAST.ACTIVE is set, the timer starts,
and no channel, bridge or grant changes (R57 to R60). -/
def Obligations.SysResetBeginsCoast : Prop :=
  ∀ (s : State) (cause : Nat), s.coastAt = none → s.get sysCoastcfg_coastTime ≠ 0 →
    (s.sysStartTimes.filter (fun x => decide (s.now < x + sec 10))).length < 2 → 3 ≤ cause → cause ≤ 9 →
    (s.sysDown cause).sysUp = false ∧ (s.sysDown cause).rdy = false ∧ (s.sysDown cause).flag pwrCoast_active = true ∧
      (s.sysDown cause).coastAt = some s.now ∧ (s.sysDown cause).coastTime = s.get sysCoastcfg_coastTime ∧
      (s.sysDown cause).chans = s.chans ∧ (s.sysDown cause).bridges = s.bridges ∧ (s.sysDown cause).grants = s.grants ∧
      (s.sysDown cause).get ⟨pwrRstcause_powerOn.addr, cause, cause⟩ = 1

/-- Coast hold and the links of the banks: the Coast timer's end applies the limp map; a bank whose link is lost enters Coast hold by itself,
whatever else is in force, and at the end of its backup timer of COAST_TIME + 1 ms drives its own limp entries; a link that returns ends
that hold; and the channels that follow a limp-home input act at its change (R7, R54, R61, R63).
Model: A bank whose link returns adopts its own limp outputs (the model's reading, log 83); fault reports wait in the inbox (log 7). -/
def Obligations.CoastRowsComplete : Prop :=
  (∀ (s : State) (a : Nat), s.coastAt = some a → a + ms s.coastTime ≤ s.now → s.domOn Dm.crk = true →
    exec .coastExpiry s = .next (s.keep s.coastExpire)) ∧
  (∀ (b : Fin 8) (s : State), (s.bank b.val).linkUp = true → s.domOn (Dm.bank b.val) = true →
    exec (.bankLinkLoss b) s = .next
      (((s.fault (0x40 + b.val) 0x13 b.val).modBank b.val (fun x => { x with
        linkUp := false, coastAt := some s.now, coastMs := if s.coastAt.isSome = true then s.coastTime else s.get sysCoastcfg_coastTime })).put
          ⟨pwrCoast_bankCoast.addr, 8 + b.val, 8 + b.val⟩ 1)) ∧
  (∀ (b : Fin 8) (s : State), (s.bank b.val).linkUp = false →
    let t := (s.modBank b.val (fun x => { x with linkUp := true, coastAt := none })).put ⟨pwrCoast_bankCoast.addr, 8 + b.val, 8 + b.val⟩ 0
    exec (.bankLinkReturn b) s = .next (s.keep
      (if s.flag pwrStart_limp = true then t.modBank b.val (fun x => { x with ownLimp := false })
        else (if (s.bank b.val).ownLimp = true then t.bankAdopt b.val else t).uvResume b.val).reexamine)) ∧
  (∀ (b : Fin 8) (s : State) (a : Nat), (s.bank b.val).coastAt = some a → a + ms ((s.bank b.val).coastMs + 1) ≤ s.now →
    exec (.bankCoastExpiry b) s = .next (s.keep
      (((s.modBank b.val (fun x => { x with coastAt := none, ownLimp := true })).put ⟨pwrCoast_bankCoast.addr, 8 + b.val, 8 + b.val⟩ 0).limpBank b.val true))) ∧
  (∀ (k : Fin 4) (high : Bool) (s : State), bitOf s.lhLevel k.val ≠ high →
    exec (.lhInputChange k high) s = .next (s.keep (({ s with lhLevel := setBits s.lhLevel k.val k.val (b2n high) } : State).lhFollowers k.val))) ∧
  (∀ (k : Fin 4) (high : Bool) (s : State), bitOf s.lhLevel k.val ≠ high → (∀ n : Nat, n < 64 → (s.ch n).follow = none) →
    exec (.lhInputChange k high) s = .next { s with lhLevel := setBits s.lhLevel k.val k.val (b2n high) })

/-! ### Commands that report (spec/04, R80) -/

/-- The commands that answer for the device, and those that answer for one unit, whoever owns it, change nothing else;
ANALOG_READ's code and the NET_STATS counters that no row brings are free (R80, R86, R143; spec/03, R68; spec/09, R195; spec/10, R217; spec/12, R260, R261, R272; spec/14, R318;
spec/17, R379; spec/18, R414).
Model: Log 8 (acceptance in the same instant), log 23 (PWR_STATUS), log 56 (free codes). -/
def Obligations.ReportsComplete : Prop :=
  (∀ (s : State) (h : Hdr), s.runs h (.nop h) = true → s.takes (.nop h) h s) ∧
  (∀ (s : State) (h : Hdr) (k : Nat), s.runs h (.barrier h) = true →
    ((s.queueFor h.hc.val (.barrier h)).find? (fun e => e.cmd == Instr.barrier h)).map (fun e => e.ahead) = some k →
    s.takes (.barrier h) h s k) ∧
  (∀ (s : State) (h : Hdr), s.runs h (.getStatus h) = true →
    s.takes (.getStatus h) h s ((s.taken h.hc.val (.getStatus h)).gsb + s.get pwrStart_phase * 0x100 + s.get (hcState_overQuota h.hc.val) * 0x800)) ∧
  (∀ (s : State) (h : Hdr), s.runs h (.getInfo h) = true →
    s.takes (.getInfo h) h s (s.get updCfgcrc_value)
      [Config.partCode, s.flash.active.version, word (s.get updCfgver_value), word (s.otp.lc + b2n s.dbgArr.isSome * 0x100)]) ∧
  (∀ (s : State) (h : Hdr), s.runs h (.pwrStatus h) = true →
    let t := s.taken h.hc.val (.pwrStatus h)
    s.takes (.pwrStatus h) h s (listMask ((List.range 24).filter (fun d => t.domCode d == 2))) [word (t.domWord 0), word (t.domWord 1), 0, 0]) ∧
  (∀ (s : State) (h : Hdr), s.runs h (.timeRead h) = true →
    s.takes (.timeRead h) h s (s.devTime % 2 ^ 32) (words64 (s.devTime : Int) ++ [0, 0])) ∧
  (∀ (s : State) (h : Hdr), s.runs h (.immState h) = true →
    let t := s.taken h.hc.val (.immState h)
    s.takes (.immState h) h s t.immResult
      ((List.range 4).map (fun j => word (t.tokEntry (2 * j) * 0x10000 + t.tokEntry (2 * j + 1))))) ∧
  (∀ (s : State) (h : Hdr), s.runs h (.swinRead h) = true →
    s.takes (.swinRead h) h s (s.get (swinState_state 0)) [word (s.get (swinState_state 1) % 256), 0, 0, 0]) ∧
  (∀ (s : State) (h : Hdr), s.runs h (.fieldRead h) = true →
    s.takes (.fieldRead h) h s.fqLimits (s.fiState + s.fqLimits.fqFlags * 0x10000)) ∧
  (∀ (s : State) (h : Hdr) (ch : Byte), s.runs h (.chStatus h ch) = true → ch.toNat ≤ 63 →
    let t := s.taken h.hc.val (.chStatus h ch)
    s.takes (.chStatus h ch) h s (t.chWord ch.toNat) (t.chStatCont ch.toNat)) ∧
  (∀ (s : State) (h : Hdr) (a : Byte), s.runs h (.axisRead h a) = true → a.toNat ≤ 7 →
    let t := s.taken h.hc.val (.axisRead h a)
    s.takes (.axisRead h a) h s (t.axStat a.toNat)
      (words64 (s.ax a.toNat).out ++ [word (t.axVel a.toNat)] ++ words64 (s.devTime : Int) ++ [0, 0, 0])) ∧
  (∀ (s : State) (h : Hdr) (n : Half), s.runs h (.spkRead h n) = true → n.toNat ≤ 4095 → s.slot n.toNat = none →
    s.takes (.spkRead h n) h s 0 (List.replicate 8 0)) ∧
  (∀ (s : State) (h : Hdr) (n : Half) (x : Slot), s.runs h (.spkRead h n) = true → n.toNat ≤ 4095 → s.slot n.toNat = some x →
    s.takes (.spkRead h n) h s ((s.taken h.hc.val (.spkRead h n)).slotCode n.toNat + x.owner * 8 + x.firings * 0x10000) ((List.range 8).map (fun k => x.rec_.getD k 0))) ∧
  (∀ (s : State) (h : Hdr) (ch : Byte), s.runs h (.leadRead h ch) = true → ch.toNat ≤ 63 →
    s.takes (.leadRead h ch) h s 0 ((List.range 8).map (fun k => s.rd (spkLead_word ch.toNat k).addr))) ∧
  (∀ (s : State) (h : Hdr) (p k : Byte) (ws : List Nat), s.runs h (.netStats h p k) = true →
    let t := s.noteT1s p.toNat
    t.netStatWords p.toNat k.toNat = some ws →
    s.takes (.netStats h p k) h t 0 (ws.map word ++ List.replicate ((4 - ws.length % 4) % 4) 0)) ∧
  (∀ (s : State) (h : Hdr) (i : Half) (c : Byte), s.runs h (.faultRead h i c) = true → 1 ≤ c.toNat → c.toNat ≤ 15 →
    s.takes (.faultRead h i c) h s ((s.log.reverse.drop i.toNat).drop c.toNat).length
      (((s.log.reverse.drop i.toNat).take c.toNat).flatMap FEntry.words)) ∧
  (∀ (s : State) (h : Hdr) (n : Byte), s.runs h (.analogRead h n) = true → n.toNat < 40 ∨ (64 ≤ n.toNat ∧ n.toNat < 68) →
    s.takes (.analogRead h n) h
      (s.drawNat.2.put (ana_code (if n.toNat < 40 then n.toNat else n.toNat - 24)) (s.drawNat.1 % 1024)) (s.drawNat.1 % 1024))

/-! ### System commands (spec/04, R80) -/

/-- The System commands that act (spec/03, R55 to R58; spec/05, R103 to R117; R87 to R89); an ABORT whose TAG names no packet of its
context that is queued or dispatched completes with COMPLETED_BEFORE_ABORT and changes nothing else.
Model: Log 8 (acceptance in the same instant), log 9 (order of checks), log 79 (SYS_RESET), log 78 (OWN_GRANT, HC_CLOSE). -/
def Obligations.SystemCommandsComplete : Prop :=
  (∀ (s : State) (h : Hdr), s.runs h (.limpRelease h) = true → s.sysHolder h.hc.val = true →
    s.get pwrStart_phase = 2 ∨ s.get pwrStart_phase = 3 → s.limpHeld = false →
    (s.flag pwrStart_limp = true →
      exec (.limpRelease h) s = .next (s.keep ((s.taken h.hc.val (.limpRelease h)).limpEnd.complete h 0x05 St.ok 0))) ∧
    (s.flag pwrStart_limp = false → s.takes (.limpRelease h) h s)) ∧
  (∀ (s : State) (h : Hdr) (es : List Half) (bases coast : Half), s.runs h (.limpMapProgram h es bases coast) = true →
    limpMapOk es coast = true → h.hc = 0 → s.otp.lc = 1 ∨ s.otp.lc = 3 → s.otp.freeSlot.isSome = true →
    s.begins (.limpMapProgram h es bases coast) h s) ∧
  (∀ (s : State) (h : Hdr), s.runs h (.sysReset h 0) = true →
    exec (.sysReset h 0) s = .next (s.keep
      (((s.taken h.hc.val (.sysReset h 0)).complete { h with notify := true } 0x07 St.ok 0).sysDown 7))) ∧
  (∀ (s : State) (h : Hdr), s.runs h (.sysReset h 1) = true →
    let u := (s.taken h.hc.val (.sysReset h 1)).complete { h with notify := true } 0x07 St.ok 0
    exec (.sysReset h 1) s = .next (s.keep { u.summaryWrite with devResetAt := some (u.now + ms 1) }) ∧ u.now = s.now) ∧
  (∀ (s : State) (h : Hdr) (kind : Byte) (first count : Half) (dest : Byte),
    let c := Instr.ownGrant h kind first count dest
    let r := (s.taken h.hc.val c).hand h.hc.val kind.toNat first.toNat count.toNat (some dest.toNat) true
    s.runs h c = true → resRange kind.toNat first.toNat count.toNat = true → dest.toNat ≤ 7 → kind ≠ 2 →
    s.closed dest.toNat = false → s.bound dest.toNat = true →
    exec c s = .next (s.keep (r.1.complete h 0x08 r.2.1 r.2.2))) ∧
  (∀ (s : State) (h : Hdr) (kind : Byte) (first count : Half),
    let c := Instr.ownRelease h kind first count
    let r := (s.taken h.hc.val c).hand h.hc.val kind.toNat first.toNat count.toNat (if kind = 4 ∨ kind = 5 then none else some 0) false
    s.runs h c = true → resRange kind.toNat first.toNat count.toNat = true → kind ≠ 2 →
    exec c s = .next (s.keep (r.1.complete h 0x09 r.2.1 r.2.2))) ∧
  (∀ (s : State) (h : Hdr) (first count : Half) (dest : Byte), dest.toNat ≤ 7 → resRange 2 first.toNat count.toNat = true →
    let r (c : Instr) := (s.taken h.hc.val c).handSlots h.hc.val first.toNat count.toNat
    (s.runs h (.ownGrant h 2 first count dest) = true →
      exec (.ownGrant h 2 first count dest) s = .next (s.keep
        ((r (.ownGrant h 2 first count dest)).1.complete h 0x08 St.ok (r (.ownGrant h 2 first count dest)).2.2))) ∧
    (s.runs h (.ownRelease h 2 first count) = true →
      exec (.ownRelease h 2 first count) s = .next (s.keep
        ((r (.ownRelease h 2 first count)).1.complete h 0x09 St.ok (r (.ownRelease h 2 first count)).2.2)))) ∧
  (∀ (s : State) (h : Hdr) (hc item : Byte) (value : Word),
    let c := Instr.quotaSet h hc item value
    let r := (s.taken h.hc.val c).quotaSet h.hc.val hc.toNat item.toNat value.toNat
    s.runs h c = true → s.sysHolder h.hc.val = true → hc.toNat ≤ 7 → item.toNat ≤ 7 →
    (quotaRange item.toNat).1 ≤ value.toNat → value.toNat ≤ (quotaRange item.toNat).2 →
    exec c s = .next (s.keep (r.1.complete h 0x0A St.ok ((s.taken h.hc.val c).quotaUse hc.toNat item.toNat))) ∧
      r.1.quota hc.toNat item.toNat = value.toNat) ∧
  (∀ (s : State) (h : Hdr) (hc : Byte),
    let c := Instr.hcClose h hc
    let r := (s.taken h.hc.val c).closeHc hc.toNat
    s.runs h c = true → s.sysHolder h.hc.val = true → 1 ≤ hc.toNat → hc.toNat ≤ 7 → hc.toNat ≠ h.hc.val →
    (s.closed hc.toNat = false → exec c s = .next (s.keep (r.1.complete h 0x0B St.ok r.2))) ∧
    (s.closed hc.toNat = true → s.takes c h s)) ∧
  (∀ (s : State) (h : Hdr) (tag : Half), s.runs h (.abort h tag) = true →
    exec (.abort h tag) s = .next (s.keep ((s.taken h.hc.val (.abort h tag)).abortBy h tag))) ∧
  (∀ (s : State) (h : Hdr) (tag : Half), s.runs h (.abort h tag) = true → s.jobs = [] →
    (∀ e ∈ ((s.taken h.hc.val (.abort h tag)).hc h.hc.val).queue, ∀ x : Hdr, hdrOf e.cmd = some x → x.tag ≠ tag) →
    (∀ b ∈ (s.hc h.hc.val).bad, b.hdr.tag ≠ tag) →
    s.takes (.abort h tag) h s 0 [] St.tooLate)

/-! ### Outputs (spec/06 to spec/08) -/

/-- How a turn-on by a command or an event meets a channel (R114, R161, R174, R154, R455): which case holds, in order.
Model: The channel that waits out its minimum off time after a CH_OFF is the model's reading (log 16). -/
def Obligations.TurnOnMeetsTheChannel : Prop :=
  ∀ (s : State) (n : Nat), let c := s.ch n
    (c.disabled = true → s.onCase n = .refuse St.badState) ∧
    (c.disabled = false → c.follow.isSome = true → s.onCase n = .refuse St.badState) ∧
    (c.disabled = false → c.follow = none → c.latched = true → s.onCase n = .refuse St.locked) ∧
    (c.disabled = false → c.follow = none → c.latched = false →
      (c.cooling = true → s.onCase n = .later) ∧
      (c.cooling = false → c.drive ≠ .off → s.onCase n = .already) ∧
      (c.cooling = false → c.drive = .off → s.uvCh n = true → s.onCase n = .later) ∧
      (c.cooling = false → c.drive = .off → s.uvCh n = false → c.tripped = true → s.now < c.coolEnd → s.onCase n = .later) ∧
      (c.cooling = false → c.drive = .off → s.uvCh n = false → (c.tripped = false ∨ c.coolEnd ≤ s.now) →
        ((s.pairOf n).any s.tooHot = true → s.onCase n = .later) ∧ ((s.pairOf n).any s.tooHot = false → s.onCase n = .ask)))

/-- CH_ON: every named channel in rising order, or with ATOMIC one request for the sum. One channel of a CH_ON without ATOMIC is refused
with NOT_OWNER or its case's status, committed at once with no edge or where it is driven already, or asked for (R84, R161, R174,
R240, R241).
Model: Log 8 (acceptance in the same instant), log 9 (order of checks), log 16 (minimum off time). -/
def Obligations.ChOnCompletes : Prop :=
  (∀ (s : State) (h : Hdr) (mask : Dword),
    let c := Instr.chOn h mask
    let u := (s.taken h.hc.val c).addJob h c mask.toNat
    s.runs h c = true → h.atomic = false → mask ≠ 0 →
    exec c s = .next (s.keep (forEach (maskList 64 mask.toNat) (fun n v => v.chOnOne h u.1 n) u.2))) ∧
  (∀ (s : State) (h : Hdr), s.runs h (.chOn h 0) = true →
    let u := (s.taken h.hc.val (.chOn h 0)).addJob h (.chOn h 0) 0
    h.atomic = false → exec (.chOn h 0) s = .next (s.keep (u.2.settle u.1))) ∧
  (∀ (s : State) (h : Hdr) (mask : Dword),
    let c := Instr.chOn h mask
    let cs := maskList 64 mask.toNat
    let u := (s.taken h.hc.val c).addJob h c (listMask cs)
    s.runs h c = true → h.atomic = true → mask ≠ 0 →
    (∀ n ∈ cs, s.owns h.hc.val 0 n = true ∧ (s.taken h.hc.val c).onCase n = .ask) →
    exec c s = .next (s.keep (u.2.request (.job u.1) (cs.map (fun n => (n, s.budgetI n)))
      ((cs.map (s.taken h.hc.val c).chPrio).foldl min 2) (some h.hc.val) (some ((cs.map (s.taken h.hc.val c).chDefer).foldl min 255)) true))) ∧
  (∀ (s : State) (h : Hdr) (mask : Dword),
    let c := Instr.chOn h mask
    let u := (s.taken h.hc.val c).addJob h c 0
    s.runs h c = true → h.atomic = true →
    (∀ n ∈ maskList 64 mask.toNat, s.owns h.hc.val 0 n = true ∧
      ((s.taken h.hc.val c).onCase n = .already ∨ (s.taken h.hc.val c).onCase n = .later)) →
    exec c s = .next (s.keep ((forEach (maskList 64 mask.toNat) (fun n v => v.commitNow n) u.2).settle u.1))) ∧
  (∀ (s : State) (h : Hdr) (id n : Nat),
     (s.owns h.hc.val 0 n = false → s.chOnOne h id n = s.jobFail id n St.notOwner) ∧
     (s.owns h.hc.val 0 n = true →
       (∀ st : Byte, s.onCase n = .refuse st → s.chOnOne h id n = s.jobFail id n st) ∧
       (s.onCase n = .later → s.chOnOne h id n = ((s.dropActs n).commitLater n).jobSkip id n ∧
         ((s.commitLater n).ch n).cmdOn = true ∧ ((s.commitLater n).ch n).drive = (s.ch n).drive) ∧
       (s.onCase n = .already → s.isOn n = true →
         s.chOnOne h id n = ((s.dropActs n).modCh n (fun c => { c with cmdOn := true })).jobSkip id n) ∧
       (s.onCase n = .already → s.isOn n = false → s.chOnOne h id n = ((s.dropActs n).stayOn n).jobDone id n) ∧
       (s.onCase n = .ask →
         s.chOnOne h id n = s.request (.job id) [(n, s.budgetI n)] (s.chPrio n) (some h.hc.val) (some (s.chDefer n)))))

/-- CH_OFF, CH_CLEAR_LATCH and CH_DISABLE: every named channel in rising order, RESULT the number changed, of the last two 0 where a channel failed (R78, R84, R161, R174, R114).
Model: Log 8 (acceptance in the same instant). -/
def Obligations.MaskCommandsComplete : Prop :=
  (∀ (s : State) (h : Hdr) (mask : Dword),
    let c := Instr.chOff h mask
    let t := s.taken h.hc.val c
    let on := (maskList 64 mask.toNat).filter (fun n => (s.ch n).drive != .off)
    let r := t.overMaskCh mask.toNat (fun v n => v.chOffOne h on n)
    s.runs h c = true → h.atomic = false ∨ (∀ n ∈ maskList 64 mask.toNat, t.chOffRefusal h n = none) →
    s.does c h r.1 (popCount r.2.2) (maskCont r.2.2) r.2.1) ∧
  (∀ (s : State) (h : Hdr) (mask : Dword) (st : Byte),
    let c := Instr.chOff h mask
    s.runs h c = true → h.atomic = true →
    (maskList 64 mask.toNat).findSome? (fun n => (s.taken h.hc.val c).chOffRefusal h n) = some st →
    s.takes c h s 0 (maskCont 0) st) ∧
  (∀ (s : State) (h : Hdr) (mask : Dword),
    let c := Instr.chClearLatch h mask
    let t := s.taken h.hc.val c
    let held := (maskList 64 mask.toNat).filter (fun n => (s.ch n).latched)
    let r := t.overMaskCh mask.toNat (fun v n => v.clearLatchOne h held n)
    s.runs h c = true → s.does c h r.1 (if r.2.1 = St.ok then popCount r.2.2 else 0) [] r.2.1) ∧
  (∀ (s : State) (h : Hdr) (mask : Dword),
    let c := Instr.chDisable h mask
    let t := s.taken h.hc.val c
    let was := (maskList 64 mask.toNat).filter (fun n => !(s.ch n).disabled)
    let r := t.overMaskCh mask.toNat (fun v n => v.chDisableOne h was n)
    s.runs h c = true → s.does c h r.1 (if r.2.1 = St.ok then popCount r.2.2 else 0) [] r.2.1)

/-- CH_SET_DUTY, CH_CONFIG, CH_FOLLOW_LH, BANK_BASE and MOTOR_STOP where their checks pass (R142, R169, R171, R173, R174, R188).
Model: Log 8 (acceptance in the same instant), log 9 (order of checks), log 14 (BRIDGE). -/
def Obligations.ChannelSettingsComplete : Prop :=
  (∀ (s : State) (h : Hdr) (ch base : Byte) (duty : Half) (phase : Byte),
    let c := Instr.chSetDuty h ch base duty phase
    s.runs h c = true → ch.toNat ≤ 63 → base.toNat ≤ 3 → duty.toNat ≤ 0xFFF →
    s.owns h.hc.val 0 ch.toNat = true → (s.ch ch.toNat).disabled = false →
    s.takes c h (s.setDuty ch.toNat duty.toNat phase.toNat base.toNat)) ∧
  (∀ (s : State) (h : Hdr) (ch : Byte) (record : List Word),
    let c := Instr.chConfig h ch record
    let t := s.taken h.hc.val c
    let n := ch.toNat
    let ws := t.mirrorBridge n record
    s.runs h c = true → n ≤ 63 → record.length = 8 → onlyFields chFields record = true →
    chRecOk (chClass n) (s.get (govBudget_budget (t.govOf n))) ws = true → s.owns h.hc.val 0 n = true →
    setField ws 0 31 31 = 0 ∨ t.safeHeld n = false → chClass n ≠ .HB ∨ (setField ws 0 30 30 == 1) = s.bridged n ∨ t.pairOff n = true →
    s.does c h (t.chCommit n ws)) ∧
  (∀ (s : State) (h : Hdr) (ch lhsel inv : Byte),
    let c := Instr.chFollowLh h ch lhsel inv
    let t := s.taken h.hc.val c
    s.runs h c = true → ch.toNat ≤ 63 → inv.toNat ≤ 1 → s.bridged ch.toNat = false ∨ ch.toNat % 2 = 0 → s.owns h.hc.val 0 ch.toNat = true →
    (lhsel.toNat ≤ 3 → s.does c h (t.startFollow ch.toNat lhsel.toNat (inv = 1))) ∧
    (lhsel = 0xFF → (s.ch ch.toNat).follow.isSome = true → s.does c h (t.endFollow ch.toNat)) ∧
    (lhsel = 0xFF → (s.ch ch.toNat).follow = none → s.takes c h s)) ∧
  (∀ (s : State) (h : Hdr) (bank : Byte) (freq : Half),
    let c := Instr.bankBase h bank freq
    let p := (rnear 100000000 (freq.toNat : Int)).toNat
    s.runs h c = true → bank.toNat ≤ 7 → 25 ≤ freq.toNat → freq.toNat ≤ 25000 →
    (∀ k : Nat, k < 8 → s.owns h.hc.val 0 (8 * bank.toNat + k) = true) →
    s.takes c h (s.setBase bank.toNat p) (rnear 100000000 (p : Int)).toNat) ∧
  (∀ (s : State) (h : Hdr) (bridge mode : Byte),
    let c := Instr.motorStop h bridge mode
    let n := 48 + 2 * bridge.toNat
    s.runs h c = true → bridge.toNat ≤ 7 → mode.toNat ≤ 1 → s.owns h.hc.val 0 n = true → s.owns h.hc.val 0 (n + 1) = true →
    s.bridged n = true → s.does c h ((s.taken h.hc.val c).stopMotor bridge.toNat 2 (mode = 1)))

/-- CH_PULSE, CH_START_PROFILE and MOTOR_TARGET where their checks pass: the turn-on is asked for, with the channel's priority and
deferral limit; it commits at once with no edge; or, where the output is on, the new work takes over without budget
(R175, R177 to R179, R161, R188, R189).
Model: Log 8 (acceptance in the same instant), log 9 (order of checks), log 15 (MOTOR_TARGET). -/
def Obligations.TimedOutputsComplete : Prop :=
  (∀ (s : State) (h : Hdr) (ch : Byte) (width : Word),
    let c := Instr.chPulse h ch width
    let t := s.taken h.hc.val c
    let n := ch.toNat
    let u := t.addJob h c
    s.runs h c = true → n ≤ 63 → 20 ≤ width.toNat → width.toNat ≤ 60000000 → s.owns h.hc.val 0 n = true →
    (t.onCase n = .ask → exec c s = .next (s.keep
      (u.2.request (.job u.1) [(n, s.budgetI n)] (s.chPrio n) (some h.hc.val) (some (s.chDefer n))))) ∧
    (t.onCase n = .later → s.does c h ((t.dropActs n).storePulse n width.toNat)) ∧
    (t.onCase n = .already → s.takes c h s 0 [] St.badState)) ∧
  (∀ (s : State) (h : Hdr) (ch profile : Byte) (k : Half),
    let c := Instr.chStartProfile h ch profile k
    let t := s.taken h.hc.val c
    let n := ch.toNat
    let set := s.pset n k.toNat
    let u := t.addJob h c
    s.runs h c = true → n ≤ 63 → t.profileCheck n profile.toNat k.toNat = none → s.owns h.hc.val 0 n = true →
    (t.onCase n = .later → s.does c h ((t.dropActs n).storeProfile n profile.toNat set)) ∧
    (t.parkedSet profile.toNat set = true → t.onCase n = .ask ∨ t.onCase n = .already →
      s.does c h ((t.dropActs n).parkNow n).reexamine) ∧
    (t.parkedSet profile.toNat set = false → t.onCase n = .already →
      exec c s = .next (s.keep (((u.2.dropActs n).preempt n).startProfile n profile.toNat set (some u.1) false))) ∧
    (t.parkedSet profile.toNat set = false → t.onCase n = .ask →
      exec c s = .next (s.keep (u.2.request (.job u.1) [(n, s.budgetI n)] (s.chPrio n) (some h.hc.val) (some (s.chDefer n)))))) ∧
  (∀ (s : State) (h : Hdr) (bridge axis : Byte) (duty : Half) (target : Dword),
    let c := Instr.motorTarget h bridge axis duty target
    let t := s.taken h.hc.val c
    let k := bridge.toNat
    let n := 48 + 2 * k
    let u := t.addJob h c
    s.runs h c = true → k ≤ 7 → axis.toNat ≤ 7 → duty.toNat ≤ 0xFFF → motorSetFor (s.pset n 0) axis.toNat = true →
    s.owns h.hc.val 0 n = true → s.owns h.hc.val 0 (n + 1) = true → s.bridged n = true → (s.bank (bankOf n)).storeOk = true →
    (t.onCase n = .later → s.does c h ((t.dropActs n).storeMove k (t.moveOf k axis.toNat duty.toNat target.toNat none)) (unsigned 32 (t.axOut axis.toNat))) ∧
    (t.onCase n = .ask ∨ t.onCase n = .already → t.isOn n = false →
      exec c s = .next (s.keep (u.2.request (.job u.1) [(n, s.budgetI n)] (s.chPrio n) (some h.hc.val) (some (s.chDefer n))))) ∧
    (t.onCase n = .already → t.isOn n = true →
      exec c s = .next (s.keep (((u.2.dropActs n).preempt n).startMove k (t.moveOf k axis.toNat duty.toNat target.toNat (some u.1))).reexamine)))

/-- CH_SET_DUTY stores its values for the period after next and leaves the running ones (R171): the registers read as written, the
pending bit says whether the channel drives, and no channel's duty, phase or divider in use changes. -/
def Obligations.SetDutyStoresTheNextPeriod : Prop :=
  ∀ (s : State) (n duty phase div : Nat), n < 64 → duty ≤ 0xFFF → phase ≤ 0xFF → div ≤ 3 →
    let t := s.setDuty n duty phase div
    t.get (bankPwm_duty (n / 8) (n % 8)) = duty ∧ t.get (bankPwm_phase (n / 8) (n % 8)) = phase ∧ t.get (bankPwm_div (n / 8) (n % 8)) = div ∧
      (t.get (bankPwm_pending (n / 8) (n % 8)) = 1 ↔ (s.ch n).drive ≠ .off) ∧
      (∀ m : Nat, (t.ch m).duty = (s.ch m).duty ∧ (t.ch m).phase = (s.ch m).phase ∧ (t.ch m).div = (s.ch m).div ∧ (t.ch m).drive = (s.ch m).drive)

/-- A turn-on edge of a channel outside a bridge (R149, R150, R170, R171): it drives at its stored duty, at once fully on at 0xFFF and
with the next period in PWM below; the inrush regime starts with the edge for INRUSH_TIME, at a restart as it stood at the last turn-on
from OFF, where that is not 0; no other channel changes. -/
def Obligations.TurnOnEdge : Prop :=
  ∀ (s : State) (n : Nat), n < 64 → s.bridged n = false → (s.ch n).drive = .off →
    let t := s.turnOn n
    let c := t.ch n
    let e := if s.get (bankPwm_duty (n / 8) (n % 8)) = 0xFFF then s.now else (s.applyPwm n).nextOn n
    let w := if (s.ch n).cooling = true ∧ (s.ch n).tripped = true then (s.ch n).inrTime else s.inrushTime n
    c.drive = dutyDrive (s.get (bankPwm_duty (n / 8) (n % 8))) ∧ c.duty = s.get (bankPwm_duty (n / 8) (n % 8)) ∧ c.cmdOn = true ∧
      c.edgeAt = e ∧ c.inrushEnd = e + ms w ∧
      (c.inrush = true ↔ w ≠ 0 ∧ chClass n ≠ .HB) ∧ c.cooling = false ∧ c.limiting = false ∧
      (∀ m : Nat, m ≠ n → t.ch m = s.ch m) ∧ t.grants = s.grants ∧ t.bridges = s.bridges

/-! ### Crank (spec/09) -/

/-- AXIS_CONFIG, AXIS_WRITE, AXIS_PUBLISH and LEAD_SET where their checks pass, and the axis events (R197, R199, R200, R204, R205, R208,
R224).
Model: Log 8 (acceptance in the same instant), log 9 (order of checks), log 11 (axis records and the tracker). -/
def Obligations.CrankRowsComplete : Prop :=
  (∀ (s : State) (h : Hdr) (axis : Byte) (record : List Word),
    let c := Instr.axisConfig h axis record
    s.runs h c = true → axis.toNat ≤ 7 → record.length = 8 → axRecOk record = true → s.owns h.hc.val 1 axis.toNat = true →
    s.does c h ((s.taken h.hc.val c).axCommit axis.toNat record)) ∧
  (∀ (s : State) (h : Hdr) (axis : Byte) (pos : Dword),
    let c := Instr.axisWrite h axis pos
    let t := s.taken h.hc.val c
    s.runs h c = true → axis.toNat ≤ 7 → s.owns h.hc.val 1 axis.toNat = true →
    (s.axSource axis.toNat = 8 →
      s.does c h ((t.modAx axis.toNat (fun a => { a with saturated := false })).axMeasure axis.toNat (t.axInv axis.toNat pos.toInt * 65536) s.devTime)) ∧
    (s.axSource axis.toNat ≠ 8 → s.does c h (t.axPreset axis.toNat pos.toInt 1))) ∧
  (∀ (s : State) (h : Hdr) (axis enable : Byte),
    let c := Instr.axisPublish h axis enable
    s.runs h c = true → axis.toNat ≤ 7 → enable.toNat ≤ 1 → s.owns h.hc.val 1 axis.toNat = true →
    s.takes c h (s.put ⟨crankPublish_axes.addr, axis.toNat, axis.toNat⟩ enable.toNat)) ∧
  (∀ (s : State) (h : Hdr) (ch : Byte) (table : List Word),
    let c := Instr.leadSet h ch table
    s.runs h c = true → ch.toNat ≤ 63 → table.length = 8 → leadRecOk table = true → s.owns h.hc.val 0 ch.toNat = true →
    s.takes c h (forEach (List.range 8) (fun k u => u.wr (spkLead_word ch.toNat k).addr (table.getD k 0)) s)) ∧
  (∀ (n : Fin 8) (a b up : Bool) (s : State), s.domOn Dm.crk = true → axIsEdge (s.axSource n.val) = true → s.axSource n.val ≠ 2 ∨ s.fieldLive = true →
    s.axSource n.val ≠ 3 ∨ (s.swinCont (2 * s.axf n.val 0 23 16) = true ∧ s.swinCont (2 * s.axf n.val 0 23 16 + 1) = true) →
    s.axFilt n.val = 0 →
    let inv (k : Nat) : Bool := s.axSource n.val == 2 && s.fif (2 * s.axf n.val 0 23 16 + k) 25 25 == 1
    edgeDecode (s.axf n.val 0 25 24) ((s.ax n.val).a != inv 0) ((s.ax n.val).b != inv 1) (a != inv 0) (b != inv 1) = (some up, false) →
    exec (.encoderCount n a b) s = .next (s.keep ((s.modAx n.val (fun x => { x with a := a, b := b })).axCount n.val (up != (s.axf n.val 0 15 15 == 1))
      (s.devTime - (if s.axSource n.val = 1 then 0 else s.pairDelay (s.axSource n.val) (s.axf n.val 0 23 16) ((s.ax n.val).a == a)))))) ∧
  (∀ (n : Fin 8) (a b : Bool) (s : State), s.domOn Dm.crk = true → axIsEdge (s.axSource n.val) = true → s.axSource n.val ≠ 2 ∨ s.fieldLive = true →
    s.axSource n.val ≠ 3 ∨ (s.swinCont (2 * s.axf n.val 0 23 16) = true ∧ s.swinCont (2 * s.axf n.val 0 23 16 + 1) = true) → s.axFilt n.val ≠ 0 →
    let t := s.axSettle n.val
    exec (.encoderCount n a b) s = .next (s.keep (t.modAx n.val (fun x => { x with
      edgeA := filtEdge s.devTime (t.ax n.val).a a x.edgeA, edgeB := filtEdge s.devTime (t.ax n.val).b b x.edgeB })))) ∧
  (∀ (n : Fin 8) (a b : Bool) (s : State), s.domOn Dm.crk = true → axIsEdge (s.axSource n.val) = true → s.axSource n.val ≠ 2 ∨ s.fieldLive = true →
    s.axSource n.val ≠ 3 ∨ (s.swinCont (2 * s.axf n.val 0 23 16) = true ∧ s.swinCont (2 * s.axf n.val 0 23 16 + 1) = true) →
    s.axFilt n.val = 0 →
    let inv (k : Nat) : Bool := s.axSource n.val == 2 && s.fif (2 * s.axf n.val 0 23 16 + k) 25 25 == 1
    edgeDecode (s.axf n.val 0 25 24) ((s.ax n.val).a != inv 0) ((s.ax n.val).b != inv 1) (a != inv 0) (b != inv 1) = (none, true) →
    let l := s.devTime :: (s.ax n.val).qerrs.filter (fun e => decide (s.devTime < e + sec 1))
    let t := (s.modAx n.val (fun x => { x with a := a, b := b })).inc (axDiag_qerr n.val)
    (l.length < 16 → exec (.encoderCount n a b) s = .next (s.keep (t.modAx n.val (fun x => { x with qerrs := l })))) ∧
    (16 ≤ l.length → exec (.encoderCount n a b) s = .next (s.keep ((t.modAx n.val (fun x => { x with qerrs := [] })).fault (0x58 + n.val) 0x20 n.val)))) ∧
  (∀ (n : Fin 8) (s : State), s.domOn Dm.crk = true → axIsEdge (s.axSource n.val) = true →
    (s.ax n.val).heardAt + s.axTimeout n.val ≤ s.now →
    (s.ax n.val).st = .init ∨ (s.ax n.val).st = .tracking ∨ (s.ax n.val).st = .reversing →
    exec (.standstill n) s = .next (s.keep (s.modAx n.val (fun x => { x with st := .standstill, v := 0 })))) ∧
  (∀ (n : Fin 8) (s : State), s.domOn Dm.crk = true → axIsMsg (s.axSource n.val) = true →
    (s.ax n.val).heardAt + s.axTimeout n.val ≤ s.now → (s.ax n.val).st ≠ .sourceLost → (s.ax n.val).st ≠ .extrapolating →
    (s.axf n.val 3 23 22 = 1 → exec (.crankSource n) s = .next (s.keep ((s.fault (0x58 + n.val) 0x21 n.val).modAx n.val (fun x =>
      { x with st := .extrapolating, lostAt := s.now })))) ∧
    (s.axf n.val 3 23 22 ≠ 1 → exec (.crankSource n) s = .next (s.keep ((s.fault (0x58 + n.val) 0x21 n.val).modAx n.val (fun x =>
      { x with st := .sourceLost, v := 0, lostAt := s.now }))))) ∧
  (∀ (n : Fin 8) (s : State), s.domOn Dm.crk = true → (s.ax n.val).st = .extrapolating →
    (s.ax n.val).lostAt + ms (s.axf n.val 4 31 16) ≤ s.now →
    exec (.extrapolationEnd n) s = .next (s.keep (s.modAx n.val (fun x => { x with st := .sourceLost, v := 0 }))))

/-- A preset within a linear axis's range puts the tracker and the output of an axis without edges at the position, and no other
axis moves (R195, R205, R206).
Model: Log 11 (the held output). -/
def Obligations.AxisPresetSetsThePosition : Prop :=
  ∀ (s : State) (n : Nat) (pos : Int), n < 8 → s.axKind n ≠ 1 → -(2 ^ 47) < pos → pos < 2 ^ 47 - 1 → axIsEdge (s.axSource n) = false →
    let t := (s.modAx n (fun a => { a with saturated := false, z := pos * 65536, baseX := pos * 65536, baseT := s.devTime })).axMove n (pos * 65536) .asIs
    (t.ax n).out = pos ∧ (t.ax n).x = pos * 65536 ∧ (t.ax n).saturated = false ∧ (∀ m : Nat, m ≠ n → t.ax m = s.ax m)

/-! ### Sprocket (spec/10) -/

/-- SPK_ARM and SPK_CANCEL, and the Sprocket events: the tracker's tick, the next due event's firing, and a grant that goes back
(R206, R216, R220 to R222, R229, R235).
Model: Log 8 (acceptance in the same instant), log 9 (order of checks). -/
def Obligations.SprocketRowsComplete : Prop :=
  (∀ (s : State) (h : Hdr) (slot : Half) (record : List Word),
    let c := Instr.spkArm h slot record
    let t := s.taken h.hc.val c
    let u := t.addJob h c
    s.runs h c = true → t.armRefusal h.hc.val slot.toNat record = none →
    exec c s = .next (s.keep ((u.2.setOwner 2 slot.toNat (some h.hc.val)).setSlot slot.toNat (some (mkSlot h.hc.val u.1 record))))) ∧
  (∀ (s : State) (h : Hdr) (first count : Half),
    let c := Instr.spkCancel h first count
    let t := s.taken h.hc.val c
    let mine := s.armed.filter (fun n => decide (first.toNat ≤ n) && decide (n < first.toNat + count.toNat) &&
      (match s.slot n with | some x => x.owner == h.hc.val && x.st != .done | none => false))
    s.runs h c = true → s.does c h (forEach mine (fun n u => u.cancelSlot n St.cancelled) t) mine.length) ∧
  (∀ s : State, s.domOn Dm.crk = true → s.tickAt + us 1 ≤ s.now →
    let t := (forEach (List.range 8) (fun n u => if (u.ax n).st = .noSource then u else u.axAdvance n)
      ({ s with tickAt := s.tickAt + us 1 } : State)).dropCrossed
    exec .trackerTick s = .next (s.keep
      (forEach (List.range 8) (fun n u => u.modAx n (fun a => { a with outWas := a.out })) (forEach t.armed (fun n u => u.spkEval n) t)))) ∧
  (∀ (n : Fin 4096) (s : State) (x : Slot) (r at_ : Nat), s.slot n.val = some x → x.due = some (r, at_) → s.domOn Dm.crk = true →
    s.nextDue = some n.val → s.fireRate = true →
    exec (.sprocketFire n) s = .next (s.keep (if r ≠ 4 ∧ r ≠ 6 ∧ at_ + us 1 < s.now then (s.inc spkLoad_overload).spkFire n.val x 6
      else s.spkFire n.val x r))) ∧
  (∀ (n : Fin 4096) (s : State) (x : Slot) (g : Nat), s.slot n.val = some x → x.granted = some g → x.st = .requesting → x.due = none →
    g + us 100 ≤ s.now →
    exec (.spkGrantReturn n) s = .next (s.keep ((s.setSlot n.val (some { x with st := .armed, granted := none })).spkReturn n.val)))

/-- The checks of SPK_ARM in their order (R216).
Model: The order of checks where R216 gives none is the model's reading (log 9). -/
def Obligations.SpkArmRefusals : Prop :=
  ∀ (s : State) (hc n : Nat) (ws : List Word),
    let x := mkSlot hc 0 ws
    let bad := 4095 < n ∨ ws.length ≠ 8 ∨ s.slotRecOk ws = false
    (bad → s.armRefusal hc n ws = some St.badParam) ∧
    (¬ bad →
      (∀ y : Slot, s.slot n = some y → s.armRefusal hc n ws = some (if y.owner = hc then St.badState else St.notOwner)) ∧
      (s.slot n = none →
        (s.actionOwned hc x = false → s.armRefusal hc n ws = some St.notOwner) ∧
        (s.actionOwned hc x = true →
          (s.quota hc 1 ≤ s.countClaimed hc 2 → s.armRefusal hc n ws = some St.overQuota) ∧
          (s.countClaimed hc 2 < s.quota hc 1 → s.flag (hcState_overQuota hc) = false →
            (x.power = true → s.flag pwrStart_limp = true → s.armRefusal hc n ws = some St.badState) ∧
            (x.power = true → x.chans.any (fun c => (s.ch c).disabled) = true → s.armRefusal hc n ws = some St.badState) ∧
            (x.power = true → s.flag pwrStart_limp = false → x.chans.any (fun c => (s.ch c).disabled) = false → s.armRefusal hc n ws = none) ∧
            (x.power = false → s.armRefusal hc n ws = none)))))

/-! ### CAN (spec/13) -/

/-- The CAN commands where their checks pass (R277 to R280, R284, R286, R290).
Model: Log 8 (acceptance in the same instant), log 9 (order of checks). -/
def Obligations.CanCommandsComplete : Prop :=
  (∀ (s : State) (h : Hdr) (port : Byte) (record : List Word),
    let c := Instr.canConfig h port record
    let u := forEach (List.range 8) (fun k v => v.wr (canCfg_word port.toNat k).addr (record.getD k 0)) (s.taken h.hc.val c)
    s.runs h c = true → port.toNat ≤ 5 → record.length = 8 → onlyFields canFields record = true → canRecOk record = true →
    s.owns h.hc.val 3 port.toNat = true → s.get (canState_state port.toNat) ≠ 0 →
    s.does c h (u.canErr port.toNat 0 0 (if u.get (canState_errstate port.toNat) = 2 then 2 else 0))) ∧
  (∀ (s : State) (h : Hdr) (port state : Byte),
    let c := Instr.canState h port state
    let t := s.taken h.hc.val c
    let u := t.canGoTo port.toNat state.toNat
    let v := (t.disableTx port.toNat).addJob h c
    s.runs h c = true → port.toNat ≤ 5 → state.toNat ≤ 3 → s.owns h.hc.val 3 port.toNat = true →
    (state = 0 ∨ ((t.disableTx port.toNat).port port.toNat).onAir = none → s.does c h u (u.canSt port.toNat)) ∧
    (state ≠ 0 → ((t.disableTx port.toNat).port port.toNat).onAir.isSome = true →
      exec c s = .next (s.keep (v.2.modPort port.toNat (fun p => { p with stop := some (state.toNat, some v.1) }))))) ∧
  (∀ (s : State) (h : Hdr) (port txq : Byte) (frame : List Byte),
    let c := Instr.canTx h port txq frame
    let u := (s.taken h.hc.val c).addJob h c
    s.runs h c = true → port.toNat ≤ 5 → txq.toNat ≤ 1 → txOk frame = true → s.owns h.hc.val 3 port.toNat = true →
    s.canAllows port.toNat (txFrame frame).fmt = true → s.canSt port.toNat = 0 →
    exec c s = .next (s.keep (u.2.enqTx port.toNat txq.toNat (txFrame frame) (.cmd u.1)))) ∧
  (∀ (s : State) (h : Hdr) (pair : Half) (port queue : Byte) (mask pattern : Word),
    let c := Instr.canFilter h pair port queue mask pattern
    let t := s.taken h.hc.val c
    let k := pair.toNat
    s.runs h c = true → k ≤ 1023 → port.toNat ≤ 5 →
    (queue.toNat ≤ 1 → s.owner 4 k = some h.hc.val →
      s.takes c h (s.setPair k ⟨port.toNat, queue.toNat, mask, pattern⟩)) ∧
    (queue.toNat ≤ 1 → s.owner 4 k = none → s.countClaimed h.hc.val 4 < s.quota h.hc.val 6 → s.flag (hcState_overQuota h.hc.val) = false →
      s.does c h ((t.setPair k ⟨port.toNat, queue.toNat, mask, pattern⟩).setOwner 4 k (some h.hc.val))) ∧
    (queue = 0xFF → s.owner 4 k = some h.hc.val →
      s.does c h (((t.setPair k {}).setOwner 4 k none).recheckQuota none h.hc.val)) ∧
    (queue = 0xFF → s.owner 4 k = none → s.takes c h s)) ∧
  (∀ (s : State) (h : Hdr) (port queue : Byte),
    let c := Instr.canRxPull h port queue
    let after := (s.rxq port.toNat queue.toNat).filter (fun e => e.owner == h.hc.val && !e.pulled)
    s.runs h c = true → port.toNat ≤ 5 → queue.toNat ≤ 1 →
    (after = [] → s.takes c h s) ∧
    (∀ (e : RxEntry) (rest : List RxEntry), after = e :: rest →
      s.takes c h (s.pullRx port.toNat queue.toNat h.hc.val e) (0x8000000 + b2n e.drop * 0x4000000 + e.pair % 1024 * 0x10000 + satTo 65535 rest.length)
        (e.words.take 60 ++ List.replicate ((4 - (e.words.take 60).length % 4) % 4) 0))) ∧
  (∀ (s : State) (h : Hdr) (port queue : Byte) (count : Half),
    let c := Instr.canRxAck h port queue count
    let n := port.toNat
    let q := queue.toNat
    s.runs h c = true → n ≤ 5 → q ≤ 1 →
    (count = 0 → s.takes c h (s.setRxq n q ((s.rxq n q).map (fun e => if e.owner == h.hc.val then { e with pulled := false } else e)))) ∧
    (count ≠ 0 → s.takes c h (s.setRxq n q (ackFirst h.hc.val count.toNat (s.rxq n q)).1) (ackFirst h.hc.val count.toNat (s.rxq n q)).2))

/-- The CAN events: frames on the bus, back-off, bus-off recovery and the time master (R278, R282, R283, R291, R293, R294, R296, R312).
Model: Error counters and frame lengths follow ISO 11898, and REC after a recovery is free (log 68, log 4). -/
def Obligations.CanEventsComplete : Prop :=
  (∀ (p : Fin 6) (f : CanFrame) (age : Nat) (s : State), s.canHears p.val = true →
    (s.canAllows p.val f.fmt = true → exec (.canFrameReceived p f age) s = .next (s.keep (s.canFrameIn p.val f age))) ∧
    (s.canAllows p.val f.fmt = false → s.canf p.val 0 26 26 = 1 → exec (.canFrameReceived p f age) s = .next s) ∧
    (s.canAllows p.val f.fmt = false → s.canf p.val 0 26 26 = 0 →
      exec (.canFrameReceived p f age) s = .next (s.keep (s.canRxError p.val 0)))) ∧
  (∀ (p : Fin 6) (age delay q : Nat) (x : TxItem) (s : State), s.canEnds p.val = true → s.onWire p.val = some (q, x) →
    (s.tdcOn p.val x.frame = false ∨ delay ≤ 127 →
      exec (.canTxComplete p age delay) s = .next (s.keep ((s.canTxDone p.val q x age delay).attemptOver p.val))) ∧
    (s.tdcOn p.val x.frame = true → 127 < delay →
      exec (.canTxComplete p age delay) s = .next (s.keep ((s.canTxError p.val q x (some ⟨.bit, .control, false⟩) 0 age delay).attemptOver p.val))) ∧
    (∀ more : Nat, exec (.canBusError p .lost more age delay) s = .next (s.keep ((s.canTxError p.val q x none more age delay).attemptOver p.val))) ∧
    (∀ (e : CanFault) (more : Nat), exec (.canBusError p (.own e) more age delay) s =
      .next (s.keep ((s.canTxError p.val q x (some e) more age delay).attemptOver p.val)))) ∧
  (∀ (p : Fin 6) (e : CanFault) (more age delay : Nat) (s : State), (s.port p.val).onAir = none → s.canHears p.val = true →
    let r := s.get (canState_rec p.val) + 1 + 8 * more
    exec (.canBusError p (.received e) more age delay) s = .next (s.keep (s.canRxError p.val more)) ∧
    (s.canSt p.val ≠ 0 → s.canRxError p.val more = s.inc (canErrcnt_errframes p.val)) ∧
    (s.canSt p.val = 0 → s.canRxError p.val more =
      (s.inc (canErrcnt_errframes p.val)).canErr p.val (s.get (canState_tec p.val)) r (errOf (s.get (canState_tec p.val)) r))) ∧
  (∀ (p : Fin 6) (s : State), exec (.backoffEnd p) s = .next (s.backoffOver p.val) ∧
    ((((s.backoffOver p.val).port p.val).q0 ++ ((s.backoffOver p.val).port p.val).q1).all (fun x => x.held.all (fun e => decide (s.now < e))) = true) ∧
    (s.backoffOver p.val).flag (canState_backoff p.val) = (s.backoffOver p.val).anyHeld p.val) ∧
  (∀ (k : Fin 512) (x : Flow) (s : State), s.flow k.val = some x → s.domOn Dm.net = true → x.open_ ≠ [] →
    x.openAt + us (x.fld 8 15 0) ≤ s.now → exec (.acfMaxWait k) s = .next (s.keep (s.sendAvtp k.val))) ∧
  (∀ (p : Fin 6) (s : State), s.domOn (Dm.can p.val) = true → s.canSt p.val ≤ 1 → s.get (canState_errstate p.val) = 2 →
    (s.port p.val).recovering = false → s.canf p.val 0 27 27 = 1 → (s.port p.val).boAt + ms (s.canf p.val 6 31 16) ≤ s.now →
    exec (.busoffRecoveryStart p) s = .next (s.keep (s.modPort p.val (fun y => { y with recovering := true, boAt := s.now })))) ∧
  (∀ (p : Fin 6) (s : State), s.domOn (Dm.can p.val) = true → s.canSt p.val ≤ 1 → s.get (canState_errstate p.val) = 2 →
    (s.port p.val).recovering = true →
    (s.port p.val).boAt + 1408 * ((s.canf p.val 1 31 24 + 1) * (3 + s.canf p.val 1 23 16 + s.canf p.val 1 15 9)) * 5 / 4 ≤ s.now →
    exec (.busoffRecovered p) s = .next (s.keep ((s.canErr p.val 0 0 0).modPort p.val (fun y => { y with recovering := false })))) ∧
  (∀ (p : Fin 6) (s : State), s.flag (canState_tmActive p.val) = true → s.tmWanted p.val = true → (s.port p.val).tmAt ≤ s.now →
    exec (.timeMasterSync p) s = .next (s.keep
      ((s.modPort p.val (fun y => { y with tmSeq := (y.tmSeq + 1) % 16, tmAt := s.now + ms (s.canf p.val 5 31 16) })).ownTx p.val 0
        (s.tmFrame p.val 2 (s.port p.val).tmSeq (List.replicate 7 0)) (.sync (s.port p.val).tmSeq)).1)) ∧
  (∀ (p : Fin 6) (m : Bool) (s : State), s.tmWanted p.val = m → s.flag (canState_tmActive p.val) ≠ m →
    exec (.timeMasterRoleChange p m) s = .next (s.keep
      (((s.putB (canState_tmActive p.val) m).modPort p.val (fun y => { y with tmAt := s.now })).post (s.ownerList 3 p.val) 16 0x04 p.val (b2n m) 0)))

/-- The frame that a port offers next (R289): it is in one of its queues and not in back-off; from TXQ 0x00 no offered frame has a
lower arbitration key, and from TXQ 0x01 it is the oldest that is not in back-off.
Model: Of two equal queue heads TXQ 0x00 goes first (the model's choice, log 20). -/
def Obligations.PortOffersTheBestFrame : Prop :=
  ∀ (s : State) (n q : Nat) (x : TxItem), s.txHead n = some (q, x) →
    x ∈ s.txq n q ∧ x.held = none ∧
      (∀ y ∈ (s.port n).q0, y.held = none → arbKey x.frame ≤ arbKey y.frame) ∧
      (q = 1 → (s.port n).q1.find? (fun y => y.held.isNone) = some x ∧ (∀ y ∈ (s.port n).q0, y.held = none → arbKey x.frame < arbKey y.frame))

/-! ### Sleep agreement and CAN wakes (spec/15) -/

/-- The events of sleep agreement and of a port's wake-up frame detector (R335, R339 to R341).
Model: Log 75 (who hears of a false wake). -/
def Obligations.SleepAgreementComplete : Prop :=
  (∀ (p : Fin 6) (s : State), s.nmRuns p.val = true → (s.port p.val).nmSt = 0 → (s.port p.val).nmAt ≤ s.now →
    exec (.nmPeriod p) s = .next (s.keep ((s.sendNm p.val (s.nmWaits p.val)).modPort p.val (fun y => { y with nmAt := s.now + ms (10 * s.nmf p.val 3 15 10) })))) ∧
  (∀ (p : Fin 6) (s : State), s.nmRuns p.val = true → s.nmWaits p.val = true → (s.port p.val).nmSt = 0 → (s.port p.val).nmSentReady = true →
    (s.port p.val).nmNotReady + ms (30 * s.nmf p.val 3 15 10) ≤ s.now →
    exec (.nmAgreement p) s = .next (s.keep (s.modPort p.val (fun y => { y with nmSt := 3, nmWbs := s.now })))) ∧
  (∀ (p : Fin 6) (s : State), (s.port p.val).nmSt = 3 → s.nmWaits p.val = true → (s.port p.val).nmWbs + ms (10 * s.nmf p.val 3 23 16) ≤ s.now →
    exec (.waitBusSleepEnd p) s = .next (s.keep
      (((s.modPort p.val (fun y => { y with nmSt := 0, nmSentReady := false })).beginEntry (Dm.can p.val)).levelWakes))) ∧
  (∀ (p : Fin 6) (f : CanFrame) (s : State), s.detector p.val = true → s.wakeMatches p.val f = true →
    exec (.canWakeFrame p f) s = .next (s.keep (s.canWake p.val))) ∧
  (∀ (p : Fin 6) (s : State), s.detector p.val = true → exec (.frameErrorWake p) s = .next (s.keep ((s.put (pwrFw_errwake p.val) 1).canWake p.val))) ∧
  (∀ (p : Fin 6) (s : State) (a : Nat), (s.port p.val).fwAt = some a → a + ms 200 ≤ s.now →
    let t := s.modPort p.val (fun y => { y with fwAt := none })
    let u := (t.inc (pwrFw_total p.val)).inc (pwrFw_consec p.val)
    ((s.port p.val).fwGood = true → exec (.falseWakeCheck p) s = .next (t.put (pwrFw_consec p.val) 0)) ∧
    ((s.port p.val).fwGood = false → exec (.falseWakeCheck p) s = .next (s.keep (t.falseWake p.val))) ∧
    (s.wkf (0x10 + p.val) 3 7 4 = 0 ∨ u.get (pwrFw_consec p.val) < s.wkf (0x10 + p.val) 3 7 4 → t.falseWake p.val = u) ∧
    (s.wkf (0x10 + p.val) 3 7 4 ≠ 0 → s.wkf (0x10 + p.val) 3 7 4 ≤ u.get (pwrFw_consec p.val) →
      (t.falseWake p.val).get (pwrFw_consec p.val) = 0 ∧ (t.falseWake p.val).inbox = s.inbox ++ [faultMsg (0x48 + p.val) 0x2A p.val] ∧
        (s.wkf (0x10 + p.val) 3 3 2 = 1 → (t.falseWake p.val).flag (pwrFw_tight p.val) = true) ∧
        (s.wkf (0x10 + p.val) 3 3 2 = 2 → (t.falseWake p.val).flag (pwrFw_susp p.val) = true))) ∧
  (∀ (p : Fin 6) (s : State), s.flag (pwrFw_susp p.val) = true → (s.port p.val).suspEnd ≤ s.now →
    exec (.wakeSuspendEnd p) s = .next (s.put (pwrFw_susp p.val) 0))

/-! ### The network (spec/14) -/

/-- The network commands where their checks pass, and the events of the Ethernet ports and of gPTP (R299, R302, R303, R305 to R307, R310).
Model: Log 8 (acceptance in the same instant), log 9 (order of checks), log 71 (details of the networks). -/
def Obligations.NetworkRowsComplete : Prop :=
  (∀ (s : State) (h : Hdr) (flow : Half) (record : List Word),
    let c := Instr.flowAdd h flow record
    let hc := h.hc.val
    let k := flow.toNat
    let x : Flow := { rec_ := record, learned := false, hitAt := s.now }
    let t := (s.taken h.hc.val c).dropLearned x.key
    s.runs h c = true → flowRecOk record = true → s.ownsPorts hc (x.fld 0 13 0) = true → s.ownsPorts hc (x.fld 1 13 0) = true →
    s.findFlow (fun y => !y.learned && y.key == x.key) = none →
    (k < 512 → (s.flow k).all (fun y => y.learned) = true → s.countClaimed hc 5 < s.quota hc 7 → s.flag (hcState_overQuota hc) = false →
      s.does c h (((t.freeFlow k).setFlow k (some x)).setOwner 5 k (some hc)).leftFree k) ∧
    (∀ y : Flow, k < 512 → s.flow k = some y → y.learned = false → s.owns hc 5 k = true →
      s.does c h (((t.freeFlow k).setFlow k (some x)).setOwner 5 k (some hc)).leftFree k) ∧
    (∀ n : Nat, k = 0xFFFF → s.countClaimed hc 5 < s.quota hc 7 → s.flag (hcState_overQuota hc) = false →
      t.placeCtx.1 = some n → s.does c h ((t.placeCtx.2.setFlow n (some x)).setOwner 5 n (some hc)).leftFree n)) ∧
  (∀ (s : State) (h : Hdr) (flow : Half),
    let c := Instr.flowRemove h flow
    s.runs h c = true → flow.toNat ≤ 511 → s.owns h.hc.val 5 flow.toNat = true →
    s.does c h (((s.taken h.hc.val c).freeFlow flow.toNat).leftFree.recheckQuota none h.hc.val)) ∧
  (∀ (s : State) (h : Hdr) (port : Byte) (record : List Word),
    let c := Instr.ethConfig h port record
    let p := port.toNat
    s.runs h c = true → p ≤ 5 → record.length = 8 → onlyFields portFields record = true → portRecOk p record = true →
    setField record 3 30 30 = 0 ∨ s.otherSlave p = false → s.owns h.hc.val 0x0C p = true →
    s.does c h ((s.taken h.hc.val c).putPortRec p record)) ∧
  (∀ (p : Fin 4) (f : EthFrame) (s : State), exec (.ethFrameReceived p f) s = .next (s.keep (s.ethIn p.val f))) ∧
  (∀ (p : Fin 6) (s : State), exec (.egressAge p) s = .next (s.keep (s.ageOut p.val)) ∧
    (∀ f ∈ (s.ageOut p.val).fwd, f.copies ≠ [] ∧ ∀ c ∈ f.copies, c.port = p.val → s.now < c.since + ms (bits (s.portWord p.val 2) 15 0))) ∧
  (∀ (p : Fin 4) (s : State), 2 ≤ p.val → bitOf (s.portWord p.val 0) 27 = true → bits (s.portWord p.val 0) 15 8 ≠ 0 →
    s.flag (phyStat_plcaOk p.val) = true → (s.net p.val).beaconAt + ms 4 ≤ s.now →
    exec (.plcaBeaconLoss p) s = .next (s.keep (((s.noteT1s p.val).plcaTo p.val false).netLinkEvent p.val (s.flag (phyStat_link p.val)) false))) ∧
  (∀ (p : Fin 4) (plca : Bool) (s : State), s.domOn (if p.val < 2 then Dm.eth else Dm.t1s) = true →
    let runs := plca && decide (2 ≤ p.val) && bitOf (s.portWord p.val 0) 27
    (bitOf (s.portWord p.val 0) 31 = true → s.isolated (0x50 + p.val) = false → s.flag (phyStat_link p.val) = false →
      exec (.netLink p true plca) s = .next (s.keep (s.netLinkTo p.val true runs)) ∧ (s.netLinkTo p.val true runs).flag (phyStat_link p.val) = true ∧
        (s.netLinkTo p.val true runs).flag (phyStat_plcaOk p.val) = runs) ∧
    (s.flag (phyStat_link p.val) = true →
      exec (.netLink p false plca) s = .next (s.keep (s.netLinkTo p.val false false)) ∧
        (s.netLinkTo p.val false false).flag (phyStat_link p.val) = false ∧ (s.netLinkTo p.val false false).flag (phyStat_plcaOk p.val) = false)) ∧
  (∀ (p : Nat) (offset rate : Int) (pdelay : Nat) (s : State), s.asSlave = some p → s.netUp p = true →
    exec (.gptpSyncReceived offset rate pdelay) s = .next (s.keep (s.gptpSync p offset rate pdelay))) ∧
  (∀ s : State, s.asSlave = none → exec .gptpSyncLoss s = .next (s.keep (s.setSynced false))) ∧
  (∀ (p : Nat) (s : State), s.asSlave = some p → s.asAt + 3 * s.syncTicks p ≤ s.now →
    exec .gptpSyncLoss s = .next (s.keep { s.setSynced false with asGood := 0 }))

/-! ### Ridge and device time (spec/09, spec/14) -/

/-- The Ridge events (R204, R213, R214, R314 to R316, R378).
Model: The payload layouts (log 19) and how a device tells that another one publishes its axis (log 67) are the model's choice. -/
def Obligations.RidgeEventsComplete : Prop :=
  (∀ (l : Fin 2) (bytes : List Byte) (s : State), s.ridgeUp l.val = true →
    (ridgeGood bytes = false → exec (.ridgeFrameReceived l bytes) s = .next (s.keep
      (((s.inc (rdgErr_crc l.val)).stat (4 + l.val) 2 1).modNet (4 + l.val) (fun n => { n with crcAt := (s.now :: n.crcAt).take 16 })))) ∧
    (ridgeGood bytes = true → ridgeParse bytes = none → exec (.ridgeFrameReceived l bytes) s = .next s) ∧
    (∀ f : RidgeFrame, ridgeGood bytes = true → ridgeParse bytes = some f →
      let t := s.ridgeHeard l.val f
      (f.hops < 3 → f.src.toNat ≠ s.ownNumber → exec (.ridgeFrameReceived l bytes) s = .next (s.keep (t.ridgeIn l.val f))) ∧
      (f.hops < 3 → f.src.toNat = s.ownNumber → t.axisOwn l.val f = true →
        exec (.ridgeFrameReceived l bytes) s = .next (s.keep (((t.ridgeDrop l.val 3).modNet (4 + l.val) (fun n => { n with lastTrain := s.now })).fault
          (0x54 + l.val) 0x2D (l.val + 16 * s.ownNumber)))) ∧
      (3 ≤ f.hops ∨ (f.src.toNat = s.ownNumber ∧ t.axisOwn l.val f = false) →
        exec (.ridgeFrameReceived l bytes) s = .next (s.keep t)))) ∧
  (∀ (l : Fin 2) (master : BitVec 2) (offset : Int) (delay : Nat) (s : State), s.ridgeUp l.val = true → s.domOn Dm.crk = true →
    let t := s.timeHeard l.val master.toNat delay
    (t.get crankTsync_master = t.ownNumber ∨ t.timeLink (t.get crankTsync_master) ≠ some l.val →
      exec (.timeExchange l master offset delay) s = .next (s.keep t)) ∧
    (t.get crankTsync_master ≠ t.ownNumber → t.timeLink (t.get crankTsync_master) = some l.val →
      exec (.timeExchange l master offset delay) s = .next (s.keep (t.timeOffset offset)))) ∧
  (∀ s : State, s.domOn Dm.crk = true → s.flag crankTsync_isMaster = false → s.alignAt + ms 1 ≤ s.now →
    exec .alignmentLoss s = .next (s.keep ({ s.put crankTsync_aligned 0 with alignCount := 0, stepDue := true } : State).elect)) ∧
  (∀ (l : Fin 2) (came : List Bool) (peer : TrainFrame) (acked swapped : Bool) (s : State), s.domOn Dm.net = true → bitOf (s.portWord (4 + l.val) 0) 31 = true →
    s.get (rdgStat_state l.val) % 8 ≠ 2 → s.isolated (0x54 + l.val) = false →
    (s.net (4 + l.val)).lastTrain = 0 ∨
      (s.net (4 + l.val)).lastTrain + (if s.get (rdgStat_state l.val) % 8 = 3 then sec 1 else ms 10) ≤ s.now →
    let t := (((s.modNet (4 + l.val) (fun n => { n with lastTrain := s.now })).inc (rdgErr_retrain l.val)).stat (4 + l.val) 2 2).sendTrain l.val
      (threeGood 0 came)
    ((∀ b ∈ came, b = false) → exec (.ridgeTraining l came peer acked swapped) s = .next (s.keep (t.ridgeDrop l.val 1))) ∧
    (true ∈ came →
      (peer.version ≠ Config.ridgeVersion → exec (.ridgeTraining l came peer acked swapped) s =
        .next (s.keep ((t.ridgeTo l.val 1 peer.cluster.toNat swapped).fault (0x54 + l.val) 0x2C l.val))) ∧
      (peer.version = Config.ridgeVersion → threeGood 0 came = false ∨ acked = false →
        exec (.ridgeTraining l came peer acked swapped) s = .next (s.keep (t.ridgeTo l.val 1 peer.cluster.toNat swapped))) ∧
      (peer.version = Config.ridgeVersion → threeGood 0 came = true → acked = true → peer.cluster.toNat = s.ownNumber →
        exec (.ridgeTraining l came peer acked swapped) s =
          .next (s.keep ((t.ridgeTo l.val 3 peer.cluster.toNat swapped).fault (0x54 + l.val) 0x2D (l.val + 16 * peer.cluster.toNat)))) ∧
      (peer.version = Config.ridgeVersion → threeGood 0 came = true → acked = true → peer.cluster.toNat ≠ s.ownNumber →
        exec (.ridgeTraining l came peer acked swapped) s = .next (s.keep (forEach ([0, 1].filter (t.ridgeTo l.val 2 peer.cluster.toNat swapped).govShares) (fun g u =>
          u.ridgeSend l.val { ftype := 0x4, src := BitVec.ofNat 2 u.ownNumber, payload := u.govCfgMsg g }) (t.ridgeTo l.val 2 peer.cluster.toNat swapped))) ∧
        (t.ridgeTo l.val 2 peer.cluster.toNat swapped).get (rdgStat_state l.val) % 8 = 2))) ∧
  (∀ (l : Fin 2) (s : State), s.ridgeUp l.val = true → (s.net (4 + l.val)).dead s.now = true →
    exec (.ridgeDown l) s = .next (s.keep ((s.ridgeDrop l.val 1).modNet (4 + l.val) (fun n => { n with lastTrain := 0 }))) ∧
      faultMsg (0x54 + l.val) 0x2B l.val ∈ ((s.ridgeDrop l.val 1).modNet (4 + l.val) (fun n => { n with lastTrain := 0 })).inbox) ∧
  (∀ s : State, s.domOn Dm.crk = true → exec .faultSummaryBroadcast s = .next (s.keep (s.ridgeBcast 0x6 (beBytes 4 s.faultSummary)))) ∧
  (∀ s : State, s.domOn Dm.crk = true →
    exec .axisBroadcast s = .next (s.keep (forEach ((List.range 8).filter (fun n => (s.get crankPublish_axes).testBit n)) (fun n t =>
      let b := [BitVec.ofNat 8 n] ++ beBytes 10 (unsigned 80 (t.ax n).x) ++ beBytes 10 (unsigned 80 (t.ax n).v) ++ beBytes 8 t.devTime
      (t.modAx n (fun a => { a with sent := b :: a.sent.take 15 })).ridgeBcast 0x5 b) s)))

/-- R317: RIDGE_STATE with LINK 0x00 or 0x01 returns the link's state in RESULT: STATE in [2:0], the peer's cluster number in [4:3],
P and N swapped in [5], and nothing above; every other LINK completes with BAD_PARAM. STATE is 2 exactly where the link is UP. -/
def Obligations.RidgeStateReadsTheLink : Prop :=
  (∀ (s : State) (h : Hdr) (l : Byte), s.runs h (.ridgeState h l) = true →
    (l.toNat ≤ 1 → s.takes (.ridgeState h l) h s (s.get (rdgStat_state l.toNat)) ∧ s.get (rdgStat_state l.toNat) < 64) ∧
    (1 < l.toNat → s.takes (.ridgeState h l) h s 0 [] St.badParam)) ∧
  (∀ (l : Fin 2) (st : Nat) (peer : BitVec 2) (swapped : Bool) (s : State), st < 4 →
    (s.ridgeTo l.val st peer.toNat swapped).get (rdgStat_state l.val) = st + 8 * peer.toNat + 32 * b2n swapped) ∧
  (∀ (l : Fin 2) (s : State), s.domOn Dm.net = true → (s.ridgeUp l.val = true ↔ s.get (rdgStat_state l.val) % 8 = 2))

/-- The lowest cluster number is elected: after an election the device is master exactly where no reached side names a lower
number than its own, and then device time counts as aligned (R213).
Model: Log 71 (details of the time exchange). -/
def Obligations.LowestNumberIsMaster : Prop :=
  ∀ s : State,
    let t := s.elect
    t.get crankTsync_master = s.lowMaster % 4 ∧ s.lowMaster ≤ s.ownNumber ∧
      (s.lowMaster = s.ownNumber → t.flag crankTsync_isMaster = true ∧ t.flag crankTsync_aligned = true) ∧
      (s.lowMaster ≠ s.ownNumber → t.flag crankTsync_isMaster = false ∧
        (s.flag crankTsync_isMaster = true → t.flag crankTsync_aligned = false ∧ t.stepDue = true))

/-! ### Power, inputs and the field bank (spec/12, spec/15) -/

/-- DOMAIN_SET, WAKE_CONFIG and NM_CONFIG where their checks pass, the ends of domain transitions and the wake timer (R323 to R325,
R328, R332, R338).
Model: Log 8 (acceptance in the same instant), log 9 (order of checks), log 50 (a failed load), log 74 (exits), log 75 (wake records). -/
def Obligations.PowerRowsComplete : Prop :=
  (∀ (s : State) (h : Hdr) (mask : Word) (state : Byte),
    let c := Instr.domainSet h mask state
    let t := s.taken h.hc.val c
    let ds := maskList 24 mask.toNat
    s.runs h c = true → mask.toNat % 2 = 0 → mask.toNat < 2 ^ 24 → (∀ d ∈ ds, s.owns h.hc.val 9 d = true) →
    (state = 0 →
      let u := t.addJob h c (listMask (ds.filter (fun d => !s.domOn d)))
      exec c s = .next (s.keep ((forEach ds (fun d v => v.askOn d) u.2).settleDom u.1))) ∧
    (state = 1 ∨ state = 2 → t.neededOutside mask.toNat = false →
      (s.flag pwrStart_limp = false ∨ ∀ d ∈ ds, ¬ (14 ≤ d ∧ d < 22)) →
      let g := domTarget state.toNat
      let u := t.addJob h c (listMask (ds.filter (fun d => (s.dom d).st != g || (s.dom d).going.isSome)))
      exec c s = .next (s.keep ((((forEach ds (fun d v => v.askSleep d g) u.2).kickEntries).levelWakes).settleDom u.1)))) ∧
  (∀ (s : State) (h : Hdr) (source : Byte) (record : List Word),
    let c := Instr.wakeConfig h source record
    let n := source.toNat
    s.runs h c = true → wakeSrc n = true → record.length = 4 → wakeRecOk n record = true → s.owns h.hc.val 0x0A 1 = true →
    n < 0x10 ∨ s.owns h.hc.val 3 (n - 0x10) = true →
    n < 0x10 ∨ setField record 0 31 31 = 0 ∨ s.canFast (n - 0x10) = true → s.does c h ((s.taken h.hc.val c).wakeCommit n record)) ∧
  (∀ (s : State) (h : Hdr) (port : Byte) (record : List Word),
    let c := Instr.nmConfig h port record
    let n := port.toNat
    s.runs h c = true → n ≤ 5 → record.length = 4 → nmRecOk record = true → s.owns h.hc.val 3 n = true →
    (s.taken h.hc.val c).canSleeping n = false →
    s.takes c h ((forEach (List.range 4) (fun k v => v.wr (pwrNm_word n k).addr (record.getD k 0)) s).modPort n
      (fun p => { p with nmSt := 0, nmAt := s.now, nmSentReady := false }))) ∧
  (∀ (d : Fin 24) (s : State), let t := s.kickEntries
    (t.dom d.val).begun = true → (t.dom d.val).going ≠ some .on → (t.dom d.val).going.isSome = true →
    exec (.domainEntryComplete d) s = .next (s.keep (t.endEntry d.val))) ∧
  (∀ (d : Fin 24) (ecc load : Bool) (s : State), let t := s.kickExits
    (t.dom d.val).going = some .on → (t.dom d.val).begun = true → ¬ (d.val = Dm.sys ∧ (t.dom d.val).from_ ≠ .ret ∧ s.rstLow = true) →
    exec (.domainExitComplete d ecc load) s = .next (s.keep (t.finishExit d.val ecc load))) ∧
  (∀ (s : State) (e : Nat), s.wakeTimer = some e → e ≤ s.now + ms (s.wkf 0x0A 1 31 0) * 3 / 100 →
    exec .wakeTimerExpiry s = .next (s.keep
      (({ s with wakeTimer := if s.wkf 0x0A 2 0 0 = 1 then some (s.now + ms (s.wkf 0x0A 1 31 0)) else none } : State).wake 0x0A)))

/-- SWIN_CONFIG, FIELD_OUT and FIELD_CONFIG where their checks pass, and the input events: the debounced level and its change bit are
set, and an armed static input wakes (R256, R258, R259, R262, R269, R272, R273, R328, R330).
Model: Log 8 (acceptance in the same instant), log 9 (order of checks), log 70 (inputs), log 75 (static wake). -/
def Obligations.InputRowsComplete : Prop :=
  (∀ (s : State) (h : Hdr) (input : Byte) (w : Word),
    let c := Instr.swinConfig h input [w, 0]
    let n := input.toNat
    s.runs h c = true → s.owns h.hc.val 7 n = true →
    (n < 40 → swinOk w.toNat = true → s.wetOk n w.toNat = true → s.does c h ((s.taken h.hc.val c).swinCommit n w)) ∧
    (64 ≤ n → n < 68 → bits w.toNat 30 0 = 0 → s.takes c h (s.wr (ainCfg_word (n - 64)).addr w))) ∧
  (∀ (s : State) (h : Hdr) (mask value : Half),
    let c := Instr.fieldOut h mask value
    let r := (s.taken h.hc.val c).fieldOutBy h.hc.val mask.toNat value.toNat h.atomic
    s.runs h c = true → s.does c h r.1 0 [] r.2) ∧
  (∀ (s : State) (h : Hdr) (ch : Byte) (w : Word),
    let c := Instr.fieldConfig h ch [w, 0]
    let n := ch.toNat
    s.runs h c = true → n ≤ 31 → fieldRecOk (decide (16 ≤ n)) w.toNat = true →
    (n < 16 → s.owns h.hc.val 6 n = true → s.takes c h (s.wr (fqCfg_word n).addr w)) ∧
    (16 ≤ n → s.owns h.hc.val 9 Dm.field = true → s.takes c h (s.wr (fiCfg_word (n - 16)).addr w) ∧
      (s.wr (fiCfg_word (n - 16)).addr w).fiState.testBit (n - 16) = (s.fiDeb.testBit (n - 16) != (bits w.toNat 25 25 == 1)))) ∧
  (∀ (n : Fin 40) (closed : Bool) (s : State), s.swf n.val 31 30 ≠ 0 → s.swin n.val ≠ closed →
    exec (.swinDebouncedChange n closed) s = .next (s.keep (s.swinChange n.val closed)) ∧ (s.swinChange n.val closed).swin n.val = closed ∧
      (s.swinChange n.val closed).get ⟨(swinChg_chg (swinBit n.val).1).addr, (swinBit n.val).2, (swinBit n.val).2⟩ = 1 ∧
      (∀ m : Nat, m < 40 → m ≠ n.val → (s.swinChange n.val closed).swin m = s.swin m)) ∧
  (∀ (n : Fin 8) (level : Bool) (s : State),
    let t : State := { s with wkLevel := setBits s.wkLevel n.val n.val (b2n level) }
    (s.wakeOn n.val = false → exec (.staticWakeInput n level) s = .next t) ∧
    (s.wakeOn n.val = true → s.wkf n.val 0 30 29 = 3 → t.levelWake n.val = true → exec (.staticWakeInput n level) s = .next (s.keep (t.wake n.val))) ∧
    (s.wakeOn n.val = true → s.wkf n.val 0 30 29 = 0 → s.wkLevel.testBit n.val = false → level = true →
      exec (.staticWakeInput n level) s = .next (s.keep (t.wake n.val))) ∧
    (s.wakeOn n.val = true → s.wkf n.val 0 30 29 = 1 → s.wkLevel.testBit n.val = true → level = false →
      exec (.staticWakeInput n level) s = .next (s.keep (t.wake n.val))) ∧
    (s.wakeOn n.val = true → s.wkf n.val 0 30 29 = 2 → s.wkLevel.testBit n.val ≠ level →
      exec (.staticWakeInput n level) s = .next (s.keep (t.wake n.val)))) ∧
  (∀ (n : Fin 16) (active : Bool) (s : State), s.fieldLive = true → s.fiState.testBit n.val ≠ active →
    let t := s.fiChange n.val active
    exec (.fiDebouncedChange n active) s = .next (s.keep t) ∧ t.fiState.testBit n.val = active ∧
      (t.get fiChg_chg).testBit n.val = true ∧ (∀ m : Nat, m ≠ n.val → t.fiState.testBit m = s.fiState.testBit m))

/-- The field bank's events (R30, R265, R266, R268).
Model: Fault reports wait in the inbox (log 7); log 70 (LINK_OK, POWER_OK and LIMIT). -/
def Obligations.FieldEventsComplete : Prop :=
  (∀ (k : Fin 16) (s : State), (s.get fqState_on).testBit k.val = true →
    (s.fqTold.testBit k.val = false →
      exec (.fqOverload k) s = .next (s.keep (({ s with fqTold := s.fqTold ||| 2 ^ k.val } : State).fault (0x60 + k.val) 0x26 k.val))) ∧
    (let t := s.fqTrip k.val
     exec (.fqThermal k) s = .next (s.keep t) ∧ (t.get fqFault_thermal).testBit k.val = true ∧ (t.get fqState_on).testBit k.val = false ∧
      t.inbox = s.inbox ++ [faultMsg (0x60 + k.val) 0x27 k.val] ∧
      (bits (s.rd (fqCfg_word k.val).addr).toNat 27 27 = 0 → (t.get fqLatch_latched).testBit k.val = true))) ∧
  (∀ (k : Fin 16) (s : State), (s.get fqLatch_latched).testBit k.val = false →
    exec (.fqCooled k) s = .next (s.keep ((s.put fqFault_thermal (s.get fqFault_thermal &&& (65535 - 2 ^ k.val))).fqSync))) ∧
  (∀ (rejected : Nat) (s : State), s.fieldLive = true → exec (.fieldLink rejected) s =
    .next (s.keep ((((s.fiRaw.incBy fieldStat_linkerr rejected).put fieldStat_linkOk 0).fqSync).fault 0x70 0x22 0))) ∧
  (∀ s : State, s.domOn Dm.field = true → s.flag fieldStat_powerOk = true →
    exec .fieldPower s = .next (s.keep ((((s.put fieldStat_linkOk 0).put fieldStat_powerOk 0).fqSync).fault 0x70 0x23 0))) ∧
  (∀ (fi : Half) (rejected : Nat) (s : State), s.domOn Dm.field = true → s.fieldLive = false →
    exec (.fieldLinkReturn fi rejected) s = .next (s.keep (forEach (List.range 16) (fun n u => u.fiChange n (fi.toNat.testBit n))
      ((((s.incBy fieldStat_linkerr rejected).put fieldStat_linkOk 1).put fieldStat_powerOk 1).fqSync)))) ∧
  (∀ s : State, s.domOn Dm.field = true → s.flag fieldStat_lpUv = false →
    exec .fieldLpUv s = .next (s.keep ((((s.put fieldStat_lpUv 1).put fieldStat_lpOv 0).fqSync).fault 0x70 0x24 0))) ∧
  (∀ s : State, s.domOn Dm.field = true →
    exec .fieldLpRecovery s = .next (s.keep (((s.put fieldStat_lpUv 0).put fieldStat_lpOv 0).fqSync)) ∧
    exec .fieldLpOv s = .next (s.keep ((((s.put fieldStat_lpUv 0).put fieldStat_lpOv 1).fqSync).fault 0x70 0x25 0))) ∧
  (∀ s : State, s.v5out = true → exec .v5outOverload s = .next (s.keep (s.fault 0x87 0x19 1)))

/-- No output of the field bank drives while field L+ is in undervoltage or the barrier is down, and a command for a latched output
to go on is refused with LOCKED (R265, R266, R268, R269). -/
def Obligations.FieldOutputsAreHeldOff : Prop :=
  (∀ s : State, (s.fieldLive = false ∨ s.flag fieldStat_lpUv = true) → s.fqSync.get fqState_on = 0) ∧
  (∀ (s : State) (hc mask value k : Nat) (atomic : Bool), k < 16 → mask = 2 ^ k → s.owns hc 6 k = true → value.testBit k = true →
    (s.get fqLatch_latched).testBit k = true → (s.fieldOutBy hc mask value atomic).2 = St.locked)

/-- R257: a 5-bit debounce code sets the debounce time of every SWIN input in CONTINUOUS and of every FI input, in ticks of 10 ns:
2^k µs for code 2k, 1.5 × 2^k µs for code 2k + 1, and 2^16 µs for code 31; from 1 µs to 65.536 ms, 512 µs for code 18 and 1.024 ms
for code 20. -/
def Obligations.DebounceCodes : Prop :=
  (∀ k : Nat, k ≤ 15 → debTicks (2 * k) = us (2 ^ k)) ∧ (∀ k : Nat, k ≤ 14 → 2 * debTicks (2 * k + 1) = 3 * us (2 ^ k)) ∧
    debTicks 31 = us (2 ^ 16) ∧ debTicks 0 = us 1 ∧ debTicks 18 = us 512 ∧ debTicks 20 = us 1024 ∧
    (∀ c : Nat, c ≤ 31 → us 1 ≤ debTicks c ∧ debTicks c ≤ us 65536) ∧
    (∀ (s : State) (n : Nat) (second : Bool),
      s.pairDelay 2 n second = debTicks (s.fif (2 * n + b2n second) 30 26) ∧
      s.pairDelay 3 n second = debTicks (s.swf (2 * n + b2n second) 17 13))

/-! ### Events and faults (spec/16, spec/17) -/

/-- The commands of event delivery (R352, R356, R357, R360, R361) and a class's release (R353, R354).
Model: Log 8 (acceptance in the same instant). -/
def Obligations.EventDeliveryComplete : Prop :=
  (∀ (s : State) (h : Hdr) (cls enable count wake : Byte) (time : Half),
    let c := Instr.evtClassSet h cls enable count wake time
    s.runs h c = true → classOk cls.toNat enable.toNat count.toNat wake.toNat time.toNat = true →
    s.does c h ((s.taken h.hc.val c).setClass h.hc.val cls.toNat enable.toNat count.toNat wake.toNat time.toNat)) ∧
  (∀ (s : State) (h : Hdr) (disable : Byte),
    let c := Instr.evtGdis h disable
    let t := s.taken h.hc.val c
    s.runs h c = true → disable.toNat ≤ 1 → s.does c h (t.setGdis h.hc.val (disable == 1)) (t.pendRecs h.hc.val)) ∧
  (∀ (s : State) (h : Hdr),
    let c := Instr.hostSleep h
    let t (i : Instr) := s.taken h.hc.val i
    (s.runs h (c 1) = true → s.does (c 1) h ((t (c 1)).putB (hcState_sleep h.hc.val) true)) ∧
    (s.runs h (c 0) = true →
      let u := (t (c 0)).putB (hcState_sleep h.hc.val) false
      s.does (c 0) h (u.sendNew h.hc.val (u.flowKey h.hc.val)))) ∧
  (∀ (hc : Fin 8) (cls : Fin 24) (s : State), s.sysUp = true → s.domOn Dm.sys = true →
    exec (.eventRelease hc cls) s = .next (s.keep
      (forEach (List.range (cls.val + 1)) (fun c t => t.tryRelease hc.val c) s)))

/-- The fault commands where their checks pass, and Scree's steps; of what meets in one tick the expiry of a reaction timer and the quiet
points come first (R364, R366 to R371, R373 to R375, R380, R381).
Model: Log 7 (the inbox), log 8 (acceptance in the same instant), log 76 (FAULT_CLEAR by another context). -/
def Obligations.FaultRowsComplete : Prop :=
  (∀ (s : State) (h : Hdr) (m : Word) (e : FEntry),
    let c := Instr.faultHandled h m
    s.runs h c = true → s.entryOf m = some e → (∀ d : Nat, e.timer = some d → s.domOn Dm.crk = true → s.now < d) →
    s.sysHolder h.hc.val = true ∨ h.hc.val ∈ s.srcOwners (srcOf m) →
    (e.timer.isSome = true → s.takes c h (s.setEntry { e with timer := none, st := .handled, reactEnd := some s.now, last := s.time32 })) ∧
    (e.timer = none → e.escalated = false → s.takes c h s) ∧
    (e.timer = none → e.escalated = true → s.takes c h s 0 [] St.badState)) ∧
  (∀ (s : State) (h : Hdr) (m : Word),
    let c := Instr.faultHandled h m
    s.runs h c = true → (∀ (e : FEntry) (d : Nat), s.entryOf m = some e → e.timer = some d → s.domOn Dm.crk = true → s.now < d) →
    (s.sysHolder h.hc.val = false → h.hc.val ∉ s.srcOwners (srcOf m) → s.takes c h s 0 [] St.notOwner) ∧
    (s.sysHolder h.hc.val = true ∨ h.hc.val ∈ s.srcOwners (srcOf m) → s.entryOf m = none → s.takes c h s 0 [] St.badParam)) ∧
  (∀ (s : State) (h : Hdr) (m : Word) (e e' : FEntry) (d : Nat),
    let c := Instr.faultHandled h m
    let u := (s.taken h.hc.val c).escalate e
    s.runs h c = true → s.entryOf m = some e → s.domOn Dm.crk = true → e.timer = some d → d ≤ s.now →
    u.entryOf m = some e' → e'.timer = none → e'.escalated = true → u.sysHolder h.hc.val = true ∨ h.hc.val ∈ u.srcOwners (srcOf m) →
    s.does c h u 0 [] St.badState) ∧
  (∀ (s : State) (h : Hdr) (kind : Byte) (src : Half),
    let c := Instr.faultClear h kind src
    let v := s.taken h.hc.val c
    let t := if v.domOn Dm.crk then (v.log.filter v.quietDue).foldl (fun (u : State) e => u.quiet e) v else v
    let hit := t.log.filter (fun e => e.st != .cleared && e.st != .retest && e.timer.isNone && (kind.toNat == 0xFF || kindOf e.msg == kind.toNat) &&
      (src.toNat == 0xFFFF || srcOf e.msg == src.toNat) && (s.sysHolder h.hc.val || decide (h.hc.val ∈ t.srcOwners (srcOf e.msg))))
    s.runs h c = true → kind = 0xFF ∨ kind.toNat ∈ faultKinds → src = 0xFFFF ∨ srcValid src.toNat = true →
    (s.sysHolder h.hc.val = false → s.does c h (hit.foldl (fun (v : State) e => v.clearEntry e) t) hit.length) ∧
    (s.sysHolder h.hc.val = true → s.does c h (forEach (if kind.toNat = 0xFF then faultKinds else [kind.toNat]) (fun j v => v.put (screeKind_recov j) 0)
      (hit.foldl (fun (v : State) e => v.clearEntry e) t)) hit.length)) ∧
  (∀ (s : State) (h : Hdr) (kind reaction action : Byte) (time quiet : Half),
    let c := Instr.faultReaction h kind reaction action time quiet
    let k := kind.toNat
    s.runs h c = true → k ∈ faultKinds → reactionOk k reaction.toNat action.toNat time.toNat = true → 1 ≤ quiet.toNat → quiet.toNat ≤ 60000 →
    s.sysHolder h.hc.val = true →
    s.takes c h ((((s.put (screeKind_reaction k) reaction.toNat).put (screeKind_action k) action.toNat).put (screeKind_time k) time.toNat).put
      (screeQuiet_quiet k) quiet.toNat)) ∧
  (∀ (m : Word) (s : State), s.domOn Dm.crk = true → kindOf m ∈ faultKinds → srcValid (srcOf m) = true →
    exec (.faultReport m) s = .next (s.keep (({ s with inbox := dropFirst (fun w => w == m) s.inbox } : State).accept m))) ∧
  (∀ (m : Word) (transient result : Bool) (e : FEntry) (s : State), s.domOn Dm.crk = true → s.entryOf m = some e → e.cls = .none →
    (∀ d : Nat, e.timer = some d → s.now < d) → s.retestSays e m transient = some result →
    exec (.retestComplete m transient) s = .next (s.keep (s.retested e m result))) ∧
  (∀ (m : Word) (transient result : Bool) (e e' : FEntry) (d : Nat) (s : State), s.domOn Dm.crk = true → s.entryOf m = some e →
    e.timer = some d → d ≤ s.now → (s.escalate e).underTest m = some e' → (s.escalate e).retestSays e' m transient = some result →
    exec (.retestComplete m transient) s = .next (s.keep ((s.escalate e).retested e' m result))) ∧
  (∀ (m : Word) (e : FEntry) (d : Nat) (s : State), s.domOn Dm.crk = true → s.entryOf m = some e → e.timer = some d → d ≤ s.now →
    let e' : FEntry := { e with timer := none, escalated := true, action := e.planned, st := .acted, reactEnd := some s.now, last := s.time32 }
    exec (.reactionTimerExpiry m) s = .next (s.keep ((s.setEntry e').takeAction e'))) ∧
  (∀ (m : Word) (e : FEntry) (r : Nat) (s : State), s.domOn Dm.crk = true → s.entryOf m = some e → e.reactEnd = some r → e.st ≠ .latched →
    max e.lastAt r + ms (10 * s.get (screeQuiet_quiet (kindOf m))) ≤ s.now →
    let t := s.inc (screeKind_recov (kindOf m))
    (t.get (screeKind_recov (kindOf m)) < t.get (screeKind_rmax (kindOf m)) → exec (.quietPoint m) s = .next (s.keep (t.clearEntry e))) ∧
    (t.get (screeKind_rmax (kindOf m)) ≤ t.get (screeKind_recov (kindOf m)) →
      exec (.quietPoint m) s = .next (s.keep ((t.setEntry { e with st := .latched, last := s.time32 }).faultEvent { e with st := .latched, last := s.time32 } 0x05)))) ∧
  (∀ s : State, s.sysUp = true → s.domOn Dm.sys = true → s.summaryAt = 0 ∨ s.summaryAt + sec 60 ≤ s.now →
    exec .faultSummaryWrite s = .next (s.keep s.summaryWrite))

/-- A report of a fault that has an uncleared entry adds no entry: its count rises, to 255 at most, and only that entry changes; the
first report of another fault adds one entry, where the log has room (R367, R379). -/
def Obligations.ReportsMergeIntoOneEntry : Prop :=
  ∀ (s : State) (m : Word),
    (∀ e : FEntry, s.entryOf m = some e →
      (s.accept m).log.length = s.log.length ∧ (∀ x ∈ s.log, x.slot ≠ e.slot → x ∈ (s.accept m).log) ∧
        (∃ y ∈ (s.accept m).log, y.slot = e.slot ∧ y.msg = m ∧ y.occ = satInc 255 e.occ ∧ y.st = e.st)) ∧
    (s.entryOf m = none → s.get (screeKind_reaction (kindOf m)) < 3 → s.log.length < 512 →
      s.freeEntry.isSome = true ∧ ∃ y : FEntry, (s.accept m).log = s.log ++ [y] ∧ y.msg = m ∧ (∀ x ∈ s.log, x.slot ≠ y.slot) ∧
        (noRetest (kindOf m) = true → y.cls = .persistent) ∧ (noRetest (kindOf m) = false → y.st = .retest ∧ y.cls = .none))

/-- FLT_N is low exactly while an uncleared entry of a kind with PIN 1 stands; after all entries are cleared it is released (R376). -/
def Obligations.FaultPinFollowsTheLog : Prop :=
  ∀ s : State,
    (s.fltN = true ↔ ∃ e ∈ s.log, e.st ≠ .cleared ∧ s.get (screeKind_pin (kindOf e.msg)) = 1) ∧
    ((∀ e ∈ s.log, e.st = .cleared) → s.fltN = false)

/-! ### Keys, lifecycle and the immobiliser (spec/18) -/

/-- The commands of keys and the immobiliser where their checks pass: those that write a record in flash, or the array of a working key,
begin, and their effect comes with FLASH_WRITE_COMPLETE, or complete with AUTH_FAIL where their proof fails; KEY_STAGE, KEY_VERIFY and
KEY_CHALLENGE complete (R384, R391 to R394, R398, R405; spec/04, R87).
Model: Log 5 (cryptography is uninterpreted), log 8 (acceptance in the same instant), log 9 (order of checks). -/
def Obligations.KeyCommandsComplete : Prop :=
  (∀ (s : State) (h : Hdr) (root : Byte) (key : List Byte), s.runs h (.keyRootWrite h root key) = true → root.toNat ≤ 1 → key.length = 32 → h.hc = 0 →
    s.otp.lc = 1 → s.begins (.keyRootWrite h root key) h s) ∧
  (∀ (s : State) (h : Hdr) (state : Byte) (auth : List Byte) (lc : Nat) (debug : Bool), s.runs h (.lifecycleSet h state auth) = true → h.hc = 0 →
    s.transitionTo state = some (lc, debug, false) → s.otp.made < 30 → auth = List.replicate 16 0 →
    s.begins (.lifecycleSet h state auth) h s) ∧
  (∀ (s : State) (h : Hdr) (state : Byte) (auth key : List Byte) (lc : Nat) (debug : Bool),
    let c := Instr.lifecycleSet h state auth
    let u := (s.taken h.hc.val c).derive .lifecycle
    s.runs h c = true → h.hc = 0 → s.transitionTo state = some (lc, debug, true) → s.otp.made < 30 → u.1 = some key →
    exec c s = .next (s.keep (if auth = Config.aesCmac key (authText state.toNat s.otp.made) then (u.2.addJob h c).2
      else u.2.complete h (opcOf c) St.authFail 0))) ∧
  (∀ (s : State) (h : Hdr) (token : Byte) (record kt : List Byte) (x : Tok),
    let c := Instr.immEnroll h token record
    let u := (s.taken h.hc.val c).derive (.token (s.immf 1 31 26) x.id)
    s.runs h c = true → token.toNat ≤ 7 → record.length = 48 → tokOf token.toNat (wordsOf record) = some x →
    s.enrolled.any (fun p => p.1 != token.toNat && p.2.id == x.id) = false → s.owns h.hc.val 0x0B 0 = true → s.immLive = true →
    s.ka.tok token.toNat = none → u.1 = some kt →
    exec c s = .next (s.keep
      (if (record.drop 16).take 16 = Config.aesCmac kt (ascii "GZEN" ++ beBytes 8 x.id.toNat ++ beBytes 4 x.treply) then (u.2.addJob h c).2
        else u.2.complete h (opcOf c) St.authFail 0))) ∧
  (∀ (s : State) (h : Hdr) (token : Byte), s.runs h (.immRevoke h token) = true → token.toNat ≤ 7 → s.owns h.hc.val 0x0B 0 = true → s.immLive = true →
    (s.ka.tok token.toNat).isSome = true → s.begins (.immRevoke h token) h s) ∧
  (∀ (s : State) (h : Hdr) (slot : Byte) (x : Staged),
    let c := Instr.keyCommit h slot
    s.runs h c = true → slot.toNat ≤ 63 → s.owns h.hc.val 8 slot.toNat = true → s.slotLive slot.toNat = true →
    s.stagedOf slot.toNat = some x → x.verified = true →
    exec c s = .next (s.keep ((s.taken h.hc.val c).addJob h c).2.kickFlash)) ∧
  (∀ (s : State) (h : Hdr) (slot : Byte) (wrapped kek : List Byte),
    let c := Instr.keyStage h slot wrapped
    let n := slot.toNat
    let u := (s.taken h.hc.val c).derive (.kek n)
    let a := u.2.stageBy n (Config.aesUnwrap kek wrapped)
    s.runs h c = true → n ≤ 63 → wrapped.length = 48 → s.owns h.hc.val 8 n = true → s.slotLive n = true → u.1 = some kek →
    s.does c h a.s 0 [] a.status) ∧
  (∀ (u : State) (n : Nat), u.stageBy n none = .no u St.authFail) ∧
  (∀ (u : State) (n : Nat) (b : List Byte) (x : Staged), stageOf n (((u.ka.slot n).version).getD 0) b = .ok x →
    let l := u.staged.filter (fun y => y.slot != n)
    (l.length < 4 → u.stageBy n (some b) = { s := { u with staged := l ++ [x] } }) ∧
    (4 ≤ l.length → u.stageBy n (some b) = .no u St.noResource)) ∧
  (∀ (s : State) (h : Hdr) (slot : Byte) (nonce : List Byte) (x : Staged),
    let c := Instr.keyVerify h slot nonce
    let n := slot.toNat
    s.runs h c = true → n ≤ 63 → nonce.length = 16 → s.owns h.hc.val 8 n = true → s.slotLive n = true → s.stagedOf n = some x →
    s.takes c h { s with staged := s.staged.map (fun y => if y.slot = n then { y with verified := true } else y) } 0
      (wordsOf (Config.aesCmac x.key (ascii "GZKV" ++ nonce ++ beBytes 1 n ++ beBytes 4 x.version)))) ∧
  (∀ (s : State) (h : Hdr) (slot : Byte) (nonce key : List Byte),
    let c := Instr.keyChallenge h slot nonce
    let l := s.challenges.filter (fun x => decide (s.now < x + sec 1))
    s.runs h c = true → slot.toNat ≤ 63 → nonce.length = 16 → s.slotLive slot.toNat = true → s.useKey slot.toNat 1 = some key →
    (l.length < 20 → s.takes c h { s with challenges := s.now :: l } 0 (wordsOf (Config.aesCmac key (ascii "GZCH" ++ nonce ++ devId)))) ∧
    (20 ≤ l.length → s.takes c h s 0 [] St.busy))

/-- The lifecycle's transitions (R384): from each state and overlay only those of the table, with AUTH where the table asks for it.
Model: A change of state under the DEBUG overlay is no transition (the model's reading, log 29). -/
def Obligations.LifecycleTransitions : Prop :=
  ∀ (lc : Nat) (debug roots : Bool) (state lc' : Nat) (debug' keyed : Bool), transition lc debug roots state = some (lc', debug', keyed) →
    (debug = true → state = 0x11 ∧ lc' = lc ∧ debug' = false ∧ keyed = false) ∧
    (debug = false → debug' = false →
      (lc = 0 ∧ lc' = 1 ∧ keyed = false) ∨ (lc = 1 ∧ lc' = 2 ∧ roots = true ∧ keyed = true) ∨ (lc = 2 ∧ lc' = 3 ∧ keyed = true) ∨
        (lc = 3 ∧ lc' = 1 ∧ keyed = true)) ∧
    (debug = false → debug' = true → (lc = 1 ∨ lc = 3) ∧ lc' = lc ∧ keyed = true)

/-- The random source's test, the re-masking of the shares, and the immobiliser's events (R389, R390, R403, R406 to R413).
Model: Log 4 (free draws), log 61 (each failed test posts), log 63 (the park clock's rate). -/
def Obligations.KeyAndImmobiliserEventsComplete : Prop :=
  (∀ s : State, s.sysUp = true → s.domOn Dm.sys = true → s.flag keyStat_rngOk = true → s.remaskAt + ms (s.get keyCfg_remask) ≤ s.now →
    exec .remask s = .next (s.keep s.remaskAll)) ∧
  (∀ s : State, s.sysUp = true → s.domOn Dm.sys = true → s.rngAt = none ∨ (∃ t : Nat, s.rngAt = some t ∧ t + sec 1 ≤ s.now) →
    exec (.rngHealthTest true) s = .next (({ s with rngAt := some s.now } : State).put keyStat_rngOk 1)) ∧
  (∀ s : State, s.sysUp = true → s.domOn Dm.sys = true →
    exec (.rngHealthTest false) s = .next (s.keep ((({ s with rngAt := some s.now } : State).put keyStat_rngOk 0).keyPost 0x03 0 0 0))) ∧
  (∀ s : State, s.immServes = true → s.imm.retryAt = none → (∀ t : Nat, s.imm.lastAt = some t → t + ms (s.immf 1 19 10) ≤ s.now) →
    exec .pollStart s = .next (s.keep s.startPoll)) ∧
  (∀ (s : State) (e : Nat), s.imm.retryAt = some e → e ≤ s.now → s.immServes = true → exec .pollRetry s = .next (s.keep s.startPoll)) ∧
  (∀ (answers : List PollAnswer) (p : Poll) (s : State), s.imm.poll = some p → p.startAt + ms 18 ≤ s.now → s.uwbPolls = true →
    exec (.pollDecision answers) s = .next (s.keep (s.pollDecide p answers))) ∧
  (∀ s : State, s.imm.rel ≠ .blocked → s.imm.frameAt ≤ s.now → s.sysUp = true → s.domOn Dm.sys = true →
    exec .releaseFrame s = .next (s.keep s.sendDue)) ∧
  (∀ (answers : List PollAnswer) (s : State), s.parks = true → s.parkCode = 1 ∨ s.parkCode = 2 →
    (∀ e : Nat, s.imm.retryAt = some e → e ≤ s.now) →
    (s.imm.retryAt = none → ms (if s.parkCode = 1 then 1000 else 4000) * 1000 ≤ (s.now - s.imm.parkPoll) * s.imm.parkRate) →
    exec (.parkedPoll answers) s = .next (s.keep (s.parkedPoll answers))) ∧
  (∀ s : State, s.parks = true → exec .parkMode s = .next (s.keep s.parkNote))

/-- Re-masking changes no key: the exclusive or of every pair of shares is what it was, for every key in use and every derived one
(R389).
Model: The masks are free values (log 4). -/
def Obligations.RemaskingKeepsTheKeys : Prop :=
  ∀ s : State,
    let t := s.remaskAll
    (t.ram.map (fun p => (p.1, p.2.key)) = s.ram.map (fun p => (p.1, p.2.key))) ∧
      (t.cache.map (fun x => (x.name, x.sh.key)) = s.cache.map (fun x => (x.name, x.sh.key))) ∧ t.keyArr = s.keyArr ∧ t.dbgArr = s.dbgArr

/-! ### Update (spec/19) -/

/-- UPDATE_BEGIN, CONFIG_BEGIN, UPDATE_STATUS and UPDATE_CANCEL, and UPDATE_DATA, CONFIG_DATA, UPDATE_END, CONFIG_END and UPDATE_CONFIRM,
which begin their writes, where their checks pass, and UPDATE_BEGIN's first refusals in their order (the model's choice, log 9) (R423 to R426, R428, R435, R442);
the detail of UPDATE_STATUS is free.
Model: Log 8 (acceptance in the same instant), log 9 (order of checks), log 36 (UPDATE_STATUS). -/
def Obligations.UpdateCommandsComplete : Prop :=
  (∀ (s : State) (h : Hdr) (size : Word),
    let c := Instr.updateBegin h size
    let t := s.taken h.hc.val c
    let r := t.updTake h.hc.val size.toNat
    s.runs h c = true → 1 ≤ size.toNat → size.toNat ≤ 2097152 → s.mayBegin h.hc.val = true → s.onTrial = false →
    (s.fwLock.all (fun l => l.hc == h.hc.val) = true → s.takes c h (s.updTake h.hc.val size.toNat).1 r.2.2 ∧ r.2.1 = St.ok) ∧
    (∀ l : StageLock, s.fwLock = some l → l.hc ≠ h.hc.val → s.takes c h s l.hc [] St.busy)) ∧
  (∀ (s : State) (h : Hdr) (size : Word), s.runs h (.updateBegin h size) = true →
    (size.toNat = 0 ∨ 2097152 < size.toNat → s.takes (.updateBegin h size) h s 0 [] St.badParam) ∧
    (1 ≤ size.toNat → size.toNat ≤ 2097152 → s.mayBegin h.hc.val = false → s.takes (.updateBegin h size) h s 0 [] St.notOwner)) ∧
  (∀ (s : State) (h : Hdr) (size : Word),
    let c := Instr.configBegin h size
    s.runs h c = true → 1 ≤ size.toNat → size.toNat ≤ 262144 → s.mayBegin h.hc.val = true →
    s.cfgLock.all (fun l => l.hc == h.hc.val) = true →
    let t : State := { s with cfgLock := some { hc := h.hc.val } }
    (s.flash.cfgStage = 1 → s.flash.cfgSize = size.toNat → s.flash.cfgHc = h.hc.val → s.takes c h t s.flash.cfgNext) ∧
    (¬ (s.flash.cfgStage = 1 ∧ s.flash.cfgSize = size.toNat ∧ s.flash.cfgHc = h.hc.val) →
      s.takes c h (t.modFlash (fun f => { f with cfgStaging := .bytes [], cfgStage := 1, cfgSize := size.toNat, cfgNext := 0, cfgHc := h.hc.val })))) ∧
  (∀ (s : State) (h : Hdr),
    let c := Instr.updateStatus h
    let r := (s.taken h.hc.val c).drawBytes 32
    s.runs h c = true → s.does c h r.2 s.flash.fwState (wordsOf r.1)) ∧
  (∀ (s : State) (h : Hdr),
    let c := Instr.updateCancel h
    s.runs h c = true → (s.owns h.hc.val 0x0A 4 = true ∨ ∃ l : StageLock, s.fwLock = some l ∧ l.hc = h.hc.val) →
    (s.flash.fwState = 1 ∨ s.flash.fwState = 2 → s.takes c h { s.modFlash Flash.unstage with fwLock := none }) ∧
    (s.flash.fwState = 4 → s.takes c h (s.modFlash (fun f => { f with fwState := 5, revert := 3 })))) ∧
  (∀ (s : State) (h : Hdr) (offset : Word) (data : List Byte) (l : StageLock), s.runs h (.updateData h offset data) = true → 1 ≤ data.length → data.length ≤ 2048 →
    s.fwLock = some l → l.hc = h.hc.val → offset.toNat = s.flash.fwNext → offset.toNat + data.length ≤ s.flash.fwSize →
    s.begins (.updateData h offset data) h s) ∧
  (∀ (s : State) (h : Hdr) (offset : Word) (data : List Byte) (l : StageLock), s.runs h (.configData h offset data) = true → 1 ≤ data.length → data.length ≤ 2048 →
    s.cfgLock = some l → l.hc = h.hc.val → offset.toNat = s.flash.cfgNext → offset.toNat + data.length ≤ s.flash.cfgSize →
    s.begins (.configData h offset data) h s) ∧
  (∀ (s : State) (h : Hdr), s.runs h (.updateEnd h) = true → endAllowed s.fwLock h.hc.val (s.flash.fwState == 1) s.flash.fwNext s.flash.fwSize = true →
    s.begins (.updateEnd h) h s) ∧
  (∀ (s : State) (h : Hdr), s.runs h (.configEnd h) = true → endAllowed s.cfgLock h.hc.val (s.flash.cfgStage == 1) s.flash.cfgNext s.flash.cfgSize = true →
    s.begins (.configEnd h) h s) ∧
  (∀ (s : State) (h : Hdr), s.runs h (.updateConfirm h) = true → s.flash.fwState = 4 → s.owns h.hc.val 0x0A 4 = true ∨ (s.onTrial = true ∧ s.flash.trialHc = h.hc.val) →
    s.begins (.updateConfirm h) h s)

/-- The flash, the JOURNAL and the trial (R394, R425, R427, R432, R434, R435; spec/04, R87).
Model: Log 51 (the third failed block), log 47 (the trial mark). -/
def Obligations.FlashEventsComplete : Prop :=
  (∀ (s : State) (w : KeyWrite), s.sysUp = true → s.domOn Dm.sys = true → s.keyWrite = some w →
    exec .flashWriteComplete s = .next (s.keepBurn (((s.eraseKey w.key.slot).keyStep w).kickFlash))) ∧
  (∀ (s : State) (j : Job), s.sysUp = true → s.domOn Dm.sys = true → s.keyWrite = none → s.writing = some j →
    let r := s.written j
    exec .flashWriteComplete s = .next (s.keepBurn ((r.1.endJob j.id r.2.1 r.2.2).kickFlash))) ∧
  (∀ (s : State) (l : StageLock), s.fwLock = some l → sec 60 ≤ l.idle →
    exec (.lockLapsed false) s = .next (s.keep (({ s with fwLock := none } : State).updPost 0x06 0 l.hc s.flash.fwNext [l.hc]))) ∧
  (∀ (s : State) (l : StageLock), s.cfgLock = some l → sec 60 ≤ l.idle →
    exec (.lockLapsed true) s = .next (s.keep (({ s with cfgLock := none } : State).updPost 0x06 1 l.hc s.flash.cfgNext [l.hc]))) ∧
  (∀ (s : State) (c : Copying) (st : Nat) (rest : List Nat), s.flash.copying = some c → c.stages = st :: rest → s.get pwrStart_phase = 4 →
    let e := s.erase (stageAddr st c.block)
    let t := e.modFlash (fun f => f.landed st c.block true)
    (c.block + 1 < stageBlocks st → exec (.copyBlock true) s = .next (s.keep
      ((t.modFlash (fun f => { f with stage := st, block := c.block })).modFlash (fun f => { f with copying := some { c with block := c.block + 1, tries := 0 } })))) ∧
    (stageBlocks st ≤ c.block + 1 → rest = [] → exec (.copyBlock true) s = .next (s.keep
      ((t.modFlash (fun f => { f with stage := st, block := c.block })).copyDone c.why))) ∧
    (stageBlocks st ≤ c.block + 1 → rest ≠ [] → exec (.copyBlock true) s = .next (s.keep
      ((t.modFlash (fun f => { f with stage := st, block := c.block })).modFlash (fun f => { f with copying := some { c with stages := rest, block := 0, tries := 0 } })))) ∧
    (c.tries < 2 → exec (.copyBlock false) s = .next (s.keep
      ((e.modFlash (fun f => f.landed st c.block false)).modFlash (fun f => { f with copying := some { c with tries := c.tries + 1 } })))) ∧
    (2 ≤ c.tries → exec (.copyBlock false) s = .next (s.keep ((e.modFlash (fun f => f.landed st c.block false)).copyFailed c st)))) ∧
  (∀ s : State, s.onTrial = true → sec 60 ≤ s.runTicks →
    exec .trialRuntimeWrite s = .next { s.modFlash (fun f => { f with runtime := f.runtime + s.runTicks / sec 1 }) with runTicks := s.runTicks % sec 1 }) ∧
  (∀ s : State, s.flash.fwState = 4 → 1800 ≤ s.flash.runtime + s.runTicks / sec 1 →
    exec .trialRuntimeLimit s = .next (s.keep (((s.modFlash (fun f => { f with fwState := 5, revert := 2 })).updPost 0x07 0 0
      (s.flash.runtime + s.runTicks / sec 1) [s.flash.trialHc]).fault 0x86 0x33 (2 + min 255 s.flash.boots * 0x100)))) ∧
  (∀ s : State, s.get pwrStart_phase = 3 → s.sysUp = true → s.domOn Dm.sys = true → exec .fallbackRepair s = .next (s.keep s.repairDone))

/-- The images that run are not touched before a start copies a staged one: no command of the update group and no end of a flash write
changes ACTIVE or CONFIG_ACTIVE (R423 to R426, R432). A firmware's security version that is programmed never falls, and a
confirmation is what raises it, to that of ACTIVE (R435, R442). -/
def Obligations.DownloadsLeaveTheImagesAlone : Prop :=
  (∀ (s t : State) (c : Instr), (0x60 ≤ opcOf c ∧ opcOf c ≤ 0x69) ∨ c = .flashWriteComplete → exec c s = .next t →
     t.flash.active = s.flash.active ∧ t.flash.cfgActive = s.flash.cfgActive) ∧
  (∀ s : State, s.confirm.otp.svnMin = max s.otp.svnMin s.flash.active.svn ∧ s.confirm.flash.boots = 0 ∧ s.confirm.flash.fwState = 0 ∧
     s.confirm.otp.slots = s.otp.slots ∧ (∀ k : Nat, s.otp.revoked.testBit k = true → s.confirm.otp.revoked.testBit k = true))

/-- R429: while the firmware state is TRIAL or REVERT_PENDING, UPDATE_BEGIN, of a size that the staging area takes and from a source that
may begin, completes with BAD_STATE; in phase COPY every command of the update group completes with BUSY; neither does anything else. -/
def Obligations.TrialAndCopyBarUpdates : Prop :=
  (∀ (s : State) (h : Hdr) (size : Word), s.runs h (.updateBegin h size) = true → 1 ≤ size.toNat → size.toNat ≤ 2097152 →
    s.mayBegin h.hc.val = true → s.flash.fwState = 4 ∨ s.flash.fwState = 5 → s.takes (.updateBegin h size) h s 0 [] St.badState) ∧
  (∀ (s : State) (c : Instr) (h : Hdr), hdrOf c = some h → 0x60 ≤ opcOf c → opcOf c < 0x70 → h.atomic = false → s.get pwrStart_phase = 4 →
    s.serves h.hc.val = true → s.closed h.hc.val = false → (s.accepted h.hc.val c).pick h.hc.val [] (s.queueFor h.hc.val c) none = some c →
    s.takes c h s 0 [] St.busy)

/-! ### UDS (spec/19, R440) -/

/-- The UDS services answer where the server is on and, where the service needs it, the programming session is open and unlocked and
the context has a token. A server that is off hears nothing, and outside an unlocked programming session a service that changes the
firmware answers 0x7F or 0x33 and does only that (R440, R110).
Model: Details that R440 leaves to ISO 14229 are presumed (log 42); cryptography is uninterpreted (log 5). -/
def Obligations.UdsServicesComplete : Prop :=
  (∀ (s : State) (sub : Byte), s.udsOn = true → sub = 1 ∨ sub = 2 →
    exec (.udsSessionControl [sub]) s = .next (s.keep ((s.udsHeard.udsSession (sub == 2) false).udsSend [0x50, sub, 0x00, 0x32, 0x01, 0xF4]))) ∧
  (∀ s : State, s.udsOn = true → s.udsHeard.udsMayAct = true →
    exec (.udsEcuReset [1]) s = .next (s.keep s.udsHeard.udsPaid.udsReset)) ∧
  (∀ s : State, s.udsOn = true →
    exec (.udsReadDataById [0xF1, 0x89]) s = .next (s.keep (s.udsHeard.udsSend ([0x62, 0xF1, 0x89] ++ beBytes 4 s.flash.active.version.toNat))) ∧
    exec (.udsReadDataById [0xF1, 0x8C]) s = .next (s.keep (s.udsHeard.udsSend ([0x62, 0xF1, 0x8C] ++ devId))) ∧
    exec (.udsReadDataById [0xF1, 0xA0]) s = .next (s.keep (s.udsHeard.udsSend ([0x62, 0xF1, 0xA0] ++ beBytes 4 (s.get updCfgver_value))))) ∧
  (∀ s : State, s.udsOn = true → s.udsHeard.udsLocked = false → exec (.udsRequestSeed [0x11]) s = .next (s.keep s.udsHeard.udsSeed)) ∧
  (∀ (s : State) (key seed k : List Byte), s.udsOn = true → s.udsHeard.udsLocked = false → key.length = 16 → s.uds.seed = some seed →
    s.udsHeard.useKey (s.get updUds_slot) 1 = some k →
    exec (.udsSendKey (0x12 :: key)) s = .next (s.keep
      (if key = Config.aesCmac k (ascii "GZCH" ++ seed ++ devId) then s.udsHeard.udsGoodKey else s.udsHeard.udsBadKey))) ∧
  (∀ (s : State) (e : Nat), s.uds.lockEnd = some e → e ≤ s.now →
    exec .udsSecurityLockEnd s = .next { s with uds := { s.uds with lockEnd := none } }) ∧
  (∀ s : State, s.udsOn = true →
    exec (.udsTesterPresent [0]) s = .next (s.keep (s.udsHeard.udsSend [0x7E, 0x00])) ∧ exec (.udsTesterPresent [0x80]) s = .next (s.keep s.udsHeard)) ∧
  (∀ s : State, s.uds.programming = true → s.uds.lastAt + sec 5 ≤ s.now → exec .udsSessionTimeout s = .next (s.udsSession false false)) ∧
  (∀ s : State, s.udsOn = true → s.uds.programming = true → s.uds.unlocked = true → s.udsHeard.udsMayAct = true →
    let u := s.udsHeard.udsPaid
    (u.udsBusy = false → u.confirmRefused u.udsHc = none →
      exec (.udsRoutineControl [1, 2, 1]) s = .next (s.keep (u.udsJob (.updateConfirm u.udsHdr) [0x71, 1, 2, 1]))) ∧
    exec (.udsRoutineControl [1, 2, 2]) s = .next (s.keep ((u.updCancel u.udsHc).1.udsDone [0x71, 1, 2, 2] (u.updCancel u.udsHc).2)) ∧
    exec (.udsRoutineControl [3, 2, 0]) s = .next (s.keep (u.udsDone ([0x71, 3, 2, 0] ++ beBytes 4 u.flash.fwState) St.ok)) ∧
    (∀ (size : List Byte) (a : Byte), size.length = 4 → a.toNat ≤ 1 →
      exec (.udsRequestDownload ([0, 0x44, 0, 0, 0, a] ++ size)) s = .next (s.keep (u.udsDownload (a == 1) (beNat size)))) ∧
    (s.uds.active = true → s.udsHeard.udsBusy = false →
      (∀ (c : Byte) (rest : List Byte), c.toNat = (s.uds.seq + 1) % 256 → u.udsDataSt rest.length = St.ok →
        exec (.udsTransferData (c :: rest)) s = .next (s.keep (u.udsData c rest))) ∧
      (u.udsMayEnd = true → exec (.udsTransferExit []) s = .next (s.keep u.udsExit)))) ∧
  (∀ (s : State) (data : List Byte), s.udsOn = false →
    exec (.udsSessionControl data) s = .next s ∧ exec (.udsEcuReset data) s = .next s ∧ exec (.udsRoutineControl data) s = .next s ∧
      exec (.udsRequestDownload data) s = .next s ∧ exec (.udsTransferData data) s = .next s ∧ exec (.udsTransferExit data) s = .next s) ∧
  (∀ (s : State) (data : List Byte), s.udsOn = true → s.uds.programming = false →
    exec (.udsRoutineControl data) s = .next (s.keep (s.udsHeard.udsNo 0x31 0x7F)) ∧
      exec (.udsRequestDownload data) s = .next (s.keep (s.udsHeard.udsNo 0x34 0x7F)) ∧
      exec (.udsTransferData data) s = .next (s.keep (s.udsHeard.udsNo 0x36 0x7F)) ∧
      exec (.udsTransferExit data) s = .next (s.keep (s.udsHeard.udsNo 0x37 0x7F))) ∧
  (∀ (s : State) (data : List Byte), s.udsOn = true → s.uds.programming = true → s.uds.unlocked = false →
    exec (.udsRoutineControl data) s = .next (s.keep (s.udsHeard.udsNo 0x31 0x33)) ∧
      exec (.udsRequestDownload data) s = .next (s.keep (s.udsHeard.udsNo 0x34 0x33)) ∧
      exec (.udsTransferData data) s = .next (s.keep (s.udsHeard.udsNo 0x36 0x33)) ∧
      exec (.udsTransferExit data) s = .next (s.keep (s.udsHeard.udsNo 0x37 0x33)))

/-! ### Registers and SPI (spec/01, spec/04) -/

/-- REG_READ, REG_WRITE and REG_MODIFY: the access is a host access of the issuing context, its status the command's (R80, R81); and the
rows of single register accesses, where the access succeeds: one that nothing earlier holds is performed, and one that an earlier command of
the context holds, or whose bank's link is lost, waits (R4, R6, R7, R15, R146, R167, R215, R346, R442).
Model: Log 8 (acceptance in the same instant). -/
def Obligations.RegisterRowsComplete : Prop :=
  (∀ (s : State) (h : Hdr) (addr : Word) (count : Byte),
    let c := Instr.regRead h addr count
    let r := (s.taken h.hc.val c).readMany h.hc.val addr.toNat count.toNat []
    s.runs h c = true → addr.toNat < 2 ^ 24 → 1 ≤ count.toNat → count.toNat ≤ 60 →
    s.does c h r.2.2 (if r.1 = St.ok then (r.2.1.getD 0 0).toNat else r.2.1.length) (padWords r.2.1) r.1) ∧
  (∀ (s : State) (h : Hdr) (addr data : Word),
    let c := Instr.regWrite h addr data
    let r := (s.taken h.hc.val c).hostWrite h.hc.val addr.toNat allOnes data
    s.runs h c = true → addr.toNat < 2 ^ 24 → exec c s = .next (s.keepBurn (r.2.complete h (opcOf c) r.1 0))) ∧
  (∀ (s : State) (h : Hdr) (addr mask value : Word),
    let c := Instr.regModify h addr mask value
    let r := (s.taken h.hc.val c).hostWrite h.hc.val addr.toNat mask value
    s.runs h c = true → addr.toNat < 2 ^ 24 →
    exec c s = .next (s.keepBurn (r.2.complete h (opcOf c) r.1 (if r.1 = St.ok then r.2.peek h.hc.val addr.toNat else 0)))) ∧
  (∀ (hc : Fin 8) (addr : Nat) (data : Word) (s : State),
    let r := s.hostWrite hc.val (addr % 2 ^ 24) allOnes data
    r.1 = St.ok → exec (.registerWrite hc addr data) s = .next (s.keepBurn (if s.accessWaits hc.val s.nextId (addr % 2 ^ 24) = true then s.holdWrite hc.val (addr % 2 ^ 24) allOnes data else r.2))) ∧
  (∀ (hc : Fin 8) (ch : Fin 64) (k : Fin 8) (data : Word) (s : State),
    let r := s.hostWrite hc.val (0x50000 + ch.val * 0x100 + k.val * 4) allOnes data
    r.1 = St.ok → exec (.channelCfgWrite hc ch k data) s = .next (s.keep (if s.accessWaits hc.val s.nextId (0x50000 + ch.val * 0x100 + k.val * 4) = true then s.holdWrite hc.val (0x50000 + ch.val * 0x100 + k.val * 4) allOnes data else r.2))) ∧
  (∀ (hc : Fin 8) (ax k : Fin 8) (data : Word) (s : State),
    let r := s.hostWrite hc.val (0x60000 + ax.val * 0x100 + k.val * 4) allOnes data
    r.1 = St.ok → exec (.axisCfgWrite hc ax k data) s = .next (s.keep (if s.accessWaits hc.val s.nextId (0x60000 + ax.val * 0x100 + k.val * 4) = true then s.holdWrite hc.val (0x60000 + ax.val * 0x100 + k.val * 4) allOnes data else r.2))) ∧
  (∀ (hc b : Fin 8) (s : State),
    let r := s.hostWrite hc.val (bankCmptest_run b.val).addr allOnes (word 0x100)
    r.1 = St.ok → exec (.cmptestRun hc b) s = .next (s.keep (if s.accessWaits hc.val s.nextId (bankCmptest_run b.val).addr = true then s.holdWrite hc.val (bankCmptest_run b.val).addr allOnes (word 0x100) else r.2))) ∧
  (∀ (hc : Fin 8) (data : Word) (s : State),
    let r := s.hostWrite hc.val updPolicy_requireOwner.addr allOnes data
    r.1 = St.ok → exec (.requireOwnerWrite hc data) s = .next (s.keepBurn (if s.accessWaits hc.val s.nextId updPolicy_requireOwner.addr = true then s.holdWrite hc.val updPolicy_requireOwner.addr allOnes data else r.2))) ∧
  (∀ (hc : Fin 8) (s : State),
    let r := s.hostRead hc.val compatWakesrc_wk.addr
    r.1 = St.ok → exec (.compatWakesrcRead hc) s = .next (s.keep (if s.accessHeld hc.val s.nextId compatWakesrc_wk.addr = true then s else r.2.2)))

/-- A field that no other field of its register overlaps reads as it was written, other fields keep their values, and the register
file keeps its canonical form: strictly rising addresses and no entry equal to its reset value.
Model: The canonical form of the register file is the model's own. -/
def Obligations.FieldsReadBack : Prop :=
  ∀ (s : State) (f g : Fld) (v : Nat), f.lo ≤ f.hi → f.hi < 32 → g.lo ≤ g.hi → g.hi < 32 → v < 2 ^ (f.hi + 1 - f.lo) →
    (s.put f v).get f = v ∧ (f.addr ≠ g.addr ∨ f.hi < g.lo ∨ g.hi < f.lo → (s.put f v).get g = s.get g) ∧
      (Sparse.wf (fun a => word (regDefault a)) s.regs = true → Sparse.wf (fun a => word (regDefault a)) (s.put f v).regs = true)

/-- An access where it may not go changes nothing: an address in no block is BAD_PARAM, a block whose domain is not On is BAD_STATE,
and a register outside the context's rights is NOT_OWNER (R14, R17, R50, R58).
Model: An unassigned offset reads 0 with OK for every context (the model's reading, log 80). -/
def Obligations.RefusedAccessesChangeNothing : Prop :=
  ∀ (s : State) (hc a : Nat) (m v : Word),
    (blockRegs a = none → s.hostWrite hc a m v = (St.badParam, s) ∧ s.hostRead hc a = (St.badParam, 0, s)) ∧
    (∀ (l : List RegDesc) (d : Nat), blockRegs a = some l → domOfAddr a = some d →
      (s.domOn d = false → s.hostRead hc a = (St.badState, 0, s) ∧ s.hostWrite hc a m v = (St.badState, s)) ∧
      (s.get pwrStart_phase ≠ 3 → earlyWrite a = false → s.hostWrite hc a m v = (St.badState, s)) ∧
      (s.domOn d = true → (d = Dm.sys → s.sysUp = true) →
        (findReg l a = none → s.hostRead hc a = (St.ok, 0, s)) ∧
        (∀ (x : RegDesc) (r : RegAt), findReg l a = some (x, r) → s.mayRead hc a r = false → s.hostRead hc a = (St.notOwner, 0, s)) ∧
        (∀ (x : RegDesc) (r : RegAt), findReg l a = some (x, r) → (s.get pwrStart_phase = 3 ∨ earlyWrite a = true) → s.mayWrite hc a r (v &&& m) = false →
          s.hostWrite hc a m v = (St.notOwner, s))))

/-- The SPI rows on a frame whose type and CRC are good, and on one whose CRC is bad (R68 to R76).
Model: STATUS_POLL's ring bits are those of the instant (log 25). -/
def Obligations.SpiRowsComplete : Prop :=
  (∀ (b : Byte) (s : State), s.hifAnswers = true → exec (.statusPoll b) s = .next { s with sdo := [BitVec.ofNat 8 s.gsb] }) ∧
  (∀ (f : SpiFrame) (s : State), s.hifAnswers = true → f.bytes.getD 0 0 = 1 → 4 < f.bytes.length → crc8 (f.bytes.take 4) = f.bytes.getD 4 0 →
    280 ≤ (s.get sysHifcfg_rdwait + 1) * 8 * f.periodNs →
    let a := beNat ((f.bytes.drop 1).take 3)
    let r := s.hostRead 0 a
    let x : State := { r.2.2 with freeCount := max r.2.2.freeCount s.freeCount }
    (s.accessHeld 0 s.nextId a = false ∨ r.1 ≠ St.ok → exec (.spiRegRead f) s = .next (s.keep { x.put sysHifstat_lastStatus r.1.toNat with
      crce := false, sdo := spiOut f (s.gsbByte f) (6 + s.get sysHifcfg_rdwait) (r.1 :: beBytes 4 r.2.1) true })) ∧
    (s.accessHeld 0 s.nextId a = true → r.1 = St.ok → exec (.spiRegRead f) s = .next (s.keep { s.put sysHifstat_lastStatus St.busy.toNat with
      crce := false, sdo := spiOut f (s.gsbByte f) (6 + s.get sysHifcfg_rdwait) (St.busy :: beBytes 4 0) true }))) ∧
  (∀ (f : SpiFrame) (s : State), s.hifAnswers = true → f.bytes.getD 0 0 = 2 → 8 < f.bytes.length → crc8 (f.bytes.take 8) = f.bytes.getD 8 0 →
    let a := beNat ((f.bytes.drop 1).take 3)
    let v := word (beNat ((f.bytes.drop 4).take 4))
    let r := s.hostWrite 0 a allOnes v
    (s.accessWaits 0 s.nextId a = false → exec (.spiRegWrite f) s = .next (s.keepBurn { r.2.put sysHifstat_lastStatus r.1.toNat with
      crce := false, sdo := spiOut f (s.gsbByte f) 9 [r.1] true })) ∧
    (s.accessWaits 0 s.nextId a = true → r.1 = St.ok → exec (.spiRegWrite f) s = .next (s.keepBurn { (s.holdWrite 0 a allOnes v).put sysHifstat_lastStatus 0 with
      crce := false, sdo := spiOut f (s.gsbByte f) 9 [St.ok] true }))) ∧
  (∀ (f : SpiFrame) (s : State),
    let p := 4 * ceilDiv (readHdr (f.bytes.drop 1)).len 4
    let r := s.acceptPkt 0 ((f.bytes.drop 1).take (8 + (readHdr (f.bytes.drop 1)).len)) 2056
    s.hifAnswers = true → f.bytes.getD 0 0 = 3 → 9 + p < f.bytes.length → crc8 (f.bytes.take (9 + p)) = f.bytes.getD (9 + p) 0 →
    exec (.packetPush f) s = .next (s.keep { r.1 with crce := false, sdo := spiOut f (s.gsbByte f) (10 + p) [r.2] true })) ∧
  (∀ (f : SpiFrame) (s : State), s.hifAnswers = true → f.bytes.getD 0 0 = 4 → 4 < f.bytes.length → crc8 (f.bytes.take 4) = f.bytes.getD 4 0 →
    s.serves 0 = true → (f.bytes.getD 1 0).toNat ≤ 1 → (f.bytes.getD 2 0).toNat ≤ 32 → 16 ≤ (f.bytes.getD 3 0).toNat → (f.bytes.getD 3 0).toNat ≤ 32 →
    let r := s.pullRing ((f.bytes.getD 1 0).toNat == 1) (f.bytes.getD 2 0).toNat (f.bytes.getD 3 0).toNat
    exec (.ringPull f) s = .next (s.keep { r.1 with crce := false, sdo := spiOut f (s.gsbByte f) 5 (BitVec.ofNat 8 (r.2.length / 4) :: bytesOf r.2) true })) ∧
  (∀ (f : SpiFrame) (s : State), s.hifAnswers = true → f.bytes.getD 0 0 = 2 → 8 < f.bytes.length → crc8 (f.bytes.take 8) ≠ f.bytes.getD 8 0 →
    exec (.spiRegWrite f) s = .next { s.inc sysHifstat_frameErr with crce := true, sdo := spiOut f (s.gsbByte f) 9 [0xFF] false })

/-! ### Transports and the sideband (spec/04, spec/15) -/

/-- Messages of HC1 to HC7 over their flows, resending, and an unfinished message that ends (R91 to R95); and the sideband (R343 to
R345).
Model: An unarmed sideband match only counts (the model's reading, log 75). -/
def Obligations.TransportRowsComplete : Prop :=
  (∀ (hc : Fin 8) (m : TransportMsg) (s : State), hc ≠ 0 → s.closed hc.val = false → s.bound hc.val = true → s.serves hc.val = true →
    s.isAuth hc.val = false →
    let t := s.modHc hc.val (fun h => { h with reply := if s.transport hc.val = 3 then (m.srcIp, m.srcPort) else h.reply })
    (m.kind = 0 → exec (.packetMessage hc m) s = .next (s.keep (t.packetIn hc.val m.bytes))) ∧
    (m.kind = 3 → 3 ≤ m.bytes.length → exec (.ringAck hc m) s = .next (s.keep (t.ackRing hc.val (pB m.bytes 0) (pH m.bytes 1))))) ∧
  (∀ (hc : Fin 8) (m : TransportMsg) (s : State), hc ≠ 0 → s.closed hc.val = false → s.bound hc.val = true → s.serves hc.val = true →
    s.isAuth hc.val = true →
    let tag := macOf (s.flowKey hc.val) (m.bytes.take (msgLen m.kind.toNat m.bytes)) m.counter
    let t := s.modHc hc.val (fun h => { h with
      rxCount := m.counter, reply := if s.transport hc.val = 3 then (m.srcIp, m.srcPort) else h.reply })
    ((s.flowKey? hc.val).isSome = true → (s.hc hc.val).rxCount < m.counter → m.mac = tag →
      (m.kind = 0 → exec (.packetMessage hc m) s = .next (s.keep (t.packetIn hc.val m.bytes))) ∧
      (m.kind = 3 → 3 ≤ m.bytes.length → exec (.ringAck hc m) s = .next (s.keep (t.ackRing hc.val (pB m.bytes 0) (pH m.bytes 1))))) ∧
    ((s.flowKey? hc.val).isNone = true ∨ m.counter ≤ (s.hc hc.val).rxCount ∨ m.mac ≠ tag → m.kind = 0 →
      exec (.packetMessage hc m) s = .next (s.keep (s.modHc hc.val (fun h => { h with authFail := h.authFail + 1 }))))) ∧
  (∀ (hc : Fin 8) (m : TransportMsg) (s : State), hc ≠ 0 → s.closed hc.val = true ∨ s.bound hc.val = false ∨ s.serves hc.val = false → m.kind = 0 →
    exec (.packetMessage hc m) s = .next (s.keep (s.inc (hcRefused_discard hc.val)))) ∧
  (∀ (hc : Fin 8) (s : State), hc ≠ 0 → s.closed hc.val = false → s.bound hc.val = true → s.asleepQuiet hc.val = false → s.serves hc.val = true →
    exec (.recordsResend hc false) s = .next (s.keep (s.sendGroups hc.val (s.flowKey hc.val)
      (fun r => r.delivered && decide (r.sentAt + ms 100 ≤ s.now)) (fun _ => false))) ∧
    exec (.recordsResend hc true) s = .next (s.keep (s.sendGroups hc.val (s.flowKey hc.val)
      (fun _ => false) (fun r => r.delivered && decide (r.sentAt + ms 100 ≤ s.now))))) ∧
  (∀ (hc : Fin 8) (s : State) (k next at_ : Nat) (bytes : List Byte), (s.hc hc.val).segs = some (k, next, bytes, at_) → at_ + ms 50 < s.now →
    exec (.canSegmentTimeout hc) s = .next (s.keep (s.modHc hc.val (fun h => { h with segs := none })))) ∧
  (∀ (a : BitVec 7) (s : State), a.toNat = s.otp.sbAddr → s.domOn Dm.sbi = false → s.vsup ≠ .belowAon →
    (s.wakeOn 9 = false → exec (.sidebandAddressMatch a) s = .next (s.keep (s.inc pwrSbstat_matches))) ∧
    (s.wakeOn 9 = true → exec (.sidebandAddressMatch a) s = .next (s.keep
      ((({ s.inc pwrSbstat_matches with sbHold := true } : State).emit .sbAck).wake 9)))) ∧
  (∀ (b : List Byte) (s : State), s.domOn Dm.sbi = true → b.length = 3 → exec (.sidebandPointerWrite b) s = .next { s with sbPtr := beNat b }) ∧
  (∀ (b : List Byte) (s : State), s.domOn Dm.sbi = true → b.length = 7 → beNat (b.take 3) = pwrSbreq_req.addr →
    exec (.sidebandWrite b) s = .next (s.keep (({ s with sbPtr := beNat (b.take 3) } : State).sbReq (word (beNat (b.drop 3)))))) ∧
  (∀ (b : List Byte) (s : State), s.domOn Dm.sbi = true → b.length = 7 → beNat (b.take 3) ≠ pwrSbreq_req.addr →
    exec (.sidebandWrite b) s = .next (s.keep (s.inc pwrSbstat_ignored))) ∧
  (∀ (n : Nat) (s : State), s.domOn Dm.sbi = true →
    exec (.sidebandRead n) s = .next (s.keep (s.sbReadWords n)) ∧ (s.sbReadWords n).sbOut.length = 4 * n ∧
      (s.sbPtr < 2 ^ 24 → (s.sbReadWords n).sbPtr = (s.sbPtr + 4 * n) % 2 ^ 24))

/-! ### Protection and measurement (spec/06, spec/07) -/

/-- The trip rows of a channel that is on in a bank that is On, where what trips it has lasted its time, the inrush regime's end, the wire
model's step, self-tests, restarts and the case temperature (R147, R150, R151, R154 to R160, R163, R164, R166, R167).
Model: Rounding of the wire model is left open (log 10); fault reports wait in the inbox (log 7). -/
def Obligations.ProtectionRowsComplete : Prop :=
  (∀ (n : Fin 64) (s : State), s.conducts n.val = true →
    exec (.currentLimit n) s = .next (s.modCh n.val (fun c => { c with
      limiting := true, limOn := true, olLow := none, limAt := if c.inrush then none else some (c.limAt.getD s.now) }))) ∧
  (∀ (n : Fin 64) (i v : Half) (s : State), (s.ch n.val).drive ≠ .off → s.domOn (Dm.bank (bankOf n.val)) = true →
    exec (.shortHard n i v) s = .next (s.keep (s.tripCore n.val 1 0x01 i.toNat v.toNat 0)) ∧
    (∀ a : Nat, (s.ch n.val).inrush = false → (s.ch n.val).limAt = some a → us 200 ≤ (s.ch n.val).limRun + (s.now - a) →
      exec (.overcurrent n i v) s = .next (s.keep (s.tripCore n.val 2 0x02 i.toNat v.toNat 0))) ∧
    exec (.overtempDt n i v) s = .next (s.keep (s.tripCore n.val 3 0x03 i.toNat v.toNat 0)) ∧
    exec (.overtempAbs n i v) s = .next (s.keep (s.tripCore n.val 4 0x04 i.toNat v.toNat 0)) ∧
    (∀ (seg : Fin 3) (a : Nat), chClass n.val = .H → (s.ch n.val).segLow.getD seg.val none = some a → a + ms 1 ≤ s.now →
      exec (.segImbalance n seg i v) s = .next (s.keep (s.tripCore n.val 6 0x06 i.toNat v.toNat (seg.val * 0x100))))) ∧
  (∀ (n : Fin 64) (func : Fin 5) (copyB : Bool) (i v : Half) (s : State), s.domOn (Dm.bank (bankOf n.val)) = true →
    exec (.cmpMismatch n func copyB i v) s = .next (s.keep
      ((s.inc (bankProtstat_mismatch (bankOf n.val))).tripCore n.val 7 0x08 i.toNat v.toNat (func.val * 0x100 + b2n copyB * 0x800)))) ∧
  (∀ (n : Fin 64) (s : State), (s.ch n.val).inrush = true → (s.ch n.val).inrushEnd ≤ s.now →
    exec (.inrushRegimeEnd n) s = .next (s.modCh n.val (fun c => { c with inrush := false, limAt := if c.limiting then some s.now else none }))) ∧
  (∀ (n : Fin 64) (i v : Half) (s : State), s.domOn (Dm.bank (bankOf n.val)) = true → (s.ch n.val).thetaAt + ms 1 ≤ s.now →
    let t := s.modCh n.val (fun c => { c with sqSum := 0, sqCnt := 0, drove := decide (c.drive ≠ .off), thetaAt := s.now })
    let u := t.modCh n.val (fun c => { c with theta := s.thetaNext n.val })
    let on : Prop := bits (s.cfgw n.val 4) 15 0 ≠ 0 ∧ s.flag (bankSense_curValid (bankOf n.val)) = true
    (¬ on → exec (.wireModelUpdate n i v) s = .next t) ∧
    (on → s.thetaNext n.val < 1000000000 → exec (.wireModelUpdate n i v) s = .next u) ∧
    (on → 1000000000 ≤ s.thetaNext n.val → exec (.wireModelUpdate n i v) s = .next (s.keep (u.trip n.val 5 0x05 i.toNat v.toNat)))) ∧
  (∀ (n : Fin 64) (s : State), (s.ch n.val).testAt = none → (s.ch n.val).offAt + ms 1 ≤ s.now →
    (s.ch n.val).testedAt = 0 ∨ (s.ch n.val).testedAt / sec 1 < s.now / sec 1 →
    (s.ch n.val).drive = .off → s.domOn (Dm.bank (bankOf n.val)) = true →
    exec (.selftestStart n) s = .next (s.keep
      ((s.modCh n.val (fun c => { c with testAt := some s.now })).put ⟨(bankCmptest_pass (bankOf n.val)).addr, n.val % 8, n.val % 8⟩ 0))) ∧
  (∀ (n : Fin 64) (func : Fin 5) (copyB : Bool) (s : State) (a : Nat), (s.ch n.val).testAt = some a → a + us 200 ≤ s.now →
    let t := s.modCh n.val (fun c => { c with testAt := none, testedAt := s.now })
    exec (.selftestEnd n true func copyB) s = .next (s.keep
      ((t.put ⟨(bankCmptest_pass (bankOf n.val)).addr, n.val % 8, n.val % 8⟩ 1).modCh n.val (fun c => { c with testOk := true }))) ∧
    exec (.selftestEnd n false func copyB) s = .next (s.keep
      ((t.inc (bankProtstat_selftestFail (bankOf n.val))).tripCore n.val 7 0x09
        (unsigned 16 (rdiv (milliAmps (chClass n.val) (s.get (chI_sample n.val))) 100)) (unsigned 16 (centiVolts (s.get (chVt_vout n.val))))
        (func.val * 0x100 + b2n copyB * 0x800)))) ∧
  (∀ (n : Fin 64) (s : State),
    let e := s.head n.val
    s.mayRestart e = true → (∀ r ∈ s.line, r.src ≠ .restart e) →
    (s.limpOnNow = true ∨ (s.bank (bankOf e)).ownLimp = true → exec (.restart n) s = .next (s.keep (s.request (.restart e) [(e, s.budgetI e)] 0 none none))) ∧
    (s.limpOnNow = false → (s.bank (bankOf e)).ownLimp = false →
      exec (.restart n) s = .next (s.keep (s.request (.restart e) [(e, s.budgetI e)] (s.chPrio e) (s.owner 0 e) none)))) ∧
  (∀ (n : Fin 64) (s : State),
    let e := s.head n.val
    s.cooled e = true → s.wanted e = false → s.bridged e = false →
    exec (.restart n) s = .next (s.modCh e (fun c => { c with cooling := false }))) ∧
  (∀ (n : Fin 64) (s : State),
    let t := s.modCh n.val (fun c => { c with restarts := c.restarts.filter (fun x => decide (s.now < x + sec 10)) })
    exec (.restartAgeOut n) s = .next t ∧ t.restartN n.val = s.restartN n.val) ∧
  (∀ (b : Fin 8) (s : State), s.flag (bankTwarn_active b.val) = false → 16 * (s.get (bankTwarn_level b.val) + 56) ≤ s.get (bankMeas_tcase b.val) →
    exec (.bankTempWarn b) s = .next (s.keep
      ((((s.put (bankTwarn_active b.val) 1).modBank b.val (fun x => { x with warnAt := s.now })).holdWaiting.holdEdges b.val).reexamine.fault
        (0x40 + b.val) 0x10 b.val))) ∧
  (∀ (b : Fin 8) (s : State), s.flag (bankTwarn_active b.val) = true → s.get (bankMeas_tcase b.val) ≤ 16 * (s.get (bankTwarn_level b.val) + 51) →
    exec (.bankTempWarnEnd b) s = .next (s.keep (s.put (bankTwarn_active b.val) 0).freeHeld.reexamine))

/-- A trip of a channel outside a bridge that is counted as a restart trip (R158, R159, R160): the output is off; the channel latches
where the restarts of the last 10 s equal RESTART_MAX and is otherwise in COOLING, while it is commanded on or LOW; the minimum
off time is 8 ms × 2^min(n, 7); the trip's fault is posted, and CHANNEL_LATCHED after it where the channel latches, which also
withdraws a restart that waits for budget.
Model: Fault reports wait in the inbox (log 7). -/
def Obligations.TripLatchesOrCools : Prop :=
  ∀ (s : State) (n cause kind i v more : Nat), n < 64 → s.bridged n = false → 1 ≤ cause → cause ≤ 5 → (∀ g ∈ s.grants, g.ch ≠ n) → (s.ch n).edgeJob = none →
    (∀ p : Pulse, (s.ch n).pulse = some p → p.job = none) → (∀ p : Profile, (s.ch n).profile = some p → p.job = none) →
    let t := s.tripCore n cause kind i v more
    let c := t.ch n
    let latch := decide (s.restartMax n = s.restartN n)
    c.drive = .off ∧ c.tripped = true ∧ c.cause = cause ∧ c.coolEnd = s.now + ms (8 * 2 ^ min (s.restartN n) 7) ∧ c.latched = latch ∧
      ((s.ch n).pulse = none → c.cmdOn = (s.ch n).cmdOn ∧ c.cooling = (!latch && ((s.ch n).cmdOn || (s.ch n).lowSide))) ∧
      ((s.ch n).pulse.isSome = true → c.cmdOn = false ∧ c.cooling = false) ∧ c.theta = (s.ch n).theta ∧
      t.inbox = s.inbox ++ [faultMsg n kind (n + more)] ++ (if latch = true then [faultMsg n 0x07 n] else []) ∧
      t.get (chTrip_iTrip n) = i % 65536 ∧ t.get (chTrip_voutTrip n) = v % 65536 ∧ (∀ m : Nat, m ≠ n → t.ch m = s.ch m) ∧
      (latch = true → ∀ r ∈ t.line, r.src ≠ .restart n ∧ r.src ≠ .uv n) ∧ (latch = false → t.line = s.line) ∧
      t.grants = s.grants ∧ t.bridges = s.bridges

/-- The measurement and open-load rows (R122, R124, R129, R132 to R141, R226).
Model: Measured codes are operands; DISSIPATION_ESTIMATE carries the banks' means (log 17); rounding is left open (log 10). -/
def Obligations.MeasurementRowsComplete : Prop :=
  (∀ (n : Fin 64) (on : Bool) (delay : Half) (s : State), s.domOn (Dm.bank (bankOf n.val)) = true →
    let p := s.put (if on = true then chDelay_ton n.val else chDelay_toff n.val) delay.toNat
    let t := if on = true then
        p.modCh n.val (fun c => { c with pulse := c.pulse.map (fun x => if delay = 0xFFFF ∨ x.startAt = none then x else { x with onDelay := some delay.toNat }) })
      else p.pulseDone n.val (if delay = 0xFFFF then 65534 else delay.toNat)
    (delay = 0xFFFF ∨ s.reports (bankOf n.val) = false → exec (.edgeDelayMeasured n on delay) s = .next (s.keep t)) ∧
    (delay ≠ 0xFFFF → s.reports (bankOf n.val) = true →
      exec (.edgeDelayMeasured n on delay) s = .next (s.keep
        (t.leadLearn n.val (if on = true then 0 else 1) (rnear (delay.toNat : Int) 100).toNat (s.ch n.val).edgeV)))) ∧
  (∀ (n : Fin 64) (energy : Half) (r : Nat) (s : State), clampRep (chClass n.val) = some r →
    let t := (s.put (chClamp_last n.val) energy.toNat).modBank (bankOf n.val) (fun x => { x with clampE := x.clampE + energy.toNat })
    (energy.toNat ≤ r → exec (.clampPulseEnd n energy) s = .next t) ∧
    (r < energy.toNat → exec (.clampPulseEnd n energy) s = .next (s.keep ((t.inc (chClamp_over n.val)).fault n.val 0x0D n.val)))) ∧
  (∀ (means : List Nat) (s : State), s.domOn Dm.sys = true →
    exec (.dissipationEstimate means) s = .next (s.keep (s.bankDiss means).moduleDiss) ∧
    (∀ b : Nat, b < 8 → (s.bank b).curFail = false → (s.bank b).auxFail = false → s.domOn (Dm.bank b) = true →
      let m := satTo 65535 (nearDiss (meanDiss ((s.bankMilli b :: (s.bank b).diss).take 100)) (means.getD b 0))
      (s.bankDiss means).get (bankPdiss_mean b) = m ∧ (s.bankDiss means).get (bankPdiss_peak b) = max (s.get (bankPdiss_peak b)) m)) ∧
  (∀ (b : Fin 8) (s : State),
    exec (.senseAdc b false) s = .next (s.keep ((((s.modBank b.val (fun x => { x with curFail := true })).put (bankSense_curValid b.val) 0).inc
      (bankSense_errcnt b.val)).fault (0x40 + b.val) 0x11 b.val)) ∧
    exec (.senseAdc b true) s = .next (s.keep ((((s.modBank b.val (fun x => { x with auxFail := true })).put (bankSense_auxValid b.val) 0).inc
      (bankSense_errcnt b.val)).fault (0x40 + b.val) 0x11 (b.val + 0x100)))) ∧
  (∀ (b slot : Fin 8) (code : BitVec 14) (on edge settling : Bool) (segs : List (BitVec 10)) (s : State),
    s.domOn (Dm.bank b.val) = true → (s.bank b.val).curFail = false → (s.bank b.val).slot = slot.val →
    let n := 8 * b.val + slot.val
    let t := (s.modBank b.val (fun x => { x with slot := (slot.val + 1) % 8 })).takeSample n code.toNat (on && !edge && !settling) edge
      (segs.map (fun x => x.toNat))
    exec (.currentSample b slot code on edge settling segs) s = .next (s.keep t) ∧
      t.get (chI_sample n) = code.toNat ∧ t.flag (bankSense_curValid b.val) = true ∧ (t.ch n).sqCnt = (s.ch n).sqCnt + 1 ∧
      (s.avg n = 0 → t.get (chI_mean n) = if edge then s.get (chI_mean n) else code.toNat) ∧ (t.bank b.val).slot = (slot.val + 1) % 8 ∧
      (∀ m : Nat, m ≠ n → t.ch m = s.ch m)) ∧
  (∀ (b : Fin 8) (vout tch : List (BitVec 12)) (vbat tcase : BitVec 12) (s : State), s.domOn (Dm.bank b.val) = true → (s.bank b.val).auxFail = false →
    let t := s.scanAux b.val vout tch vbat tcase
    exec (.auxiliaryScan b vout tch vbat tcase) s = .next (s.keep t) ∧ t.flag (bankSense_auxValid b.val) = true ∧
      t.get (bankMeas_vbat b.val) = vbat.toNat ∧ t.get (bankMeas_tcase b.val) = tcase.toNat ∧
      (∀ k : Nat, k < 8 → t.get (chVt_vout (8 * b.val + k)) = (vout.getD k 0).toNat ∧ t.get (chVt_tch (8 * b.val + k)) = (tch.getD k 0).toNat)) ∧
  (∀ (n : Fin 64) (a : Nat) (s : State), s.onTested n.val = true → (s.ch n.val).olLow = some a →
    max a (max ((s.ch n.val).edgeAt + ms (bits (s.cfgw n.val 0) 7 0)) (s.olFree n.val)) + s.olFilt n.val ≤ s.now → s.loadSeen n.val = false →
    s.flag (chDiag_olonLive n.val) = false →
    exec (.openLoadOn n) s = .next (s.keep (((s.put (chDiag_olonLive n.val) 1).put (chDiag_olon n.val) 1).fault n.val 0x0A n.val))) ∧
  (∀ (n : Fin 64) (s : State), s.offTested n.val = true → bits (s.cfgw n.val 0) 29 28 = 2 →
    (∀ a : Nat, (s.ch n.val).olOpened = some a → a + ms 100 ≤ s.now) →
    exec (.offTestWindow n) s = .next (s.modCh n.val (fun c => { c with
      olWindow := some s.now, olVol := false, olSeen := c.olSeen && c.olWindow.isNone, olOpened := some s.now }))) ∧
  (∀ (n : Fin 64) (a : Nat) (s : State), s.offTested n.val = true → s.flag (chDiag_oloffLive n.val) = false →
    let found (t : State) := ((t.put (chDiag_oloffLive n.val) 1).put (chDiag_oloff n.val) 1).fault n.val 0x0B n.val
    (bits (s.cfgw n.val 0) 29 28 = 1 → s.volSeen n.val = true → (s.ch n.val).volAt = some a → a + ms 1 ≤ s.now →
      exec (.openLoadOff n) s = .next (s.keep (found s))) ∧
    (bits (s.cfgw n.val 0) 29 28 = 2 → (s.ch n.val).olVol = true → (s.ch n.val).olWindow = some a → a + ms 1 ≤ s.now →
      let t := s.modCh n.val (fun c => { c with olWindow := none, olSeen := true })
      ((s.ch n.val).olSeen = true → exec (.openLoadOff n) s = .next (s.keep (found t))) ∧
      ((s.ch n.val).olSeen = false → exec (.openLoadOff n) s = .next t))) ∧
  (∀ (n : Fin 64) (a : Nat) (s : State), s.olRuns (bankOf n.val) = true → (s.ch n.val).drive = .off → (s.ch n.val).stbAt = some a →
    a + ms 1 ≤ s.now → 600 ≤ centiVolts (s.get (chVt_vout n.val)) → s.flag (chDiag_stbLive n.val) = false →
    exec (.shortToBat n) s = .next (s.keep (((s.put (chDiag_stbLive n.val) 1).put (chDiag_stb n.val) 1).fault n.val 0x0C n.val)))

/-! ### Drive modes (spec/08) -/

/-- The rows of PWM, pulses, lamps and valves (R169, R171, R172, R175, R178, R183 to R186).
Model: Log 66 (drive corners). -/
def Obligations.DriveRowsComplete : Prop :=
  (∀ (n : Fin 64) (s : State), (s.ch n.val).drive ≠ .off → s.domOn (Dm.bank (bankOf n.val)) = true → s.inPeriod n.val = 0 →
    exec (.pwmPeriodEnd n) s = .next (s.keep (s.nextPeriod n.val))) ∧
  (∀ (b : Fin 8) (p : Nat) (s : State), (s.bank b.val).newPeriod = some p → s.frameEnds b.val = true →
    exec (.baseFrameEnd b) s = .next (((s.modBank b.val (fun x => { x with newPeriod := none, frameAt := s.now })).put (bankPwmbase_period b.val) p).put
      (bankPwmbase_pending b.val) 0)) ∧
  (∀ (n : Fin 64) (width : Word) (p : Pulse) (a : Nat) (s : State), (s.ch n.val).pulse = some p → p.startAt = some a → a + us p.width ≤ s.now →
    exec (.pulseEnd n width) s = .next (s.keep (((s.endPulse n.val width.toNat).chanOff n.val).clearCmd n.val))) ∧
  (∀ (n : Fin 64) (p : Profile) (s : State), (s.ch n.val).profile = some p → p.code = 1 → p.phase = .ramp → (s.ch n.val).drive ≠ .off →
    p.startAt + ms (setField p.set 1 31 16) ≤ s.now →
    let t := s.modCh n.val (fun c => { c with profile := some { p with phase := .lampHold, duty := p.dutyEnd } })
    exec (.rampEnd n) s = .next (s.keep
      (((t.useDuty n.val (t.lampDuty (bankOf n.val) p.dutyEnd (setField p.set 1 15 0))).profileDone n.val 0).releaseCh n.val))) ∧
  (∀ (n : Fin 64) (latency : Half) (p : Profile) (s : State), (s.ch n.val).profile = some p → p.code = 2 → p.phase = .peak → p.arrival = none →
    p.det.found = true → s.flag (bankSense_curValid (bankOf n.val)) = true →
    let l := p.latencyOf latency.toNat
    let t := (s.modCh n.val (fun c => { c with profile := some { p with arrival := some l, arrivalAt := s.now } })).put
      (bankArrival_last (bankOf n.val) (n.val % 8)) l
    (t.reports (bankOf n.val) = false → exec (.arrivalConfirmed n latency) s = .next t) ∧
    (t.reports (bankOf n.val) = true → exec (.arrivalConfirmed n latency) s = .next (s.keep (t.leadLearn n.val 2 (10 * l) p.startV)))) ∧
  (∀ (n : Fin 64) (p : Profile) (s : State), (s.ch n.val).profile = some p → p.code = 2 → p.phase = .peak → (s.ch n.val).drive ≠ .off →
    let t := (s.modCh n.val (fun c => { c with profile := some { p with phase := .valveHold, duty := setField p.set 3 15 4, chopOff := false }, div := 0 })).useDuty
      n.val (setField p.set 3 15 4)
    (∀ l : Nat, p.arrival = some l → p.arrivalAt + us (100 * setField p.set 4 31 16) ≤ s.now ∨ p.startAt + us (100 * setField p.set 1 31 16) ≤ s.now →
      exec (.peakPhaseEnd n) s = .next (s.keep ((t.profileDone n.val 0 l).releaseCh n.val))) ∧
    (p.arrival = none → p.startAt + us (100 * setField p.set 1 31 16) ≤ s.now →
      exec (.peakPhaseEnd n) s = .next (s.keep ((((t.inc (bankArrival_noarr (bankOf n.val) (n.val % 8))).fault n.val 0x0E n.val).profileDone n.val 1).releaseCh n.val))))

/-- The rows of motors and of the profile microcode (R181, R182, R187 to R193).
Model: Log 18 (pinch reference), log 66 (drive corners). -/
def Obligations.MotorRowsComplete : Prop :=
  (∀ (k : Fin 8) (filled : Bool) (ax : Nat) (s : State), s.bridged (48 + 2 * k.val) = true → s.rippleAx k.val = some ax →
    s.rippleDue k.val filled = true →
    exec (.rippleCount k filled) s = .next (s.keep ((s.rippled k.val ax filled).reverseCount k.val))) ∧
  (∀ (k : Fin 8) (s : State), s.bridged (48 + 2 * k.val) = true → (s.br k.val).reverseLeft = none → s.uvCh (48 + 2 * k.val) = false →
    s.motionDone k.val = true →
    (s.motionRuns k.val = true → exec (.motionEnd k) s = .next (s.keep (s.motionOver k.val))) ∧
    (s.motionRuns k.val = false → exec (.motionEnd k) s = .next (s.keep (s.axRest k.val)))) ∧
  (∀ (k : Fin 8) (m : Move) (s : State), (s.br k.val).move = some m → s.isOn (48 + 2 * k.val) = true → (s.br k.val).ending = none →
    (s.br k.val).mstate ≠ .pinch →
    (if s.closing k.val = true then s.axOut m.axis ≤ signed 64 m.target else signed 64 m.target ≤ s.axOut m.axis) →
    ¬ (setField m.set 0 31 24 = 4 ∧ s.closing k.val = true ∧ signed 64 m.target < ((setField m.set 1 15 0 : Nat) : Int)) →
    exec (.targetCrossing k) s = .next (s.keep
      (((s.modBr k.val (fun b => { b with ending := some 0 })).brake k.val (ms 20)).clearCmd (48 + 2 * k.val)))) ∧
  (∀ (k : Fin 8) (e : Nat) (s : State), (s.br k.val).brakeEnd = some e → e ≤ s.now →
    let t := s.modBr k.val (fun b => { b with brakeEnd := none })
    ((s.br k.val).reverseLeft = none ∨ (s.br k.val).move = none →
      exec (.brakeEnd k) s = .next (s.keep ((t.modBr k.val (fun b => { b with mstate := .idle })).setBridge k.val .coast))) ∧
    (∀ m : Move, (s.br k.val).reverseLeft = some 0 → (s.br k.val).move = some m →
      exec (.brakeEnd k) s = .next (s.keep
        (((t.modBr k.val (fun b => { b with reverseLeft := none, ending := some 5, mstate := .idle })).setBridge k.val .coast).clearCmd (48 + 2 * k.val)))) ∧
    (∀ (r : Nat) (m : Move), (s.br k.val).reverseLeft = some r → r ≠ 0 → (s.br k.val).move = some m →
      exec (.brakeEnd k) s = .next (s.keep ((t.modCh (48 + 2 * k.val) (fun c => { c with duty := setField m.set 0 11 0 })).request (.pinch k.val)
        [(48 + 2 * k.val, s.budgetI (48 + 2 * k.val))] 0 none none)))) ∧
  (∀ (k : Fin 8) (s : State), s.bridged (48 + 2 * k.val) = true → s.isOn (48 + 2 * k.val) = true → s.stalled k.val = true →
    let n := 48 + 2 * k.val
    (∀ m : Move, (s.br k.val).move = some m → (s.br k.val).ending = none →
      let zone := setField m.set 0 31 24 = 4 ∧ s.closing k.val = true ∧ (s.br k.val).mstate ≠ .pinch ∧
        ((s.br k.val).norm = false ∨ s.axOut m.axis < ((setField m.set 1 15 0 : Nat) : Int))
      (zone → exec (.stall k) s = .next (s.keep
        (((((s.normalise k.val m.axis true).learnBins k.val).modBr k.val (fun b => { b with ending := some 0 })).brake k.val (ms 20)).clearCmd n))) ∧
      (setField m.set 0 31 24 = 6 → exec (.stall k) s = .next (s.keep
        ((((s.normalise k.val m.axis (s.br k.val).lastFwd).modBr k.val (fun b => { b with ending := some 0 })).brake k.val (ms 20)).clearCmd n))) ∧
      (¬ zone → setField m.set 0 31 24 ≠ 6 → exec (.stall k) s = .next (s.keep
        (((s.modBr k.val (fun b => { b with ending := some 4, runBins := [], reverseLeft := none })).brake k.val (ms 20)).clearCmd n)))) ∧
    (∀ p : Profile, (s.br k.val).move = none → (s.ch n).profile = some p →
      (p.code = 5 → p.startAt + ms (setField p.set 1 15 0) ≤ s.now →
        exec (.stall k) s = .next (s.keep (((s.endProfile n 0).chanOff n).clearCmd n))) ∧
      (p.code = 5 → s.now < p.startAt + ms (setField p.set 1 15 0) → exec (.stall k) s = .next s) ∧
      (p.code = 3 → exec (.stall k) s = .next (s.keep (((s.endProfile n 4).brake k.val (ms 20)).clearCmd n))))) ∧
  (∀ (k : Fin 8) (p : Profile) (s : State), (s.ch (48 + 2 * k.val)).profile = some p → p.code = 3 → s.isOn (48 + 2 * k.val) = true →
    let n := 48 + 2 * k.val
    let t := s.modBr k.val (fun b => { b with cycle := if b.parkSeen = true then b.sincePark else b.cycle, sincePark := 0, parkSeen := true })
    (p.parkAt = none → exec (.parkEdge k) s = .next t) ∧
    (p.parkAt.isSome = true → 7 < setField p.set 4 31 24 ∨ t.domOn Dm.crk = false →
      exec (.parkEdge k) s = .next (s.keep (((t.endProfile n 0).brake k.val (ms 50)).clearCmd n))) ∧
    (p.parkAt.isSome = true → setField p.set 4 31 24 ≤ 7 → t.domOn Dm.crk = true →
      exec (.parkEdge k) s = .next (s.keep ((((t.axRefMotor (setField p.set 4 31 24)).endProfile n 0).brake k.val (ms 50)).clearCmd n))) ∧
    (∀ a : Nat, p.parkAt = some a → a + ms (setField p.set 2 15 0) ≤ s.now →
      exec (.parkTimeout k) s = .next (s.keep (((s.endProfile n 6).brake k.val (ms 20)).clearCmd n)))) ∧
  (∀ (k : Fin 8) (m : Move) (a : Nat) (s : State), (s.br k.val).move = some m → s.isOn (48 + 2 * k.val) = true →
    (s.br k.val).ending = none → (s.br k.val).reverseLeft = none → s.pinchZone k.val m = true →
    (s.br k.val).pinchAt = some a → a + ms (setField m.set 2 15 8) ≤ s.now →
    exec (.pinchDetection k) s = .next (s.keep (((s.inc (bankPinch_events (bankOf (48 + 2 * k.val)) (k.val % 4))).modBr k.val (fun b => { b with
      pinchPos := unsigned 32 (s.axOut m.axis), reverseLeft := some (16 * setField m.set 2 7 0), runBins := [] })).brake k.val (ms 20)))) ∧
  (∀ (k : Fin 8) (p : Profile) (s : State), (s.ch (48 + 2 * k.val)).profile = some p → p.code = 5 → s.isOn (48 + 2 * k.val) = true →
    p.startAt + ms (setField p.set 1 31 16) ≤ s.now →
    exec (.lockTimeLimit k) s = .next (s.keep (((s.endProfile (48 + 2 * k.val) 1).chanOff (48 + 2 * k.val)).clearCmd (48 + 2 * k.val)))) ∧
  (∀ (b : Fin 8) (s : State), (s.bank b.val).pendingStore = true → (∀ k : Nat, k < 8 → s.transient (8 * b.val + k) = false) →
    exec (.ucodeIdlePoint b) s = .next (s.modBank b.val (fun x => { x with
      store := 1 - x.store, storeOk := true, loaded := true, pendingStore := false }))) ∧
  (∀ (b : Fin 8) (s : State), exec (.ucodeCrc b) s = .next (s.keep ((s.fault (0x40 + b.val) 0x12 (b.val + (s.bank b.val).store * 0x100)).ucodeFail b.val)) ∧
    (s.line = [] → ∀ t : State, exec (.ucodeCrc b) s = .next t → ∀ k : Nat, k < 8 → (t.ch (8 * b.val + k)).profile = none))

/-! ### The headroom governor (spec/11) -/

/-- The governor's rows (R241 to R249).
Model: Log 67 (frozen reports). -/
def Obligations.GovernorRowsComplete : Prop :=
  (∀ (n : Fin 64) (s : State), exec (.grantExpiry n) s = .next (s.keep (s.release (fun g => g.ch == n.val && g.edge.any (fun e =>
    decide (e + ms (s.budgetT n.val) ≤ s.now)))))) ∧
  (∀ (q : Nat) (r : Req) (d : Nat) (s : State), s.line.find? (fun x => x.id == q) = some r → r.limit = some d → d ≤ s.now →
    exec (.deferralLimit q) s = .next (s.keep (s.limitReq r).reexamine)) ∧
  (∀ (g : Fin 2) (s : State), s.domOn Dm.crk = true → s.get (govDroop_level (s.freezeGroup g.val)) ≠ 0 →
    (s.grp (s.freezeGroup g.val)).frozenLocal = false →
    exec (.droopFreeze g) s = .next (s.keep (((s.modGrp (s.freezeGroup g.val) (fun x => { x with frozenLocal := true, frozenAt := s.now })).inc
      (govPeak_freezes (s.freezeGroup g.val))).post s.sysHolders 12 0x02 (s.freezeGroup g.val) 1 0))) ∧
  (∀ (g : Fin 2) (s : State), (s.grp (s.freezeGroup g.val)).frozenLocal = true →
    exec (.droopFreezeEnd g) s = .next (s.keep (((s.modGrp (s.freezeGroup g.val) (fun x => { x with frozenLocal := false })).post s.sysHolders 12 0x02
      (s.freezeGroup g.val) 0 (satTo 0xFFFFFFFF ((s.now - (s.grp (s.freezeGroup g.val)).frozenAt) / 100))).reexamine))) ∧
  (∀ s : State, s.domOn Dm.crk = true → exec .epochBoundary s = .next (s.keep s.epoch)) ∧
  (∀ (g : Fin 2) (m : Fin 4) (s : State), s.domOn Dm.crk = true → s.govShares g.val = true → m.val ∈ s.othersOf g.val →
    (s.grp g.val).lost.testBit m.val = false → s.isLinked m.val = false ∨ (∃ p ∈ (s.grp g.val).missed, p.1 = m.val ∧ 3 ≤ p.2) →
    exec (.memberLost g m) s = .next (s.keep (s.govLose g.val m.val true))) ∧
  (∀ (g : Fin 2) (d : Nat) (s : State), (s.grp g.val).holdUntil = some d → d ≤ s.now →
    exec (.fbHoldEnd g) s = .next (s.keep ((s.modGrp g.val (fun x => { x with holdUntil := none })).govPart g.val).reexamine)) ∧
  (∀ (g : Fin 2) (s : State), (s.grp g.val).fallback = true → 3 ≤ (s.grp g.val).good →
    let t := s.modGrp g.val (fun x => { x with fallback := false, holdUntil := none, bf := s.lowBudget g.val, lost := 0 })
    exec (.membersRelinked g) s = .next (s.keep
      (((t.put govCluster_lost ((t.grp 0).lost ||| (t.grp 1).lost)).post t.sysHolders 12 0x03 g.val 0 0).reexamine)))

/-- What a complete epoch gives its members never takes their shares together above the budget in force (R245, R246). -/
def Obligations.AllocationStaysWithinTheBudget : Prop :=
  ∀ (bf : Nat) (ms : List (Exchange × Nat)), (ms.map (fun m => m.1.member)).Nodup → (ms.map (fun m => m.1.share)).sum ≤ bf →
    (ms.map (fun m => m.1.share + allocation bf ms m.1.member)).sum ≤ bf
end

