-- ==== Sys2Proof/Laws/Sparse.lean ====
section
/-! SUPPORT. Sparse maps: a read after a write, and every write keeps the canonical form. -/

namespace Sys2Proof

variable {α : Type} [DecidableEq α] {d : Nat → α}

theorem Sparse.okFrom_weaken {m : Sparse α} {lo lo' : Nat} (hle : lo' ≤ lo) (h : Sparse.okFrom d lo m = true) :
    Sparse.okFrom d lo' m = true := by
  cases m with
  | nil => rfl
  | cons p rest =>
    simp only [Sparse.okFrom, Bool.and_eq_true, decide_eq_true_eq] at h ⊢
    exact ⟨⟨by omega, h.1.2⟩, h.2⟩

/-- Below its first key a canonical map reads as the default. -/
theorem Sparse.get_below {m : Sparse α} {lo k : Nat} (h : Sparse.okFrom d lo m = true) (hk : k < lo) : Sparse.get d m k = d k := by
  induction m generalizing lo with
  | nil => rfl
  | cons p rest ih =>
    simp only [Sparse.okFrom, Bool.and_eq_true, decide_eq_true_eq] at h
    rw [Sparse.get, if_neg (by omega)]
    exact ih h.2 (by omega)

theorem Sparse.okFrom_erase {m : Sparse α} {lo k : Nat} (h : Sparse.okFrom d lo m = true) : Sparse.okFrom d lo (Sparse.erase m k) = true := by
  induction m generalizing lo with
  | nil => rfl
  | cons p rest ih =>
    simp only [Sparse.okFrom, Bool.and_eq_true, decide_eq_true_eq] at h
    unfold Sparse.erase
    split
    · exact Sparse.okFrom_weaken (by omega) (ih h.2)
    · simpa [Sparse.okFrom, h.1.1, h.1.2] using ih h.2

theorem Sparse.okFrom_insert {m : Sparse α} {lo k : Nat} {v : α} (h : Sparse.okFrom d lo m = true) (hk : lo ≤ k) (hv : v ≠ d k) :
    Sparse.okFrom d lo (Sparse.insert m k v) = true := by
  induction m generalizing lo with
  | nil => simp [Sparse.insert, Sparse.okFrom, hk, hv]
  | cons p rest ih =>
    simp only [Sparse.okFrom, Bool.and_eq_true, decide_eq_true_eq] at h
    unfold Sparse.insert
    split
    · simp [Sparse.okFrom, hk, hv, h.1.2, h.2]; omega
    · split
      · rename_i he
        subst he
        simp [Sparse.okFrom, hk, hv, h.2]
      · simpa [Sparse.okFrom, h.1.1, h.1.2] using ih h.2 (by omega)

/-- Every write keeps the canonical form. -/
theorem Sparse.wf_set {m : Sparse α} (k : Nat) (v : α) (h : Sparse.wf d m = true) : Sparse.wf d (Sparse.set d m k v) = true := by
  unfold Sparse.set
  split
  · exact Sparse.okFrom_erase h
  · exact Sparse.okFrom_insert h (Nat.zero_le k) ‹_›

omit [DecidableEq α] in
theorem Sparse.get_erase_self {m : Sparse α} {k : Nat} : Sparse.get d (Sparse.erase m k) k = d k := by
  induction m with
  | nil => rfl
  | cons p rest ih =>
    unfold Sparse.erase
    split
    · exact ih
    · rw [Sparse.get, if_neg ‹_›]; exact ih

omit [DecidableEq α] in
theorem Sparse.get_erase_ne {m : Sparse α} {j k : Nat} (hjk : j ≠ k) : Sparse.get d (Sparse.erase m k) j = Sparse.get d m j := by
  induction m with
  | nil => rfl
  | cons p rest ih =>
    unfold Sparse.erase
    split
    · rw [Sparse.get, if_neg (by omega), ih]
    · rw [Sparse.get, Sparse.get, ih]

omit [DecidableEq α] in
theorem Sparse.get_insert_self {m : Sparse α} {k : Nat} {v : α} : Sparse.get d (Sparse.insert m k v) k = v := by
  induction m with
  | nil => simp [Sparse.insert, Sparse.get]
  | cons p rest ih =>
    unfold Sparse.insert
    split
    · simp [Sparse.get]
    · split
      · simp [Sparse.get]
      · rw [Sparse.get, if_neg (by omega)]; exact ih

omit [DecidableEq α] in
theorem Sparse.get_insert_ne {m : Sparse α} {j k : Nat} {v : α} (hjk : j ≠ k) : Sparse.get d (Sparse.insert m k v) j = Sparse.get d m j := by
  induction m with
  | nil => simp [Sparse.insert, Sparse.get]; omega
  | cons p rest ih =>
    unfold Sparse.insert
    split
    · rw [Sparse.get, if_neg (by omega)]
    · split
      · simp only [Sparse.get]; rw [if_neg (by omega), if_neg (by omega)]
      · simp only [Sparse.get, ih]

/-- A read after a write of the same key gives what was written. -/
@[simp] theorem Sparse.get_set_self {m : Sparse α} {k : Nat} {v : α} : Sparse.get d (Sparse.set d m k v) k = v := by
  unfold Sparse.set
  split
  · rename_i he; rw [he]; exact Sparse.get_erase_self
  · exact Sparse.get_insert_self

/-- A write leaves every other key alone. -/
@[simp] theorem Sparse.get_set_ne {m : Sparse α} {j k : Nat} {v : α} (hjk : j ≠ k) : Sparse.get d (Sparse.set d m k v) j = Sparse.get d m j := by
  unfold Sparse.set
  split
  · exact Sparse.get_erase_ne hjk
  · exact Sparse.get_insert_ne hjk

/-- Two canonical maps that read alike from `lo` on are the same list. -/
theorem Sparse.ext_of_okFrom {a b : Sparse α} {lo : Nat} (ha : Sparse.okFrom d lo a = true) (hb : Sparse.okFrom d lo b = true)
    (h : ∀ k : Nat, Sparse.get d a k = Sparse.get d b k) : a = b := by
  induction a generalizing b lo with
  | nil =>
    cases b with
    | nil => rfl
    | cons q rest =>
      simp only [Sparse.okFrom, Bool.and_eq_true, decide_eq_true_eq] at hb
      have := h q.1
      simp only [Sparse.get, if_true] at this
      exact absurd this.symm hb.1.2
  | cons p ra ih =>
    obtain ⟨j, v⟩ := p
    simp only [Sparse.okFrom, Bool.and_eq_true, decide_eq_true_eq] at ha
    cases b with
    | nil =>
      have := h j
      simp only [Sparse.get, if_true] at this
      exact absurd this ha.1.2
    | cons q rb =>
      obtain ⟨k, w⟩ := q
      simp only [Sparse.okFrom, Bool.and_eq_true, decide_eq_true_eq] at hb
      have hjk : j = k := by
        rcases Nat.lt_trichotomy j k with hlt | he | hlt
        · have := h j
          rw [Sparse.get, if_pos rfl, Sparse.get, if_neg (by omega), Sparse.get_below hb.2 (by omega)] at this
          exact absurd this ha.1.2
        · exact he
        · have := h k
          rw [Sparse.get, if_neg (by omega), Sparse.get_below ha.2 (by omega), Sparse.get, if_pos rfl] at this
          exact absurd this.symm hb.1.2
      subst hjk
      have hv : v = w := by simpa [Sparse.get] using h j
      subst hv
      have : ra = rb := ih ha.2 hb.2 (fun k => by
        by_cases hk : j = k
        · subst hk; rw [Sparse.get_below ha.2 (by omega), Sparse.get_below hb.2 (by omega)]
        · simpa [Sparse.get, hk] using h k)
      rw [this]

/-- Equal readings are equal data. -/
theorem Sparse.ext_of_wf {a b : Sparse α} (ha : Sparse.wf d a = true) (hb : Sparse.wf d b = true)
    (h : ∀ k : Nat, Sparse.get d a k = Sparse.get d b k) : a = b := Sparse.ext_of_okFrom ha hb h

end Sys2Proof
end

