-- ==== Sys2Proof/Laws/State.lean ====
section
/-! SUPPORT. What each update of the state leaves: one lemma per field per update. -/

namespace Sys2Proof.Machine

variable (s : State)


/-! ### wr -/

@[simp] theorem State.wr_pending (a : Nat) (w : Word) : (s.wr a w).pending = s.pending := rfl
@[simp] theorem State.wr_now (a : Nat) (w : Word) : (s.wr a w).now = s.now := rfl
@[simp] theorem State.wr_otp (a : Nat) (w : Word) : (s.wr a w).otp = s.otp := rfl
@[simp] theorem State.wr_devTime (a : Nat) (w : Word) : (s.wr a w).devTime = s.devTime := rfl
@[simp] theorem State.wr_freeCount (a : Nat) (w : Word) : (s.wr a w).freeCount = s.freeCount := rfl
@[simp] theorem State.wr_nextId (a : Nat) (w : Word) : (s.wr a w).nextId = s.nextId := rfl
@[simp] theorem State.wr_issuing (a : Nat) (w : Word) : (s.wr a w).issuing = s.issuing := rfl
@[simp] theorem State.wr_turnHc (a : Nat) (w : Word) : (s.wr a w).turnHc = s.turnHc := rfl
@[simp] theorem State.wr_hcs (a : Nat) (w : Word) : (s.wr a w).hcs = s.hcs := rfl
@[simp] theorem State.wr_owners (a : Nat) (w : Word) : (s.wr a w).owners = s.owners := rfl
@[simp] theorem State.wr_jobs (a : Nat) (w : Word) : (s.wr a w).jobs = s.jobs := rfl
@[simp] theorem State.wr_portCells (a : Nat) (w : Word) : (s.wr a w).portCells = s.portCells := rfl
@[simp] theorem State.wr_backlog (a : Nat) (w : Word) : (s.wr a w).backlog = s.backlog := rfl
@[simp] theorem State.wr_lostFor (a : Nat) (w : Word) : (s.wr a w).lostFor = s.lostFor := rfl
@[simp] theorem State.wr_sent (a : Nat) (w : Word) : (s.wr a w).sent = s.sent := rfl
@[simp] theorem State.wr_sdo (a : Nat) (w : Word) : (s.wr a w).sdo = s.sdo := rfl
@[simp] theorem State.wr_crce (a : Nat) (w : Word) : (s.wr a w).crce = s.crce := rfl
@[simp] theorem State.wr_rdy (a : Nat) (w : Word) : (s.wr a w).rdy = s.rdy := rfl
@[simp] theorem State.wr_aonIrq (a : Nat) (w : Word) : (s.wr a w).aonIrq = s.aonIrq := rfl
@[simp] theorem State.wr_vsup (a : Nat) (w : Word) : (s.wr a w).vsup = s.vsup := rfl
@[simp] theorem State.wr_powerLost (a : Nat) (w : Word) : (s.wr a w).powerLost = s.powerLost := rfl
@[simp] theorem State.wr_uvMask (a : Nat) (w : Word) : (s.wr a w).uvMask = s.uvMask := rfl
@[simp] theorem State.wr_degMask (a : Nat) (w : Word) : (s.wr a w).degMask = s.degMask := rfl
@[simp] theorem State.wr_olFrom (a : Nat) (w : Word) : (s.wr a w).olFrom = s.olFrom := rfl
@[simp] theorem State.wr_vioOk (a : Nat) (w : Word) : (s.wr a w).vioOk = s.vioOk := rfl
@[simp] theorem State.wr_t0 (a : Nat) (w : Word) : (s.wr a w).t0 = s.t0 := rfl
@[simp] theorem State.wr_sysUp (a : Nat) (w : Word) : (s.wr a w).sysUp = s.sysUp := rfl
@[simp] theorem State.wr_serving (a : Nat) (w : Word) : (s.wr a w).serving = s.serving := rfl
@[simp] theorem State.wr_rstLow (a : Nat) (w : Word) : (s.wr a w).rstLow = s.rstLow := rfl
@[simp] theorem State.wr_sysStartTimes (a : Nat) (w : Word) : (s.wr a w).sysStartTimes = s.sysStartTimes := rfl
@[simp] theorem State.wr_devResetAt (a : Nat) (w : Word) : (s.wr a w).devResetAt = s.devResetAt := rfl
@[simp] theorem State.wr_coastAt (a : Nat) (w : Word) : (s.wr a w).coastAt = s.coastAt := rfl
@[simp] theorem State.wr_coastTime (a : Nat) (w : Word) : (s.wr a w).coastTime = s.coastTime := rfl
@[simp] theorem State.wr_lhLevel (a : Nat) (w : Word) : (s.wr a w).lhLevel = s.lhLevel := rfl
@[simp] theorem State.wr_chans (a : Nat) (w : Word) : (s.wr a w).chans = s.chans := rfl
@[simp] theorem State.wr_bridges (a : Nat) (w : Word) : (s.wr a w).bridges = s.bridges := rfl
@[simp] theorem State.wr_banks (a : Nat) (w : Word) : (s.wr a w).banks = s.banks := rfl
@[simp] theorem State.wr_line (a : Nat) (w : Word) : (s.wr a w).line = s.line := rfl
@[simp] theorem State.wr_grants (a : Nat) (w : Word) : (s.wr a w).grants = s.grants := rfl
@[simp] theorem State.wr_gov (a : Nat) (w : Word) : (s.wr a w).gov = s.gov := rfl
@[simp] theorem State.wr_govPend (a : Nat) (w : Word) : (s.wr a w).govPend = s.govPend := rfl
@[simp] theorem State.wr_ports (a : Nat) (w : Word) : (s.wr a w).ports = s.ports := rfl
@[simp] theorem State.wr_pairs (a : Nat) (w : Word) : (s.wr a w).pairs = s.pairs := rfl
@[simp] theorem State.wr_pairSel (a : Nat) (w : Word) : (s.wr a w).pairSel = s.pairSel := rfl
@[simp] theorem State.wr_flows (a : Nat) (w : Word) : (s.wr a w).flows = s.flows := rfl
@[simp] theorem State.wr_fullTold (a : Nat) (w : Word) : (s.wr a w).fullTold = s.fullTold := rfl
@[simp] theorem State.wr_fwd (a : Nat) (w : Word) : (s.wr a w).fwd = s.fwd := rfl
@[simp] theorem State.wr_netPorts (a : Nat) (w : Word) : (s.wr a w).netPorts = s.netPorts := rfl
@[simp] theorem State.wr_slowWin (a : Nat) (w : Word) : (s.wr a w).slowWin = s.slowWin := rfl
@[simp] theorem State.wr_slowQ (a : Nat) (w : Word) : (s.wr a w).slowQ = s.slowQ := rfl
@[simp] theorem State.wr_asGood (a : Nat) (w : Word) : (s.wr a w).asGood = s.asGood := rfl
@[simp] theorem State.wr_asAt (a : Nat) (w : Word) : (s.wr a w).asAt = s.asAt := rfl
@[simp] theorem State.wr_asHi (a : Nat) (w : Word) : (s.wr a w).asHi = s.asHi := rfl
@[simp] theorem State.wr_fullAt (a : Nat) (w : Word) : (s.wr a w).fullAt = s.fullAt := rfl
@[simp] theorem State.wr_log (a : Nat) (w : Word) : (s.wr a w).log = s.log := rfl
@[simp] theorem State.wr_inbox (a : Nat) (w : Word) : (s.wr a w).inbox = s.inbox := rfl
@[simp] theorem State.wr_summaryFlash (a : Nat) (w : Word) : (s.wr a w).summaryFlash = s.summaryFlash := rfl
@[simp] theorem State.wr_summaryAt (a : Nat) (w : Word) : (s.wr a w).summaryAt = s.summaryAt := rfl
@[simp] theorem State.wr_summaryLoaded (a : Nat) (w : Word) : (s.wr a w).summaryLoaded = s.summaryLoaded := rfl
@[simp] theorem State.wr_fqTold (a : Nat) (w : Word) : (s.wr a w).fqTold = s.fqTold := rfl
@[simp] theorem State.wr_fiDeb (a : Nat) (w : Word) : (s.wr a w).fiDeb = s.fiDeb := rfl
@[simp] theorem State.wr_doms (a : Nat) (w : Word) : (s.wr a w).doms = s.doms := rfl
@[simp] theorem State.wr_wakeTimer (a : Nat) (w : Word) : (s.wr a w).wakeTimer = s.wakeTimer := rfl
@[simp] theorem State.wr_wkLevel (a : Nat) (w : Word) : (s.wr a w).wkLevel = s.wkLevel := rfl
@[simp] theorem State.wr_hibAt (a : Nat) (w : Word) : (s.wr a w).hibAt = s.hibAt := rfl
@[simp] theorem State.wr_sbPtr (a : Nat) (w : Word) : (s.wr a w).sbPtr = s.sbPtr := rfl
@[simp] theorem State.wr_sbOut (a : Nat) (w : Word) : (s.wr a w).sbOut = s.sbOut := rfl
@[simp] theorem State.wr_sysReturn (a : Nat) (w : Word) : (s.wr a w).sysReturn = s.sysReturn := rfl
@[simp] theorem State.wr_sysAgain (a : Nat) (w : Word) : (s.wr a w).sysAgain = s.sysAgain := rfl
@[simp] theorem State.wr_sbHold (a : Nat) (w : Word) : (s.wr a w).sbHold = s.sbHold := rfl
@[simp] theorem State.wr_keyArr (a : Nat) (w : Word) : (s.wr a w).keyArr = s.keyArr := rfl
@[simp] theorem State.wr_dbgArr (a : Nat) (w : Word) : (s.wr a w).dbgArr = s.dbgArr := rfl
@[simp] theorem State.wr_testPins (a : Nat) (w : Word) : (s.wr a w).testPins = s.testPins := rfl
@[simp] theorem State.wr_staged (a : Nat) (w : Word) : (s.wr a w).staged = s.staged := rfl
@[simp] theorem State.wr_keyWrite (a : Nat) (w : Word) : (s.wr a w).keyWrite = s.keyWrite := rfl
@[simp] theorem State.wr_cache (a : Nat) (w : Word) : (s.wr a w).cache = s.cache := rfl
@[simp] theorem State.wr_ram (a : Nat) (w : Word) : (s.wr a w).ram = s.ram := rfl
@[simp] theorem State.wr_remaskAt (a : Nat) (w : Word) : (s.wr a w).remaskAt = s.remaskAt := rfl
@[simp] theorem State.wr_rngAt (a : Nat) (w : Word) : (s.wr a w).rngAt = s.rngAt := rfl
@[simp] theorem State.wr_challenges (a : Nat) (w : Word) : (s.wr a w).challenges = s.challenges := rfl
@[simp] theorem State.wr_imm (a : Nat) (w : Word) : (s.wr a w).imm = s.imm := rfl
@[simp] theorem State.wr_flash (a : Nat) (w : Word) : (s.wr a w).flash = s.flash := rfl
@[simp] theorem State.wr_erases (a : Nat) (w : Word) : (s.wr a w).erases = s.erases := rfl
@[simp] theorem State.wr_cfgNow (a : Nat) (w : Word) : (s.wr a w).cfgNow = s.cfgNow := rfl
@[simp] theorem State.wr_fwLock (a : Nat) (w : Word) : (s.wr a w).fwLock = s.fwLock := rfl
@[simp] theorem State.wr_cfgLock (a : Nat) (w : Word) : (s.wr a w).cfgLock = s.cfgLock := rfl
@[simp] theorem State.wr_runTicks (a : Nat) (w : Word) : (s.wr a w).runTicks = s.runTicks := rfl
@[simp] theorem State.wr_uds (a : Nat) (w : Word) : (s.wr a w).uds = s.uds := rfl
@[simp] theorem State.wr_axes (a : Nat) (w : Word) : (s.wr a w).axes = s.axes := rfl
@[simp] theorem State.wr_timeHi (a : Nat) (w : Word) : (s.wr a w).timeHi = s.timeHi := rfl
@[simp] theorem State.wr_alignCount (a : Nat) (w : Word) : (s.wr a w).alignCount = s.alignCount := rfl
@[simp] theorem State.wr_alignAt (a : Nat) (w : Word) : (s.wr a w).alignAt = s.alignAt := rfl
@[simp] theorem State.wr_stepDue (a : Nat) (w : Word) : (s.wr a w).stepDue = s.stepDue := rfl
@[simp] theorem State.wr_rateFrac (a : Nat) (w : Word) : (s.wr a w).rateFrac = s.rateFrac := rfl
@[simp] theorem State.wr_slots (a : Nat) (w : Word) : (s.wr a w).slots = s.slots := rfl
@[simp] theorem State.wr_dueQ (a : Nat) (w : Word) : (s.wr a w).dueQ = s.dueQ := rfl
@[simp] theorem State.wr_acts (a : Nat) (w : Word) : (s.wr a w).acts = s.acts := rfl
@[simp] theorem State.wr_crossings (a : Nat) (w : Word) : (s.wr a w).crossings = s.crossings := rfl
@[simp] theorem State.wr_tickAt (a : Nat) (w : Word) : (s.wr a w).tickAt = s.tickAt := rfl
@[simp] theorem State.wr_fireTimes (a : Nat) (w : Word) : (s.wr a w).fireTimes = s.fireTimes := rfl
@[simp] theorem State.wr_leadRuns (a : Nat) (w : Word) : (s.wr a w).leadRuns = s.leadRuns := rfl
@[simp] theorem State.wr_later (a : Nat) (w : Word) : (s.wr a w).later = s.later := rfl

/-! ### put -/

@[simp] theorem State.put_pending (f : Fld) (v : Nat) : (s.put f v).pending = s.pending := rfl
@[simp] theorem State.put_now (f : Fld) (v : Nat) : (s.put f v).now = s.now := rfl
@[simp] theorem State.put_otp (f : Fld) (v : Nat) : (s.put f v).otp = s.otp := rfl
@[simp] theorem State.put_devTime (f : Fld) (v : Nat) : (s.put f v).devTime = s.devTime := rfl
@[simp] theorem State.put_freeCount (f : Fld) (v : Nat) : (s.put f v).freeCount = s.freeCount := rfl
@[simp] theorem State.put_nextId (f : Fld) (v : Nat) : (s.put f v).nextId = s.nextId := rfl
@[simp] theorem State.put_issuing (f : Fld) (v : Nat) : (s.put f v).issuing = s.issuing := rfl
@[simp] theorem State.put_turnHc (f : Fld) (v : Nat) : (s.put f v).turnHc = s.turnHc := rfl
@[simp] theorem State.put_hcs (f : Fld) (v : Nat) : (s.put f v).hcs = s.hcs := rfl
@[simp] theorem State.put_owners (f : Fld) (v : Nat) : (s.put f v).owners = s.owners := rfl
@[simp] theorem State.put_jobs (f : Fld) (v : Nat) : (s.put f v).jobs = s.jobs := rfl
@[simp] theorem State.put_portCells (f : Fld) (v : Nat) : (s.put f v).portCells = s.portCells := rfl
@[simp] theorem State.put_backlog (f : Fld) (v : Nat) : (s.put f v).backlog = s.backlog := rfl
@[simp] theorem State.put_lostFor (f : Fld) (v : Nat) : (s.put f v).lostFor = s.lostFor := rfl
@[simp] theorem State.put_sent (f : Fld) (v : Nat) : (s.put f v).sent = s.sent := rfl
@[simp] theorem State.put_sdo (f : Fld) (v : Nat) : (s.put f v).sdo = s.sdo := rfl
@[simp] theorem State.put_crce (f : Fld) (v : Nat) : (s.put f v).crce = s.crce := rfl
@[simp] theorem State.put_rdy (f : Fld) (v : Nat) : (s.put f v).rdy = s.rdy := rfl
@[simp] theorem State.put_aonIrq (f : Fld) (v : Nat) : (s.put f v).aonIrq = s.aonIrq := rfl
@[simp] theorem State.put_vsup (f : Fld) (v : Nat) : (s.put f v).vsup = s.vsup := rfl
@[simp] theorem State.put_powerLost (f : Fld) (v : Nat) : (s.put f v).powerLost = s.powerLost := rfl
@[simp] theorem State.put_uvMask (f : Fld) (v : Nat) : (s.put f v).uvMask = s.uvMask := rfl
@[simp] theorem State.put_degMask (f : Fld) (v : Nat) : (s.put f v).degMask = s.degMask := rfl
@[simp] theorem State.put_olFrom (f : Fld) (v : Nat) : (s.put f v).olFrom = s.olFrom := rfl
@[simp] theorem State.put_vioOk (f : Fld) (v : Nat) : (s.put f v).vioOk = s.vioOk := rfl
@[simp] theorem State.put_t0 (f : Fld) (v : Nat) : (s.put f v).t0 = s.t0 := rfl
@[simp] theorem State.put_sysUp (f : Fld) (v : Nat) : (s.put f v).sysUp = s.sysUp := rfl
@[simp] theorem State.put_serving (f : Fld) (v : Nat) : (s.put f v).serving = s.serving := rfl
@[simp] theorem State.put_rstLow (f : Fld) (v : Nat) : (s.put f v).rstLow = s.rstLow := rfl
@[simp] theorem State.put_sysStartTimes (f : Fld) (v : Nat) : (s.put f v).sysStartTimes = s.sysStartTimes := rfl
@[simp] theorem State.put_devResetAt (f : Fld) (v : Nat) : (s.put f v).devResetAt = s.devResetAt := rfl
@[simp] theorem State.put_coastAt (f : Fld) (v : Nat) : (s.put f v).coastAt = s.coastAt := rfl
@[simp] theorem State.put_coastTime (f : Fld) (v : Nat) : (s.put f v).coastTime = s.coastTime := rfl
@[simp] theorem State.put_lhLevel (f : Fld) (v : Nat) : (s.put f v).lhLevel = s.lhLevel := rfl
@[simp] theorem State.put_chans (f : Fld) (v : Nat) : (s.put f v).chans = s.chans := rfl
@[simp] theorem State.put_bridges (f : Fld) (v : Nat) : (s.put f v).bridges = s.bridges := rfl
@[simp] theorem State.put_banks (f : Fld) (v : Nat) : (s.put f v).banks = s.banks := rfl
@[simp] theorem State.put_line (f : Fld) (v : Nat) : (s.put f v).line = s.line := rfl
@[simp] theorem State.put_grants (f : Fld) (v : Nat) : (s.put f v).grants = s.grants := rfl
@[simp] theorem State.put_gov (f : Fld) (v : Nat) : (s.put f v).gov = s.gov := rfl
@[simp] theorem State.put_govPend (f : Fld) (v : Nat) : (s.put f v).govPend = s.govPend := rfl
@[simp] theorem State.put_ports (f : Fld) (v : Nat) : (s.put f v).ports = s.ports := rfl
@[simp] theorem State.put_pairs (f : Fld) (v : Nat) : (s.put f v).pairs = s.pairs := rfl
@[simp] theorem State.put_pairSel (f : Fld) (v : Nat) : (s.put f v).pairSel = s.pairSel := rfl
@[simp] theorem State.put_flows (f : Fld) (v : Nat) : (s.put f v).flows = s.flows := rfl
@[simp] theorem State.put_fullTold (f : Fld) (v : Nat) : (s.put f v).fullTold = s.fullTold := rfl
@[simp] theorem State.put_fwd (f : Fld) (v : Nat) : (s.put f v).fwd = s.fwd := rfl
@[simp] theorem State.put_netPorts (f : Fld) (v : Nat) : (s.put f v).netPorts = s.netPorts := rfl
@[simp] theorem State.put_slowWin (f : Fld) (v : Nat) : (s.put f v).slowWin = s.slowWin := rfl
@[simp] theorem State.put_slowQ (f : Fld) (v : Nat) : (s.put f v).slowQ = s.slowQ := rfl
@[simp] theorem State.put_asGood (f : Fld) (v : Nat) : (s.put f v).asGood = s.asGood := rfl
@[simp] theorem State.put_asAt (f : Fld) (v : Nat) : (s.put f v).asAt = s.asAt := rfl
@[simp] theorem State.put_asHi (f : Fld) (v : Nat) : (s.put f v).asHi = s.asHi := rfl
@[simp] theorem State.put_fullAt (f : Fld) (v : Nat) : (s.put f v).fullAt = s.fullAt := rfl
@[simp] theorem State.put_log (f : Fld) (v : Nat) : (s.put f v).log = s.log := rfl
@[simp] theorem State.put_inbox (f : Fld) (v : Nat) : (s.put f v).inbox = s.inbox := rfl
@[simp] theorem State.put_summaryFlash (f : Fld) (v : Nat) : (s.put f v).summaryFlash = s.summaryFlash := rfl
@[simp] theorem State.put_summaryAt (f : Fld) (v : Nat) : (s.put f v).summaryAt = s.summaryAt := rfl
@[simp] theorem State.put_summaryLoaded (f : Fld) (v : Nat) : (s.put f v).summaryLoaded = s.summaryLoaded := rfl
@[simp] theorem State.put_fqTold (f : Fld) (v : Nat) : (s.put f v).fqTold = s.fqTold := rfl
@[simp] theorem State.put_fiDeb (f : Fld) (v : Nat) : (s.put f v).fiDeb = s.fiDeb := rfl
@[simp] theorem State.put_doms (f : Fld) (v : Nat) : (s.put f v).doms = s.doms := rfl
@[simp] theorem State.put_wakeTimer (f : Fld) (v : Nat) : (s.put f v).wakeTimer = s.wakeTimer := rfl
@[simp] theorem State.put_wkLevel (f : Fld) (v : Nat) : (s.put f v).wkLevel = s.wkLevel := rfl
@[simp] theorem State.put_hibAt (f : Fld) (v : Nat) : (s.put f v).hibAt = s.hibAt := rfl
@[simp] theorem State.put_sbPtr (f : Fld) (v : Nat) : (s.put f v).sbPtr = s.sbPtr := rfl
@[simp] theorem State.put_sbOut (f : Fld) (v : Nat) : (s.put f v).sbOut = s.sbOut := rfl
@[simp] theorem State.put_sysReturn (f : Fld) (v : Nat) : (s.put f v).sysReturn = s.sysReturn := rfl
@[simp] theorem State.put_sysAgain (f : Fld) (v : Nat) : (s.put f v).sysAgain = s.sysAgain := rfl
@[simp] theorem State.put_sbHold (f : Fld) (v : Nat) : (s.put f v).sbHold = s.sbHold := rfl
@[simp] theorem State.put_keyArr (f : Fld) (v : Nat) : (s.put f v).keyArr = s.keyArr := rfl
@[simp] theorem State.put_dbgArr (f : Fld) (v : Nat) : (s.put f v).dbgArr = s.dbgArr := rfl
@[simp] theorem State.put_testPins (f : Fld) (v : Nat) : (s.put f v).testPins = s.testPins := rfl
@[simp] theorem State.put_staged (f : Fld) (v : Nat) : (s.put f v).staged = s.staged := rfl
@[simp] theorem State.put_keyWrite (f : Fld) (v : Nat) : (s.put f v).keyWrite = s.keyWrite := rfl
@[simp] theorem State.put_cache (f : Fld) (v : Nat) : (s.put f v).cache = s.cache := rfl
@[simp] theorem State.put_ram (f : Fld) (v : Nat) : (s.put f v).ram = s.ram := rfl
@[simp] theorem State.put_remaskAt (f : Fld) (v : Nat) : (s.put f v).remaskAt = s.remaskAt := rfl
@[simp] theorem State.put_rngAt (f : Fld) (v : Nat) : (s.put f v).rngAt = s.rngAt := rfl
@[simp] theorem State.put_challenges (f : Fld) (v : Nat) : (s.put f v).challenges = s.challenges := rfl
@[simp] theorem State.put_imm (f : Fld) (v : Nat) : (s.put f v).imm = s.imm := rfl
@[simp] theorem State.put_flash (f : Fld) (v : Nat) : (s.put f v).flash = s.flash := rfl
@[simp] theorem State.put_erases (f : Fld) (v : Nat) : (s.put f v).erases = s.erases := rfl
@[simp] theorem State.put_cfgNow (f : Fld) (v : Nat) : (s.put f v).cfgNow = s.cfgNow := rfl
@[simp] theorem State.put_fwLock (f : Fld) (v : Nat) : (s.put f v).fwLock = s.fwLock := rfl
@[simp] theorem State.put_cfgLock (f : Fld) (v : Nat) : (s.put f v).cfgLock = s.cfgLock := rfl
@[simp] theorem State.put_runTicks (f : Fld) (v : Nat) : (s.put f v).runTicks = s.runTicks := rfl
@[simp] theorem State.put_uds (f : Fld) (v : Nat) : (s.put f v).uds = s.uds := rfl
@[simp] theorem State.put_axes (f : Fld) (v : Nat) : (s.put f v).axes = s.axes := rfl
@[simp] theorem State.put_timeHi (f : Fld) (v : Nat) : (s.put f v).timeHi = s.timeHi := rfl
@[simp] theorem State.put_alignCount (f : Fld) (v : Nat) : (s.put f v).alignCount = s.alignCount := rfl
@[simp] theorem State.put_alignAt (f : Fld) (v : Nat) : (s.put f v).alignAt = s.alignAt := rfl
@[simp] theorem State.put_stepDue (f : Fld) (v : Nat) : (s.put f v).stepDue = s.stepDue := rfl
@[simp] theorem State.put_rateFrac (f : Fld) (v : Nat) : (s.put f v).rateFrac = s.rateFrac := rfl
@[simp] theorem State.put_slots (f : Fld) (v : Nat) : (s.put f v).slots = s.slots := rfl
@[simp] theorem State.put_dueQ (f : Fld) (v : Nat) : (s.put f v).dueQ = s.dueQ := rfl
@[simp] theorem State.put_acts (f : Fld) (v : Nat) : (s.put f v).acts = s.acts := rfl
@[simp] theorem State.put_crossings (f : Fld) (v : Nat) : (s.put f v).crossings = s.crossings := rfl
@[simp] theorem State.put_tickAt (f : Fld) (v : Nat) : (s.put f v).tickAt = s.tickAt := rfl
@[simp] theorem State.put_fireTimes (f : Fld) (v : Nat) : (s.put f v).fireTimes = s.fireTimes := rfl
@[simp] theorem State.put_leadRuns (f : Fld) (v : Nat) : (s.put f v).leadRuns = s.leadRuns := rfl
@[simp] theorem State.put_later (f : Fld) (v : Nat) : (s.put f v).later = s.later := rfl

/-! ### putB -/

@[simp] theorem State.putB_pending (f : Fld) (b : Bool) : (s.putB f b).pending = s.pending := rfl
@[simp] theorem State.putB_now (f : Fld) (b : Bool) : (s.putB f b).now = s.now := rfl
@[simp] theorem State.putB_otp (f : Fld) (b : Bool) : (s.putB f b).otp = s.otp := rfl
@[simp] theorem State.putB_devTime (f : Fld) (b : Bool) : (s.putB f b).devTime = s.devTime := rfl
@[simp] theorem State.putB_freeCount (f : Fld) (b : Bool) : (s.putB f b).freeCount = s.freeCount := rfl
@[simp] theorem State.putB_nextId (f : Fld) (b : Bool) : (s.putB f b).nextId = s.nextId := rfl
@[simp] theorem State.putB_issuing (f : Fld) (b : Bool) : (s.putB f b).issuing = s.issuing := rfl
@[simp] theorem State.putB_turnHc (f : Fld) (b : Bool) : (s.putB f b).turnHc = s.turnHc := rfl
@[simp] theorem State.putB_hcs (f : Fld) (b : Bool) : (s.putB f b).hcs = s.hcs := rfl
@[simp] theorem State.putB_owners (f : Fld) (b : Bool) : (s.putB f b).owners = s.owners := rfl
@[simp] theorem State.putB_jobs (f : Fld) (b : Bool) : (s.putB f b).jobs = s.jobs := rfl
@[simp] theorem State.putB_portCells (f : Fld) (b : Bool) : (s.putB f b).portCells = s.portCells := rfl
@[simp] theorem State.putB_backlog (f : Fld) (b : Bool) : (s.putB f b).backlog = s.backlog := rfl
@[simp] theorem State.putB_lostFor (f : Fld) (b : Bool) : (s.putB f b).lostFor = s.lostFor := rfl
@[simp] theorem State.putB_sent (f : Fld) (b : Bool) : (s.putB f b).sent = s.sent := rfl
@[simp] theorem State.putB_sdo (f : Fld) (b : Bool) : (s.putB f b).sdo = s.sdo := rfl
@[simp] theorem State.putB_crce (f : Fld) (b : Bool) : (s.putB f b).crce = s.crce := rfl
@[simp] theorem State.putB_rdy (f : Fld) (b : Bool) : (s.putB f b).rdy = s.rdy := rfl
@[simp] theorem State.putB_aonIrq (f : Fld) (b : Bool) : (s.putB f b).aonIrq = s.aonIrq := rfl
@[simp] theorem State.putB_vsup (f : Fld) (b : Bool) : (s.putB f b).vsup = s.vsup := rfl
@[simp] theorem State.putB_powerLost (f : Fld) (b : Bool) : (s.putB f b).powerLost = s.powerLost := rfl
@[simp] theorem State.putB_uvMask (f : Fld) (b : Bool) : (s.putB f b).uvMask = s.uvMask := rfl
@[simp] theorem State.putB_degMask (f : Fld) (b : Bool) : (s.putB f b).degMask = s.degMask := rfl
@[simp] theorem State.putB_olFrom (f : Fld) (b : Bool) : (s.putB f b).olFrom = s.olFrom := rfl
@[simp] theorem State.putB_vioOk (f : Fld) (b : Bool) : (s.putB f b).vioOk = s.vioOk := rfl
@[simp] theorem State.putB_t0 (f : Fld) (b : Bool) : (s.putB f b).t0 = s.t0 := rfl
@[simp] theorem State.putB_sysUp (f : Fld) (b : Bool) : (s.putB f b).sysUp = s.sysUp := rfl
@[simp] theorem State.putB_serving (f : Fld) (b : Bool) : (s.putB f b).serving = s.serving := rfl
@[simp] theorem State.putB_rstLow (f : Fld) (b : Bool) : (s.putB f b).rstLow = s.rstLow := rfl
@[simp] theorem State.putB_sysStartTimes (f : Fld) (b : Bool) : (s.putB f b).sysStartTimes = s.sysStartTimes := rfl
@[simp] theorem State.putB_devResetAt (f : Fld) (b : Bool) : (s.putB f b).devResetAt = s.devResetAt := rfl
@[simp] theorem State.putB_coastAt (f : Fld) (b : Bool) : (s.putB f b).coastAt = s.coastAt := rfl
@[simp] theorem State.putB_coastTime (f : Fld) (b : Bool) : (s.putB f b).coastTime = s.coastTime := rfl
@[simp] theorem State.putB_lhLevel (f : Fld) (b : Bool) : (s.putB f b).lhLevel = s.lhLevel := rfl
@[simp] theorem State.putB_chans (f : Fld) (b : Bool) : (s.putB f b).chans = s.chans := rfl
@[simp] theorem State.putB_bridges (f : Fld) (b : Bool) : (s.putB f b).bridges = s.bridges := rfl
@[simp] theorem State.putB_banks (f : Fld) (b : Bool) : (s.putB f b).banks = s.banks := rfl
@[simp] theorem State.putB_line (f : Fld) (b : Bool) : (s.putB f b).line = s.line := rfl
@[simp] theorem State.putB_grants (f : Fld) (b : Bool) : (s.putB f b).grants = s.grants := rfl
@[simp] theorem State.putB_gov (f : Fld) (b : Bool) : (s.putB f b).gov = s.gov := rfl
@[simp] theorem State.putB_govPend (f : Fld) (b : Bool) : (s.putB f b).govPend = s.govPend := rfl
@[simp] theorem State.putB_ports (f : Fld) (b : Bool) : (s.putB f b).ports = s.ports := rfl
@[simp] theorem State.putB_pairs (f : Fld) (b : Bool) : (s.putB f b).pairs = s.pairs := rfl
@[simp] theorem State.putB_pairSel (f : Fld) (b : Bool) : (s.putB f b).pairSel = s.pairSel := rfl
@[simp] theorem State.putB_flows (f : Fld) (b : Bool) : (s.putB f b).flows = s.flows := rfl
@[simp] theorem State.putB_fullTold (f : Fld) (b : Bool) : (s.putB f b).fullTold = s.fullTold := rfl
@[simp] theorem State.putB_fwd (f : Fld) (b : Bool) : (s.putB f b).fwd = s.fwd := rfl
@[simp] theorem State.putB_netPorts (f : Fld) (b : Bool) : (s.putB f b).netPorts = s.netPorts := rfl
@[simp] theorem State.putB_slowWin (f : Fld) (b : Bool) : (s.putB f b).slowWin = s.slowWin := rfl
@[simp] theorem State.putB_slowQ (f : Fld) (b : Bool) : (s.putB f b).slowQ = s.slowQ := rfl
@[simp] theorem State.putB_asGood (f : Fld) (b : Bool) : (s.putB f b).asGood = s.asGood := rfl
@[simp] theorem State.putB_asAt (f : Fld) (b : Bool) : (s.putB f b).asAt = s.asAt := rfl
@[simp] theorem State.putB_asHi (f : Fld) (b : Bool) : (s.putB f b).asHi = s.asHi := rfl
@[simp] theorem State.putB_fullAt (f : Fld) (b : Bool) : (s.putB f b).fullAt = s.fullAt := rfl
@[simp] theorem State.putB_log (f : Fld) (b : Bool) : (s.putB f b).log = s.log := rfl
@[simp] theorem State.putB_inbox (f : Fld) (b : Bool) : (s.putB f b).inbox = s.inbox := rfl
@[simp] theorem State.putB_summaryFlash (f : Fld) (b : Bool) : (s.putB f b).summaryFlash = s.summaryFlash := rfl
@[simp] theorem State.putB_summaryAt (f : Fld) (b : Bool) : (s.putB f b).summaryAt = s.summaryAt := rfl
@[simp] theorem State.putB_summaryLoaded (f : Fld) (b : Bool) : (s.putB f b).summaryLoaded = s.summaryLoaded := rfl
@[simp] theorem State.putB_fqTold (f : Fld) (b : Bool) : (s.putB f b).fqTold = s.fqTold := rfl
@[simp] theorem State.putB_fiDeb (f : Fld) (b : Bool) : (s.putB f b).fiDeb = s.fiDeb := rfl
@[simp] theorem State.putB_doms (f : Fld) (b : Bool) : (s.putB f b).doms = s.doms := rfl
@[simp] theorem State.putB_wakeTimer (f : Fld) (b : Bool) : (s.putB f b).wakeTimer = s.wakeTimer := rfl
@[simp] theorem State.putB_wkLevel (f : Fld) (b : Bool) : (s.putB f b).wkLevel = s.wkLevel := rfl
@[simp] theorem State.putB_hibAt (f : Fld) (b : Bool) : (s.putB f b).hibAt = s.hibAt := rfl
@[simp] theorem State.putB_sbPtr (f : Fld) (b : Bool) : (s.putB f b).sbPtr = s.sbPtr := rfl
@[simp] theorem State.putB_sbOut (f : Fld) (b : Bool) : (s.putB f b).sbOut = s.sbOut := rfl
@[simp] theorem State.putB_sysReturn (f : Fld) (b : Bool) : (s.putB f b).sysReturn = s.sysReturn := rfl
@[simp] theorem State.putB_sysAgain (f : Fld) (b : Bool) : (s.putB f b).sysAgain = s.sysAgain := rfl
@[simp] theorem State.putB_sbHold (f : Fld) (b : Bool) : (s.putB f b).sbHold = s.sbHold := rfl
@[simp] theorem State.putB_keyArr (f : Fld) (b : Bool) : (s.putB f b).keyArr = s.keyArr := rfl
@[simp] theorem State.putB_dbgArr (f : Fld) (b : Bool) : (s.putB f b).dbgArr = s.dbgArr := rfl
@[simp] theorem State.putB_testPins (f : Fld) (b : Bool) : (s.putB f b).testPins = s.testPins := rfl
@[simp] theorem State.putB_staged (f : Fld) (b : Bool) : (s.putB f b).staged = s.staged := rfl
@[simp] theorem State.putB_keyWrite (f : Fld) (b : Bool) : (s.putB f b).keyWrite = s.keyWrite := rfl
@[simp] theorem State.putB_cache (f : Fld) (b : Bool) : (s.putB f b).cache = s.cache := rfl
@[simp] theorem State.putB_ram (f : Fld) (b : Bool) : (s.putB f b).ram = s.ram := rfl
@[simp] theorem State.putB_remaskAt (f : Fld) (b : Bool) : (s.putB f b).remaskAt = s.remaskAt := rfl
@[simp] theorem State.putB_rngAt (f : Fld) (b : Bool) : (s.putB f b).rngAt = s.rngAt := rfl
@[simp] theorem State.putB_challenges (f : Fld) (b : Bool) : (s.putB f b).challenges = s.challenges := rfl
@[simp] theorem State.putB_imm (f : Fld) (b : Bool) : (s.putB f b).imm = s.imm := rfl
@[simp] theorem State.putB_flash (f : Fld) (b : Bool) : (s.putB f b).flash = s.flash := rfl
@[simp] theorem State.putB_erases (f : Fld) (b : Bool) : (s.putB f b).erases = s.erases := rfl
@[simp] theorem State.putB_cfgNow (f : Fld) (b : Bool) : (s.putB f b).cfgNow = s.cfgNow := rfl
@[simp] theorem State.putB_fwLock (f : Fld) (b : Bool) : (s.putB f b).fwLock = s.fwLock := rfl
@[simp] theorem State.putB_cfgLock (f : Fld) (b : Bool) : (s.putB f b).cfgLock = s.cfgLock := rfl
@[simp] theorem State.putB_runTicks (f : Fld) (b : Bool) : (s.putB f b).runTicks = s.runTicks := rfl
@[simp] theorem State.putB_uds (f : Fld) (b : Bool) : (s.putB f b).uds = s.uds := rfl
@[simp] theorem State.putB_axes (f : Fld) (b : Bool) : (s.putB f b).axes = s.axes := rfl
@[simp] theorem State.putB_timeHi (f : Fld) (b : Bool) : (s.putB f b).timeHi = s.timeHi := rfl
@[simp] theorem State.putB_alignCount (f : Fld) (b : Bool) : (s.putB f b).alignCount = s.alignCount := rfl
@[simp] theorem State.putB_alignAt (f : Fld) (b : Bool) : (s.putB f b).alignAt = s.alignAt := rfl
@[simp] theorem State.putB_stepDue (f : Fld) (b : Bool) : (s.putB f b).stepDue = s.stepDue := rfl
@[simp] theorem State.putB_rateFrac (f : Fld) (b : Bool) : (s.putB f b).rateFrac = s.rateFrac := rfl
@[simp] theorem State.putB_slots (f : Fld) (b : Bool) : (s.putB f b).slots = s.slots := rfl
@[simp] theorem State.putB_dueQ (f : Fld) (b : Bool) : (s.putB f b).dueQ = s.dueQ := rfl
@[simp] theorem State.putB_acts (f : Fld) (b : Bool) : (s.putB f b).acts = s.acts := rfl
@[simp] theorem State.putB_crossings (f : Fld) (b : Bool) : (s.putB f b).crossings = s.crossings := rfl
@[simp] theorem State.putB_tickAt (f : Fld) (b : Bool) : (s.putB f b).tickAt = s.tickAt := rfl
@[simp] theorem State.putB_fireTimes (f : Fld) (b : Bool) : (s.putB f b).fireTimes = s.fireTimes := rfl
@[simp] theorem State.putB_leadRuns (f : Fld) (b : Bool) : (s.putB f b).leadRuns = s.leadRuns := rfl
@[simp] theorem State.putB_later (f : Fld) (b : Bool) : (s.putB f b).later = s.later := rfl

/-! ### inc -/

@[simp] theorem State.inc_pending (f : Fld) : (s.inc f).pending = s.pending := rfl
@[simp] theorem State.inc_now (f : Fld) : (s.inc f).now = s.now := rfl
@[simp] theorem State.inc_otp (f : Fld) : (s.inc f).otp = s.otp := rfl
@[simp] theorem State.inc_devTime (f : Fld) : (s.inc f).devTime = s.devTime := rfl
@[simp] theorem State.inc_freeCount (f : Fld) : (s.inc f).freeCount = s.freeCount := rfl
@[simp] theorem State.inc_nextId (f : Fld) : (s.inc f).nextId = s.nextId := rfl
@[simp] theorem State.inc_issuing (f : Fld) : (s.inc f).issuing = s.issuing := rfl
@[simp] theorem State.inc_turnHc (f : Fld) : (s.inc f).turnHc = s.turnHc := rfl
@[simp] theorem State.inc_hcs (f : Fld) : (s.inc f).hcs = s.hcs := rfl
@[simp] theorem State.inc_owners (f : Fld) : (s.inc f).owners = s.owners := rfl
@[simp] theorem State.inc_jobs (f : Fld) : (s.inc f).jobs = s.jobs := rfl
@[simp] theorem State.inc_portCells (f : Fld) : (s.inc f).portCells = s.portCells := rfl
@[simp] theorem State.inc_backlog (f : Fld) : (s.inc f).backlog = s.backlog := rfl
@[simp] theorem State.inc_lostFor (f : Fld) : (s.inc f).lostFor = s.lostFor := rfl
@[simp] theorem State.inc_sent (f : Fld) : (s.inc f).sent = s.sent := rfl
@[simp] theorem State.inc_sdo (f : Fld) : (s.inc f).sdo = s.sdo := rfl
@[simp] theorem State.inc_crce (f : Fld) : (s.inc f).crce = s.crce := rfl
@[simp] theorem State.inc_rdy (f : Fld) : (s.inc f).rdy = s.rdy := rfl
@[simp] theorem State.inc_aonIrq (f : Fld) : (s.inc f).aonIrq = s.aonIrq := rfl
@[simp] theorem State.inc_vsup (f : Fld) : (s.inc f).vsup = s.vsup := rfl
@[simp] theorem State.inc_powerLost (f : Fld) : (s.inc f).powerLost = s.powerLost := rfl
@[simp] theorem State.inc_uvMask (f : Fld) : (s.inc f).uvMask = s.uvMask := rfl
@[simp] theorem State.inc_degMask (f : Fld) : (s.inc f).degMask = s.degMask := rfl
@[simp] theorem State.inc_olFrom (f : Fld) : (s.inc f).olFrom = s.olFrom := rfl
@[simp] theorem State.inc_vioOk (f : Fld) : (s.inc f).vioOk = s.vioOk := rfl
@[simp] theorem State.inc_t0 (f : Fld) : (s.inc f).t0 = s.t0 := rfl
@[simp] theorem State.inc_sysUp (f : Fld) : (s.inc f).sysUp = s.sysUp := rfl
@[simp] theorem State.inc_serving (f : Fld) : (s.inc f).serving = s.serving := rfl
@[simp] theorem State.inc_rstLow (f : Fld) : (s.inc f).rstLow = s.rstLow := rfl
@[simp] theorem State.inc_sysStartTimes (f : Fld) : (s.inc f).sysStartTimes = s.sysStartTimes := rfl
@[simp] theorem State.inc_devResetAt (f : Fld) : (s.inc f).devResetAt = s.devResetAt := rfl
@[simp] theorem State.inc_coastAt (f : Fld) : (s.inc f).coastAt = s.coastAt := rfl
@[simp] theorem State.inc_coastTime (f : Fld) : (s.inc f).coastTime = s.coastTime := rfl
@[simp] theorem State.inc_lhLevel (f : Fld) : (s.inc f).lhLevel = s.lhLevel := rfl
@[simp] theorem State.inc_chans (f : Fld) : (s.inc f).chans = s.chans := rfl
@[simp] theorem State.inc_bridges (f : Fld) : (s.inc f).bridges = s.bridges := rfl
@[simp] theorem State.inc_banks (f : Fld) : (s.inc f).banks = s.banks := rfl
@[simp] theorem State.inc_line (f : Fld) : (s.inc f).line = s.line := rfl
@[simp] theorem State.inc_grants (f : Fld) : (s.inc f).grants = s.grants := rfl
@[simp] theorem State.inc_gov (f : Fld) : (s.inc f).gov = s.gov := rfl
@[simp] theorem State.inc_govPend (f : Fld) : (s.inc f).govPend = s.govPend := rfl
@[simp] theorem State.inc_ports (f : Fld) : (s.inc f).ports = s.ports := rfl
@[simp] theorem State.inc_pairs (f : Fld) : (s.inc f).pairs = s.pairs := rfl
@[simp] theorem State.inc_pairSel (f : Fld) : (s.inc f).pairSel = s.pairSel := rfl
@[simp] theorem State.inc_flows (f : Fld) : (s.inc f).flows = s.flows := rfl
@[simp] theorem State.inc_fullTold (f : Fld) : (s.inc f).fullTold = s.fullTold := rfl
@[simp] theorem State.inc_fwd (f : Fld) : (s.inc f).fwd = s.fwd := rfl
@[simp] theorem State.inc_netPorts (f : Fld) : (s.inc f).netPorts = s.netPorts := rfl
@[simp] theorem State.inc_slowWin (f : Fld) : (s.inc f).slowWin = s.slowWin := rfl
@[simp] theorem State.inc_slowQ (f : Fld) : (s.inc f).slowQ = s.slowQ := rfl
@[simp] theorem State.inc_asGood (f : Fld) : (s.inc f).asGood = s.asGood := rfl
@[simp] theorem State.inc_asAt (f : Fld) : (s.inc f).asAt = s.asAt := rfl
@[simp] theorem State.inc_asHi (f : Fld) : (s.inc f).asHi = s.asHi := rfl
@[simp] theorem State.inc_fullAt (f : Fld) : (s.inc f).fullAt = s.fullAt := rfl
@[simp] theorem State.inc_log (f : Fld) : (s.inc f).log = s.log := rfl
@[simp] theorem State.inc_inbox (f : Fld) : (s.inc f).inbox = s.inbox := rfl
@[simp] theorem State.inc_summaryFlash (f : Fld) : (s.inc f).summaryFlash = s.summaryFlash := rfl
@[simp] theorem State.inc_summaryAt (f : Fld) : (s.inc f).summaryAt = s.summaryAt := rfl
@[simp] theorem State.inc_summaryLoaded (f : Fld) : (s.inc f).summaryLoaded = s.summaryLoaded := rfl
@[simp] theorem State.inc_fqTold (f : Fld) : (s.inc f).fqTold = s.fqTold := rfl
@[simp] theorem State.inc_fiDeb (f : Fld) : (s.inc f).fiDeb = s.fiDeb := rfl
@[simp] theorem State.inc_doms (f : Fld) : (s.inc f).doms = s.doms := rfl
@[simp] theorem State.inc_wakeTimer (f : Fld) : (s.inc f).wakeTimer = s.wakeTimer := rfl
@[simp] theorem State.inc_wkLevel (f : Fld) : (s.inc f).wkLevel = s.wkLevel := rfl
@[simp] theorem State.inc_hibAt (f : Fld) : (s.inc f).hibAt = s.hibAt := rfl
@[simp] theorem State.inc_sbPtr (f : Fld) : (s.inc f).sbPtr = s.sbPtr := rfl
@[simp] theorem State.inc_sbOut (f : Fld) : (s.inc f).sbOut = s.sbOut := rfl
@[simp] theorem State.inc_sysReturn (f : Fld) : (s.inc f).sysReturn = s.sysReturn := rfl
@[simp] theorem State.inc_sysAgain (f : Fld) : (s.inc f).sysAgain = s.sysAgain := rfl
@[simp] theorem State.inc_sbHold (f : Fld) : (s.inc f).sbHold = s.sbHold := rfl
@[simp] theorem State.inc_keyArr (f : Fld) : (s.inc f).keyArr = s.keyArr := rfl
@[simp] theorem State.inc_dbgArr (f : Fld) : (s.inc f).dbgArr = s.dbgArr := rfl
@[simp] theorem State.inc_testPins (f : Fld) : (s.inc f).testPins = s.testPins := rfl
@[simp] theorem State.inc_staged (f : Fld) : (s.inc f).staged = s.staged := rfl
@[simp] theorem State.inc_keyWrite (f : Fld) : (s.inc f).keyWrite = s.keyWrite := rfl
@[simp] theorem State.inc_cache (f : Fld) : (s.inc f).cache = s.cache := rfl
@[simp] theorem State.inc_ram (f : Fld) : (s.inc f).ram = s.ram := rfl
@[simp] theorem State.inc_remaskAt (f : Fld) : (s.inc f).remaskAt = s.remaskAt := rfl
@[simp] theorem State.inc_rngAt (f : Fld) : (s.inc f).rngAt = s.rngAt := rfl
@[simp] theorem State.inc_challenges (f : Fld) : (s.inc f).challenges = s.challenges := rfl
@[simp] theorem State.inc_imm (f : Fld) : (s.inc f).imm = s.imm := rfl
@[simp] theorem State.inc_flash (f : Fld) : (s.inc f).flash = s.flash := rfl
@[simp] theorem State.inc_erases (f : Fld) : (s.inc f).erases = s.erases := rfl
@[simp] theorem State.inc_cfgNow (f : Fld) : (s.inc f).cfgNow = s.cfgNow := rfl
@[simp] theorem State.inc_fwLock (f : Fld) : (s.inc f).fwLock = s.fwLock := rfl
@[simp] theorem State.inc_cfgLock (f : Fld) : (s.inc f).cfgLock = s.cfgLock := rfl
@[simp] theorem State.inc_runTicks (f : Fld) : (s.inc f).runTicks = s.runTicks := rfl
@[simp] theorem State.inc_uds (f : Fld) : (s.inc f).uds = s.uds := rfl
@[simp] theorem State.inc_axes (f : Fld) : (s.inc f).axes = s.axes := rfl
@[simp] theorem State.inc_timeHi (f : Fld) : (s.inc f).timeHi = s.timeHi := rfl
@[simp] theorem State.inc_alignCount (f : Fld) : (s.inc f).alignCount = s.alignCount := rfl
@[simp] theorem State.inc_alignAt (f : Fld) : (s.inc f).alignAt = s.alignAt := rfl
@[simp] theorem State.inc_stepDue (f : Fld) : (s.inc f).stepDue = s.stepDue := rfl
@[simp] theorem State.inc_rateFrac (f : Fld) : (s.inc f).rateFrac = s.rateFrac := rfl
@[simp] theorem State.inc_slots (f : Fld) : (s.inc f).slots = s.slots := rfl
@[simp] theorem State.inc_dueQ (f : Fld) : (s.inc f).dueQ = s.dueQ := rfl
@[simp] theorem State.inc_acts (f : Fld) : (s.inc f).acts = s.acts := rfl
@[simp] theorem State.inc_crossings (f : Fld) : (s.inc f).crossings = s.crossings := rfl
@[simp] theorem State.inc_tickAt (f : Fld) : (s.inc f).tickAt = s.tickAt := rfl
@[simp] theorem State.inc_fireTimes (f : Fld) : (s.inc f).fireTimes = s.fireTimes := rfl
@[simp] theorem State.inc_leadRuns (f : Fld) : (s.inc f).leadRuns = s.leadRuns := rfl
@[simp] theorem State.inc_later (f : Fld) : (s.inc f).later = s.later := rfl

/-! ### incBy -/

@[simp] theorem State.incBy_pending (f : Fld) (n : Nat) : (s.incBy f n).pending = s.pending := rfl
@[simp] theorem State.incBy_now (f : Fld) (n : Nat) : (s.incBy f n).now = s.now := rfl
@[simp] theorem State.incBy_otp (f : Fld) (n : Nat) : (s.incBy f n).otp = s.otp := rfl
@[simp] theorem State.incBy_devTime (f : Fld) (n : Nat) : (s.incBy f n).devTime = s.devTime := rfl
@[simp] theorem State.incBy_freeCount (f : Fld) (n : Nat) : (s.incBy f n).freeCount = s.freeCount := rfl
@[simp] theorem State.incBy_nextId (f : Fld) (n : Nat) : (s.incBy f n).nextId = s.nextId := rfl
@[simp] theorem State.incBy_issuing (f : Fld) (n : Nat) : (s.incBy f n).issuing = s.issuing := rfl
@[simp] theorem State.incBy_turnHc (f : Fld) (n : Nat) : (s.incBy f n).turnHc = s.turnHc := rfl
@[simp] theorem State.incBy_hcs (f : Fld) (n : Nat) : (s.incBy f n).hcs = s.hcs := rfl
@[simp] theorem State.incBy_owners (f : Fld) (n : Nat) : (s.incBy f n).owners = s.owners := rfl
@[simp] theorem State.incBy_jobs (f : Fld) (n : Nat) : (s.incBy f n).jobs = s.jobs := rfl
@[simp] theorem State.incBy_portCells (f : Fld) (n : Nat) : (s.incBy f n).portCells = s.portCells := rfl
@[simp] theorem State.incBy_backlog (f : Fld) (n : Nat) : (s.incBy f n).backlog = s.backlog := rfl
@[simp] theorem State.incBy_lostFor (f : Fld) (n : Nat) : (s.incBy f n).lostFor = s.lostFor := rfl
@[simp] theorem State.incBy_sent (f : Fld) (n : Nat) : (s.incBy f n).sent = s.sent := rfl
@[simp] theorem State.incBy_sdo (f : Fld) (n : Nat) : (s.incBy f n).sdo = s.sdo := rfl
@[simp] theorem State.incBy_crce (f : Fld) (n : Nat) : (s.incBy f n).crce = s.crce := rfl
@[simp] theorem State.incBy_rdy (f : Fld) (n : Nat) : (s.incBy f n).rdy = s.rdy := rfl
@[simp] theorem State.incBy_aonIrq (f : Fld) (n : Nat) : (s.incBy f n).aonIrq = s.aonIrq := rfl
@[simp] theorem State.incBy_vsup (f : Fld) (n : Nat) : (s.incBy f n).vsup = s.vsup := rfl
@[simp] theorem State.incBy_powerLost (f : Fld) (n : Nat) : (s.incBy f n).powerLost = s.powerLost := rfl
@[simp] theorem State.incBy_uvMask (f : Fld) (n : Nat) : (s.incBy f n).uvMask = s.uvMask := rfl
@[simp] theorem State.incBy_degMask (f : Fld) (n : Nat) : (s.incBy f n).degMask = s.degMask := rfl
@[simp] theorem State.incBy_olFrom (f : Fld) (n : Nat) : (s.incBy f n).olFrom = s.olFrom := rfl
@[simp] theorem State.incBy_vioOk (f : Fld) (n : Nat) : (s.incBy f n).vioOk = s.vioOk := rfl
@[simp] theorem State.incBy_t0 (f : Fld) (n : Nat) : (s.incBy f n).t0 = s.t0 := rfl
@[simp] theorem State.incBy_sysUp (f : Fld) (n : Nat) : (s.incBy f n).sysUp = s.sysUp := rfl
@[simp] theorem State.incBy_serving (f : Fld) (n : Nat) : (s.incBy f n).serving = s.serving := rfl
@[simp] theorem State.incBy_rstLow (f : Fld) (n : Nat) : (s.incBy f n).rstLow = s.rstLow := rfl
@[simp] theorem State.incBy_sysStartTimes (f : Fld) (n : Nat) : (s.incBy f n).sysStartTimes = s.sysStartTimes := rfl
@[simp] theorem State.incBy_devResetAt (f : Fld) (n : Nat) : (s.incBy f n).devResetAt = s.devResetAt := rfl
@[simp] theorem State.incBy_coastAt (f : Fld) (n : Nat) : (s.incBy f n).coastAt = s.coastAt := rfl
@[simp] theorem State.incBy_coastTime (f : Fld) (n : Nat) : (s.incBy f n).coastTime = s.coastTime := rfl
@[simp] theorem State.incBy_lhLevel (f : Fld) (n : Nat) : (s.incBy f n).lhLevel = s.lhLevel := rfl
@[simp] theorem State.incBy_chans (f : Fld) (n : Nat) : (s.incBy f n).chans = s.chans := rfl
@[simp] theorem State.incBy_bridges (f : Fld) (n : Nat) : (s.incBy f n).bridges = s.bridges := rfl
@[simp] theorem State.incBy_banks (f : Fld) (n : Nat) : (s.incBy f n).banks = s.banks := rfl
@[simp] theorem State.incBy_line (f : Fld) (n : Nat) : (s.incBy f n).line = s.line := rfl
@[simp] theorem State.incBy_grants (f : Fld) (n : Nat) : (s.incBy f n).grants = s.grants := rfl
@[simp] theorem State.incBy_gov (f : Fld) (n : Nat) : (s.incBy f n).gov = s.gov := rfl
@[simp] theorem State.incBy_govPend (f : Fld) (n : Nat) : (s.incBy f n).govPend = s.govPend := rfl
@[simp] theorem State.incBy_ports (f : Fld) (n : Nat) : (s.incBy f n).ports = s.ports := rfl
@[simp] theorem State.incBy_pairs (f : Fld) (n : Nat) : (s.incBy f n).pairs = s.pairs := rfl
@[simp] theorem State.incBy_pairSel (f : Fld) (n : Nat) : (s.incBy f n).pairSel = s.pairSel := rfl
@[simp] theorem State.incBy_flows (f : Fld) (n : Nat) : (s.incBy f n).flows = s.flows := rfl
@[simp] theorem State.incBy_fullTold (f : Fld) (n : Nat) : (s.incBy f n).fullTold = s.fullTold := rfl
@[simp] theorem State.incBy_fwd (f : Fld) (n : Nat) : (s.incBy f n).fwd = s.fwd := rfl
@[simp] theorem State.incBy_netPorts (f : Fld) (n : Nat) : (s.incBy f n).netPorts = s.netPorts := rfl
@[simp] theorem State.incBy_slowWin (f : Fld) (n : Nat) : (s.incBy f n).slowWin = s.slowWin := rfl
@[simp] theorem State.incBy_slowQ (f : Fld) (n : Nat) : (s.incBy f n).slowQ = s.slowQ := rfl
@[simp] theorem State.incBy_asGood (f : Fld) (n : Nat) : (s.incBy f n).asGood = s.asGood := rfl
@[simp] theorem State.incBy_asAt (f : Fld) (n : Nat) : (s.incBy f n).asAt = s.asAt := rfl
@[simp] theorem State.incBy_asHi (f : Fld) (n : Nat) : (s.incBy f n).asHi = s.asHi := rfl
@[simp] theorem State.incBy_fullAt (f : Fld) (n : Nat) : (s.incBy f n).fullAt = s.fullAt := rfl
@[simp] theorem State.incBy_log (f : Fld) (n : Nat) : (s.incBy f n).log = s.log := rfl
@[simp] theorem State.incBy_inbox (f : Fld) (n : Nat) : (s.incBy f n).inbox = s.inbox := rfl
@[simp] theorem State.incBy_summaryFlash (f : Fld) (n : Nat) : (s.incBy f n).summaryFlash = s.summaryFlash := rfl
@[simp] theorem State.incBy_summaryAt (f : Fld) (n : Nat) : (s.incBy f n).summaryAt = s.summaryAt := rfl
@[simp] theorem State.incBy_summaryLoaded (f : Fld) (n : Nat) : (s.incBy f n).summaryLoaded = s.summaryLoaded := rfl
@[simp] theorem State.incBy_fqTold (f : Fld) (n : Nat) : (s.incBy f n).fqTold = s.fqTold := rfl
@[simp] theorem State.incBy_fiDeb (f : Fld) (n : Nat) : (s.incBy f n).fiDeb = s.fiDeb := rfl
@[simp] theorem State.incBy_doms (f : Fld) (n : Nat) : (s.incBy f n).doms = s.doms := rfl
@[simp] theorem State.incBy_wakeTimer (f : Fld) (n : Nat) : (s.incBy f n).wakeTimer = s.wakeTimer := rfl
@[simp] theorem State.incBy_wkLevel (f : Fld) (n : Nat) : (s.incBy f n).wkLevel = s.wkLevel := rfl
@[simp] theorem State.incBy_hibAt (f : Fld) (n : Nat) : (s.incBy f n).hibAt = s.hibAt := rfl
@[simp] theorem State.incBy_sbPtr (f : Fld) (n : Nat) : (s.incBy f n).sbPtr = s.sbPtr := rfl
@[simp] theorem State.incBy_sbOut (f : Fld) (n : Nat) : (s.incBy f n).sbOut = s.sbOut := rfl
@[simp] theorem State.incBy_sysReturn (f : Fld) (n : Nat) : (s.incBy f n).sysReturn = s.sysReturn := rfl
@[simp] theorem State.incBy_sysAgain (f : Fld) (n : Nat) : (s.incBy f n).sysAgain = s.sysAgain := rfl
@[simp] theorem State.incBy_sbHold (f : Fld) (n : Nat) : (s.incBy f n).sbHold = s.sbHold := rfl
@[simp] theorem State.incBy_keyArr (f : Fld) (n : Nat) : (s.incBy f n).keyArr = s.keyArr := rfl
@[simp] theorem State.incBy_dbgArr (f : Fld) (n : Nat) : (s.incBy f n).dbgArr = s.dbgArr := rfl
@[simp] theorem State.incBy_testPins (f : Fld) (n : Nat) : (s.incBy f n).testPins = s.testPins := rfl
@[simp] theorem State.incBy_staged (f : Fld) (n : Nat) : (s.incBy f n).staged = s.staged := rfl
@[simp] theorem State.incBy_keyWrite (f : Fld) (n : Nat) : (s.incBy f n).keyWrite = s.keyWrite := rfl
@[simp] theorem State.incBy_cache (f : Fld) (n : Nat) : (s.incBy f n).cache = s.cache := rfl
@[simp] theorem State.incBy_ram (f : Fld) (n : Nat) : (s.incBy f n).ram = s.ram := rfl
@[simp] theorem State.incBy_remaskAt (f : Fld) (n : Nat) : (s.incBy f n).remaskAt = s.remaskAt := rfl
@[simp] theorem State.incBy_rngAt (f : Fld) (n : Nat) : (s.incBy f n).rngAt = s.rngAt := rfl
@[simp] theorem State.incBy_challenges (f : Fld) (n : Nat) : (s.incBy f n).challenges = s.challenges := rfl
@[simp] theorem State.incBy_imm (f : Fld) (n : Nat) : (s.incBy f n).imm = s.imm := rfl
@[simp] theorem State.incBy_flash (f : Fld) (n : Nat) : (s.incBy f n).flash = s.flash := rfl
@[simp] theorem State.incBy_erases (f : Fld) (n : Nat) : (s.incBy f n).erases = s.erases := rfl
@[simp] theorem State.incBy_cfgNow (f : Fld) (n : Nat) : (s.incBy f n).cfgNow = s.cfgNow := rfl
@[simp] theorem State.incBy_fwLock (f : Fld) (n : Nat) : (s.incBy f n).fwLock = s.fwLock := rfl
@[simp] theorem State.incBy_cfgLock (f : Fld) (n : Nat) : (s.incBy f n).cfgLock = s.cfgLock := rfl
@[simp] theorem State.incBy_runTicks (f : Fld) (n : Nat) : (s.incBy f n).runTicks = s.runTicks := rfl
@[simp] theorem State.incBy_uds (f : Fld) (n : Nat) : (s.incBy f n).uds = s.uds := rfl
@[simp] theorem State.incBy_axes (f : Fld) (n : Nat) : (s.incBy f n).axes = s.axes := rfl
@[simp] theorem State.incBy_timeHi (f : Fld) (n : Nat) : (s.incBy f n).timeHi = s.timeHi := rfl
@[simp] theorem State.incBy_alignCount (f : Fld) (n : Nat) : (s.incBy f n).alignCount = s.alignCount := rfl
@[simp] theorem State.incBy_alignAt (f : Fld) (n : Nat) : (s.incBy f n).alignAt = s.alignAt := rfl
@[simp] theorem State.incBy_stepDue (f : Fld) (n : Nat) : (s.incBy f n).stepDue = s.stepDue := rfl
@[simp] theorem State.incBy_rateFrac (f : Fld) (n : Nat) : (s.incBy f n).rateFrac = s.rateFrac := rfl
@[simp] theorem State.incBy_slots (f : Fld) (n : Nat) : (s.incBy f n).slots = s.slots := rfl
@[simp] theorem State.incBy_dueQ (f : Fld) (n : Nat) : (s.incBy f n).dueQ = s.dueQ := rfl
@[simp] theorem State.incBy_acts (f : Fld) (n : Nat) : (s.incBy f n).acts = s.acts := rfl
@[simp] theorem State.incBy_crossings (f : Fld) (n : Nat) : (s.incBy f n).crossings = s.crossings := rfl
@[simp] theorem State.incBy_tickAt (f : Fld) (n : Nat) : (s.incBy f n).tickAt = s.tickAt := rfl
@[simp] theorem State.incBy_fireTimes (f : Fld) (n : Nat) : (s.incBy f n).fireTimes = s.fireTimes := rfl
@[simp] theorem State.incBy_leadRuns (f : Fld) (n : Nat) : (s.incBy f n).leadRuns = s.leadRuns := rfl
@[simp] theorem State.incBy_later (f : Fld) (n : Nat) : (s.incBy f n).later = s.later := rfl

/-! ### setHc -/

@[simp] theorem State.setHc_pending (n : Nat) (h : HostCtx) : (s.setHc n h).pending = s.pending := rfl
@[simp] theorem State.setHc_now (n : Nat) (h : HostCtx) : (s.setHc n h).now = s.now := rfl
@[simp] theorem State.setHc_otp (n : Nat) (h : HostCtx) : (s.setHc n h).otp = s.otp := rfl
@[simp] theorem State.setHc_devTime (n : Nat) (h : HostCtx) : (s.setHc n h).devTime = s.devTime := rfl
@[simp] theorem State.setHc_regs (n : Nat) (h : HostCtx) : (s.setHc n h).regs = s.regs := rfl
@[simp] theorem State.setHc_freeCount (n : Nat) (h : HostCtx) : (s.setHc n h).freeCount = s.freeCount := rfl
@[simp] theorem State.setHc_nextId (n : Nat) (h : HostCtx) : (s.setHc n h).nextId = s.nextId := rfl
@[simp] theorem State.setHc_issuing (n : Nat) (h : HostCtx) : (s.setHc n h).issuing = s.issuing := rfl
@[simp] theorem State.setHc_turnHc (n : Nat) (h : HostCtx) : (s.setHc n h).turnHc = s.turnHc := rfl
@[simp] theorem State.setHc_owners (n : Nat) (h : HostCtx) : (s.setHc n h).owners = s.owners := rfl
@[simp] theorem State.setHc_jobs (n : Nat) (h : HostCtx) : (s.setHc n h).jobs = s.jobs := rfl
@[simp] theorem State.setHc_portCells (n : Nat) (h : HostCtx) : (s.setHc n h).portCells = s.portCells := rfl
@[simp] theorem State.setHc_backlog (n : Nat) (h : HostCtx) : (s.setHc n h).backlog = s.backlog := rfl
@[simp] theorem State.setHc_lostFor (n : Nat) (h : HostCtx) : (s.setHc n h).lostFor = s.lostFor := rfl
@[simp] theorem State.setHc_sent (n : Nat) (h : HostCtx) : (s.setHc n h).sent = s.sent := rfl
@[simp] theorem State.setHc_sdo (n : Nat) (h : HostCtx) : (s.setHc n h).sdo = s.sdo := rfl
@[simp] theorem State.setHc_crce (n : Nat) (h : HostCtx) : (s.setHc n h).crce = s.crce := rfl
@[simp] theorem State.setHc_rdy (n : Nat) (h : HostCtx) : (s.setHc n h).rdy = s.rdy := rfl
@[simp] theorem State.setHc_aonIrq (n : Nat) (h : HostCtx) : (s.setHc n h).aonIrq = s.aonIrq := rfl
@[simp] theorem State.setHc_vsup (n : Nat) (h : HostCtx) : (s.setHc n h).vsup = s.vsup := rfl
@[simp] theorem State.setHc_powerLost (n : Nat) (h : HostCtx) : (s.setHc n h).powerLost = s.powerLost := rfl
@[simp] theorem State.setHc_uvMask (n : Nat) (h : HostCtx) : (s.setHc n h).uvMask = s.uvMask := rfl
@[simp] theorem State.setHc_degMask (n : Nat) (h : HostCtx) : (s.setHc n h).degMask = s.degMask := rfl
@[simp] theorem State.setHc_olFrom (n : Nat) (h : HostCtx) : (s.setHc n h).olFrom = s.olFrom := rfl
@[simp] theorem State.setHc_vioOk (n : Nat) (h : HostCtx) : (s.setHc n h).vioOk = s.vioOk := rfl
@[simp] theorem State.setHc_t0 (n : Nat) (h : HostCtx) : (s.setHc n h).t0 = s.t0 := rfl
@[simp] theorem State.setHc_sysUp (n : Nat) (h : HostCtx) : (s.setHc n h).sysUp = s.sysUp := rfl
@[simp] theorem State.setHc_serving (n : Nat) (h : HostCtx) : (s.setHc n h).serving = s.serving := rfl
@[simp] theorem State.setHc_rstLow (n : Nat) (h : HostCtx) : (s.setHc n h).rstLow = s.rstLow := rfl
@[simp] theorem State.setHc_sysStartTimes (n : Nat) (h : HostCtx) : (s.setHc n h).sysStartTimes = s.sysStartTimes := rfl
@[simp] theorem State.setHc_devResetAt (n : Nat) (h : HostCtx) : (s.setHc n h).devResetAt = s.devResetAt := rfl
@[simp] theorem State.setHc_coastAt (n : Nat) (h : HostCtx) : (s.setHc n h).coastAt = s.coastAt := rfl
@[simp] theorem State.setHc_coastTime (n : Nat) (h : HostCtx) : (s.setHc n h).coastTime = s.coastTime := rfl
@[simp] theorem State.setHc_lhLevel (n : Nat) (h : HostCtx) : (s.setHc n h).lhLevel = s.lhLevel := rfl
@[simp] theorem State.setHc_chans (n : Nat) (h : HostCtx) : (s.setHc n h).chans = s.chans := rfl
@[simp] theorem State.setHc_bridges (n : Nat) (h : HostCtx) : (s.setHc n h).bridges = s.bridges := rfl
@[simp] theorem State.setHc_banks (n : Nat) (h : HostCtx) : (s.setHc n h).banks = s.banks := rfl
@[simp] theorem State.setHc_line (n : Nat) (h : HostCtx) : (s.setHc n h).line = s.line := rfl
@[simp] theorem State.setHc_grants (n : Nat) (h : HostCtx) : (s.setHc n h).grants = s.grants := rfl
@[simp] theorem State.setHc_gov (n : Nat) (h : HostCtx) : (s.setHc n h).gov = s.gov := rfl
@[simp] theorem State.setHc_govPend (n : Nat) (h : HostCtx) : (s.setHc n h).govPend = s.govPend := rfl
@[simp] theorem State.setHc_ports (n : Nat) (h : HostCtx) : (s.setHc n h).ports = s.ports := rfl
@[simp] theorem State.setHc_pairs (n : Nat) (h : HostCtx) : (s.setHc n h).pairs = s.pairs := rfl
@[simp] theorem State.setHc_pairSel (n : Nat) (h : HostCtx) : (s.setHc n h).pairSel = s.pairSel := rfl
@[simp] theorem State.setHc_flows (n : Nat) (h : HostCtx) : (s.setHc n h).flows = s.flows := rfl
@[simp] theorem State.setHc_fullTold (n : Nat) (h : HostCtx) : (s.setHc n h).fullTold = s.fullTold := rfl
@[simp] theorem State.setHc_fwd (n : Nat) (h : HostCtx) : (s.setHc n h).fwd = s.fwd := rfl
@[simp] theorem State.setHc_netPorts (n : Nat) (h : HostCtx) : (s.setHc n h).netPorts = s.netPorts := rfl
@[simp] theorem State.setHc_slowWin (n : Nat) (h : HostCtx) : (s.setHc n h).slowWin = s.slowWin := rfl
@[simp] theorem State.setHc_slowQ (n : Nat) (h : HostCtx) : (s.setHc n h).slowQ = s.slowQ := rfl
@[simp] theorem State.setHc_asGood (n : Nat) (h : HostCtx) : (s.setHc n h).asGood = s.asGood := rfl
@[simp] theorem State.setHc_asAt (n : Nat) (h : HostCtx) : (s.setHc n h).asAt = s.asAt := rfl
@[simp] theorem State.setHc_asHi (n : Nat) (h : HostCtx) : (s.setHc n h).asHi = s.asHi := rfl
@[simp] theorem State.setHc_fullAt (n : Nat) (h : HostCtx) : (s.setHc n h).fullAt = s.fullAt := rfl
@[simp] theorem State.setHc_log (n : Nat) (h : HostCtx) : (s.setHc n h).log = s.log := rfl
@[simp] theorem State.setHc_inbox (n : Nat) (h : HostCtx) : (s.setHc n h).inbox = s.inbox := rfl
@[simp] theorem State.setHc_summaryFlash (n : Nat) (h : HostCtx) : (s.setHc n h).summaryFlash = s.summaryFlash := rfl
@[simp] theorem State.setHc_summaryAt (n : Nat) (h : HostCtx) : (s.setHc n h).summaryAt = s.summaryAt := rfl
@[simp] theorem State.setHc_summaryLoaded (n : Nat) (h : HostCtx) : (s.setHc n h).summaryLoaded = s.summaryLoaded := rfl
@[simp] theorem State.setHc_fqTold (n : Nat) (h : HostCtx) : (s.setHc n h).fqTold = s.fqTold := rfl
@[simp] theorem State.setHc_fiDeb (n : Nat) (h : HostCtx) : (s.setHc n h).fiDeb = s.fiDeb := rfl
@[simp] theorem State.setHc_doms (n : Nat) (h : HostCtx) : (s.setHc n h).doms = s.doms := rfl
@[simp] theorem State.setHc_wakeTimer (n : Nat) (h : HostCtx) : (s.setHc n h).wakeTimer = s.wakeTimer := rfl
@[simp] theorem State.setHc_wkLevel (n : Nat) (h : HostCtx) : (s.setHc n h).wkLevel = s.wkLevel := rfl
@[simp] theorem State.setHc_hibAt (n : Nat) (h : HostCtx) : (s.setHc n h).hibAt = s.hibAt := rfl
@[simp] theorem State.setHc_sbPtr (n : Nat) (h : HostCtx) : (s.setHc n h).sbPtr = s.sbPtr := rfl
@[simp] theorem State.setHc_sbOut (n : Nat) (h : HostCtx) : (s.setHc n h).sbOut = s.sbOut := rfl
@[simp] theorem State.setHc_sysReturn (n : Nat) (h : HostCtx) : (s.setHc n h).sysReturn = s.sysReturn := rfl
@[simp] theorem State.setHc_sysAgain (n : Nat) (h : HostCtx) : (s.setHc n h).sysAgain = s.sysAgain := rfl
@[simp] theorem State.setHc_sbHold (n : Nat) (h : HostCtx) : (s.setHc n h).sbHold = s.sbHold := rfl
@[simp] theorem State.setHc_keyArr (n : Nat) (h : HostCtx) : (s.setHc n h).keyArr = s.keyArr := rfl
@[simp] theorem State.setHc_dbgArr (n : Nat) (h : HostCtx) : (s.setHc n h).dbgArr = s.dbgArr := rfl
@[simp] theorem State.setHc_testPins (n : Nat) (h : HostCtx) : (s.setHc n h).testPins = s.testPins := rfl
@[simp] theorem State.setHc_staged (n : Nat) (h : HostCtx) : (s.setHc n h).staged = s.staged := rfl
@[simp] theorem State.setHc_keyWrite (n : Nat) (h : HostCtx) : (s.setHc n h).keyWrite = s.keyWrite := rfl
@[simp] theorem State.setHc_cache (n : Nat) (h : HostCtx) : (s.setHc n h).cache = s.cache := rfl
@[simp] theorem State.setHc_ram (n : Nat) (h : HostCtx) : (s.setHc n h).ram = s.ram := rfl
@[simp] theorem State.setHc_remaskAt (n : Nat) (h : HostCtx) : (s.setHc n h).remaskAt = s.remaskAt := rfl
@[simp] theorem State.setHc_rngAt (n : Nat) (h : HostCtx) : (s.setHc n h).rngAt = s.rngAt := rfl
@[simp] theorem State.setHc_challenges (n : Nat) (h : HostCtx) : (s.setHc n h).challenges = s.challenges := rfl
@[simp] theorem State.setHc_imm (n : Nat) (h : HostCtx) : (s.setHc n h).imm = s.imm := rfl
@[simp] theorem State.setHc_flash (n : Nat) (h : HostCtx) : (s.setHc n h).flash = s.flash := rfl
@[simp] theorem State.setHc_erases (n : Nat) (h : HostCtx) : (s.setHc n h).erases = s.erases := rfl
@[simp] theorem State.setHc_cfgNow (n : Nat) (h : HostCtx) : (s.setHc n h).cfgNow = s.cfgNow := rfl
@[simp] theorem State.setHc_fwLock (n : Nat) (h : HostCtx) : (s.setHc n h).fwLock = s.fwLock := rfl
@[simp] theorem State.setHc_cfgLock (n : Nat) (h : HostCtx) : (s.setHc n h).cfgLock = s.cfgLock := rfl
@[simp] theorem State.setHc_runTicks (n : Nat) (h : HostCtx) : (s.setHc n h).runTicks = s.runTicks := rfl
@[simp] theorem State.setHc_uds (n : Nat) (h : HostCtx) : (s.setHc n h).uds = s.uds := rfl
@[simp] theorem State.setHc_axes (n : Nat) (h : HostCtx) : (s.setHc n h).axes = s.axes := rfl
@[simp] theorem State.setHc_timeHi (n : Nat) (h : HostCtx) : (s.setHc n h).timeHi = s.timeHi := rfl
@[simp] theorem State.setHc_alignCount (n : Nat) (h : HostCtx) : (s.setHc n h).alignCount = s.alignCount := rfl
@[simp] theorem State.setHc_alignAt (n : Nat) (h : HostCtx) : (s.setHc n h).alignAt = s.alignAt := rfl
@[simp] theorem State.setHc_stepDue (n : Nat) (h : HostCtx) : (s.setHc n h).stepDue = s.stepDue := rfl
@[simp] theorem State.setHc_rateFrac (n : Nat) (h : HostCtx) : (s.setHc n h).rateFrac = s.rateFrac := rfl
@[simp] theorem State.setHc_slots (n : Nat) (h : HostCtx) : (s.setHc n h).slots = s.slots := rfl
@[simp] theorem State.setHc_dueQ (n : Nat) (h : HostCtx) : (s.setHc n h).dueQ = s.dueQ := rfl
@[simp] theorem State.setHc_acts (n : Nat) (h : HostCtx) : (s.setHc n h).acts = s.acts := rfl
@[simp] theorem State.setHc_crossings (n : Nat) (h : HostCtx) : (s.setHc n h).crossings = s.crossings := rfl
@[simp] theorem State.setHc_tickAt (n : Nat) (h : HostCtx) : (s.setHc n h).tickAt = s.tickAt := rfl
@[simp] theorem State.setHc_fireTimes (n : Nat) (h : HostCtx) : (s.setHc n h).fireTimes = s.fireTimes := rfl
@[simp] theorem State.setHc_leadRuns (n : Nat) (h : HostCtx) : (s.setHc n h).leadRuns = s.leadRuns := rfl
@[simp] theorem State.setHc_later (n : Nat) (h : HostCtx) : (s.setHc n h).later = s.later := rfl

/-! ### modHc -/

@[simp] theorem State.modHc_pending (n : Nat) (f : HostCtx → HostCtx) : (s.modHc n f).pending = s.pending := rfl
@[simp] theorem State.modHc_now (n : Nat) (f : HostCtx → HostCtx) : (s.modHc n f).now = s.now := rfl
@[simp] theorem State.modHc_otp (n : Nat) (f : HostCtx → HostCtx) : (s.modHc n f).otp = s.otp := rfl
@[simp] theorem State.modHc_devTime (n : Nat) (f : HostCtx → HostCtx) : (s.modHc n f).devTime = s.devTime := rfl
@[simp] theorem State.modHc_regs (n : Nat) (f : HostCtx → HostCtx) : (s.modHc n f).regs = s.regs := rfl
@[simp] theorem State.modHc_freeCount (n : Nat) (f : HostCtx → HostCtx) : (s.modHc n f).freeCount = s.freeCount := rfl
@[simp] theorem State.modHc_nextId (n : Nat) (f : HostCtx → HostCtx) : (s.modHc n f).nextId = s.nextId := rfl
@[simp] theorem State.modHc_issuing (n : Nat) (f : HostCtx → HostCtx) : (s.modHc n f).issuing = s.issuing := rfl
@[simp] theorem State.modHc_turnHc (n : Nat) (f : HostCtx → HostCtx) : (s.modHc n f).turnHc = s.turnHc := rfl
@[simp] theorem State.modHc_owners (n : Nat) (f : HostCtx → HostCtx) : (s.modHc n f).owners = s.owners := rfl
@[simp] theorem State.modHc_jobs (n : Nat) (f : HostCtx → HostCtx) : (s.modHc n f).jobs = s.jobs := rfl
@[simp] theorem State.modHc_portCells (n : Nat) (f : HostCtx → HostCtx) : (s.modHc n f).portCells = s.portCells := rfl
@[simp] theorem State.modHc_backlog (n : Nat) (f : HostCtx → HostCtx) : (s.modHc n f).backlog = s.backlog := rfl
@[simp] theorem State.modHc_lostFor (n : Nat) (f : HostCtx → HostCtx) : (s.modHc n f).lostFor = s.lostFor := rfl
@[simp] theorem State.modHc_sent (n : Nat) (f : HostCtx → HostCtx) : (s.modHc n f).sent = s.sent := rfl
@[simp] theorem State.modHc_sdo (n : Nat) (f : HostCtx → HostCtx) : (s.modHc n f).sdo = s.sdo := rfl
@[simp] theorem State.modHc_crce (n : Nat) (f : HostCtx → HostCtx) : (s.modHc n f).crce = s.crce := rfl
@[simp] theorem State.modHc_rdy (n : Nat) (f : HostCtx → HostCtx) : (s.modHc n f).rdy = s.rdy := rfl
@[simp] theorem State.modHc_aonIrq (n : Nat) (f : HostCtx → HostCtx) : (s.modHc n f).aonIrq = s.aonIrq := rfl
@[simp] theorem State.modHc_vsup (n : Nat) (f : HostCtx → HostCtx) : (s.modHc n f).vsup = s.vsup := rfl
@[simp] theorem State.modHc_powerLost (n : Nat) (f : HostCtx → HostCtx) : (s.modHc n f).powerLost = s.powerLost := rfl
@[simp] theorem State.modHc_uvMask (n : Nat) (f : HostCtx → HostCtx) : (s.modHc n f).uvMask = s.uvMask := rfl
@[simp] theorem State.modHc_degMask (n : Nat) (f : HostCtx → HostCtx) : (s.modHc n f).degMask = s.degMask := rfl
@[simp] theorem State.modHc_olFrom (n : Nat) (f : HostCtx → HostCtx) : (s.modHc n f).olFrom = s.olFrom := rfl
@[simp] theorem State.modHc_vioOk (n : Nat) (f : HostCtx → HostCtx) : (s.modHc n f).vioOk = s.vioOk := rfl
@[simp] theorem State.modHc_t0 (n : Nat) (f : HostCtx → HostCtx) : (s.modHc n f).t0 = s.t0 := rfl
@[simp] theorem State.modHc_sysUp (n : Nat) (f : HostCtx → HostCtx) : (s.modHc n f).sysUp = s.sysUp := rfl
@[simp] theorem State.modHc_serving (n : Nat) (f : HostCtx → HostCtx) : (s.modHc n f).serving = s.serving := rfl
@[simp] theorem State.modHc_rstLow (n : Nat) (f : HostCtx → HostCtx) : (s.modHc n f).rstLow = s.rstLow := rfl
@[simp] theorem State.modHc_sysStartTimes (n : Nat) (f : HostCtx → HostCtx) : (s.modHc n f).sysStartTimes = s.sysStartTimes := rfl
@[simp] theorem State.modHc_devResetAt (n : Nat) (f : HostCtx → HostCtx) : (s.modHc n f).devResetAt = s.devResetAt := rfl
@[simp] theorem State.modHc_coastAt (n : Nat) (f : HostCtx → HostCtx) : (s.modHc n f).coastAt = s.coastAt := rfl
@[simp] theorem State.modHc_coastTime (n : Nat) (f : HostCtx → HostCtx) : (s.modHc n f).coastTime = s.coastTime := rfl
@[simp] theorem State.modHc_lhLevel (n : Nat) (f : HostCtx → HostCtx) : (s.modHc n f).lhLevel = s.lhLevel := rfl
@[simp] theorem State.modHc_chans (n : Nat) (f : HostCtx → HostCtx) : (s.modHc n f).chans = s.chans := rfl
@[simp] theorem State.modHc_bridges (n : Nat) (f : HostCtx → HostCtx) : (s.modHc n f).bridges = s.bridges := rfl
@[simp] theorem State.modHc_banks (n : Nat) (f : HostCtx → HostCtx) : (s.modHc n f).banks = s.banks := rfl
@[simp] theorem State.modHc_line (n : Nat) (f : HostCtx → HostCtx) : (s.modHc n f).line = s.line := rfl
@[simp] theorem State.modHc_grants (n : Nat) (f : HostCtx → HostCtx) : (s.modHc n f).grants = s.grants := rfl
@[simp] theorem State.modHc_gov (n : Nat) (f : HostCtx → HostCtx) : (s.modHc n f).gov = s.gov := rfl
@[simp] theorem State.modHc_govPend (n : Nat) (f : HostCtx → HostCtx) : (s.modHc n f).govPend = s.govPend := rfl
@[simp] theorem State.modHc_ports (n : Nat) (f : HostCtx → HostCtx) : (s.modHc n f).ports = s.ports := rfl
@[simp] theorem State.modHc_pairs (n : Nat) (f : HostCtx → HostCtx) : (s.modHc n f).pairs = s.pairs := rfl
@[simp] theorem State.modHc_pairSel (n : Nat) (f : HostCtx → HostCtx) : (s.modHc n f).pairSel = s.pairSel := rfl
@[simp] theorem State.modHc_flows (n : Nat) (f : HostCtx → HostCtx) : (s.modHc n f).flows = s.flows := rfl
@[simp] theorem State.modHc_fullTold (n : Nat) (f : HostCtx → HostCtx) : (s.modHc n f).fullTold = s.fullTold := rfl
@[simp] theorem State.modHc_fwd (n : Nat) (f : HostCtx → HostCtx) : (s.modHc n f).fwd = s.fwd := rfl
@[simp] theorem State.modHc_netPorts (n : Nat) (f : HostCtx → HostCtx) : (s.modHc n f).netPorts = s.netPorts := rfl
@[simp] theorem State.modHc_slowWin (n : Nat) (f : HostCtx → HostCtx) : (s.modHc n f).slowWin = s.slowWin := rfl
@[simp] theorem State.modHc_slowQ (n : Nat) (f : HostCtx → HostCtx) : (s.modHc n f).slowQ = s.slowQ := rfl
@[simp] theorem State.modHc_asGood (n : Nat) (f : HostCtx → HostCtx) : (s.modHc n f).asGood = s.asGood := rfl
@[simp] theorem State.modHc_asAt (n : Nat) (f : HostCtx → HostCtx) : (s.modHc n f).asAt = s.asAt := rfl
@[simp] theorem State.modHc_asHi (n : Nat) (f : HostCtx → HostCtx) : (s.modHc n f).asHi = s.asHi := rfl
@[simp] theorem State.modHc_fullAt (n : Nat) (f : HostCtx → HostCtx) : (s.modHc n f).fullAt = s.fullAt := rfl
@[simp] theorem State.modHc_log (n : Nat) (f : HostCtx → HostCtx) : (s.modHc n f).log = s.log := rfl
@[simp] theorem State.modHc_inbox (n : Nat) (f : HostCtx → HostCtx) : (s.modHc n f).inbox = s.inbox := rfl
@[simp] theorem State.modHc_summaryFlash (n : Nat) (f : HostCtx → HostCtx) : (s.modHc n f).summaryFlash = s.summaryFlash := rfl
@[simp] theorem State.modHc_summaryAt (n : Nat) (f : HostCtx → HostCtx) : (s.modHc n f).summaryAt = s.summaryAt := rfl
@[simp] theorem State.modHc_summaryLoaded (n : Nat) (f : HostCtx → HostCtx) : (s.modHc n f).summaryLoaded = s.summaryLoaded := rfl
@[simp] theorem State.modHc_fqTold (n : Nat) (f : HostCtx → HostCtx) : (s.modHc n f).fqTold = s.fqTold := rfl
@[simp] theorem State.modHc_fiDeb (n : Nat) (f : HostCtx → HostCtx) : (s.modHc n f).fiDeb = s.fiDeb := rfl
@[simp] theorem State.modHc_doms (n : Nat) (f : HostCtx → HostCtx) : (s.modHc n f).doms = s.doms := rfl
@[simp] theorem State.modHc_wakeTimer (n : Nat) (f : HostCtx → HostCtx) : (s.modHc n f).wakeTimer = s.wakeTimer := rfl
@[simp] theorem State.modHc_wkLevel (n : Nat) (f : HostCtx → HostCtx) : (s.modHc n f).wkLevel = s.wkLevel := rfl
@[simp] theorem State.modHc_hibAt (n : Nat) (f : HostCtx → HostCtx) : (s.modHc n f).hibAt = s.hibAt := rfl
@[simp] theorem State.modHc_sbPtr (n : Nat) (f : HostCtx → HostCtx) : (s.modHc n f).sbPtr = s.sbPtr := rfl
@[simp] theorem State.modHc_sbOut (n : Nat) (f : HostCtx → HostCtx) : (s.modHc n f).sbOut = s.sbOut := rfl
@[simp] theorem State.modHc_sysReturn (n : Nat) (f : HostCtx → HostCtx) : (s.modHc n f).sysReturn = s.sysReturn := rfl
@[simp] theorem State.modHc_sysAgain (n : Nat) (f : HostCtx → HostCtx) : (s.modHc n f).sysAgain = s.sysAgain := rfl
@[simp] theorem State.modHc_sbHold (n : Nat) (f : HostCtx → HostCtx) : (s.modHc n f).sbHold = s.sbHold := rfl
@[simp] theorem State.modHc_keyArr (n : Nat) (f : HostCtx → HostCtx) : (s.modHc n f).keyArr = s.keyArr := rfl
@[simp] theorem State.modHc_dbgArr (n : Nat) (f : HostCtx → HostCtx) : (s.modHc n f).dbgArr = s.dbgArr := rfl
@[simp] theorem State.modHc_testPins (n : Nat) (f : HostCtx → HostCtx) : (s.modHc n f).testPins = s.testPins := rfl
@[simp] theorem State.modHc_staged (n : Nat) (f : HostCtx → HostCtx) : (s.modHc n f).staged = s.staged := rfl
@[simp] theorem State.modHc_keyWrite (n : Nat) (f : HostCtx → HostCtx) : (s.modHc n f).keyWrite = s.keyWrite := rfl
@[simp] theorem State.modHc_cache (n : Nat) (f : HostCtx → HostCtx) : (s.modHc n f).cache = s.cache := rfl
@[simp] theorem State.modHc_ram (n : Nat) (f : HostCtx → HostCtx) : (s.modHc n f).ram = s.ram := rfl
@[simp] theorem State.modHc_remaskAt (n : Nat) (f : HostCtx → HostCtx) : (s.modHc n f).remaskAt = s.remaskAt := rfl
@[simp] theorem State.modHc_rngAt (n : Nat) (f : HostCtx → HostCtx) : (s.modHc n f).rngAt = s.rngAt := rfl
@[simp] theorem State.modHc_challenges (n : Nat) (f : HostCtx → HostCtx) : (s.modHc n f).challenges = s.challenges := rfl
@[simp] theorem State.modHc_imm (n : Nat) (f : HostCtx → HostCtx) : (s.modHc n f).imm = s.imm := rfl
@[simp] theorem State.modHc_flash (n : Nat) (f : HostCtx → HostCtx) : (s.modHc n f).flash = s.flash := rfl
@[simp] theorem State.modHc_erases (n : Nat) (f : HostCtx → HostCtx) : (s.modHc n f).erases = s.erases := rfl
@[simp] theorem State.modHc_cfgNow (n : Nat) (f : HostCtx → HostCtx) : (s.modHc n f).cfgNow = s.cfgNow := rfl
@[simp] theorem State.modHc_fwLock (n : Nat) (f : HostCtx → HostCtx) : (s.modHc n f).fwLock = s.fwLock := rfl
@[simp] theorem State.modHc_cfgLock (n : Nat) (f : HostCtx → HostCtx) : (s.modHc n f).cfgLock = s.cfgLock := rfl
@[simp] theorem State.modHc_runTicks (n : Nat) (f : HostCtx → HostCtx) : (s.modHc n f).runTicks = s.runTicks := rfl
@[simp] theorem State.modHc_uds (n : Nat) (f : HostCtx → HostCtx) : (s.modHc n f).uds = s.uds := rfl
@[simp] theorem State.modHc_axes (n : Nat) (f : HostCtx → HostCtx) : (s.modHc n f).axes = s.axes := rfl
@[simp] theorem State.modHc_timeHi (n : Nat) (f : HostCtx → HostCtx) : (s.modHc n f).timeHi = s.timeHi := rfl
@[simp] theorem State.modHc_alignCount (n : Nat) (f : HostCtx → HostCtx) : (s.modHc n f).alignCount = s.alignCount := rfl
@[simp] theorem State.modHc_alignAt (n : Nat) (f : HostCtx → HostCtx) : (s.modHc n f).alignAt = s.alignAt := rfl
@[simp] theorem State.modHc_stepDue (n : Nat) (f : HostCtx → HostCtx) : (s.modHc n f).stepDue = s.stepDue := rfl
@[simp] theorem State.modHc_rateFrac (n : Nat) (f : HostCtx → HostCtx) : (s.modHc n f).rateFrac = s.rateFrac := rfl
@[simp] theorem State.modHc_slots (n : Nat) (f : HostCtx → HostCtx) : (s.modHc n f).slots = s.slots := rfl
@[simp] theorem State.modHc_dueQ (n : Nat) (f : HostCtx → HostCtx) : (s.modHc n f).dueQ = s.dueQ := rfl
@[simp] theorem State.modHc_acts (n : Nat) (f : HostCtx → HostCtx) : (s.modHc n f).acts = s.acts := rfl
@[simp] theorem State.modHc_crossings (n : Nat) (f : HostCtx → HostCtx) : (s.modHc n f).crossings = s.crossings := rfl
@[simp] theorem State.modHc_tickAt (n : Nat) (f : HostCtx → HostCtx) : (s.modHc n f).tickAt = s.tickAt := rfl
@[simp] theorem State.modHc_fireTimes (n : Nat) (f : HostCtx → HostCtx) : (s.modHc n f).fireTimes = s.fireTimes := rfl
@[simp] theorem State.modHc_leadRuns (n : Nat) (f : HostCtx → HostCtx) : (s.modHc n f).leadRuns = s.leadRuns := rfl
@[simp] theorem State.modHc_later (n : Nat) (f : HostCtx → HostCtx) : (s.modHc n f).later = s.later := rfl

/-! ### setCh -/

@[simp] theorem State.setCh_pending (n : Nat) (c : Chan) : (s.setCh n c).pending = s.pending := rfl
@[simp] theorem State.setCh_now (n : Nat) (c : Chan) : (s.setCh n c).now = s.now := rfl
@[simp] theorem State.setCh_otp (n : Nat) (c : Chan) : (s.setCh n c).otp = s.otp := rfl
@[simp] theorem State.setCh_devTime (n : Nat) (c : Chan) : (s.setCh n c).devTime = s.devTime := rfl
@[simp] theorem State.setCh_regs (n : Nat) (c : Chan) : (s.setCh n c).regs = s.regs := rfl
@[simp] theorem State.setCh_freeCount (n : Nat) (c : Chan) : (s.setCh n c).freeCount = s.freeCount := rfl
@[simp] theorem State.setCh_nextId (n : Nat) (c : Chan) : (s.setCh n c).nextId = s.nextId := rfl
@[simp] theorem State.setCh_issuing (n : Nat) (c : Chan) : (s.setCh n c).issuing = s.issuing := rfl
@[simp] theorem State.setCh_turnHc (n : Nat) (c : Chan) : (s.setCh n c).turnHc = s.turnHc := rfl
@[simp] theorem State.setCh_hcs (n : Nat) (c : Chan) : (s.setCh n c).hcs = s.hcs := rfl
@[simp] theorem State.setCh_owners (n : Nat) (c : Chan) : (s.setCh n c).owners = s.owners := rfl
@[simp] theorem State.setCh_jobs (n : Nat) (c : Chan) : (s.setCh n c).jobs = s.jobs := rfl
@[simp] theorem State.setCh_portCells (n : Nat) (c : Chan) : (s.setCh n c).portCells = s.portCells := rfl
@[simp] theorem State.setCh_backlog (n : Nat) (c : Chan) : (s.setCh n c).backlog = s.backlog := rfl
@[simp] theorem State.setCh_lostFor (n : Nat) (c : Chan) : (s.setCh n c).lostFor = s.lostFor := rfl
@[simp] theorem State.setCh_sent (n : Nat) (c : Chan) : (s.setCh n c).sent = s.sent := rfl
@[simp] theorem State.setCh_sdo (n : Nat) (c : Chan) : (s.setCh n c).sdo = s.sdo := rfl
@[simp] theorem State.setCh_crce (n : Nat) (c : Chan) : (s.setCh n c).crce = s.crce := rfl
@[simp] theorem State.setCh_rdy (n : Nat) (c : Chan) : (s.setCh n c).rdy = s.rdy := rfl
@[simp] theorem State.setCh_aonIrq (n : Nat) (c : Chan) : (s.setCh n c).aonIrq = s.aonIrq := rfl
@[simp] theorem State.setCh_vsup (n : Nat) (c : Chan) : (s.setCh n c).vsup = s.vsup := rfl
@[simp] theorem State.setCh_powerLost (n : Nat) (c : Chan) : (s.setCh n c).powerLost = s.powerLost := rfl
@[simp] theorem State.setCh_uvMask (n : Nat) (c : Chan) : (s.setCh n c).uvMask = s.uvMask := rfl
@[simp] theorem State.setCh_degMask (n : Nat) (c : Chan) : (s.setCh n c).degMask = s.degMask := rfl
@[simp] theorem State.setCh_olFrom (n : Nat) (c : Chan) : (s.setCh n c).olFrom = s.olFrom := rfl
@[simp] theorem State.setCh_vioOk (n : Nat) (c : Chan) : (s.setCh n c).vioOk = s.vioOk := rfl
@[simp] theorem State.setCh_t0 (n : Nat) (c : Chan) : (s.setCh n c).t0 = s.t0 := rfl
@[simp] theorem State.setCh_sysUp (n : Nat) (c : Chan) : (s.setCh n c).sysUp = s.sysUp := rfl
@[simp] theorem State.setCh_serving (n : Nat) (c : Chan) : (s.setCh n c).serving = s.serving := rfl
@[simp] theorem State.setCh_rstLow (n : Nat) (c : Chan) : (s.setCh n c).rstLow = s.rstLow := rfl
@[simp] theorem State.setCh_sysStartTimes (n : Nat) (c : Chan) : (s.setCh n c).sysStartTimes = s.sysStartTimes := rfl
@[simp] theorem State.setCh_devResetAt (n : Nat) (c : Chan) : (s.setCh n c).devResetAt = s.devResetAt := rfl
@[simp] theorem State.setCh_coastAt (n : Nat) (c : Chan) : (s.setCh n c).coastAt = s.coastAt := rfl
@[simp] theorem State.setCh_coastTime (n : Nat) (c : Chan) : (s.setCh n c).coastTime = s.coastTime := rfl
@[simp] theorem State.setCh_lhLevel (n : Nat) (c : Chan) : (s.setCh n c).lhLevel = s.lhLevel := rfl
@[simp] theorem State.setCh_bridges (n : Nat) (c : Chan) : (s.setCh n c).bridges = s.bridges := rfl
@[simp] theorem State.setCh_banks (n : Nat) (c : Chan) : (s.setCh n c).banks = s.banks := rfl
@[simp] theorem State.setCh_line (n : Nat) (c : Chan) : (s.setCh n c).line = s.line := rfl
@[simp] theorem State.setCh_grants (n : Nat) (c : Chan) : (s.setCh n c).grants = s.grants := rfl
@[simp] theorem State.setCh_gov (n : Nat) (c : Chan) : (s.setCh n c).gov = s.gov := rfl
@[simp] theorem State.setCh_govPend (n : Nat) (c : Chan) : (s.setCh n c).govPend = s.govPend := rfl
@[simp] theorem State.setCh_ports (n : Nat) (c : Chan) : (s.setCh n c).ports = s.ports := rfl
@[simp] theorem State.setCh_pairs (n : Nat) (c : Chan) : (s.setCh n c).pairs = s.pairs := rfl
@[simp] theorem State.setCh_pairSel (n : Nat) (c : Chan) : (s.setCh n c).pairSel = s.pairSel := rfl
@[simp] theorem State.setCh_flows (n : Nat) (c : Chan) : (s.setCh n c).flows = s.flows := rfl
@[simp] theorem State.setCh_fullTold (n : Nat) (c : Chan) : (s.setCh n c).fullTold = s.fullTold := rfl
@[simp] theorem State.setCh_fwd (n : Nat) (c : Chan) : (s.setCh n c).fwd = s.fwd := rfl
@[simp] theorem State.setCh_netPorts (n : Nat) (c : Chan) : (s.setCh n c).netPorts = s.netPorts := rfl
@[simp] theorem State.setCh_slowWin (n : Nat) (c : Chan) : (s.setCh n c).slowWin = s.slowWin := rfl
@[simp] theorem State.setCh_slowQ (n : Nat) (c : Chan) : (s.setCh n c).slowQ = s.slowQ := rfl
@[simp] theorem State.setCh_asGood (n : Nat) (c : Chan) : (s.setCh n c).asGood = s.asGood := rfl
@[simp] theorem State.setCh_asAt (n : Nat) (c : Chan) : (s.setCh n c).asAt = s.asAt := rfl
@[simp] theorem State.setCh_asHi (n : Nat) (c : Chan) : (s.setCh n c).asHi = s.asHi := rfl
@[simp] theorem State.setCh_fullAt (n : Nat) (c : Chan) : (s.setCh n c).fullAt = s.fullAt := rfl
@[simp] theorem State.setCh_log (n : Nat) (c : Chan) : (s.setCh n c).log = s.log := rfl
@[simp] theorem State.setCh_inbox (n : Nat) (c : Chan) : (s.setCh n c).inbox = s.inbox := rfl
@[simp] theorem State.setCh_summaryFlash (n : Nat) (c : Chan) : (s.setCh n c).summaryFlash = s.summaryFlash := rfl
@[simp] theorem State.setCh_summaryAt (n : Nat) (c : Chan) : (s.setCh n c).summaryAt = s.summaryAt := rfl
@[simp] theorem State.setCh_summaryLoaded (n : Nat) (c : Chan) : (s.setCh n c).summaryLoaded = s.summaryLoaded := rfl
@[simp] theorem State.setCh_fqTold (n : Nat) (c : Chan) : (s.setCh n c).fqTold = s.fqTold := rfl
@[simp] theorem State.setCh_fiDeb (n : Nat) (c : Chan) : (s.setCh n c).fiDeb = s.fiDeb := rfl
@[simp] theorem State.setCh_doms (n : Nat) (c : Chan) : (s.setCh n c).doms = s.doms := rfl
@[simp] theorem State.setCh_wakeTimer (n : Nat) (c : Chan) : (s.setCh n c).wakeTimer = s.wakeTimer := rfl
@[simp] theorem State.setCh_wkLevel (n : Nat) (c : Chan) : (s.setCh n c).wkLevel = s.wkLevel := rfl
@[simp] theorem State.setCh_hibAt (n : Nat) (c : Chan) : (s.setCh n c).hibAt = s.hibAt := rfl
@[simp] theorem State.setCh_sbPtr (n : Nat) (c : Chan) : (s.setCh n c).sbPtr = s.sbPtr := rfl
@[simp] theorem State.setCh_sbOut (n : Nat) (c : Chan) : (s.setCh n c).sbOut = s.sbOut := rfl
@[simp] theorem State.setCh_sysReturn (n : Nat) (c : Chan) : (s.setCh n c).sysReturn = s.sysReturn := rfl
@[simp] theorem State.setCh_sysAgain (n : Nat) (c : Chan) : (s.setCh n c).sysAgain = s.sysAgain := rfl
@[simp] theorem State.setCh_sbHold (n : Nat) (c : Chan) : (s.setCh n c).sbHold = s.sbHold := rfl
@[simp] theorem State.setCh_keyArr (n : Nat) (c : Chan) : (s.setCh n c).keyArr = s.keyArr := rfl
@[simp] theorem State.setCh_dbgArr (n : Nat) (c : Chan) : (s.setCh n c).dbgArr = s.dbgArr := rfl
@[simp] theorem State.setCh_testPins (n : Nat) (c : Chan) : (s.setCh n c).testPins = s.testPins := rfl
@[simp] theorem State.setCh_staged (n : Nat) (c : Chan) : (s.setCh n c).staged = s.staged := rfl
@[simp] theorem State.setCh_keyWrite (n : Nat) (c : Chan) : (s.setCh n c).keyWrite = s.keyWrite := rfl
@[simp] theorem State.setCh_cache (n : Nat) (c : Chan) : (s.setCh n c).cache = s.cache := rfl
@[simp] theorem State.setCh_ram (n : Nat) (c : Chan) : (s.setCh n c).ram = s.ram := rfl
@[simp] theorem State.setCh_remaskAt (n : Nat) (c : Chan) : (s.setCh n c).remaskAt = s.remaskAt := rfl
@[simp] theorem State.setCh_rngAt (n : Nat) (c : Chan) : (s.setCh n c).rngAt = s.rngAt := rfl
@[simp] theorem State.setCh_challenges (n : Nat) (c : Chan) : (s.setCh n c).challenges = s.challenges := rfl
@[simp] theorem State.setCh_imm (n : Nat) (c : Chan) : (s.setCh n c).imm = s.imm := rfl
@[simp] theorem State.setCh_flash (n : Nat) (c : Chan) : (s.setCh n c).flash = s.flash := rfl
@[simp] theorem State.setCh_erases (n : Nat) (c : Chan) : (s.setCh n c).erases = s.erases := rfl
@[simp] theorem State.setCh_cfgNow (n : Nat) (c : Chan) : (s.setCh n c).cfgNow = s.cfgNow := rfl
@[simp] theorem State.setCh_fwLock (n : Nat) (c : Chan) : (s.setCh n c).fwLock = s.fwLock := rfl
@[simp] theorem State.setCh_cfgLock (n : Nat) (c : Chan) : (s.setCh n c).cfgLock = s.cfgLock := rfl
@[simp] theorem State.setCh_runTicks (n : Nat) (c : Chan) : (s.setCh n c).runTicks = s.runTicks := rfl
@[simp] theorem State.setCh_uds (n : Nat) (c : Chan) : (s.setCh n c).uds = s.uds := rfl
@[simp] theorem State.setCh_axes (n : Nat) (c : Chan) : (s.setCh n c).axes = s.axes := rfl
@[simp] theorem State.setCh_timeHi (n : Nat) (c : Chan) : (s.setCh n c).timeHi = s.timeHi := rfl
@[simp] theorem State.setCh_alignCount (n : Nat) (c : Chan) : (s.setCh n c).alignCount = s.alignCount := rfl
@[simp] theorem State.setCh_alignAt (n : Nat) (c : Chan) : (s.setCh n c).alignAt = s.alignAt := rfl
@[simp] theorem State.setCh_stepDue (n : Nat) (c : Chan) : (s.setCh n c).stepDue = s.stepDue := rfl
@[simp] theorem State.setCh_rateFrac (n : Nat) (c : Chan) : (s.setCh n c).rateFrac = s.rateFrac := rfl
@[simp] theorem State.setCh_slots (n : Nat) (c : Chan) : (s.setCh n c).slots = s.slots := rfl
@[simp] theorem State.setCh_dueQ (n : Nat) (c : Chan) : (s.setCh n c).dueQ = s.dueQ := rfl
@[simp] theorem State.setCh_acts (n : Nat) (c : Chan) : (s.setCh n c).acts = s.acts := rfl
@[simp] theorem State.setCh_crossings (n : Nat) (c : Chan) : (s.setCh n c).crossings = s.crossings := rfl
@[simp] theorem State.setCh_tickAt (n : Nat) (c : Chan) : (s.setCh n c).tickAt = s.tickAt := rfl
@[simp] theorem State.setCh_fireTimes (n : Nat) (c : Chan) : (s.setCh n c).fireTimes = s.fireTimes := rfl
@[simp] theorem State.setCh_leadRuns (n : Nat) (c : Chan) : (s.setCh n c).leadRuns = s.leadRuns := rfl
@[simp] theorem State.setCh_later (n : Nat) (c : Chan) : (s.setCh n c).later = s.later := rfl

/-! ### modCh -/

@[simp] theorem State.modCh_pending (n : Nat) (f : Chan → Chan) : (s.modCh n f).pending = s.pending := rfl
@[simp] theorem State.modCh_now (n : Nat) (f : Chan → Chan) : (s.modCh n f).now = s.now := rfl
@[simp] theorem State.modCh_otp (n : Nat) (f : Chan → Chan) : (s.modCh n f).otp = s.otp := rfl
@[simp] theorem State.modCh_devTime (n : Nat) (f : Chan → Chan) : (s.modCh n f).devTime = s.devTime := rfl
@[simp] theorem State.modCh_regs (n : Nat) (f : Chan → Chan) : (s.modCh n f).regs = s.regs := rfl
@[simp] theorem State.modCh_freeCount (n : Nat) (f : Chan → Chan) : (s.modCh n f).freeCount = s.freeCount := rfl
@[simp] theorem State.modCh_nextId (n : Nat) (f : Chan → Chan) : (s.modCh n f).nextId = s.nextId := rfl
@[simp] theorem State.modCh_issuing (n : Nat) (f : Chan → Chan) : (s.modCh n f).issuing = s.issuing := rfl
@[simp] theorem State.modCh_turnHc (n : Nat) (f : Chan → Chan) : (s.modCh n f).turnHc = s.turnHc := rfl
@[simp] theorem State.modCh_hcs (n : Nat) (f : Chan → Chan) : (s.modCh n f).hcs = s.hcs := rfl
@[simp] theorem State.modCh_owners (n : Nat) (f : Chan → Chan) : (s.modCh n f).owners = s.owners := rfl
@[simp] theorem State.modCh_jobs (n : Nat) (f : Chan → Chan) : (s.modCh n f).jobs = s.jobs := rfl
@[simp] theorem State.modCh_portCells (n : Nat) (f : Chan → Chan) : (s.modCh n f).portCells = s.portCells := rfl
@[simp] theorem State.modCh_backlog (n : Nat) (f : Chan → Chan) : (s.modCh n f).backlog = s.backlog := rfl
@[simp] theorem State.modCh_lostFor (n : Nat) (f : Chan → Chan) : (s.modCh n f).lostFor = s.lostFor := rfl
@[simp] theorem State.modCh_sent (n : Nat) (f : Chan → Chan) : (s.modCh n f).sent = s.sent := rfl
@[simp] theorem State.modCh_sdo (n : Nat) (f : Chan → Chan) : (s.modCh n f).sdo = s.sdo := rfl
@[simp] theorem State.modCh_crce (n : Nat) (f : Chan → Chan) : (s.modCh n f).crce = s.crce := rfl
@[simp] theorem State.modCh_rdy (n : Nat) (f : Chan → Chan) : (s.modCh n f).rdy = s.rdy := rfl
@[simp] theorem State.modCh_aonIrq (n : Nat) (f : Chan → Chan) : (s.modCh n f).aonIrq = s.aonIrq := rfl
@[simp] theorem State.modCh_vsup (n : Nat) (f : Chan → Chan) : (s.modCh n f).vsup = s.vsup := rfl
@[simp] theorem State.modCh_powerLost (n : Nat) (f : Chan → Chan) : (s.modCh n f).powerLost = s.powerLost := rfl
@[simp] theorem State.modCh_uvMask (n : Nat) (f : Chan → Chan) : (s.modCh n f).uvMask = s.uvMask := rfl
@[simp] theorem State.modCh_degMask (n : Nat) (f : Chan → Chan) : (s.modCh n f).degMask = s.degMask := rfl
@[simp] theorem State.modCh_olFrom (n : Nat) (f : Chan → Chan) : (s.modCh n f).olFrom = s.olFrom := rfl
@[simp] theorem State.modCh_vioOk (n : Nat) (f : Chan → Chan) : (s.modCh n f).vioOk = s.vioOk := rfl
@[simp] theorem State.modCh_t0 (n : Nat) (f : Chan → Chan) : (s.modCh n f).t0 = s.t0 := rfl
@[simp] theorem State.modCh_sysUp (n : Nat) (f : Chan → Chan) : (s.modCh n f).sysUp = s.sysUp := rfl
@[simp] theorem State.modCh_serving (n : Nat) (f : Chan → Chan) : (s.modCh n f).serving = s.serving := rfl
@[simp] theorem State.modCh_rstLow (n : Nat) (f : Chan → Chan) : (s.modCh n f).rstLow = s.rstLow := rfl
@[simp] theorem State.modCh_sysStartTimes (n : Nat) (f : Chan → Chan) : (s.modCh n f).sysStartTimes = s.sysStartTimes := rfl
@[simp] theorem State.modCh_devResetAt (n : Nat) (f : Chan → Chan) : (s.modCh n f).devResetAt = s.devResetAt := rfl
@[simp] theorem State.modCh_coastAt (n : Nat) (f : Chan → Chan) : (s.modCh n f).coastAt = s.coastAt := rfl
@[simp] theorem State.modCh_coastTime (n : Nat) (f : Chan → Chan) : (s.modCh n f).coastTime = s.coastTime := rfl
@[simp] theorem State.modCh_lhLevel (n : Nat) (f : Chan → Chan) : (s.modCh n f).lhLevel = s.lhLevel := rfl
@[simp] theorem State.modCh_bridges (n : Nat) (f : Chan → Chan) : (s.modCh n f).bridges = s.bridges := rfl
@[simp] theorem State.modCh_banks (n : Nat) (f : Chan → Chan) : (s.modCh n f).banks = s.banks := rfl
@[simp] theorem State.modCh_line (n : Nat) (f : Chan → Chan) : (s.modCh n f).line = s.line := rfl
@[simp] theorem State.modCh_grants (n : Nat) (f : Chan → Chan) : (s.modCh n f).grants = s.grants := rfl
@[simp] theorem State.modCh_gov (n : Nat) (f : Chan → Chan) : (s.modCh n f).gov = s.gov := rfl
@[simp] theorem State.modCh_govPend (n : Nat) (f : Chan → Chan) : (s.modCh n f).govPend = s.govPend := rfl
@[simp] theorem State.modCh_ports (n : Nat) (f : Chan → Chan) : (s.modCh n f).ports = s.ports := rfl
@[simp] theorem State.modCh_pairs (n : Nat) (f : Chan → Chan) : (s.modCh n f).pairs = s.pairs := rfl
@[simp] theorem State.modCh_pairSel (n : Nat) (f : Chan → Chan) : (s.modCh n f).pairSel = s.pairSel := rfl
@[simp] theorem State.modCh_flows (n : Nat) (f : Chan → Chan) : (s.modCh n f).flows = s.flows := rfl
@[simp] theorem State.modCh_fullTold (n : Nat) (f : Chan → Chan) : (s.modCh n f).fullTold = s.fullTold := rfl
@[simp] theorem State.modCh_fwd (n : Nat) (f : Chan → Chan) : (s.modCh n f).fwd = s.fwd := rfl
@[simp] theorem State.modCh_netPorts (n : Nat) (f : Chan → Chan) : (s.modCh n f).netPorts = s.netPorts := rfl
@[simp] theorem State.modCh_slowWin (n : Nat) (f : Chan → Chan) : (s.modCh n f).slowWin = s.slowWin := rfl
@[simp] theorem State.modCh_slowQ (n : Nat) (f : Chan → Chan) : (s.modCh n f).slowQ = s.slowQ := rfl
@[simp] theorem State.modCh_asGood (n : Nat) (f : Chan → Chan) : (s.modCh n f).asGood = s.asGood := rfl
@[simp] theorem State.modCh_asAt (n : Nat) (f : Chan → Chan) : (s.modCh n f).asAt = s.asAt := rfl
@[simp] theorem State.modCh_asHi (n : Nat) (f : Chan → Chan) : (s.modCh n f).asHi = s.asHi := rfl
@[simp] theorem State.modCh_fullAt (n : Nat) (f : Chan → Chan) : (s.modCh n f).fullAt = s.fullAt := rfl
@[simp] theorem State.modCh_log (n : Nat) (f : Chan → Chan) : (s.modCh n f).log = s.log := rfl
@[simp] theorem State.modCh_inbox (n : Nat) (f : Chan → Chan) : (s.modCh n f).inbox = s.inbox := rfl
@[simp] theorem State.modCh_summaryFlash (n : Nat) (f : Chan → Chan) : (s.modCh n f).summaryFlash = s.summaryFlash := rfl
@[simp] theorem State.modCh_summaryAt (n : Nat) (f : Chan → Chan) : (s.modCh n f).summaryAt = s.summaryAt := rfl
@[simp] theorem State.modCh_summaryLoaded (n : Nat) (f : Chan → Chan) : (s.modCh n f).summaryLoaded = s.summaryLoaded := rfl
@[simp] theorem State.modCh_fqTold (n : Nat) (f : Chan → Chan) : (s.modCh n f).fqTold = s.fqTold := rfl
@[simp] theorem State.modCh_fiDeb (n : Nat) (f : Chan → Chan) : (s.modCh n f).fiDeb = s.fiDeb := rfl
@[simp] theorem State.modCh_doms (n : Nat) (f : Chan → Chan) : (s.modCh n f).doms = s.doms := rfl
@[simp] theorem State.modCh_wakeTimer (n : Nat) (f : Chan → Chan) : (s.modCh n f).wakeTimer = s.wakeTimer := rfl
@[simp] theorem State.modCh_wkLevel (n : Nat) (f : Chan → Chan) : (s.modCh n f).wkLevel = s.wkLevel := rfl
@[simp] theorem State.modCh_hibAt (n : Nat) (f : Chan → Chan) : (s.modCh n f).hibAt = s.hibAt := rfl
@[simp] theorem State.modCh_sbPtr (n : Nat) (f : Chan → Chan) : (s.modCh n f).sbPtr = s.sbPtr := rfl
@[simp] theorem State.modCh_sbOut (n : Nat) (f : Chan → Chan) : (s.modCh n f).sbOut = s.sbOut := rfl
@[simp] theorem State.modCh_sysReturn (n : Nat) (f : Chan → Chan) : (s.modCh n f).sysReturn = s.sysReturn := rfl
@[simp] theorem State.modCh_sysAgain (n : Nat) (f : Chan → Chan) : (s.modCh n f).sysAgain = s.sysAgain := rfl
@[simp] theorem State.modCh_sbHold (n : Nat) (f : Chan → Chan) : (s.modCh n f).sbHold = s.sbHold := rfl
@[simp] theorem State.modCh_keyArr (n : Nat) (f : Chan → Chan) : (s.modCh n f).keyArr = s.keyArr := rfl
@[simp] theorem State.modCh_dbgArr (n : Nat) (f : Chan → Chan) : (s.modCh n f).dbgArr = s.dbgArr := rfl
@[simp] theorem State.modCh_testPins (n : Nat) (f : Chan → Chan) : (s.modCh n f).testPins = s.testPins := rfl
@[simp] theorem State.modCh_staged (n : Nat) (f : Chan → Chan) : (s.modCh n f).staged = s.staged := rfl
@[simp] theorem State.modCh_keyWrite (n : Nat) (f : Chan → Chan) : (s.modCh n f).keyWrite = s.keyWrite := rfl
@[simp] theorem State.modCh_cache (n : Nat) (f : Chan → Chan) : (s.modCh n f).cache = s.cache := rfl
@[simp] theorem State.modCh_ram (n : Nat) (f : Chan → Chan) : (s.modCh n f).ram = s.ram := rfl
@[simp] theorem State.modCh_remaskAt (n : Nat) (f : Chan → Chan) : (s.modCh n f).remaskAt = s.remaskAt := rfl
@[simp] theorem State.modCh_rngAt (n : Nat) (f : Chan → Chan) : (s.modCh n f).rngAt = s.rngAt := rfl
@[simp] theorem State.modCh_challenges (n : Nat) (f : Chan → Chan) : (s.modCh n f).challenges = s.challenges := rfl
@[simp] theorem State.modCh_imm (n : Nat) (f : Chan → Chan) : (s.modCh n f).imm = s.imm := rfl
@[simp] theorem State.modCh_flash (n : Nat) (f : Chan → Chan) : (s.modCh n f).flash = s.flash := rfl
@[simp] theorem State.modCh_erases (n : Nat) (f : Chan → Chan) : (s.modCh n f).erases = s.erases := rfl
@[simp] theorem State.modCh_cfgNow (n : Nat) (f : Chan → Chan) : (s.modCh n f).cfgNow = s.cfgNow := rfl
@[simp] theorem State.modCh_fwLock (n : Nat) (f : Chan → Chan) : (s.modCh n f).fwLock = s.fwLock := rfl
@[simp] theorem State.modCh_cfgLock (n : Nat) (f : Chan → Chan) : (s.modCh n f).cfgLock = s.cfgLock := rfl
@[simp] theorem State.modCh_runTicks (n : Nat) (f : Chan → Chan) : (s.modCh n f).runTicks = s.runTicks := rfl
@[simp] theorem State.modCh_uds (n : Nat) (f : Chan → Chan) : (s.modCh n f).uds = s.uds := rfl
@[simp] theorem State.modCh_axes (n : Nat) (f : Chan → Chan) : (s.modCh n f).axes = s.axes := rfl
@[simp] theorem State.modCh_timeHi (n : Nat) (f : Chan → Chan) : (s.modCh n f).timeHi = s.timeHi := rfl
@[simp] theorem State.modCh_alignCount (n : Nat) (f : Chan → Chan) : (s.modCh n f).alignCount = s.alignCount := rfl
@[simp] theorem State.modCh_alignAt (n : Nat) (f : Chan → Chan) : (s.modCh n f).alignAt = s.alignAt := rfl
@[simp] theorem State.modCh_stepDue (n : Nat) (f : Chan → Chan) : (s.modCh n f).stepDue = s.stepDue := rfl
@[simp] theorem State.modCh_rateFrac (n : Nat) (f : Chan → Chan) : (s.modCh n f).rateFrac = s.rateFrac := rfl
@[simp] theorem State.modCh_slots (n : Nat) (f : Chan → Chan) : (s.modCh n f).slots = s.slots := rfl
@[simp] theorem State.modCh_dueQ (n : Nat) (f : Chan → Chan) : (s.modCh n f).dueQ = s.dueQ := rfl
@[simp] theorem State.modCh_acts (n : Nat) (f : Chan → Chan) : (s.modCh n f).acts = s.acts := rfl
@[simp] theorem State.modCh_crossings (n : Nat) (f : Chan → Chan) : (s.modCh n f).crossings = s.crossings := rfl
@[simp] theorem State.modCh_tickAt (n : Nat) (f : Chan → Chan) : (s.modCh n f).tickAt = s.tickAt := rfl
@[simp] theorem State.modCh_fireTimes (n : Nat) (f : Chan → Chan) : (s.modCh n f).fireTimes = s.fireTimes := rfl
@[simp] theorem State.modCh_leadRuns (n : Nat) (f : Chan → Chan) : (s.modCh n f).leadRuns = s.leadRuns := rfl
@[simp] theorem State.modCh_later (n : Nat) (f : Chan → Chan) : (s.modCh n f).later = s.later := rfl

/-! ### modBr -/

@[simp] theorem State.modBr_pending (k : Nat) (f : Bridge → Bridge) : (s.modBr k f).pending = s.pending := rfl
@[simp] theorem State.modBr_now (k : Nat) (f : Bridge → Bridge) : (s.modBr k f).now = s.now := rfl
@[simp] theorem State.modBr_otp (k : Nat) (f : Bridge → Bridge) : (s.modBr k f).otp = s.otp := rfl
@[simp] theorem State.modBr_devTime (k : Nat) (f : Bridge → Bridge) : (s.modBr k f).devTime = s.devTime := rfl
@[simp] theorem State.modBr_regs (k : Nat) (f : Bridge → Bridge) : (s.modBr k f).regs = s.regs := rfl
@[simp] theorem State.modBr_freeCount (k : Nat) (f : Bridge → Bridge) : (s.modBr k f).freeCount = s.freeCount := rfl
@[simp] theorem State.modBr_nextId (k : Nat) (f : Bridge → Bridge) : (s.modBr k f).nextId = s.nextId := rfl
@[simp] theorem State.modBr_issuing (k : Nat) (f : Bridge → Bridge) : (s.modBr k f).issuing = s.issuing := rfl
@[simp] theorem State.modBr_turnHc (k : Nat) (f : Bridge → Bridge) : (s.modBr k f).turnHc = s.turnHc := rfl
@[simp] theorem State.modBr_hcs (k : Nat) (f : Bridge → Bridge) : (s.modBr k f).hcs = s.hcs := rfl
@[simp] theorem State.modBr_owners (k : Nat) (f : Bridge → Bridge) : (s.modBr k f).owners = s.owners := rfl
@[simp] theorem State.modBr_jobs (k : Nat) (f : Bridge → Bridge) : (s.modBr k f).jobs = s.jobs := rfl
@[simp] theorem State.modBr_portCells (k : Nat) (f : Bridge → Bridge) : (s.modBr k f).portCells = s.portCells := rfl
@[simp] theorem State.modBr_backlog (k : Nat) (f : Bridge → Bridge) : (s.modBr k f).backlog = s.backlog := rfl
@[simp] theorem State.modBr_lostFor (k : Nat) (f : Bridge → Bridge) : (s.modBr k f).lostFor = s.lostFor := rfl
@[simp] theorem State.modBr_sent (k : Nat) (f : Bridge → Bridge) : (s.modBr k f).sent = s.sent := rfl
@[simp] theorem State.modBr_sdo (k : Nat) (f : Bridge → Bridge) : (s.modBr k f).sdo = s.sdo := rfl
@[simp] theorem State.modBr_crce (k : Nat) (f : Bridge → Bridge) : (s.modBr k f).crce = s.crce := rfl
@[simp] theorem State.modBr_rdy (k : Nat) (f : Bridge → Bridge) : (s.modBr k f).rdy = s.rdy := rfl
@[simp] theorem State.modBr_aonIrq (k : Nat) (f : Bridge → Bridge) : (s.modBr k f).aonIrq = s.aonIrq := rfl
@[simp] theorem State.modBr_vsup (k : Nat) (f : Bridge → Bridge) : (s.modBr k f).vsup = s.vsup := rfl
@[simp] theorem State.modBr_powerLost (k : Nat) (f : Bridge → Bridge) : (s.modBr k f).powerLost = s.powerLost := rfl
@[simp] theorem State.modBr_uvMask (k : Nat) (f : Bridge → Bridge) : (s.modBr k f).uvMask = s.uvMask := rfl
@[simp] theorem State.modBr_degMask (k : Nat) (f : Bridge → Bridge) : (s.modBr k f).degMask = s.degMask := rfl
@[simp] theorem State.modBr_olFrom (k : Nat) (f : Bridge → Bridge) : (s.modBr k f).olFrom = s.olFrom := rfl
@[simp] theorem State.modBr_vioOk (k : Nat) (f : Bridge → Bridge) : (s.modBr k f).vioOk = s.vioOk := rfl
@[simp] theorem State.modBr_t0 (k : Nat) (f : Bridge → Bridge) : (s.modBr k f).t0 = s.t0 := rfl
@[simp] theorem State.modBr_sysUp (k : Nat) (f : Bridge → Bridge) : (s.modBr k f).sysUp = s.sysUp := rfl
@[simp] theorem State.modBr_serving (k : Nat) (f : Bridge → Bridge) : (s.modBr k f).serving = s.serving := rfl
@[simp] theorem State.modBr_rstLow (k : Nat) (f : Bridge → Bridge) : (s.modBr k f).rstLow = s.rstLow := rfl
@[simp] theorem State.modBr_sysStartTimes (k : Nat) (f : Bridge → Bridge) : (s.modBr k f).sysStartTimes = s.sysStartTimes := rfl
@[simp] theorem State.modBr_devResetAt (k : Nat) (f : Bridge → Bridge) : (s.modBr k f).devResetAt = s.devResetAt := rfl
@[simp] theorem State.modBr_coastAt (k : Nat) (f : Bridge → Bridge) : (s.modBr k f).coastAt = s.coastAt := rfl
@[simp] theorem State.modBr_coastTime (k : Nat) (f : Bridge → Bridge) : (s.modBr k f).coastTime = s.coastTime := rfl
@[simp] theorem State.modBr_lhLevel (k : Nat) (f : Bridge → Bridge) : (s.modBr k f).lhLevel = s.lhLevel := rfl
@[simp] theorem State.modBr_chans (k : Nat) (f : Bridge → Bridge) : (s.modBr k f).chans = s.chans := rfl
@[simp] theorem State.modBr_banks (k : Nat) (f : Bridge → Bridge) : (s.modBr k f).banks = s.banks := rfl
@[simp] theorem State.modBr_line (k : Nat) (f : Bridge → Bridge) : (s.modBr k f).line = s.line := rfl
@[simp] theorem State.modBr_grants (k : Nat) (f : Bridge → Bridge) : (s.modBr k f).grants = s.grants := rfl
@[simp] theorem State.modBr_gov (k : Nat) (f : Bridge → Bridge) : (s.modBr k f).gov = s.gov := rfl
@[simp] theorem State.modBr_govPend (k : Nat) (f : Bridge → Bridge) : (s.modBr k f).govPend = s.govPend := rfl
@[simp] theorem State.modBr_ports (k : Nat) (f : Bridge → Bridge) : (s.modBr k f).ports = s.ports := rfl
@[simp] theorem State.modBr_pairs (k : Nat) (f : Bridge → Bridge) : (s.modBr k f).pairs = s.pairs := rfl
@[simp] theorem State.modBr_pairSel (k : Nat) (f : Bridge → Bridge) : (s.modBr k f).pairSel = s.pairSel := rfl
@[simp] theorem State.modBr_flows (k : Nat) (f : Bridge → Bridge) : (s.modBr k f).flows = s.flows := rfl
@[simp] theorem State.modBr_fullTold (k : Nat) (f : Bridge → Bridge) : (s.modBr k f).fullTold = s.fullTold := rfl
@[simp] theorem State.modBr_fwd (k : Nat) (f : Bridge → Bridge) : (s.modBr k f).fwd = s.fwd := rfl
@[simp] theorem State.modBr_netPorts (k : Nat) (f : Bridge → Bridge) : (s.modBr k f).netPorts = s.netPorts := rfl
@[simp] theorem State.modBr_slowWin (k : Nat) (f : Bridge → Bridge) : (s.modBr k f).slowWin = s.slowWin := rfl
@[simp] theorem State.modBr_slowQ (k : Nat) (f : Bridge → Bridge) : (s.modBr k f).slowQ = s.slowQ := rfl
@[simp] theorem State.modBr_asGood (k : Nat) (f : Bridge → Bridge) : (s.modBr k f).asGood = s.asGood := rfl
@[simp] theorem State.modBr_asAt (k : Nat) (f : Bridge → Bridge) : (s.modBr k f).asAt = s.asAt := rfl
@[simp] theorem State.modBr_asHi (k : Nat) (f : Bridge → Bridge) : (s.modBr k f).asHi = s.asHi := rfl
@[simp] theorem State.modBr_fullAt (k : Nat) (f : Bridge → Bridge) : (s.modBr k f).fullAt = s.fullAt := rfl
@[simp] theorem State.modBr_log (k : Nat) (f : Bridge → Bridge) : (s.modBr k f).log = s.log := rfl
@[simp] theorem State.modBr_inbox (k : Nat) (f : Bridge → Bridge) : (s.modBr k f).inbox = s.inbox := rfl
@[simp] theorem State.modBr_summaryFlash (k : Nat) (f : Bridge → Bridge) : (s.modBr k f).summaryFlash = s.summaryFlash := rfl
@[simp] theorem State.modBr_summaryAt (k : Nat) (f : Bridge → Bridge) : (s.modBr k f).summaryAt = s.summaryAt := rfl
@[simp] theorem State.modBr_summaryLoaded (k : Nat) (f : Bridge → Bridge) : (s.modBr k f).summaryLoaded = s.summaryLoaded := rfl
@[simp] theorem State.modBr_fqTold (k : Nat) (f : Bridge → Bridge) : (s.modBr k f).fqTold = s.fqTold := rfl
@[simp] theorem State.modBr_fiDeb (k : Nat) (f : Bridge → Bridge) : (s.modBr k f).fiDeb = s.fiDeb := rfl
@[simp] theorem State.modBr_doms (k : Nat) (f : Bridge → Bridge) : (s.modBr k f).doms = s.doms := rfl
@[simp] theorem State.modBr_wakeTimer (k : Nat) (f : Bridge → Bridge) : (s.modBr k f).wakeTimer = s.wakeTimer := rfl
@[simp] theorem State.modBr_wkLevel (k : Nat) (f : Bridge → Bridge) : (s.modBr k f).wkLevel = s.wkLevel := rfl
@[simp] theorem State.modBr_hibAt (k : Nat) (f : Bridge → Bridge) : (s.modBr k f).hibAt = s.hibAt := rfl
@[simp] theorem State.modBr_sbPtr (k : Nat) (f : Bridge → Bridge) : (s.modBr k f).sbPtr = s.sbPtr := rfl
@[simp] theorem State.modBr_sbOut (k : Nat) (f : Bridge → Bridge) : (s.modBr k f).sbOut = s.sbOut := rfl
@[simp] theorem State.modBr_sysReturn (k : Nat) (f : Bridge → Bridge) : (s.modBr k f).sysReturn = s.sysReturn := rfl
@[simp] theorem State.modBr_sysAgain (k : Nat) (f : Bridge → Bridge) : (s.modBr k f).sysAgain = s.sysAgain := rfl
@[simp] theorem State.modBr_sbHold (k : Nat) (f : Bridge → Bridge) : (s.modBr k f).sbHold = s.sbHold := rfl
@[simp] theorem State.modBr_keyArr (k : Nat) (f : Bridge → Bridge) : (s.modBr k f).keyArr = s.keyArr := rfl
@[simp] theorem State.modBr_dbgArr (k : Nat) (f : Bridge → Bridge) : (s.modBr k f).dbgArr = s.dbgArr := rfl
@[simp] theorem State.modBr_testPins (k : Nat) (f : Bridge → Bridge) : (s.modBr k f).testPins = s.testPins := rfl
@[simp] theorem State.modBr_staged (k : Nat) (f : Bridge → Bridge) : (s.modBr k f).staged = s.staged := rfl
@[simp] theorem State.modBr_keyWrite (k : Nat) (f : Bridge → Bridge) : (s.modBr k f).keyWrite = s.keyWrite := rfl
@[simp] theorem State.modBr_cache (k : Nat) (f : Bridge → Bridge) : (s.modBr k f).cache = s.cache := rfl
@[simp] theorem State.modBr_ram (k : Nat) (f : Bridge → Bridge) : (s.modBr k f).ram = s.ram := rfl
@[simp] theorem State.modBr_remaskAt (k : Nat) (f : Bridge → Bridge) : (s.modBr k f).remaskAt = s.remaskAt := rfl
@[simp] theorem State.modBr_rngAt (k : Nat) (f : Bridge → Bridge) : (s.modBr k f).rngAt = s.rngAt := rfl
@[simp] theorem State.modBr_challenges (k : Nat) (f : Bridge → Bridge) : (s.modBr k f).challenges = s.challenges := rfl
@[simp] theorem State.modBr_imm (k : Nat) (f : Bridge → Bridge) : (s.modBr k f).imm = s.imm := rfl
@[simp] theorem State.modBr_flash (k : Nat) (f : Bridge → Bridge) : (s.modBr k f).flash = s.flash := rfl
@[simp] theorem State.modBr_erases (k : Nat) (f : Bridge → Bridge) : (s.modBr k f).erases = s.erases := rfl
@[simp] theorem State.modBr_cfgNow (k : Nat) (f : Bridge → Bridge) : (s.modBr k f).cfgNow = s.cfgNow := rfl
@[simp] theorem State.modBr_fwLock (k : Nat) (f : Bridge → Bridge) : (s.modBr k f).fwLock = s.fwLock := rfl
@[simp] theorem State.modBr_cfgLock (k : Nat) (f : Bridge → Bridge) : (s.modBr k f).cfgLock = s.cfgLock := rfl
@[simp] theorem State.modBr_runTicks (k : Nat) (f : Bridge → Bridge) : (s.modBr k f).runTicks = s.runTicks := rfl
@[simp] theorem State.modBr_uds (k : Nat) (f : Bridge → Bridge) : (s.modBr k f).uds = s.uds := rfl
@[simp] theorem State.modBr_axes (k : Nat) (f : Bridge → Bridge) : (s.modBr k f).axes = s.axes := rfl
@[simp] theorem State.modBr_timeHi (k : Nat) (f : Bridge → Bridge) : (s.modBr k f).timeHi = s.timeHi := rfl
@[simp] theorem State.modBr_alignCount (k : Nat) (f : Bridge → Bridge) : (s.modBr k f).alignCount = s.alignCount := rfl
@[simp] theorem State.modBr_alignAt (k : Nat) (f : Bridge → Bridge) : (s.modBr k f).alignAt = s.alignAt := rfl
@[simp] theorem State.modBr_stepDue (k : Nat) (f : Bridge → Bridge) : (s.modBr k f).stepDue = s.stepDue := rfl
@[simp] theorem State.modBr_rateFrac (k : Nat) (f : Bridge → Bridge) : (s.modBr k f).rateFrac = s.rateFrac := rfl
@[simp] theorem State.modBr_slots (k : Nat) (f : Bridge → Bridge) : (s.modBr k f).slots = s.slots := rfl
@[simp] theorem State.modBr_dueQ (k : Nat) (f : Bridge → Bridge) : (s.modBr k f).dueQ = s.dueQ := rfl
@[simp] theorem State.modBr_acts (k : Nat) (f : Bridge → Bridge) : (s.modBr k f).acts = s.acts := rfl
@[simp] theorem State.modBr_crossings (k : Nat) (f : Bridge → Bridge) : (s.modBr k f).crossings = s.crossings := rfl
@[simp] theorem State.modBr_tickAt (k : Nat) (f : Bridge → Bridge) : (s.modBr k f).tickAt = s.tickAt := rfl
@[simp] theorem State.modBr_fireTimes (k : Nat) (f : Bridge → Bridge) : (s.modBr k f).fireTimes = s.fireTimes := rfl
@[simp] theorem State.modBr_leadRuns (k : Nat) (f : Bridge → Bridge) : (s.modBr k f).leadRuns = s.leadRuns := rfl
@[simp] theorem State.modBr_later (k : Nat) (f : Bridge → Bridge) : (s.modBr k f).later = s.later := rfl

/-! ### modBank -/

@[simp] theorem State.modBank_pending (b : Nat) (f : Bank → Bank) : (s.modBank b f).pending = s.pending := rfl
@[simp] theorem State.modBank_now (b : Nat) (f : Bank → Bank) : (s.modBank b f).now = s.now := rfl
@[simp] theorem State.modBank_otp (b : Nat) (f : Bank → Bank) : (s.modBank b f).otp = s.otp := rfl
@[simp] theorem State.modBank_devTime (b : Nat) (f : Bank → Bank) : (s.modBank b f).devTime = s.devTime := rfl
@[simp] theorem State.modBank_regs (b : Nat) (f : Bank → Bank) : (s.modBank b f).regs = s.regs := rfl
@[simp] theorem State.modBank_freeCount (b : Nat) (f : Bank → Bank) : (s.modBank b f).freeCount = s.freeCount := rfl
@[simp] theorem State.modBank_nextId (b : Nat) (f : Bank → Bank) : (s.modBank b f).nextId = s.nextId := rfl
@[simp] theorem State.modBank_issuing (b : Nat) (f : Bank → Bank) : (s.modBank b f).issuing = s.issuing := rfl
@[simp] theorem State.modBank_turnHc (b : Nat) (f : Bank → Bank) : (s.modBank b f).turnHc = s.turnHc := rfl
@[simp] theorem State.modBank_hcs (b : Nat) (f : Bank → Bank) : (s.modBank b f).hcs = s.hcs := rfl
@[simp] theorem State.modBank_owners (b : Nat) (f : Bank → Bank) : (s.modBank b f).owners = s.owners := rfl
@[simp] theorem State.modBank_jobs (b : Nat) (f : Bank → Bank) : (s.modBank b f).jobs = s.jobs := rfl
@[simp] theorem State.modBank_portCells (b : Nat) (f : Bank → Bank) : (s.modBank b f).portCells = s.portCells := rfl
@[simp] theorem State.modBank_backlog (b : Nat) (f : Bank → Bank) : (s.modBank b f).backlog = s.backlog := rfl
@[simp] theorem State.modBank_lostFor (b : Nat) (f : Bank → Bank) : (s.modBank b f).lostFor = s.lostFor := rfl
@[simp] theorem State.modBank_sent (b : Nat) (f : Bank → Bank) : (s.modBank b f).sent = s.sent := rfl
@[simp] theorem State.modBank_sdo (b : Nat) (f : Bank → Bank) : (s.modBank b f).sdo = s.sdo := rfl
@[simp] theorem State.modBank_crce (b : Nat) (f : Bank → Bank) : (s.modBank b f).crce = s.crce := rfl
@[simp] theorem State.modBank_rdy (b : Nat) (f : Bank → Bank) : (s.modBank b f).rdy = s.rdy := rfl
@[simp] theorem State.modBank_aonIrq (b : Nat) (f : Bank → Bank) : (s.modBank b f).aonIrq = s.aonIrq := rfl
@[simp] theorem State.modBank_vsup (b : Nat) (f : Bank → Bank) : (s.modBank b f).vsup = s.vsup := rfl
@[simp] theorem State.modBank_powerLost (b : Nat) (f : Bank → Bank) : (s.modBank b f).powerLost = s.powerLost := rfl
@[simp] theorem State.modBank_uvMask (b : Nat) (f : Bank → Bank) : (s.modBank b f).uvMask = s.uvMask := rfl
@[simp] theorem State.modBank_degMask (b : Nat) (f : Bank → Bank) : (s.modBank b f).degMask = s.degMask := rfl
@[simp] theorem State.modBank_olFrom (b : Nat) (f : Bank → Bank) : (s.modBank b f).olFrom = s.olFrom := rfl
@[simp] theorem State.modBank_vioOk (b : Nat) (f : Bank → Bank) : (s.modBank b f).vioOk = s.vioOk := rfl
@[simp] theorem State.modBank_t0 (b : Nat) (f : Bank → Bank) : (s.modBank b f).t0 = s.t0 := rfl
@[simp] theorem State.modBank_sysUp (b : Nat) (f : Bank → Bank) : (s.modBank b f).sysUp = s.sysUp := rfl
@[simp] theorem State.modBank_serving (b : Nat) (f : Bank → Bank) : (s.modBank b f).serving = s.serving := rfl
@[simp] theorem State.modBank_rstLow (b : Nat) (f : Bank → Bank) : (s.modBank b f).rstLow = s.rstLow := rfl
@[simp] theorem State.modBank_sysStartTimes (b : Nat) (f : Bank → Bank) : (s.modBank b f).sysStartTimes = s.sysStartTimes := rfl
@[simp] theorem State.modBank_devResetAt (b : Nat) (f : Bank → Bank) : (s.modBank b f).devResetAt = s.devResetAt := rfl
@[simp] theorem State.modBank_coastAt (b : Nat) (f : Bank → Bank) : (s.modBank b f).coastAt = s.coastAt := rfl
@[simp] theorem State.modBank_coastTime (b : Nat) (f : Bank → Bank) : (s.modBank b f).coastTime = s.coastTime := rfl
@[simp] theorem State.modBank_lhLevel (b : Nat) (f : Bank → Bank) : (s.modBank b f).lhLevel = s.lhLevel := rfl
@[simp] theorem State.modBank_chans (b : Nat) (f : Bank → Bank) : (s.modBank b f).chans = s.chans := rfl
@[simp] theorem State.modBank_bridges (b : Nat) (f : Bank → Bank) : (s.modBank b f).bridges = s.bridges := rfl
@[simp] theorem State.modBank_line (b : Nat) (f : Bank → Bank) : (s.modBank b f).line = s.line := rfl
@[simp] theorem State.modBank_grants (b : Nat) (f : Bank → Bank) : (s.modBank b f).grants = s.grants := rfl
@[simp] theorem State.modBank_gov (b : Nat) (f : Bank → Bank) : (s.modBank b f).gov = s.gov := rfl
@[simp] theorem State.modBank_govPend (b : Nat) (f : Bank → Bank) : (s.modBank b f).govPend = s.govPend := rfl
@[simp] theorem State.modBank_ports (b : Nat) (f : Bank → Bank) : (s.modBank b f).ports = s.ports := rfl
@[simp] theorem State.modBank_pairs (b : Nat) (f : Bank → Bank) : (s.modBank b f).pairs = s.pairs := rfl
@[simp] theorem State.modBank_pairSel (b : Nat) (f : Bank → Bank) : (s.modBank b f).pairSel = s.pairSel := rfl
@[simp] theorem State.modBank_flows (b : Nat) (f : Bank → Bank) : (s.modBank b f).flows = s.flows := rfl
@[simp] theorem State.modBank_fullTold (b : Nat) (f : Bank → Bank) : (s.modBank b f).fullTold = s.fullTold := rfl
@[simp] theorem State.modBank_fwd (b : Nat) (f : Bank → Bank) : (s.modBank b f).fwd = s.fwd := rfl
@[simp] theorem State.modBank_netPorts (b : Nat) (f : Bank → Bank) : (s.modBank b f).netPorts = s.netPorts := rfl
@[simp] theorem State.modBank_slowWin (b : Nat) (f : Bank → Bank) : (s.modBank b f).slowWin = s.slowWin := rfl
@[simp] theorem State.modBank_slowQ (b : Nat) (f : Bank → Bank) : (s.modBank b f).slowQ = s.slowQ := rfl
@[simp] theorem State.modBank_asGood (b : Nat) (f : Bank → Bank) : (s.modBank b f).asGood = s.asGood := rfl
@[simp] theorem State.modBank_asAt (b : Nat) (f : Bank → Bank) : (s.modBank b f).asAt = s.asAt := rfl
@[simp] theorem State.modBank_asHi (b : Nat) (f : Bank → Bank) : (s.modBank b f).asHi = s.asHi := rfl
@[simp] theorem State.modBank_fullAt (b : Nat) (f : Bank → Bank) : (s.modBank b f).fullAt = s.fullAt := rfl
@[simp] theorem State.modBank_log (b : Nat) (f : Bank → Bank) : (s.modBank b f).log = s.log := rfl
@[simp] theorem State.modBank_inbox (b : Nat) (f : Bank → Bank) : (s.modBank b f).inbox = s.inbox := rfl
@[simp] theorem State.modBank_summaryFlash (b : Nat) (f : Bank → Bank) : (s.modBank b f).summaryFlash = s.summaryFlash := rfl
@[simp] theorem State.modBank_summaryAt (b : Nat) (f : Bank → Bank) : (s.modBank b f).summaryAt = s.summaryAt := rfl
@[simp] theorem State.modBank_summaryLoaded (b : Nat) (f : Bank → Bank) : (s.modBank b f).summaryLoaded = s.summaryLoaded := rfl
@[simp] theorem State.modBank_fqTold (b : Nat) (f : Bank → Bank) : (s.modBank b f).fqTold = s.fqTold := rfl
@[simp] theorem State.modBank_fiDeb (b : Nat) (f : Bank → Bank) : (s.modBank b f).fiDeb = s.fiDeb := rfl
@[simp] theorem State.modBank_doms (b : Nat) (f : Bank → Bank) : (s.modBank b f).doms = s.doms := rfl
@[simp] theorem State.modBank_wakeTimer (b : Nat) (f : Bank → Bank) : (s.modBank b f).wakeTimer = s.wakeTimer := rfl
@[simp] theorem State.modBank_wkLevel (b : Nat) (f : Bank → Bank) : (s.modBank b f).wkLevel = s.wkLevel := rfl
@[simp] theorem State.modBank_hibAt (b : Nat) (f : Bank → Bank) : (s.modBank b f).hibAt = s.hibAt := rfl
@[simp] theorem State.modBank_sbPtr (b : Nat) (f : Bank → Bank) : (s.modBank b f).sbPtr = s.sbPtr := rfl
@[simp] theorem State.modBank_sbOut (b : Nat) (f : Bank → Bank) : (s.modBank b f).sbOut = s.sbOut := rfl
@[simp] theorem State.modBank_sysReturn (b : Nat) (f : Bank → Bank) : (s.modBank b f).sysReturn = s.sysReturn := rfl
@[simp] theorem State.modBank_sysAgain (b : Nat) (f : Bank → Bank) : (s.modBank b f).sysAgain = s.sysAgain := rfl
@[simp] theorem State.modBank_sbHold (b : Nat) (f : Bank → Bank) : (s.modBank b f).sbHold = s.sbHold := rfl
@[simp] theorem State.modBank_keyArr (b : Nat) (f : Bank → Bank) : (s.modBank b f).keyArr = s.keyArr := rfl
@[simp] theorem State.modBank_dbgArr (b : Nat) (f : Bank → Bank) : (s.modBank b f).dbgArr = s.dbgArr := rfl
@[simp] theorem State.modBank_testPins (b : Nat) (f : Bank → Bank) : (s.modBank b f).testPins = s.testPins := rfl
@[simp] theorem State.modBank_staged (b : Nat) (f : Bank → Bank) : (s.modBank b f).staged = s.staged := rfl
@[simp] theorem State.modBank_keyWrite (b : Nat) (f : Bank → Bank) : (s.modBank b f).keyWrite = s.keyWrite := rfl
@[simp] theorem State.modBank_cache (b : Nat) (f : Bank → Bank) : (s.modBank b f).cache = s.cache := rfl
@[simp] theorem State.modBank_ram (b : Nat) (f : Bank → Bank) : (s.modBank b f).ram = s.ram := rfl
@[simp] theorem State.modBank_remaskAt (b : Nat) (f : Bank → Bank) : (s.modBank b f).remaskAt = s.remaskAt := rfl
@[simp] theorem State.modBank_rngAt (b : Nat) (f : Bank → Bank) : (s.modBank b f).rngAt = s.rngAt := rfl
@[simp] theorem State.modBank_challenges (b : Nat) (f : Bank → Bank) : (s.modBank b f).challenges = s.challenges := rfl
@[simp] theorem State.modBank_imm (b : Nat) (f : Bank → Bank) : (s.modBank b f).imm = s.imm := rfl
@[simp] theorem State.modBank_flash (b : Nat) (f : Bank → Bank) : (s.modBank b f).flash = s.flash := rfl
@[simp] theorem State.modBank_erases (b : Nat) (f : Bank → Bank) : (s.modBank b f).erases = s.erases := rfl
@[simp] theorem State.modBank_cfgNow (b : Nat) (f : Bank → Bank) : (s.modBank b f).cfgNow = s.cfgNow := rfl
@[simp] theorem State.modBank_fwLock (b : Nat) (f : Bank → Bank) : (s.modBank b f).fwLock = s.fwLock := rfl
@[simp] theorem State.modBank_cfgLock (b : Nat) (f : Bank → Bank) : (s.modBank b f).cfgLock = s.cfgLock := rfl
@[simp] theorem State.modBank_runTicks (b : Nat) (f : Bank → Bank) : (s.modBank b f).runTicks = s.runTicks := rfl
@[simp] theorem State.modBank_uds (b : Nat) (f : Bank → Bank) : (s.modBank b f).uds = s.uds := rfl
@[simp] theorem State.modBank_axes (b : Nat) (f : Bank → Bank) : (s.modBank b f).axes = s.axes := rfl
@[simp] theorem State.modBank_timeHi (b : Nat) (f : Bank → Bank) : (s.modBank b f).timeHi = s.timeHi := rfl
@[simp] theorem State.modBank_alignCount (b : Nat) (f : Bank → Bank) : (s.modBank b f).alignCount = s.alignCount := rfl
@[simp] theorem State.modBank_alignAt (b : Nat) (f : Bank → Bank) : (s.modBank b f).alignAt = s.alignAt := rfl
@[simp] theorem State.modBank_stepDue (b : Nat) (f : Bank → Bank) : (s.modBank b f).stepDue = s.stepDue := rfl
@[simp] theorem State.modBank_rateFrac (b : Nat) (f : Bank → Bank) : (s.modBank b f).rateFrac = s.rateFrac := rfl
@[simp] theorem State.modBank_slots (b : Nat) (f : Bank → Bank) : (s.modBank b f).slots = s.slots := rfl
@[simp] theorem State.modBank_dueQ (b : Nat) (f : Bank → Bank) : (s.modBank b f).dueQ = s.dueQ := rfl
@[simp] theorem State.modBank_acts (b : Nat) (f : Bank → Bank) : (s.modBank b f).acts = s.acts := rfl
@[simp] theorem State.modBank_crossings (b : Nat) (f : Bank → Bank) : (s.modBank b f).crossings = s.crossings := rfl
@[simp] theorem State.modBank_tickAt (b : Nat) (f : Bank → Bank) : (s.modBank b f).tickAt = s.tickAt := rfl
@[simp] theorem State.modBank_fireTimes (b : Nat) (f : Bank → Bank) : (s.modBank b f).fireTimes = s.fireTimes := rfl
@[simp] theorem State.modBank_leadRuns (b : Nat) (f : Bank → Bank) : (s.modBank b f).leadRuns = s.leadRuns := rfl
@[simp] theorem State.modBank_later (b : Nat) (f : Bank → Bank) : (s.modBank b f).later = s.later := rfl

/-! ### modGrp -/

@[simp] theorem State.modGrp_pending (g : Nat) (f : GovGroup → GovGroup) : (s.modGrp g f).pending = s.pending := rfl
@[simp] theorem State.modGrp_now (g : Nat) (f : GovGroup → GovGroup) : (s.modGrp g f).now = s.now := rfl
@[simp] theorem State.modGrp_otp (g : Nat) (f : GovGroup → GovGroup) : (s.modGrp g f).otp = s.otp := rfl
@[simp] theorem State.modGrp_devTime (g : Nat) (f : GovGroup → GovGroup) : (s.modGrp g f).devTime = s.devTime := rfl
@[simp] theorem State.modGrp_regs (g : Nat) (f : GovGroup → GovGroup) : (s.modGrp g f).regs = s.regs := rfl
@[simp] theorem State.modGrp_freeCount (g : Nat) (f : GovGroup → GovGroup) : (s.modGrp g f).freeCount = s.freeCount := rfl
@[simp] theorem State.modGrp_nextId (g : Nat) (f : GovGroup → GovGroup) : (s.modGrp g f).nextId = s.nextId := rfl
@[simp] theorem State.modGrp_issuing (g : Nat) (f : GovGroup → GovGroup) : (s.modGrp g f).issuing = s.issuing := rfl
@[simp] theorem State.modGrp_turnHc (g : Nat) (f : GovGroup → GovGroup) : (s.modGrp g f).turnHc = s.turnHc := rfl
@[simp] theorem State.modGrp_hcs (g : Nat) (f : GovGroup → GovGroup) : (s.modGrp g f).hcs = s.hcs := rfl
@[simp] theorem State.modGrp_owners (g : Nat) (f : GovGroup → GovGroup) : (s.modGrp g f).owners = s.owners := rfl
@[simp] theorem State.modGrp_jobs (g : Nat) (f : GovGroup → GovGroup) : (s.modGrp g f).jobs = s.jobs := rfl
@[simp] theorem State.modGrp_portCells (g : Nat) (f : GovGroup → GovGroup) : (s.modGrp g f).portCells = s.portCells := rfl
@[simp] theorem State.modGrp_backlog (g : Nat) (f : GovGroup → GovGroup) : (s.modGrp g f).backlog = s.backlog := rfl
@[simp] theorem State.modGrp_lostFor (g : Nat) (f : GovGroup → GovGroup) : (s.modGrp g f).lostFor = s.lostFor := rfl
@[simp] theorem State.modGrp_sent (g : Nat) (f : GovGroup → GovGroup) : (s.modGrp g f).sent = s.sent := rfl
@[simp] theorem State.modGrp_sdo (g : Nat) (f : GovGroup → GovGroup) : (s.modGrp g f).sdo = s.sdo := rfl
@[simp] theorem State.modGrp_crce (g : Nat) (f : GovGroup → GovGroup) : (s.modGrp g f).crce = s.crce := rfl
@[simp] theorem State.modGrp_rdy (g : Nat) (f : GovGroup → GovGroup) : (s.modGrp g f).rdy = s.rdy := rfl
@[simp] theorem State.modGrp_aonIrq (g : Nat) (f : GovGroup → GovGroup) : (s.modGrp g f).aonIrq = s.aonIrq := rfl
@[simp] theorem State.modGrp_vsup (g : Nat) (f : GovGroup → GovGroup) : (s.modGrp g f).vsup = s.vsup := rfl
@[simp] theorem State.modGrp_powerLost (g : Nat) (f : GovGroup → GovGroup) : (s.modGrp g f).powerLost = s.powerLost := rfl
@[simp] theorem State.modGrp_uvMask (g : Nat) (f : GovGroup → GovGroup) : (s.modGrp g f).uvMask = s.uvMask := rfl
@[simp] theorem State.modGrp_degMask (g : Nat) (f : GovGroup → GovGroup) : (s.modGrp g f).degMask = s.degMask := rfl
@[simp] theorem State.modGrp_olFrom (g : Nat) (f : GovGroup → GovGroup) : (s.modGrp g f).olFrom = s.olFrom := rfl
@[simp] theorem State.modGrp_vioOk (g : Nat) (f : GovGroup → GovGroup) : (s.modGrp g f).vioOk = s.vioOk := rfl
@[simp] theorem State.modGrp_t0 (g : Nat) (f : GovGroup → GovGroup) : (s.modGrp g f).t0 = s.t0 := rfl
@[simp] theorem State.modGrp_sysUp (g : Nat) (f : GovGroup → GovGroup) : (s.modGrp g f).sysUp = s.sysUp := rfl
@[simp] theorem State.modGrp_serving (g : Nat) (f : GovGroup → GovGroup) : (s.modGrp g f).serving = s.serving := rfl
@[simp] theorem State.modGrp_rstLow (g : Nat) (f : GovGroup → GovGroup) : (s.modGrp g f).rstLow = s.rstLow := rfl
@[simp] theorem State.modGrp_sysStartTimes (g : Nat) (f : GovGroup → GovGroup) : (s.modGrp g f).sysStartTimes = s.sysStartTimes := rfl
@[simp] theorem State.modGrp_devResetAt (g : Nat) (f : GovGroup → GovGroup) : (s.modGrp g f).devResetAt = s.devResetAt := rfl
@[simp] theorem State.modGrp_coastAt (g : Nat) (f : GovGroup → GovGroup) : (s.modGrp g f).coastAt = s.coastAt := rfl
@[simp] theorem State.modGrp_coastTime (g : Nat) (f : GovGroup → GovGroup) : (s.modGrp g f).coastTime = s.coastTime := rfl
@[simp] theorem State.modGrp_lhLevel (g : Nat) (f : GovGroup → GovGroup) : (s.modGrp g f).lhLevel = s.lhLevel := rfl
@[simp] theorem State.modGrp_chans (g : Nat) (f : GovGroup → GovGroup) : (s.modGrp g f).chans = s.chans := rfl
@[simp] theorem State.modGrp_bridges (g : Nat) (f : GovGroup → GovGroup) : (s.modGrp g f).bridges = s.bridges := rfl
@[simp] theorem State.modGrp_banks (g : Nat) (f : GovGroup → GovGroup) : (s.modGrp g f).banks = s.banks := rfl
@[simp] theorem State.modGrp_line (g : Nat) (f : GovGroup → GovGroup) : (s.modGrp g f).line = s.line := rfl
@[simp] theorem State.modGrp_grants (g : Nat) (f : GovGroup → GovGroup) : (s.modGrp g f).grants = s.grants := rfl
@[simp] theorem State.modGrp_govPend (g : Nat) (f : GovGroup → GovGroup) : (s.modGrp g f).govPend = s.govPend := rfl
@[simp] theorem State.modGrp_ports (g : Nat) (f : GovGroup → GovGroup) : (s.modGrp g f).ports = s.ports := rfl
@[simp] theorem State.modGrp_pairs (g : Nat) (f : GovGroup → GovGroup) : (s.modGrp g f).pairs = s.pairs := rfl
@[simp] theorem State.modGrp_pairSel (g : Nat) (f : GovGroup → GovGroup) : (s.modGrp g f).pairSel = s.pairSel := rfl
@[simp] theorem State.modGrp_flows (g : Nat) (f : GovGroup → GovGroup) : (s.modGrp g f).flows = s.flows := rfl
@[simp] theorem State.modGrp_fullTold (g : Nat) (f : GovGroup → GovGroup) : (s.modGrp g f).fullTold = s.fullTold := rfl
@[simp] theorem State.modGrp_fwd (g : Nat) (f : GovGroup → GovGroup) : (s.modGrp g f).fwd = s.fwd := rfl
@[simp] theorem State.modGrp_netPorts (g : Nat) (f : GovGroup → GovGroup) : (s.modGrp g f).netPorts = s.netPorts := rfl
@[simp] theorem State.modGrp_slowWin (g : Nat) (f : GovGroup → GovGroup) : (s.modGrp g f).slowWin = s.slowWin := rfl
@[simp] theorem State.modGrp_slowQ (g : Nat) (f : GovGroup → GovGroup) : (s.modGrp g f).slowQ = s.slowQ := rfl
@[simp] theorem State.modGrp_asGood (g : Nat) (f : GovGroup → GovGroup) : (s.modGrp g f).asGood = s.asGood := rfl
@[simp] theorem State.modGrp_asAt (g : Nat) (f : GovGroup → GovGroup) : (s.modGrp g f).asAt = s.asAt := rfl
@[simp] theorem State.modGrp_asHi (g : Nat) (f : GovGroup → GovGroup) : (s.modGrp g f).asHi = s.asHi := rfl
@[simp] theorem State.modGrp_fullAt (g : Nat) (f : GovGroup → GovGroup) : (s.modGrp g f).fullAt = s.fullAt := rfl
@[simp] theorem State.modGrp_log (g : Nat) (f : GovGroup → GovGroup) : (s.modGrp g f).log = s.log := rfl
@[simp] theorem State.modGrp_inbox (g : Nat) (f : GovGroup → GovGroup) : (s.modGrp g f).inbox = s.inbox := rfl
@[simp] theorem State.modGrp_summaryFlash (g : Nat) (f : GovGroup → GovGroup) : (s.modGrp g f).summaryFlash = s.summaryFlash := rfl
@[simp] theorem State.modGrp_summaryAt (g : Nat) (f : GovGroup → GovGroup) : (s.modGrp g f).summaryAt = s.summaryAt := rfl
@[simp] theorem State.modGrp_summaryLoaded (g : Nat) (f : GovGroup → GovGroup) : (s.modGrp g f).summaryLoaded = s.summaryLoaded := rfl
@[simp] theorem State.modGrp_fqTold (g : Nat) (f : GovGroup → GovGroup) : (s.modGrp g f).fqTold = s.fqTold := rfl
@[simp] theorem State.modGrp_fiDeb (g : Nat) (f : GovGroup → GovGroup) : (s.modGrp g f).fiDeb = s.fiDeb := rfl
@[simp] theorem State.modGrp_doms (g : Nat) (f : GovGroup → GovGroup) : (s.modGrp g f).doms = s.doms := rfl
@[simp] theorem State.modGrp_wakeTimer (g : Nat) (f : GovGroup → GovGroup) : (s.modGrp g f).wakeTimer = s.wakeTimer := rfl
@[simp] theorem State.modGrp_wkLevel (g : Nat) (f : GovGroup → GovGroup) : (s.modGrp g f).wkLevel = s.wkLevel := rfl
@[simp] theorem State.modGrp_hibAt (g : Nat) (f : GovGroup → GovGroup) : (s.modGrp g f).hibAt = s.hibAt := rfl
@[simp] theorem State.modGrp_sbPtr (g : Nat) (f : GovGroup → GovGroup) : (s.modGrp g f).sbPtr = s.sbPtr := rfl
@[simp] theorem State.modGrp_sbOut (g : Nat) (f : GovGroup → GovGroup) : (s.modGrp g f).sbOut = s.sbOut := rfl
@[simp] theorem State.modGrp_sysReturn (g : Nat) (f : GovGroup → GovGroup) : (s.modGrp g f).sysReturn = s.sysReturn := rfl
@[simp] theorem State.modGrp_sysAgain (g : Nat) (f : GovGroup → GovGroup) : (s.modGrp g f).sysAgain = s.sysAgain := rfl
@[simp] theorem State.modGrp_sbHold (g : Nat) (f : GovGroup → GovGroup) : (s.modGrp g f).sbHold = s.sbHold := rfl
@[simp] theorem State.modGrp_keyArr (g : Nat) (f : GovGroup → GovGroup) : (s.modGrp g f).keyArr = s.keyArr := rfl
@[simp] theorem State.modGrp_dbgArr (g : Nat) (f : GovGroup → GovGroup) : (s.modGrp g f).dbgArr = s.dbgArr := rfl
@[simp] theorem State.modGrp_testPins (g : Nat) (f : GovGroup → GovGroup) : (s.modGrp g f).testPins = s.testPins := rfl
@[simp] theorem State.modGrp_staged (g : Nat) (f : GovGroup → GovGroup) : (s.modGrp g f).staged = s.staged := rfl
@[simp] theorem State.modGrp_keyWrite (g : Nat) (f : GovGroup → GovGroup) : (s.modGrp g f).keyWrite = s.keyWrite := rfl
@[simp] theorem State.modGrp_cache (g : Nat) (f : GovGroup → GovGroup) : (s.modGrp g f).cache = s.cache := rfl
@[simp] theorem State.modGrp_ram (g : Nat) (f : GovGroup → GovGroup) : (s.modGrp g f).ram = s.ram := rfl
@[simp] theorem State.modGrp_remaskAt (g : Nat) (f : GovGroup → GovGroup) : (s.modGrp g f).remaskAt = s.remaskAt := rfl
@[simp] theorem State.modGrp_rngAt (g : Nat) (f : GovGroup → GovGroup) : (s.modGrp g f).rngAt = s.rngAt := rfl
@[simp] theorem State.modGrp_challenges (g : Nat) (f : GovGroup → GovGroup) : (s.modGrp g f).challenges = s.challenges := rfl
@[simp] theorem State.modGrp_imm (g : Nat) (f : GovGroup → GovGroup) : (s.modGrp g f).imm = s.imm := rfl
@[simp] theorem State.modGrp_flash (g : Nat) (f : GovGroup → GovGroup) : (s.modGrp g f).flash = s.flash := rfl
@[simp] theorem State.modGrp_erases (g : Nat) (f : GovGroup → GovGroup) : (s.modGrp g f).erases = s.erases := rfl
@[simp] theorem State.modGrp_cfgNow (g : Nat) (f : GovGroup → GovGroup) : (s.modGrp g f).cfgNow = s.cfgNow := rfl
@[simp] theorem State.modGrp_fwLock (g : Nat) (f : GovGroup → GovGroup) : (s.modGrp g f).fwLock = s.fwLock := rfl
@[simp] theorem State.modGrp_cfgLock (g : Nat) (f : GovGroup → GovGroup) : (s.modGrp g f).cfgLock = s.cfgLock := rfl
@[simp] theorem State.modGrp_runTicks (g : Nat) (f : GovGroup → GovGroup) : (s.modGrp g f).runTicks = s.runTicks := rfl
@[simp] theorem State.modGrp_uds (g : Nat) (f : GovGroup → GovGroup) : (s.modGrp g f).uds = s.uds := rfl
@[simp] theorem State.modGrp_axes (g : Nat) (f : GovGroup → GovGroup) : (s.modGrp g f).axes = s.axes := rfl
@[simp] theorem State.modGrp_timeHi (g : Nat) (f : GovGroup → GovGroup) : (s.modGrp g f).timeHi = s.timeHi := rfl
@[simp] theorem State.modGrp_alignCount (g : Nat) (f : GovGroup → GovGroup) : (s.modGrp g f).alignCount = s.alignCount := rfl
@[simp] theorem State.modGrp_alignAt (g : Nat) (f : GovGroup → GovGroup) : (s.modGrp g f).alignAt = s.alignAt := rfl
@[simp] theorem State.modGrp_stepDue (g : Nat) (f : GovGroup → GovGroup) : (s.modGrp g f).stepDue = s.stepDue := rfl
@[simp] theorem State.modGrp_rateFrac (g : Nat) (f : GovGroup → GovGroup) : (s.modGrp g f).rateFrac = s.rateFrac := rfl
@[simp] theorem State.modGrp_slots (g : Nat) (f : GovGroup → GovGroup) : (s.modGrp g f).slots = s.slots := rfl
@[simp] theorem State.modGrp_dueQ (g : Nat) (f : GovGroup → GovGroup) : (s.modGrp g f).dueQ = s.dueQ := rfl
@[simp] theorem State.modGrp_acts (g : Nat) (f : GovGroup → GovGroup) : (s.modGrp g f).acts = s.acts := rfl
@[simp] theorem State.modGrp_crossings (g : Nat) (f : GovGroup → GovGroup) : (s.modGrp g f).crossings = s.crossings := rfl
@[simp] theorem State.modGrp_tickAt (g : Nat) (f : GovGroup → GovGroup) : (s.modGrp g f).tickAt = s.tickAt := rfl
@[simp] theorem State.modGrp_fireTimes (g : Nat) (f : GovGroup → GovGroup) : (s.modGrp g f).fireTimes = s.fireTimes := rfl
@[simp] theorem State.modGrp_leadRuns (g : Nat) (f : GovGroup → GovGroup) : (s.modGrp g f).leadRuns = s.leadRuns := rfl
@[simp] theorem State.modGrp_later (g : Nat) (f : GovGroup → GovGroup) : (s.modGrp g f).later = s.later := rfl

/-! ### modPort -/

@[simp] theorem State.modPort_pending (n : Nat) (f : CanPort → CanPort) : (s.modPort n f).pending = s.pending := rfl
@[simp] theorem State.modPort_now (n : Nat) (f : CanPort → CanPort) : (s.modPort n f).now = s.now := rfl
@[simp] theorem State.modPort_otp (n : Nat) (f : CanPort → CanPort) : (s.modPort n f).otp = s.otp := rfl
@[simp] theorem State.modPort_devTime (n : Nat) (f : CanPort → CanPort) : (s.modPort n f).devTime = s.devTime := rfl
@[simp] theorem State.modPort_regs (n : Nat) (f : CanPort → CanPort) : (s.modPort n f).regs = s.regs := rfl
@[simp] theorem State.modPort_freeCount (n : Nat) (f : CanPort → CanPort) : (s.modPort n f).freeCount = s.freeCount := rfl
@[simp] theorem State.modPort_nextId (n : Nat) (f : CanPort → CanPort) : (s.modPort n f).nextId = s.nextId := rfl
@[simp] theorem State.modPort_issuing (n : Nat) (f : CanPort → CanPort) : (s.modPort n f).issuing = s.issuing := rfl
@[simp] theorem State.modPort_turnHc (n : Nat) (f : CanPort → CanPort) : (s.modPort n f).turnHc = s.turnHc := rfl
@[simp] theorem State.modPort_hcs (n : Nat) (f : CanPort → CanPort) : (s.modPort n f).hcs = s.hcs := rfl
@[simp] theorem State.modPort_owners (n : Nat) (f : CanPort → CanPort) : (s.modPort n f).owners = s.owners := rfl
@[simp] theorem State.modPort_jobs (n : Nat) (f : CanPort → CanPort) : (s.modPort n f).jobs = s.jobs := rfl
@[simp] theorem State.modPort_portCells (n : Nat) (f : CanPort → CanPort) : (s.modPort n f).portCells = s.portCells := rfl
@[simp] theorem State.modPort_backlog (n : Nat) (f : CanPort → CanPort) : (s.modPort n f).backlog = s.backlog := rfl
@[simp] theorem State.modPort_lostFor (n : Nat) (f : CanPort → CanPort) : (s.modPort n f).lostFor = s.lostFor := rfl
@[simp] theorem State.modPort_sent (n : Nat) (f : CanPort → CanPort) : (s.modPort n f).sent = s.sent := rfl
@[simp] theorem State.modPort_sdo (n : Nat) (f : CanPort → CanPort) : (s.modPort n f).sdo = s.sdo := rfl
@[simp] theorem State.modPort_crce (n : Nat) (f : CanPort → CanPort) : (s.modPort n f).crce = s.crce := rfl
@[simp] theorem State.modPort_rdy (n : Nat) (f : CanPort → CanPort) : (s.modPort n f).rdy = s.rdy := rfl
@[simp] theorem State.modPort_aonIrq (n : Nat) (f : CanPort → CanPort) : (s.modPort n f).aonIrq = s.aonIrq := rfl
@[simp] theorem State.modPort_vsup (n : Nat) (f : CanPort → CanPort) : (s.modPort n f).vsup = s.vsup := rfl
@[simp] theorem State.modPort_powerLost (n : Nat) (f : CanPort → CanPort) : (s.modPort n f).powerLost = s.powerLost := rfl
@[simp] theorem State.modPort_uvMask (n : Nat) (f : CanPort → CanPort) : (s.modPort n f).uvMask = s.uvMask := rfl
@[simp] theorem State.modPort_degMask (n : Nat) (f : CanPort → CanPort) : (s.modPort n f).degMask = s.degMask := rfl
@[simp] theorem State.modPort_olFrom (n : Nat) (f : CanPort → CanPort) : (s.modPort n f).olFrom = s.olFrom := rfl
@[simp] theorem State.modPort_vioOk (n : Nat) (f : CanPort → CanPort) : (s.modPort n f).vioOk = s.vioOk := rfl
@[simp] theorem State.modPort_t0 (n : Nat) (f : CanPort → CanPort) : (s.modPort n f).t0 = s.t0 := rfl
@[simp] theorem State.modPort_sysUp (n : Nat) (f : CanPort → CanPort) : (s.modPort n f).sysUp = s.sysUp := rfl
@[simp] theorem State.modPort_serving (n : Nat) (f : CanPort → CanPort) : (s.modPort n f).serving = s.serving := rfl
@[simp] theorem State.modPort_rstLow (n : Nat) (f : CanPort → CanPort) : (s.modPort n f).rstLow = s.rstLow := rfl
@[simp] theorem State.modPort_sysStartTimes (n : Nat) (f : CanPort → CanPort) : (s.modPort n f).sysStartTimes = s.sysStartTimes := rfl
@[simp] theorem State.modPort_devResetAt (n : Nat) (f : CanPort → CanPort) : (s.modPort n f).devResetAt = s.devResetAt := rfl
@[simp] theorem State.modPort_coastAt (n : Nat) (f : CanPort → CanPort) : (s.modPort n f).coastAt = s.coastAt := rfl
@[simp] theorem State.modPort_coastTime (n : Nat) (f : CanPort → CanPort) : (s.modPort n f).coastTime = s.coastTime := rfl
@[simp] theorem State.modPort_lhLevel (n : Nat) (f : CanPort → CanPort) : (s.modPort n f).lhLevel = s.lhLevel := rfl
@[simp] theorem State.modPort_chans (n : Nat) (f : CanPort → CanPort) : (s.modPort n f).chans = s.chans := rfl
@[simp] theorem State.modPort_bridges (n : Nat) (f : CanPort → CanPort) : (s.modPort n f).bridges = s.bridges := rfl
@[simp] theorem State.modPort_banks (n : Nat) (f : CanPort → CanPort) : (s.modPort n f).banks = s.banks := rfl
@[simp] theorem State.modPort_line (n : Nat) (f : CanPort → CanPort) : (s.modPort n f).line = s.line := rfl
@[simp] theorem State.modPort_grants (n : Nat) (f : CanPort → CanPort) : (s.modPort n f).grants = s.grants := rfl
@[simp] theorem State.modPort_gov (n : Nat) (f : CanPort → CanPort) : (s.modPort n f).gov = s.gov := rfl
@[simp] theorem State.modPort_govPend (n : Nat) (f : CanPort → CanPort) : (s.modPort n f).govPend = s.govPend := rfl
@[simp] theorem State.modPort_pairs (n : Nat) (f : CanPort → CanPort) : (s.modPort n f).pairs = s.pairs := rfl
@[simp] theorem State.modPort_pairSel (n : Nat) (f : CanPort → CanPort) : (s.modPort n f).pairSel = s.pairSel := rfl
@[simp] theorem State.modPort_flows (n : Nat) (f : CanPort → CanPort) : (s.modPort n f).flows = s.flows := rfl
@[simp] theorem State.modPort_fullTold (n : Nat) (f : CanPort → CanPort) : (s.modPort n f).fullTold = s.fullTold := rfl
@[simp] theorem State.modPort_fwd (n : Nat) (f : CanPort → CanPort) : (s.modPort n f).fwd = s.fwd := rfl
@[simp] theorem State.modPort_netPorts (n : Nat) (f : CanPort → CanPort) : (s.modPort n f).netPorts = s.netPorts := rfl
@[simp] theorem State.modPort_slowWin (n : Nat) (f : CanPort → CanPort) : (s.modPort n f).slowWin = s.slowWin := rfl
@[simp] theorem State.modPort_slowQ (n : Nat) (f : CanPort → CanPort) : (s.modPort n f).slowQ = s.slowQ := rfl
@[simp] theorem State.modPort_asGood (n : Nat) (f : CanPort → CanPort) : (s.modPort n f).asGood = s.asGood := rfl
@[simp] theorem State.modPort_asAt (n : Nat) (f : CanPort → CanPort) : (s.modPort n f).asAt = s.asAt := rfl
@[simp] theorem State.modPort_asHi (n : Nat) (f : CanPort → CanPort) : (s.modPort n f).asHi = s.asHi := rfl
@[simp] theorem State.modPort_fullAt (n : Nat) (f : CanPort → CanPort) : (s.modPort n f).fullAt = s.fullAt := rfl
@[simp] theorem State.modPort_log (n : Nat) (f : CanPort → CanPort) : (s.modPort n f).log = s.log := rfl
@[simp] theorem State.modPort_inbox (n : Nat) (f : CanPort → CanPort) : (s.modPort n f).inbox = s.inbox := rfl
@[simp] theorem State.modPort_summaryFlash (n : Nat) (f : CanPort → CanPort) : (s.modPort n f).summaryFlash = s.summaryFlash := rfl
@[simp] theorem State.modPort_summaryAt (n : Nat) (f : CanPort → CanPort) : (s.modPort n f).summaryAt = s.summaryAt := rfl
@[simp] theorem State.modPort_summaryLoaded (n : Nat) (f : CanPort → CanPort) : (s.modPort n f).summaryLoaded = s.summaryLoaded := rfl
@[simp] theorem State.modPort_fqTold (n : Nat) (f : CanPort → CanPort) : (s.modPort n f).fqTold = s.fqTold := rfl
@[simp] theorem State.modPort_fiDeb (n : Nat) (f : CanPort → CanPort) : (s.modPort n f).fiDeb = s.fiDeb := rfl
@[simp] theorem State.modPort_doms (n : Nat) (f : CanPort → CanPort) : (s.modPort n f).doms = s.doms := rfl
@[simp] theorem State.modPort_wakeTimer (n : Nat) (f : CanPort → CanPort) : (s.modPort n f).wakeTimer = s.wakeTimer := rfl
@[simp] theorem State.modPort_wkLevel (n : Nat) (f : CanPort → CanPort) : (s.modPort n f).wkLevel = s.wkLevel := rfl
@[simp] theorem State.modPort_hibAt (n : Nat) (f : CanPort → CanPort) : (s.modPort n f).hibAt = s.hibAt := rfl
@[simp] theorem State.modPort_sbPtr (n : Nat) (f : CanPort → CanPort) : (s.modPort n f).sbPtr = s.sbPtr := rfl
@[simp] theorem State.modPort_sbOut (n : Nat) (f : CanPort → CanPort) : (s.modPort n f).sbOut = s.sbOut := rfl
@[simp] theorem State.modPort_sysReturn (n : Nat) (f : CanPort → CanPort) : (s.modPort n f).sysReturn = s.sysReturn := rfl
@[simp] theorem State.modPort_sysAgain (n : Nat) (f : CanPort → CanPort) : (s.modPort n f).sysAgain = s.sysAgain := rfl
@[simp] theorem State.modPort_sbHold (n : Nat) (f : CanPort → CanPort) : (s.modPort n f).sbHold = s.sbHold := rfl
@[simp] theorem State.modPort_keyArr (n : Nat) (f : CanPort → CanPort) : (s.modPort n f).keyArr = s.keyArr := rfl
@[simp] theorem State.modPort_dbgArr (n : Nat) (f : CanPort → CanPort) : (s.modPort n f).dbgArr = s.dbgArr := rfl
@[simp] theorem State.modPort_testPins (n : Nat) (f : CanPort → CanPort) : (s.modPort n f).testPins = s.testPins := rfl
@[simp] theorem State.modPort_staged (n : Nat) (f : CanPort → CanPort) : (s.modPort n f).staged = s.staged := rfl
@[simp] theorem State.modPort_keyWrite (n : Nat) (f : CanPort → CanPort) : (s.modPort n f).keyWrite = s.keyWrite := rfl
@[simp] theorem State.modPort_cache (n : Nat) (f : CanPort → CanPort) : (s.modPort n f).cache = s.cache := rfl
@[simp] theorem State.modPort_ram (n : Nat) (f : CanPort → CanPort) : (s.modPort n f).ram = s.ram := rfl
@[simp] theorem State.modPort_remaskAt (n : Nat) (f : CanPort → CanPort) : (s.modPort n f).remaskAt = s.remaskAt := rfl
@[simp] theorem State.modPort_rngAt (n : Nat) (f : CanPort → CanPort) : (s.modPort n f).rngAt = s.rngAt := rfl
@[simp] theorem State.modPort_challenges (n : Nat) (f : CanPort → CanPort) : (s.modPort n f).challenges = s.challenges := rfl
@[simp] theorem State.modPort_imm (n : Nat) (f : CanPort → CanPort) : (s.modPort n f).imm = s.imm := rfl
@[simp] theorem State.modPort_flash (n : Nat) (f : CanPort → CanPort) : (s.modPort n f).flash = s.flash := rfl
@[simp] theorem State.modPort_erases (n : Nat) (f : CanPort → CanPort) : (s.modPort n f).erases = s.erases := rfl
@[simp] theorem State.modPort_cfgNow (n : Nat) (f : CanPort → CanPort) : (s.modPort n f).cfgNow = s.cfgNow := rfl
@[simp] theorem State.modPort_fwLock (n : Nat) (f : CanPort → CanPort) : (s.modPort n f).fwLock = s.fwLock := rfl
@[simp] theorem State.modPort_cfgLock (n : Nat) (f : CanPort → CanPort) : (s.modPort n f).cfgLock = s.cfgLock := rfl
@[simp] theorem State.modPort_runTicks (n : Nat) (f : CanPort → CanPort) : (s.modPort n f).runTicks = s.runTicks := rfl
@[simp] theorem State.modPort_uds (n : Nat) (f : CanPort → CanPort) : (s.modPort n f).uds = s.uds := rfl
@[simp] theorem State.modPort_axes (n : Nat) (f : CanPort → CanPort) : (s.modPort n f).axes = s.axes := rfl
@[simp] theorem State.modPort_timeHi (n : Nat) (f : CanPort → CanPort) : (s.modPort n f).timeHi = s.timeHi := rfl
@[simp] theorem State.modPort_alignCount (n : Nat) (f : CanPort → CanPort) : (s.modPort n f).alignCount = s.alignCount := rfl
@[simp] theorem State.modPort_alignAt (n : Nat) (f : CanPort → CanPort) : (s.modPort n f).alignAt = s.alignAt := rfl
@[simp] theorem State.modPort_stepDue (n : Nat) (f : CanPort → CanPort) : (s.modPort n f).stepDue = s.stepDue := rfl
@[simp] theorem State.modPort_rateFrac (n : Nat) (f : CanPort → CanPort) : (s.modPort n f).rateFrac = s.rateFrac := rfl
@[simp] theorem State.modPort_slots (n : Nat) (f : CanPort → CanPort) : (s.modPort n f).slots = s.slots := rfl
@[simp] theorem State.modPort_dueQ (n : Nat) (f : CanPort → CanPort) : (s.modPort n f).dueQ = s.dueQ := rfl
@[simp] theorem State.modPort_acts (n : Nat) (f : CanPort → CanPort) : (s.modPort n f).acts = s.acts := rfl
@[simp] theorem State.modPort_crossings (n : Nat) (f : CanPort → CanPort) : (s.modPort n f).crossings = s.crossings := rfl
@[simp] theorem State.modPort_tickAt (n : Nat) (f : CanPort → CanPort) : (s.modPort n f).tickAt = s.tickAt := rfl
@[simp] theorem State.modPort_fireTimes (n : Nat) (f : CanPort → CanPort) : (s.modPort n f).fireTimes = s.fireTimes := rfl
@[simp] theorem State.modPort_leadRuns (n : Nat) (f : CanPort → CanPort) : (s.modPort n f).leadRuns = s.leadRuns := rfl
@[simp] theorem State.modPort_later (n : Nat) (f : CanPort → CanPort) : (s.modPort n f).later = s.later := rfl

/-! ### setFlow -/

@[simp] theorem State.setFlow_pending (n : Nat) (x : Option Flow) : (s.setFlow n x).pending = s.pending := rfl
@[simp] theorem State.setFlow_now (n : Nat) (x : Option Flow) : (s.setFlow n x).now = s.now := rfl
@[simp] theorem State.setFlow_otp (n : Nat) (x : Option Flow) : (s.setFlow n x).otp = s.otp := rfl
@[simp] theorem State.setFlow_devTime (n : Nat) (x : Option Flow) : (s.setFlow n x).devTime = s.devTime := rfl
@[simp] theorem State.setFlow_regs (n : Nat) (x : Option Flow) : (s.setFlow n x).regs = s.regs := rfl
@[simp] theorem State.setFlow_freeCount (n : Nat) (x : Option Flow) : (s.setFlow n x).freeCount = s.freeCount := rfl
@[simp] theorem State.setFlow_nextId (n : Nat) (x : Option Flow) : (s.setFlow n x).nextId = s.nextId := rfl
@[simp] theorem State.setFlow_issuing (n : Nat) (x : Option Flow) : (s.setFlow n x).issuing = s.issuing := rfl
@[simp] theorem State.setFlow_turnHc (n : Nat) (x : Option Flow) : (s.setFlow n x).turnHc = s.turnHc := rfl
@[simp] theorem State.setFlow_hcs (n : Nat) (x : Option Flow) : (s.setFlow n x).hcs = s.hcs := rfl
@[simp] theorem State.setFlow_owners (n : Nat) (x : Option Flow) : (s.setFlow n x).owners = s.owners := rfl
@[simp] theorem State.setFlow_jobs (n : Nat) (x : Option Flow) : (s.setFlow n x).jobs = s.jobs := rfl
@[simp] theorem State.setFlow_portCells (n : Nat) (x : Option Flow) : (s.setFlow n x).portCells = s.portCells := rfl
@[simp] theorem State.setFlow_backlog (n : Nat) (x : Option Flow) : (s.setFlow n x).backlog = s.backlog := rfl
@[simp] theorem State.setFlow_lostFor (n : Nat) (x : Option Flow) : (s.setFlow n x).lostFor = s.lostFor := rfl
@[simp] theorem State.setFlow_sent (n : Nat) (x : Option Flow) : (s.setFlow n x).sent = s.sent := rfl
@[simp] theorem State.setFlow_sdo (n : Nat) (x : Option Flow) : (s.setFlow n x).sdo = s.sdo := rfl
@[simp] theorem State.setFlow_crce (n : Nat) (x : Option Flow) : (s.setFlow n x).crce = s.crce := rfl
@[simp] theorem State.setFlow_rdy (n : Nat) (x : Option Flow) : (s.setFlow n x).rdy = s.rdy := rfl
@[simp] theorem State.setFlow_aonIrq (n : Nat) (x : Option Flow) : (s.setFlow n x).aonIrq = s.aonIrq := rfl
@[simp] theorem State.setFlow_vsup (n : Nat) (x : Option Flow) : (s.setFlow n x).vsup = s.vsup := rfl
@[simp] theorem State.setFlow_powerLost (n : Nat) (x : Option Flow) : (s.setFlow n x).powerLost = s.powerLost := rfl
@[simp] theorem State.setFlow_uvMask (n : Nat) (x : Option Flow) : (s.setFlow n x).uvMask = s.uvMask := rfl
@[simp] theorem State.setFlow_degMask (n : Nat) (x : Option Flow) : (s.setFlow n x).degMask = s.degMask := rfl
@[simp] theorem State.setFlow_olFrom (n : Nat) (x : Option Flow) : (s.setFlow n x).olFrom = s.olFrom := rfl
@[simp] theorem State.setFlow_vioOk (n : Nat) (x : Option Flow) : (s.setFlow n x).vioOk = s.vioOk := rfl
@[simp] theorem State.setFlow_t0 (n : Nat) (x : Option Flow) : (s.setFlow n x).t0 = s.t0 := rfl
@[simp] theorem State.setFlow_sysUp (n : Nat) (x : Option Flow) : (s.setFlow n x).sysUp = s.sysUp := rfl
@[simp] theorem State.setFlow_serving (n : Nat) (x : Option Flow) : (s.setFlow n x).serving = s.serving := rfl
@[simp] theorem State.setFlow_rstLow (n : Nat) (x : Option Flow) : (s.setFlow n x).rstLow = s.rstLow := rfl
@[simp] theorem State.setFlow_sysStartTimes (n : Nat) (x : Option Flow) : (s.setFlow n x).sysStartTimes = s.sysStartTimes := rfl
@[simp] theorem State.setFlow_devResetAt (n : Nat) (x : Option Flow) : (s.setFlow n x).devResetAt = s.devResetAt := rfl
@[simp] theorem State.setFlow_coastAt (n : Nat) (x : Option Flow) : (s.setFlow n x).coastAt = s.coastAt := rfl
@[simp] theorem State.setFlow_coastTime (n : Nat) (x : Option Flow) : (s.setFlow n x).coastTime = s.coastTime := rfl
@[simp] theorem State.setFlow_lhLevel (n : Nat) (x : Option Flow) : (s.setFlow n x).lhLevel = s.lhLevel := rfl
@[simp] theorem State.setFlow_chans (n : Nat) (x : Option Flow) : (s.setFlow n x).chans = s.chans := rfl
@[simp] theorem State.setFlow_bridges (n : Nat) (x : Option Flow) : (s.setFlow n x).bridges = s.bridges := rfl
@[simp] theorem State.setFlow_banks (n : Nat) (x : Option Flow) : (s.setFlow n x).banks = s.banks := rfl
@[simp] theorem State.setFlow_line (n : Nat) (x : Option Flow) : (s.setFlow n x).line = s.line := rfl
@[simp] theorem State.setFlow_grants (n : Nat) (x : Option Flow) : (s.setFlow n x).grants = s.grants := rfl
@[simp] theorem State.setFlow_gov (n : Nat) (x : Option Flow) : (s.setFlow n x).gov = s.gov := rfl
@[simp] theorem State.setFlow_govPend (n : Nat) (x : Option Flow) : (s.setFlow n x).govPend = s.govPend := rfl
@[simp] theorem State.setFlow_ports (n : Nat) (x : Option Flow) : (s.setFlow n x).ports = s.ports := rfl
@[simp] theorem State.setFlow_pairs (n : Nat) (x : Option Flow) : (s.setFlow n x).pairs = s.pairs := rfl
@[simp] theorem State.setFlow_pairSel (n : Nat) (x : Option Flow) : (s.setFlow n x).pairSel = s.pairSel := rfl
@[simp] theorem State.setFlow_fullTold (n : Nat) (x : Option Flow) : (s.setFlow n x).fullTold = s.fullTold := rfl
@[simp] theorem State.setFlow_fwd (n : Nat) (x : Option Flow) : (s.setFlow n x).fwd = s.fwd := rfl
@[simp] theorem State.setFlow_netPorts (n : Nat) (x : Option Flow) : (s.setFlow n x).netPorts = s.netPorts := rfl
@[simp] theorem State.setFlow_slowWin (n : Nat) (x : Option Flow) : (s.setFlow n x).slowWin = s.slowWin := rfl
@[simp] theorem State.setFlow_slowQ (n : Nat) (x : Option Flow) : (s.setFlow n x).slowQ = s.slowQ := rfl
@[simp] theorem State.setFlow_asGood (n : Nat) (x : Option Flow) : (s.setFlow n x).asGood = s.asGood := rfl
@[simp] theorem State.setFlow_asAt (n : Nat) (x : Option Flow) : (s.setFlow n x).asAt = s.asAt := rfl
@[simp] theorem State.setFlow_asHi (n : Nat) (x : Option Flow) : (s.setFlow n x).asHi = s.asHi := rfl
@[simp] theorem State.setFlow_fullAt (n : Nat) (x : Option Flow) : (s.setFlow n x).fullAt = s.fullAt := rfl
@[simp] theorem State.setFlow_log (n : Nat) (x : Option Flow) : (s.setFlow n x).log = s.log := rfl
@[simp] theorem State.setFlow_inbox (n : Nat) (x : Option Flow) : (s.setFlow n x).inbox = s.inbox := rfl
@[simp] theorem State.setFlow_summaryFlash (n : Nat) (x : Option Flow) : (s.setFlow n x).summaryFlash = s.summaryFlash := rfl
@[simp] theorem State.setFlow_summaryAt (n : Nat) (x : Option Flow) : (s.setFlow n x).summaryAt = s.summaryAt := rfl
@[simp] theorem State.setFlow_summaryLoaded (n : Nat) (x : Option Flow) : (s.setFlow n x).summaryLoaded = s.summaryLoaded := rfl
@[simp] theorem State.setFlow_fqTold (n : Nat) (x : Option Flow) : (s.setFlow n x).fqTold = s.fqTold := rfl
@[simp] theorem State.setFlow_fiDeb (n : Nat) (x : Option Flow) : (s.setFlow n x).fiDeb = s.fiDeb := rfl
@[simp] theorem State.setFlow_doms (n : Nat) (x : Option Flow) : (s.setFlow n x).doms = s.doms := rfl
@[simp] theorem State.setFlow_wakeTimer (n : Nat) (x : Option Flow) : (s.setFlow n x).wakeTimer = s.wakeTimer := rfl
@[simp] theorem State.setFlow_wkLevel (n : Nat) (x : Option Flow) : (s.setFlow n x).wkLevel = s.wkLevel := rfl
@[simp] theorem State.setFlow_hibAt (n : Nat) (x : Option Flow) : (s.setFlow n x).hibAt = s.hibAt := rfl
@[simp] theorem State.setFlow_sbPtr (n : Nat) (x : Option Flow) : (s.setFlow n x).sbPtr = s.sbPtr := rfl
@[simp] theorem State.setFlow_sbOut (n : Nat) (x : Option Flow) : (s.setFlow n x).sbOut = s.sbOut := rfl
@[simp] theorem State.setFlow_sysReturn (n : Nat) (x : Option Flow) : (s.setFlow n x).sysReturn = s.sysReturn := rfl
@[simp] theorem State.setFlow_sysAgain (n : Nat) (x : Option Flow) : (s.setFlow n x).sysAgain = s.sysAgain := rfl
@[simp] theorem State.setFlow_sbHold (n : Nat) (x : Option Flow) : (s.setFlow n x).sbHold = s.sbHold := rfl
@[simp] theorem State.setFlow_keyArr (n : Nat) (x : Option Flow) : (s.setFlow n x).keyArr = s.keyArr := rfl
@[simp] theorem State.setFlow_dbgArr (n : Nat) (x : Option Flow) : (s.setFlow n x).dbgArr = s.dbgArr := rfl
@[simp] theorem State.setFlow_testPins (n : Nat) (x : Option Flow) : (s.setFlow n x).testPins = s.testPins := rfl
@[simp] theorem State.setFlow_staged (n : Nat) (x : Option Flow) : (s.setFlow n x).staged = s.staged := rfl
@[simp] theorem State.setFlow_keyWrite (n : Nat) (x : Option Flow) : (s.setFlow n x).keyWrite = s.keyWrite := rfl
@[simp] theorem State.setFlow_cache (n : Nat) (x : Option Flow) : (s.setFlow n x).cache = s.cache := rfl
@[simp] theorem State.setFlow_ram (n : Nat) (x : Option Flow) : (s.setFlow n x).ram = s.ram := rfl
@[simp] theorem State.setFlow_remaskAt (n : Nat) (x : Option Flow) : (s.setFlow n x).remaskAt = s.remaskAt := rfl
@[simp] theorem State.setFlow_rngAt (n : Nat) (x : Option Flow) : (s.setFlow n x).rngAt = s.rngAt := rfl
@[simp] theorem State.setFlow_challenges (n : Nat) (x : Option Flow) : (s.setFlow n x).challenges = s.challenges := rfl
@[simp] theorem State.setFlow_imm (n : Nat) (x : Option Flow) : (s.setFlow n x).imm = s.imm := rfl
@[simp] theorem State.setFlow_flash (n : Nat) (x : Option Flow) : (s.setFlow n x).flash = s.flash := rfl
@[simp] theorem State.setFlow_erases (n : Nat) (x : Option Flow) : (s.setFlow n x).erases = s.erases := rfl
@[simp] theorem State.setFlow_cfgNow (n : Nat) (x : Option Flow) : (s.setFlow n x).cfgNow = s.cfgNow := rfl
@[simp] theorem State.setFlow_fwLock (n : Nat) (x : Option Flow) : (s.setFlow n x).fwLock = s.fwLock := rfl
@[simp] theorem State.setFlow_cfgLock (n : Nat) (x : Option Flow) : (s.setFlow n x).cfgLock = s.cfgLock := rfl
@[simp] theorem State.setFlow_runTicks (n : Nat) (x : Option Flow) : (s.setFlow n x).runTicks = s.runTicks := rfl
@[simp] theorem State.setFlow_uds (n : Nat) (x : Option Flow) : (s.setFlow n x).uds = s.uds := rfl
@[simp] theorem State.setFlow_axes (n : Nat) (x : Option Flow) : (s.setFlow n x).axes = s.axes := rfl
@[simp] theorem State.setFlow_timeHi (n : Nat) (x : Option Flow) : (s.setFlow n x).timeHi = s.timeHi := rfl
@[simp] theorem State.setFlow_alignCount (n : Nat) (x : Option Flow) : (s.setFlow n x).alignCount = s.alignCount := rfl
@[simp] theorem State.setFlow_alignAt (n : Nat) (x : Option Flow) : (s.setFlow n x).alignAt = s.alignAt := rfl
@[simp] theorem State.setFlow_stepDue (n : Nat) (x : Option Flow) : (s.setFlow n x).stepDue = s.stepDue := rfl
@[simp] theorem State.setFlow_rateFrac (n : Nat) (x : Option Flow) : (s.setFlow n x).rateFrac = s.rateFrac := rfl
@[simp] theorem State.setFlow_slots (n : Nat) (x : Option Flow) : (s.setFlow n x).slots = s.slots := rfl
@[simp] theorem State.setFlow_dueQ (n : Nat) (x : Option Flow) : (s.setFlow n x).dueQ = s.dueQ := rfl
@[simp] theorem State.setFlow_acts (n : Nat) (x : Option Flow) : (s.setFlow n x).acts = s.acts := rfl
@[simp] theorem State.setFlow_crossings (n : Nat) (x : Option Flow) : (s.setFlow n x).crossings = s.crossings := rfl
@[simp] theorem State.setFlow_tickAt (n : Nat) (x : Option Flow) : (s.setFlow n x).tickAt = s.tickAt := rfl
@[simp] theorem State.setFlow_fireTimes (n : Nat) (x : Option Flow) : (s.setFlow n x).fireTimes = s.fireTimes := rfl
@[simp] theorem State.setFlow_leadRuns (n : Nat) (x : Option Flow) : (s.setFlow n x).leadRuns = s.leadRuns := rfl
@[simp] theorem State.setFlow_later (n : Nat) (x : Option Flow) : (s.setFlow n x).later = s.later := rfl

/-! ### modNet -/

@[simp] theorem State.modNet_pending (p : Nat) (f : NetPort → NetPort) : (s.modNet p f).pending = s.pending := rfl
@[simp] theorem State.modNet_now (p : Nat) (f : NetPort → NetPort) : (s.modNet p f).now = s.now := rfl
@[simp] theorem State.modNet_otp (p : Nat) (f : NetPort → NetPort) : (s.modNet p f).otp = s.otp := rfl
@[simp] theorem State.modNet_devTime (p : Nat) (f : NetPort → NetPort) : (s.modNet p f).devTime = s.devTime := rfl
@[simp] theorem State.modNet_regs (p : Nat) (f : NetPort → NetPort) : (s.modNet p f).regs = s.regs := rfl
@[simp] theorem State.modNet_freeCount (p : Nat) (f : NetPort → NetPort) : (s.modNet p f).freeCount = s.freeCount := rfl
@[simp] theorem State.modNet_nextId (p : Nat) (f : NetPort → NetPort) : (s.modNet p f).nextId = s.nextId := rfl
@[simp] theorem State.modNet_issuing (p : Nat) (f : NetPort → NetPort) : (s.modNet p f).issuing = s.issuing := rfl
@[simp] theorem State.modNet_turnHc (p : Nat) (f : NetPort → NetPort) : (s.modNet p f).turnHc = s.turnHc := rfl
@[simp] theorem State.modNet_hcs (p : Nat) (f : NetPort → NetPort) : (s.modNet p f).hcs = s.hcs := rfl
@[simp] theorem State.modNet_owners (p : Nat) (f : NetPort → NetPort) : (s.modNet p f).owners = s.owners := rfl
@[simp] theorem State.modNet_jobs (p : Nat) (f : NetPort → NetPort) : (s.modNet p f).jobs = s.jobs := rfl
@[simp] theorem State.modNet_portCells (p : Nat) (f : NetPort → NetPort) : (s.modNet p f).portCells = s.portCells := rfl
@[simp] theorem State.modNet_backlog (p : Nat) (f : NetPort → NetPort) : (s.modNet p f).backlog = s.backlog := rfl
@[simp] theorem State.modNet_lostFor (p : Nat) (f : NetPort → NetPort) : (s.modNet p f).lostFor = s.lostFor := rfl
@[simp] theorem State.modNet_sent (p : Nat) (f : NetPort → NetPort) : (s.modNet p f).sent = s.sent := rfl
@[simp] theorem State.modNet_sdo (p : Nat) (f : NetPort → NetPort) : (s.modNet p f).sdo = s.sdo := rfl
@[simp] theorem State.modNet_crce (p : Nat) (f : NetPort → NetPort) : (s.modNet p f).crce = s.crce := rfl
@[simp] theorem State.modNet_rdy (p : Nat) (f : NetPort → NetPort) : (s.modNet p f).rdy = s.rdy := rfl
@[simp] theorem State.modNet_aonIrq (p : Nat) (f : NetPort → NetPort) : (s.modNet p f).aonIrq = s.aonIrq := rfl
@[simp] theorem State.modNet_vsup (p : Nat) (f : NetPort → NetPort) : (s.modNet p f).vsup = s.vsup := rfl
@[simp] theorem State.modNet_powerLost (p : Nat) (f : NetPort → NetPort) : (s.modNet p f).powerLost = s.powerLost := rfl
@[simp] theorem State.modNet_uvMask (p : Nat) (f : NetPort → NetPort) : (s.modNet p f).uvMask = s.uvMask := rfl
@[simp] theorem State.modNet_degMask (p : Nat) (f : NetPort → NetPort) : (s.modNet p f).degMask = s.degMask := rfl
@[simp] theorem State.modNet_olFrom (p : Nat) (f : NetPort → NetPort) : (s.modNet p f).olFrom = s.olFrom := rfl
@[simp] theorem State.modNet_vioOk (p : Nat) (f : NetPort → NetPort) : (s.modNet p f).vioOk = s.vioOk := rfl
@[simp] theorem State.modNet_t0 (p : Nat) (f : NetPort → NetPort) : (s.modNet p f).t0 = s.t0 := rfl
@[simp] theorem State.modNet_sysUp (p : Nat) (f : NetPort → NetPort) : (s.modNet p f).sysUp = s.sysUp := rfl
@[simp] theorem State.modNet_serving (p : Nat) (f : NetPort → NetPort) : (s.modNet p f).serving = s.serving := rfl
@[simp] theorem State.modNet_rstLow (p : Nat) (f : NetPort → NetPort) : (s.modNet p f).rstLow = s.rstLow := rfl
@[simp] theorem State.modNet_sysStartTimes (p : Nat) (f : NetPort → NetPort) : (s.modNet p f).sysStartTimes = s.sysStartTimes := rfl
@[simp] theorem State.modNet_devResetAt (p : Nat) (f : NetPort → NetPort) : (s.modNet p f).devResetAt = s.devResetAt := rfl
@[simp] theorem State.modNet_coastAt (p : Nat) (f : NetPort → NetPort) : (s.modNet p f).coastAt = s.coastAt := rfl
@[simp] theorem State.modNet_coastTime (p : Nat) (f : NetPort → NetPort) : (s.modNet p f).coastTime = s.coastTime := rfl
@[simp] theorem State.modNet_lhLevel (p : Nat) (f : NetPort → NetPort) : (s.modNet p f).lhLevel = s.lhLevel := rfl
@[simp] theorem State.modNet_chans (p : Nat) (f : NetPort → NetPort) : (s.modNet p f).chans = s.chans := rfl
@[simp] theorem State.modNet_bridges (p : Nat) (f : NetPort → NetPort) : (s.modNet p f).bridges = s.bridges := rfl
@[simp] theorem State.modNet_banks (p : Nat) (f : NetPort → NetPort) : (s.modNet p f).banks = s.banks := rfl
@[simp] theorem State.modNet_line (p : Nat) (f : NetPort → NetPort) : (s.modNet p f).line = s.line := rfl
@[simp] theorem State.modNet_grants (p : Nat) (f : NetPort → NetPort) : (s.modNet p f).grants = s.grants := rfl
@[simp] theorem State.modNet_gov (p : Nat) (f : NetPort → NetPort) : (s.modNet p f).gov = s.gov := rfl
@[simp] theorem State.modNet_govPend (p : Nat) (f : NetPort → NetPort) : (s.modNet p f).govPend = s.govPend := rfl
@[simp] theorem State.modNet_ports (p : Nat) (f : NetPort → NetPort) : (s.modNet p f).ports = s.ports := rfl
@[simp] theorem State.modNet_pairs (p : Nat) (f : NetPort → NetPort) : (s.modNet p f).pairs = s.pairs := rfl
@[simp] theorem State.modNet_pairSel (p : Nat) (f : NetPort → NetPort) : (s.modNet p f).pairSel = s.pairSel := rfl
@[simp] theorem State.modNet_flows (p : Nat) (f : NetPort → NetPort) : (s.modNet p f).flows = s.flows := rfl
@[simp] theorem State.modNet_fullTold (p : Nat) (f : NetPort → NetPort) : (s.modNet p f).fullTold = s.fullTold := rfl
@[simp] theorem State.modNet_fwd (p : Nat) (f : NetPort → NetPort) : (s.modNet p f).fwd = s.fwd := rfl
@[simp] theorem State.modNet_slowWin (p : Nat) (f : NetPort → NetPort) : (s.modNet p f).slowWin = s.slowWin := rfl
@[simp] theorem State.modNet_slowQ (p : Nat) (f : NetPort → NetPort) : (s.modNet p f).slowQ = s.slowQ := rfl
@[simp] theorem State.modNet_asGood (p : Nat) (f : NetPort → NetPort) : (s.modNet p f).asGood = s.asGood := rfl
@[simp] theorem State.modNet_asAt (p : Nat) (f : NetPort → NetPort) : (s.modNet p f).asAt = s.asAt := rfl
@[simp] theorem State.modNet_asHi (p : Nat) (f : NetPort → NetPort) : (s.modNet p f).asHi = s.asHi := rfl
@[simp] theorem State.modNet_fullAt (p : Nat) (f : NetPort → NetPort) : (s.modNet p f).fullAt = s.fullAt := rfl
@[simp] theorem State.modNet_log (p : Nat) (f : NetPort → NetPort) : (s.modNet p f).log = s.log := rfl
@[simp] theorem State.modNet_inbox (p : Nat) (f : NetPort → NetPort) : (s.modNet p f).inbox = s.inbox := rfl
@[simp] theorem State.modNet_summaryFlash (p : Nat) (f : NetPort → NetPort) : (s.modNet p f).summaryFlash = s.summaryFlash := rfl
@[simp] theorem State.modNet_summaryAt (p : Nat) (f : NetPort → NetPort) : (s.modNet p f).summaryAt = s.summaryAt := rfl
@[simp] theorem State.modNet_summaryLoaded (p : Nat) (f : NetPort → NetPort) : (s.modNet p f).summaryLoaded = s.summaryLoaded := rfl
@[simp] theorem State.modNet_fqTold (p : Nat) (f : NetPort → NetPort) : (s.modNet p f).fqTold = s.fqTold := rfl
@[simp] theorem State.modNet_fiDeb (p : Nat) (f : NetPort → NetPort) : (s.modNet p f).fiDeb = s.fiDeb := rfl
@[simp] theorem State.modNet_doms (p : Nat) (f : NetPort → NetPort) : (s.modNet p f).doms = s.doms := rfl
@[simp] theorem State.modNet_wakeTimer (p : Nat) (f : NetPort → NetPort) : (s.modNet p f).wakeTimer = s.wakeTimer := rfl
@[simp] theorem State.modNet_wkLevel (p : Nat) (f : NetPort → NetPort) : (s.modNet p f).wkLevel = s.wkLevel := rfl
@[simp] theorem State.modNet_hibAt (p : Nat) (f : NetPort → NetPort) : (s.modNet p f).hibAt = s.hibAt := rfl
@[simp] theorem State.modNet_sbPtr (p : Nat) (f : NetPort → NetPort) : (s.modNet p f).sbPtr = s.sbPtr := rfl
@[simp] theorem State.modNet_sbOut (p : Nat) (f : NetPort → NetPort) : (s.modNet p f).sbOut = s.sbOut := rfl
@[simp] theorem State.modNet_sysReturn (p : Nat) (f : NetPort → NetPort) : (s.modNet p f).sysReturn = s.sysReturn := rfl
@[simp] theorem State.modNet_sysAgain (p : Nat) (f : NetPort → NetPort) : (s.modNet p f).sysAgain = s.sysAgain := rfl
@[simp] theorem State.modNet_sbHold (p : Nat) (f : NetPort → NetPort) : (s.modNet p f).sbHold = s.sbHold := rfl
@[simp] theorem State.modNet_keyArr (p : Nat) (f : NetPort → NetPort) : (s.modNet p f).keyArr = s.keyArr := rfl
@[simp] theorem State.modNet_dbgArr (p : Nat) (f : NetPort → NetPort) : (s.modNet p f).dbgArr = s.dbgArr := rfl
@[simp] theorem State.modNet_testPins (p : Nat) (f : NetPort → NetPort) : (s.modNet p f).testPins = s.testPins := rfl
@[simp] theorem State.modNet_staged (p : Nat) (f : NetPort → NetPort) : (s.modNet p f).staged = s.staged := rfl
@[simp] theorem State.modNet_keyWrite (p : Nat) (f : NetPort → NetPort) : (s.modNet p f).keyWrite = s.keyWrite := rfl
@[simp] theorem State.modNet_cache (p : Nat) (f : NetPort → NetPort) : (s.modNet p f).cache = s.cache := rfl
@[simp] theorem State.modNet_ram (p : Nat) (f : NetPort → NetPort) : (s.modNet p f).ram = s.ram := rfl
@[simp] theorem State.modNet_remaskAt (p : Nat) (f : NetPort → NetPort) : (s.modNet p f).remaskAt = s.remaskAt := rfl
@[simp] theorem State.modNet_rngAt (p : Nat) (f : NetPort → NetPort) : (s.modNet p f).rngAt = s.rngAt := rfl
@[simp] theorem State.modNet_challenges (p : Nat) (f : NetPort → NetPort) : (s.modNet p f).challenges = s.challenges := rfl
@[simp] theorem State.modNet_imm (p : Nat) (f : NetPort → NetPort) : (s.modNet p f).imm = s.imm := rfl
@[simp] theorem State.modNet_flash (p : Nat) (f : NetPort → NetPort) : (s.modNet p f).flash = s.flash := rfl
@[simp] theorem State.modNet_erases (p : Nat) (f : NetPort → NetPort) : (s.modNet p f).erases = s.erases := rfl
@[simp] theorem State.modNet_cfgNow (p : Nat) (f : NetPort → NetPort) : (s.modNet p f).cfgNow = s.cfgNow := rfl
@[simp] theorem State.modNet_fwLock (p : Nat) (f : NetPort → NetPort) : (s.modNet p f).fwLock = s.fwLock := rfl
@[simp] theorem State.modNet_cfgLock (p : Nat) (f : NetPort → NetPort) : (s.modNet p f).cfgLock = s.cfgLock := rfl
@[simp] theorem State.modNet_runTicks (p : Nat) (f : NetPort → NetPort) : (s.modNet p f).runTicks = s.runTicks := rfl
@[simp] theorem State.modNet_uds (p : Nat) (f : NetPort → NetPort) : (s.modNet p f).uds = s.uds := rfl
@[simp] theorem State.modNet_axes (p : Nat) (f : NetPort → NetPort) : (s.modNet p f).axes = s.axes := rfl
@[simp] theorem State.modNet_timeHi (p : Nat) (f : NetPort → NetPort) : (s.modNet p f).timeHi = s.timeHi := rfl
@[simp] theorem State.modNet_alignCount (p : Nat) (f : NetPort → NetPort) : (s.modNet p f).alignCount = s.alignCount := rfl
@[simp] theorem State.modNet_alignAt (p : Nat) (f : NetPort → NetPort) : (s.modNet p f).alignAt = s.alignAt := rfl
@[simp] theorem State.modNet_stepDue (p : Nat) (f : NetPort → NetPort) : (s.modNet p f).stepDue = s.stepDue := rfl
@[simp] theorem State.modNet_rateFrac (p : Nat) (f : NetPort → NetPort) : (s.modNet p f).rateFrac = s.rateFrac := rfl
@[simp] theorem State.modNet_slots (p : Nat) (f : NetPort → NetPort) : (s.modNet p f).slots = s.slots := rfl
@[simp] theorem State.modNet_dueQ (p : Nat) (f : NetPort → NetPort) : (s.modNet p f).dueQ = s.dueQ := rfl
@[simp] theorem State.modNet_acts (p : Nat) (f : NetPort → NetPort) : (s.modNet p f).acts = s.acts := rfl
@[simp] theorem State.modNet_crossings (p : Nat) (f : NetPort → NetPort) : (s.modNet p f).crossings = s.crossings := rfl
@[simp] theorem State.modNet_tickAt (p : Nat) (f : NetPort → NetPort) : (s.modNet p f).tickAt = s.tickAt := rfl
@[simp] theorem State.modNet_fireTimes (p : Nat) (f : NetPort → NetPort) : (s.modNet p f).fireTimes = s.fireTimes := rfl
@[simp] theorem State.modNet_leadRuns (p : Nat) (f : NetPort → NetPort) : (s.modNet p f).leadRuns = s.leadRuns := rfl
@[simp] theorem State.modNet_later (p : Nat) (f : NetPort → NetPort) : (s.modNet p f).later = s.later := rfl

/-! ### modDom -/

@[simp] theorem State.modDom_pending (d : Nat) (f : Dom → Dom) : (s.modDom d f).pending = s.pending := rfl
@[simp] theorem State.modDom_now (d : Nat) (f : Dom → Dom) : (s.modDom d f).now = s.now := rfl
@[simp] theorem State.modDom_otp (d : Nat) (f : Dom → Dom) : (s.modDom d f).otp = s.otp := rfl
@[simp] theorem State.modDom_devTime (d : Nat) (f : Dom → Dom) : (s.modDom d f).devTime = s.devTime := rfl
@[simp] theorem State.modDom_regs (d : Nat) (f : Dom → Dom) : (s.modDom d f).regs = s.regs := rfl
@[simp] theorem State.modDom_freeCount (d : Nat) (f : Dom → Dom) : (s.modDom d f).freeCount = s.freeCount := rfl
@[simp] theorem State.modDom_nextId (d : Nat) (f : Dom → Dom) : (s.modDom d f).nextId = s.nextId := rfl
@[simp] theorem State.modDom_issuing (d : Nat) (f : Dom → Dom) : (s.modDom d f).issuing = s.issuing := rfl
@[simp] theorem State.modDom_turnHc (d : Nat) (f : Dom → Dom) : (s.modDom d f).turnHc = s.turnHc := rfl
@[simp] theorem State.modDom_hcs (d : Nat) (f : Dom → Dom) : (s.modDom d f).hcs = s.hcs := rfl
@[simp] theorem State.modDom_owners (d : Nat) (f : Dom → Dom) : (s.modDom d f).owners = s.owners := rfl
@[simp] theorem State.modDom_jobs (d : Nat) (f : Dom → Dom) : (s.modDom d f).jobs = s.jobs := rfl
@[simp] theorem State.modDom_portCells (d : Nat) (f : Dom → Dom) : (s.modDom d f).portCells = s.portCells := rfl
@[simp] theorem State.modDom_backlog (d : Nat) (f : Dom → Dom) : (s.modDom d f).backlog = s.backlog := rfl
@[simp] theorem State.modDom_lostFor (d : Nat) (f : Dom → Dom) : (s.modDom d f).lostFor = s.lostFor := rfl
@[simp] theorem State.modDom_sent (d : Nat) (f : Dom → Dom) : (s.modDom d f).sent = s.sent := rfl
@[simp] theorem State.modDom_sdo (d : Nat) (f : Dom → Dom) : (s.modDom d f).sdo = s.sdo := rfl
@[simp] theorem State.modDom_crce (d : Nat) (f : Dom → Dom) : (s.modDom d f).crce = s.crce := rfl
@[simp] theorem State.modDom_rdy (d : Nat) (f : Dom → Dom) : (s.modDom d f).rdy = s.rdy := rfl
@[simp] theorem State.modDom_aonIrq (d : Nat) (f : Dom → Dom) : (s.modDom d f).aonIrq = s.aonIrq := rfl
@[simp] theorem State.modDom_vsup (d : Nat) (f : Dom → Dom) : (s.modDom d f).vsup = s.vsup := rfl
@[simp] theorem State.modDom_powerLost (d : Nat) (f : Dom → Dom) : (s.modDom d f).powerLost = s.powerLost := rfl
@[simp] theorem State.modDom_uvMask (d : Nat) (f : Dom → Dom) : (s.modDom d f).uvMask = s.uvMask := rfl
@[simp] theorem State.modDom_degMask (d : Nat) (f : Dom → Dom) : (s.modDom d f).degMask = s.degMask := rfl
@[simp] theorem State.modDom_olFrom (d : Nat) (f : Dom → Dom) : (s.modDom d f).olFrom = s.olFrom := rfl
@[simp] theorem State.modDom_vioOk (d : Nat) (f : Dom → Dom) : (s.modDom d f).vioOk = s.vioOk := rfl
@[simp] theorem State.modDom_t0 (d : Nat) (f : Dom → Dom) : (s.modDom d f).t0 = s.t0 := rfl
@[simp] theorem State.modDom_sysUp (d : Nat) (f : Dom → Dom) : (s.modDom d f).sysUp = s.sysUp := rfl
@[simp] theorem State.modDom_serving (d : Nat) (f : Dom → Dom) : (s.modDom d f).serving = s.serving := rfl
@[simp] theorem State.modDom_rstLow (d : Nat) (f : Dom → Dom) : (s.modDom d f).rstLow = s.rstLow := rfl
@[simp] theorem State.modDom_sysStartTimes (d : Nat) (f : Dom → Dom) : (s.modDom d f).sysStartTimes = s.sysStartTimes := rfl
@[simp] theorem State.modDom_devResetAt (d : Nat) (f : Dom → Dom) : (s.modDom d f).devResetAt = s.devResetAt := rfl
@[simp] theorem State.modDom_coastAt (d : Nat) (f : Dom → Dom) : (s.modDom d f).coastAt = s.coastAt := rfl
@[simp] theorem State.modDom_coastTime (d : Nat) (f : Dom → Dom) : (s.modDom d f).coastTime = s.coastTime := rfl
@[simp] theorem State.modDom_lhLevel (d : Nat) (f : Dom → Dom) : (s.modDom d f).lhLevel = s.lhLevel := rfl
@[simp] theorem State.modDom_chans (d : Nat) (f : Dom → Dom) : (s.modDom d f).chans = s.chans := rfl
@[simp] theorem State.modDom_bridges (d : Nat) (f : Dom → Dom) : (s.modDom d f).bridges = s.bridges := rfl
@[simp] theorem State.modDom_banks (d : Nat) (f : Dom → Dom) : (s.modDom d f).banks = s.banks := rfl
@[simp] theorem State.modDom_line (d : Nat) (f : Dom → Dom) : (s.modDom d f).line = s.line := rfl
@[simp] theorem State.modDom_grants (d : Nat) (f : Dom → Dom) : (s.modDom d f).grants = s.grants := rfl
@[simp] theorem State.modDom_gov (d : Nat) (f : Dom → Dom) : (s.modDom d f).gov = s.gov := rfl
@[simp] theorem State.modDom_govPend (d : Nat) (f : Dom → Dom) : (s.modDom d f).govPend = s.govPend := rfl
@[simp] theorem State.modDom_ports (d : Nat) (f : Dom → Dom) : (s.modDom d f).ports = s.ports := rfl
@[simp] theorem State.modDom_pairs (d : Nat) (f : Dom → Dom) : (s.modDom d f).pairs = s.pairs := rfl
@[simp] theorem State.modDom_pairSel (d : Nat) (f : Dom → Dom) : (s.modDom d f).pairSel = s.pairSel := rfl
@[simp] theorem State.modDom_flows (d : Nat) (f : Dom → Dom) : (s.modDom d f).flows = s.flows := rfl
@[simp] theorem State.modDom_fullTold (d : Nat) (f : Dom → Dom) : (s.modDom d f).fullTold = s.fullTold := rfl
@[simp] theorem State.modDom_fwd (d : Nat) (f : Dom → Dom) : (s.modDom d f).fwd = s.fwd := rfl
@[simp] theorem State.modDom_netPorts (d : Nat) (f : Dom → Dom) : (s.modDom d f).netPorts = s.netPorts := rfl
@[simp] theorem State.modDom_slowWin (d : Nat) (f : Dom → Dom) : (s.modDom d f).slowWin = s.slowWin := rfl
@[simp] theorem State.modDom_slowQ (d : Nat) (f : Dom → Dom) : (s.modDom d f).slowQ = s.slowQ := rfl
@[simp] theorem State.modDom_asGood (d : Nat) (f : Dom → Dom) : (s.modDom d f).asGood = s.asGood := rfl
@[simp] theorem State.modDom_asAt (d : Nat) (f : Dom → Dom) : (s.modDom d f).asAt = s.asAt := rfl
@[simp] theorem State.modDom_asHi (d : Nat) (f : Dom → Dom) : (s.modDom d f).asHi = s.asHi := rfl
@[simp] theorem State.modDom_fullAt (d : Nat) (f : Dom → Dom) : (s.modDom d f).fullAt = s.fullAt := rfl
@[simp] theorem State.modDom_log (d : Nat) (f : Dom → Dom) : (s.modDom d f).log = s.log := rfl
@[simp] theorem State.modDom_inbox (d : Nat) (f : Dom → Dom) : (s.modDom d f).inbox = s.inbox := rfl
@[simp] theorem State.modDom_summaryFlash (d : Nat) (f : Dom → Dom) : (s.modDom d f).summaryFlash = s.summaryFlash := rfl
@[simp] theorem State.modDom_summaryAt (d : Nat) (f : Dom → Dom) : (s.modDom d f).summaryAt = s.summaryAt := rfl
@[simp] theorem State.modDom_summaryLoaded (d : Nat) (f : Dom → Dom) : (s.modDom d f).summaryLoaded = s.summaryLoaded := rfl
@[simp] theorem State.modDom_fqTold (d : Nat) (f : Dom → Dom) : (s.modDom d f).fqTold = s.fqTold := rfl
@[simp] theorem State.modDom_fiDeb (d : Nat) (f : Dom → Dom) : (s.modDom d f).fiDeb = s.fiDeb := rfl
@[simp] theorem State.modDom_wakeTimer (d : Nat) (f : Dom → Dom) : (s.modDom d f).wakeTimer = s.wakeTimer := rfl
@[simp] theorem State.modDom_wkLevel (d : Nat) (f : Dom → Dom) : (s.modDom d f).wkLevel = s.wkLevel := rfl
@[simp] theorem State.modDom_hibAt (d : Nat) (f : Dom → Dom) : (s.modDom d f).hibAt = s.hibAt := rfl
@[simp] theorem State.modDom_sbPtr (d : Nat) (f : Dom → Dom) : (s.modDom d f).sbPtr = s.sbPtr := rfl
@[simp] theorem State.modDom_sbOut (d : Nat) (f : Dom → Dom) : (s.modDom d f).sbOut = s.sbOut := rfl
@[simp] theorem State.modDom_sysReturn (d : Nat) (f : Dom → Dom) : (s.modDom d f).sysReturn = s.sysReturn := rfl
@[simp] theorem State.modDom_sysAgain (d : Nat) (f : Dom → Dom) : (s.modDom d f).sysAgain = s.sysAgain := rfl
@[simp] theorem State.modDom_sbHold (d : Nat) (f : Dom → Dom) : (s.modDom d f).sbHold = s.sbHold := rfl
@[simp] theorem State.modDom_keyArr (d : Nat) (f : Dom → Dom) : (s.modDom d f).keyArr = s.keyArr := rfl
@[simp] theorem State.modDom_dbgArr (d : Nat) (f : Dom → Dom) : (s.modDom d f).dbgArr = s.dbgArr := rfl
@[simp] theorem State.modDom_testPins (d : Nat) (f : Dom → Dom) : (s.modDom d f).testPins = s.testPins := rfl
@[simp] theorem State.modDom_staged (d : Nat) (f : Dom → Dom) : (s.modDom d f).staged = s.staged := rfl
@[simp] theorem State.modDom_keyWrite (d : Nat) (f : Dom → Dom) : (s.modDom d f).keyWrite = s.keyWrite := rfl
@[simp] theorem State.modDom_cache (d : Nat) (f : Dom → Dom) : (s.modDom d f).cache = s.cache := rfl
@[simp] theorem State.modDom_ram (d : Nat) (f : Dom → Dom) : (s.modDom d f).ram = s.ram := rfl
@[simp] theorem State.modDom_remaskAt (d : Nat) (f : Dom → Dom) : (s.modDom d f).remaskAt = s.remaskAt := rfl
@[simp] theorem State.modDom_rngAt (d : Nat) (f : Dom → Dom) : (s.modDom d f).rngAt = s.rngAt := rfl
@[simp] theorem State.modDom_challenges (d : Nat) (f : Dom → Dom) : (s.modDom d f).challenges = s.challenges := rfl
@[simp] theorem State.modDom_imm (d : Nat) (f : Dom → Dom) : (s.modDom d f).imm = s.imm := rfl
@[simp] theorem State.modDom_flash (d : Nat) (f : Dom → Dom) : (s.modDom d f).flash = s.flash := rfl
@[simp] theorem State.modDom_erases (d : Nat) (f : Dom → Dom) : (s.modDom d f).erases = s.erases := rfl
@[simp] theorem State.modDom_cfgNow (d : Nat) (f : Dom → Dom) : (s.modDom d f).cfgNow = s.cfgNow := rfl
@[simp] theorem State.modDom_fwLock (d : Nat) (f : Dom → Dom) : (s.modDom d f).fwLock = s.fwLock := rfl
@[simp] theorem State.modDom_cfgLock (d : Nat) (f : Dom → Dom) : (s.modDom d f).cfgLock = s.cfgLock := rfl
@[simp] theorem State.modDom_runTicks (d : Nat) (f : Dom → Dom) : (s.modDom d f).runTicks = s.runTicks := rfl
@[simp] theorem State.modDom_uds (d : Nat) (f : Dom → Dom) : (s.modDom d f).uds = s.uds := rfl
@[simp] theorem State.modDom_axes (d : Nat) (f : Dom → Dom) : (s.modDom d f).axes = s.axes := rfl
@[simp] theorem State.modDom_timeHi (d : Nat) (f : Dom → Dom) : (s.modDom d f).timeHi = s.timeHi := rfl
@[simp] theorem State.modDom_alignCount (d : Nat) (f : Dom → Dom) : (s.modDom d f).alignCount = s.alignCount := rfl
@[simp] theorem State.modDom_alignAt (d : Nat) (f : Dom → Dom) : (s.modDom d f).alignAt = s.alignAt := rfl
@[simp] theorem State.modDom_stepDue (d : Nat) (f : Dom → Dom) : (s.modDom d f).stepDue = s.stepDue := rfl
@[simp] theorem State.modDom_rateFrac (d : Nat) (f : Dom → Dom) : (s.modDom d f).rateFrac = s.rateFrac := rfl
@[simp] theorem State.modDom_slots (d : Nat) (f : Dom → Dom) : (s.modDom d f).slots = s.slots := rfl
@[simp] theorem State.modDom_dueQ (d : Nat) (f : Dom → Dom) : (s.modDom d f).dueQ = s.dueQ := rfl
@[simp] theorem State.modDom_acts (d : Nat) (f : Dom → Dom) : (s.modDom d f).acts = s.acts := rfl
@[simp] theorem State.modDom_crossings (d : Nat) (f : Dom → Dom) : (s.modDom d f).crossings = s.crossings := rfl
@[simp] theorem State.modDom_tickAt (d : Nat) (f : Dom → Dom) : (s.modDom d f).tickAt = s.tickAt := rfl
@[simp] theorem State.modDom_fireTimes (d : Nat) (f : Dom → Dom) : (s.modDom d f).fireTimes = s.fireTimes := rfl
@[simp] theorem State.modDom_leadRuns (d : Nat) (f : Dom → Dom) : (s.modDom d f).leadRuns = s.leadRuns := rfl
@[simp] theorem State.modDom_later (d : Nat) (f : Dom → Dom) : (s.modDom d f).later = s.later := rfl

/-! ### setOwner -/

@[simp] theorem State.setOwner_pending (kind idx : Nat) (o : Option Nat) : (s.setOwner kind idx o).pending = s.pending := rfl
@[simp] theorem State.setOwner_now (kind idx : Nat) (o : Option Nat) : (s.setOwner kind idx o).now = s.now := rfl
@[simp] theorem State.setOwner_otp (kind idx : Nat) (o : Option Nat) : (s.setOwner kind idx o).otp = s.otp := rfl
@[simp] theorem State.setOwner_devTime (kind idx : Nat) (o : Option Nat) : (s.setOwner kind idx o).devTime = s.devTime := rfl
@[simp] theorem State.setOwner_regs (kind idx : Nat) (o : Option Nat) : (s.setOwner kind idx o).regs = s.regs := rfl
@[simp] theorem State.setOwner_freeCount (kind idx : Nat) (o : Option Nat) : (s.setOwner kind idx o).freeCount = s.freeCount := rfl
@[simp] theorem State.setOwner_nextId (kind idx : Nat) (o : Option Nat) : (s.setOwner kind idx o).nextId = s.nextId := rfl
@[simp] theorem State.setOwner_issuing (kind idx : Nat) (o : Option Nat) : (s.setOwner kind idx o).issuing = s.issuing := rfl
@[simp] theorem State.setOwner_turnHc (kind idx : Nat) (o : Option Nat) : (s.setOwner kind idx o).turnHc = s.turnHc := rfl
@[simp] theorem State.setOwner_hcs (kind idx : Nat) (o : Option Nat) : (s.setOwner kind idx o).hcs = s.hcs := rfl
@[simp] theorem State.setOwner_jobs (kind idx : Nat) (o : Option Nat) : (s.setOwner kind idx o).jobs = s.jobs := rfl
@[simp] theorem State.setOwner_portCells (kind idx : Nat) (o : Option Nat) : (s.setOwner kind idx o).portCells = s.portCells := rfl
@[simp] theorem State.setOwner_backlog (kind idx : Nat) (o : Option Nat) : (s.setOwner kind idx o).backlog = s.backlog := rfl
@[simp] theorem State.setOwner_lostFor (kind idx : Nat) (o : Option Nat) : (s.setOwner kind idx o).lostFor = s.lostFor := rfl
@[simp] theorem State.setOwner_sent (kind idx : Nat) (o : Option Nat) : (s.setOwner kind idx o).sent = s.sent := rfl
@[simp] theorem State.setOwner_sdo (kind idx : Nat) (o : Option Nat) : (s.setOwner kind idx o).sdo = s.sdo := rfl
@[simp] theorem State.setOwner_crce (kind idx : Nat) (o : Option Nat) : (s.setOwner kind idx o).crce = s.crce := rfl
@[simp] theorem State.setOwner_rdy (kind idx : Nat) (o : Option Nat) : (s.setOwner kind idx o).rdy = s.rdy := rfl
@[simp] theorem State.setOwner_aonIrq (kind idx : Nat) (o : Option Nat) : (s.setOwner kind idx o).aonIrq = s.aonIrq := rfl
@[simp] theorem State.setOwner_vsup (kind idx : Nat) (o : Option Nat) : (s.setOwner kind idx o).vsup = s.vsup := rfl
@[simp] theorem State.setOwner_powerLost (kind idx : Nat) (o : Option Nat) : (s.setOwner kind idx o).powerLost = s.powerLost := rfl
@[simp] theorem State.setOwner_uvMask (kind idx : Nat) (o : Option Nat) : (s.setOwner kind idx o).uvMask = s.uvMask := rfl
@[simp] theorem State.setOwner_degMask (kind idx : Nat) (o : Option Nat) : (s.setOwner kind idx o).degMask = s.degMask := rfl
@[simp] theorem State.setOwner_olFrom (kind idx : Nat) (o : Option Nat) : (s.setOwner kind idx o).olFrom = s.olFrom := rfl
@[simp] theorem State.setOwner_vioOk (kind idx : Nat) (o : Option Nat) : (s.setOwner kind idx o).vioOk = s.vioOk := rfl
@[simp] theorem State.setOwner_t0 (kind idx : Nat) (o : Option Nat) : (s.setOwner kind idx o).t0 = s.t0 := rfl
@[simp] theorem State.setOwner_sysUp (kind idx : Nat) (o : Option Nat) : (s.setOwner kind idx o).sysUp = s.sysUp := rfl
@[simp] theorem State.setOwner_serving (kind idx : Nat) (o : Option Nat) : (s.setOwner kind idx o).serving = s.serving := rfl
@[simp] theorem State.setOwner_rstLow (kind idx : Nat) (o : Option Nat) : (s.setOwner kind idx o).rstLow = s.rstLow := rfl
@[simp] theorem State.setOwner_sysStartTimes (kind idx : Nat) (o : Option Nat) : (s.setOwner kind idx o).sysStartTimes = s.sysStartTimes := rfl
@[simp] theorem State.setOwner_devResetAt (kind idx : Nat) (o : Option Nat) : (s.setOwner kind idx o).devResetAt = s.devResetAt := rfl
@[simp] theorem State.setOwner_coastAt (kind idx : Nat) (o : Option Nat) : (s.setOwner kind idx o).coastAt = s.coastAt := rfl
@[simp] theorem State.setOwner_coastTime (kind idx : Nat) (o : Option Nat) : (s.setOwner kind idx o).coastTime = s.coastTime := rfl
@[simp] theorem State.setOwner_lhLevel (kind idx : Nat) (o : Option Nat) : (s.setOwner kind idx o).lhLevel = s.lhLevel := rfl
@[simp] theorem State.setOwner_chans (kind idx : Nat) (o : Option Nat) : (s.setOwner kind idx o).chans = s.chans := rfl
@[simp] theorem State.setOwner_bridges (kind idx : Nat) (o : Option Nat) : (s.setOwner kind idx o).bridges = s.bridges := rfl
@[simp] theorem State.setOwner_banks (kind idx : Nat) (o : Option Nat) : (s.setOwner kind idx o).banks = s.banks := rfl
@[simp] theorem State.setOwner_line (kind idx : Nat) (o : Option Nat) : (s.setOwner kind idx o).line = s.line := rfl
@[simp] theorem State.setOwner_grants (kind idx : Nat) (o : Option Nat) : (s.setOwner kind idx o).grants = s.grants := rfl
@[simp] theorem State.setOwner_gov (kind idx : Nat) (o : Option Nat) : (s.setOwner kind idx o).gov = s.gov := rfl
@[simp] theorem State.setOwner_govPend (kind idx : Nat) (o : Option Nat) : (s.setOwner kind idx o).govPend = s.govPend := rfl
@[simp] theorem State.setOwner_ports (kind idx : Nat) (o : Option Nat) : (s.setOwner kind idx o).ports = s.ports := rfl
@[simp] theorem State.setOwner_pairs (kind idx : Nat) (o : Option Nat) : (s.setOwner kind idx o).pairs = s.pairs := rfl
@[simp] theorem State.setOwner_pairSel (kind idx : Nat) (o : Option Nat) : (s.setOwner kind idx o).pairSel = s.pairSel := rfl
@[simp] theorem State.setOwner_flows (kind idx : Nat) (o : Option Nat) : (s.setOwner kind idx o).flows = s.flows := rfl
@[simp] theorem State.setOwner_fullTold (kind idx : Nat) (o : Option Nat) : (s.setOwner kind idx o).fullTold = s.fullTold := rfl
@[simp] theorem State.setOwner_fwd (kind idx : Nat) (o : Option Nat) : (s.setOwner kind idx o).fwd = s.fwd := rfl
@[simp] theorem State.setOwner_netPorts (kind idx : Nat) (o : Option Nat) : (s.setOwner kind idx o).netPorts = s.netPorts := rfl
@[simp] theorem State.setOwner_slowWin (kind idx : Nat) (o : Option Nat) : (s.setOwner kind idx o).slowWin = s.slowWin := rfl
@[simp] theorem State.setOwner_slowQ (kind idx : Nat) (o : Option Nat) : (s.setOwner kind idx o).slowQ = s.slowQ := rfl
@[simp] theorem State.setOwner_asGood (kind idx : Nat) (o : Option Nat) : (s.setOwner kind idx o).asGood = s.asGood := rfl
@[simp] theorem State.setOwner_asAt (kind idx : Nat) (o : Option Nat) : (s.setOwner kind idx o).asAt = s.asAt := rfl
@[simp] theorem State.setOwner_asHi (kind idx : Nat) (o : Option Nat) : (s.setOwner kind idx o).asHi = s.asHi := rfl
@[simp] theorem State.setOwner_fullAt (kind idx : Nat) (o : Option Nat) : (s.setOwner kind idx o).fullAt = s.fullAt := rfl
@[simp] theorem State.setOwner_log (kind idx : Nat) (o : Option Nat) : (s.setOwner kind idx o).log = s.log := rfl
@[simp] theorem State.setOwner_inbox (kind idx : Nat) (o : Option Nat) : (s.setOwner kind idx o).inbox = s.inbox := rfl
@[simp] theorem State.setOwner_summaryFlash (kind idx : Nat) (o : Option Nat) : (s.setOwner kind idx o).summaryFlash = s.summaryFlash := rfl
@[simp] theorem State.setOwner_summaryAt (kind idx : Nat) (o : Option Nat) : (s.setOwner kind idx o).summaryAt = s.summaryAt := rfl
@[simp] theorem State.setOwner_summaryLoaded (kind idx : Nat) (o : Option Nat) : (s.setOwner kind idx o).summaryLoaded = s.summaryLoaded := rfl
@[simp] theorem State.setOwner_fqTold (kind idx : Nat) (o : Option Nat) : (s.setOwner kind idx o).fqTold = s.fqTold := rfl
@[simp] theorem State.setOwner_fiDeb (kind idx : Nat) (o : Option Nat) : (s.setOwner kind idx o).fiDeb = s.fiDeb := rfl
@[simp] theorem State.setOwner_doms (kind idx : Nat) (o : Option Nat) : (s.setOwner kind idx o).doms = s.doms := rfl
@[simp] theorem State.setOwner_wakeTimer (kind idx : Nat) (o : Option Nat) : (s.setOwner kind idx o).wakeTimer = s.wakeTimer := rfl
@[simp] theorem State.setOwner_wkLevel (kind idx : Nat) (o : Option Nat) : (s.setOwner kind idx o).wkLevel = s.wkLevel := rfl
@[simp] theorem State.setOwner_hibAt (kind idx : Nat) (o : Option Nat) : (s.setOwner kind idx o).hibAt = s.hibAt := rfl
@[simp] theorem State.setOwner_sbPtr (kind idx : Nat) (o : Option Nat) : (s.setOwner kind idx o).sbPtr = s.sbPtr := rfl
@[simp] theorem State.setOwner_sbOut (kind idx : Nat) (o : Option Nat) : (s.setOwner kind idx o).sbOut = s.sbOut := rfl
@[simp] theorem State.setOwner_sysReturn (kind idx : Nat) (o : Option Nat) : (s.setOwner kind idx o).sysReturn = s.sysReturn := rfl
@[simp] theorem State.setOwner_sysAgain (kind idx : Nat) (o : Option Nat) : (s.setOwner kind idx o).sysAgain = s.sysAgain := rfl
@[simp] theorem State.setOwner_sbHold (kind idx : Nat) (o : Option Nat) : (s.setOwner kind idx o).sbHold = s.sbHold := rfl
@[simp] theorem State.setOwner_keyArr (kind idx : Nat) (o : Option Nat) : (s.setOwner kind idx o).keyArr = s.keyArr := rfl
@[simp] theorem State.setOwner_dbgArr (kind idx : Nat) (o : Option Nat) : (s.setOwner kind idx o).dbgArr = s.dbgArr := rfl
@[simp] theorem State.setOwner_testPins (kind idx : Nat) (o : Option Nat) : (s.setOwner kind idx o).testPins = s.testPins := rfl
@[simp] theorem State.setOwner_staged (kind idx : Nat) (o : Option Nat) : (s.setOwner kind idx o).staged = s.staged := rfl
@[simp] theorem State.setOwner_keyWrite (kind idx : Nat) (o : Option Nat) : (s.setOwner kind idx o).keyWrite = s.keyWrite := rfl
@[simp] theorem State.setOwner_cache (kind idx : Nat) (o : Option Nat) : (s.setOwner kind idx o).cache = s.cache := rfl
@[simp] theorem State.setOwner_ram (kind idx : Nat) (o : Option Nat) : (s.setOwner kind idx o).ram = s.ram := rfl
@[simp] theorem State.setOwner_remaskAt (kind idx : Nat) (o : Option Nat) : (s.setOwner kind idx o).remaskAt = s.remaskAt := rfl
@[simp] theorem State.setOwner_rngAt (kind idx : Nat) (o : Option Nat) : (s.setOwner kind idx o).rngAt = s.rngAt := rfl
@[simp] theorem State.setOwner_challenges (kind idx : Nat) (o : Option Nat) : (s.setOwner kind idx o).challenges = s.challenges := rfl
@[simp] theorem State.setOwner_imm (kind idx : Nat) (o : Option Nat) : (s.setOwner kind idx o).imm = s.imm := rfl
@[simp] theorem State.setOwner_flash (kind idx : Nat) (o : Option Nat) : (s.setOwner kind idx o).flash = s.flash := rfl
@[simp] theorem State.setOwner_erases (kind idx : Nat) (o : Option Nat) : (s.setOwner kind idx o).erases = s.erases := rfl
@[simp] theorem State.setOwner_cfgNow (kind idx : Nat) (o : Option Nat) : (s.setOwner kind idx o).cfgNow = s.cfgNow := rfl
@[simp] theorem State.setOwner_fwLock (kind idx : Nat) (o : Option Nat) : (s.setOwner kind idx o).fwLock = s.fwLock := rfl
@[simp] theorem State.setOwner_cfgLock (kind idx : Nat) (o : Option Nat) : (s.setOwner kind idx o).cfgLock = s.cfgLock := rfl
@[simp] theorem State.setOwner_runTicks (kind idx : Nat) (o : Option Nat) : (s.setOwner kind idx o).runTicks = s.runTicks := rfl
@[simp] theorem State.setOwner_uds (kind idx : Nat) (o : Option Nat) : (s.setOwner kind idx o).uds = s.uds := rfl
@[simp] theorem State.setOwner_axes (kind idx : Nat) (o : Option Nat) : (s.setOwner kind idx o).axes = s.axes := rfl
@[simp] theorem State.setOwner_timeHi (kind idx : Nat) (o : Option Nat) : (s.setOwner kind idx o).timeHi = s.timeHi := rfl
@[simp] theorem State.setOwner_alignCount (kind idx : Nat) (o : Option Nat) : (s.setOwner kind idx o).alignCount = s.alignCount := rfl
@[simp] theorem State.setOwner_alignAt (kind idx : Nat) (o : Option Nat) : (s.setOwner kind idx o).alignAt = s.alignAt := rfl
@[simp] theorem State.setOwner_stepDue (kind idx : Nat) (o : Option Nat) : (s.setOwner kind idx o).stepDue = s.stepDue := rfl
@[simp] theorem State.setOwner_rateFrac (kind idx : Nat) (o : Option Nat) : (s.setOwner kind idx o).rateFrac = s.rateFrac := rfl
@[simp] theorem State.setOwner_slots (kind idx : Nat) (o : Option Nat) : (s.setOwner kind idx o).slots = s.slots := rfl
@[simp] theorem State.setOwner_dueQ (kind idx : Nat) (o : Option Nat) : (s.setOwner kind idx o).dueQ = s.dueQ := rfl
@[simp] theorem State.setOwner_acts (kind idx : Nat) (o : Option Nat) : (s.setOwner kind idx o).acts = s.acts := rfl
@[simp] theorem State.setOwner_crossings (kind idx : Nat) (o : Option Nat) : (s.setOwner kind idx o).crossings = s.crossings := rfl
@[simp] theorem State.setOwner_tickAt (kind idx : Nat) (o : Option Nat) : (s.setOwner kind idx o).tickAt = s.tickAt := rfl
@[simp] theorem State.setOwner_fireTimes (kind idx : Nat) (o : Option Nat) : (s.setOwner kind idx o).fireTimes = s.fireTimes := rfl
@[simp] theorem State.setOwner_leadRuns (kind idx : Nat) (o : Option Nat) : (s.setOwner kind idx o).leadRuns = s.leadRuns := rfl
@[simp] theorem State.setOwner_later (kind idx : Nat) (o : Option Nat) : (s.setOwner kind idx o).later = s.later := rfl

/-! ### emit -/

@[simp] theorem State.emit_pending (x : Sent) : (s.emit x).pending = s.pending := rfl
@[simp] theorem State.emit_now (x : Sent) : (s.emit x).now = s.now := rfl
@[simp] theorem State.emit_otp (x : Sent) : (s.emit x).otp = s.otp := rfl
@[simp] theorem State.emit_devTime (x : Sent) : (s.emit x).devTime = s.devTime := rfl
@[simp] theorem State.emit_regs (x : Sent) : (s.emit x).regs = s.regs := rfl
@[simp] theorem State.emit_freeCount (x : Sent) : (s.emit x).freeCount = s.freeCount := rfl
@[simp] theorem State.emit_nextId (x : Sent) : (s.emit x).nextId = s.nextId := rfl
@[simp] theorem State.emit_issuing (x : Sent) : (s.emit x).issuing = s.issuing := rfl
@[simp] theorem State.emit_turnHc (x : Sent) : (s.emit x).turnHc = s.turnHc := rfl
@[simp] theorem State.emit_hcs (x : Sent) : (s.emit x).hcs = s.hcs := rfl
@[simp] theorem State.emit_owners (x : Sent) : (s.emit x).owners = s.owners := rfl
@[simp] theorem State.emit_jobs (x : Sent) : (s.emit x).jobs = s.jobs := rfl
@[simp] theorem State.emit_portCells (x : Sent) : (s.emit x).portCells = s.portCells := rfl
@[simp] theorem State.emit_backlog (x : Sent) : (s.emit x).backlog = s.backlog := rfl
@[simp] theorem State.emit_lostFor (x : Sent) : (s.emit x).lostFor = s.lostFor := rfl
@[simp] theorem State.emit_sdo (x : Sent) : (s.emit x).sdo = s.sdo := rfl
@[simp] theorem State.emit_crce (x : Sent) : (s.emit x).crce = s.crce := rfl
@[simp] theorem State.emit_rdy (x : Sent) : (s.emit x).rdy = s.rdy := rfl
@[simp] theorem State.emit_aonIrq (x : Sent) : (s.emit x).aonIrq = s.aonIrq := rfl
@[simp] theorem State.emit_vsup (x : Sent) : (s.emit x).vsup = s.vsup := rfl
@[simp] theorem State.emit_powerLost (x : Sent) : (s.emit x).powerLost = s.powerLost := rfl
@[simp] theorem State.emit_uvMask (x : Sent) : (s.emit x).uvMask = s.uvMask := rfl
@[simp] theorem State.emit_degMask (x : Sent) : (s.emit x).degMask = s.degMask := rfl
@[simp] theorem State.emit_olFrom (x : Sent) : (s.emit x).olFrom = s.olFrom := rfl
@[simp] theorem State.emit_vioOk (x : Sent) : (s.emit x).vioOk = s.vioOk := rfl
@[simp] theorem State.emit_t0 (x : Sent) : (s.emit x).t0 = s.t0 := rfl
@[simp] theorem State.emit_sysUp (x : Sent) : (s.emit x).sysUp = s.sysUp := rfl
@[simp] theorem State.emit_serving (x : Sent) : (s.emit x).serving = s.serving := rfl
@[simp] theorem State.emit_rstLow (x : Sent) : (s.emit x).rstLow = s.rstLow := rfl
@[simp] theorem State.emit_sysStartTimes (x : Sent) : (s.emit x).sysStartTimes = s.sysStartTimes := rfl
@[simp] theorem State.emit_devResetAt (x : Sent) : (s.emit x).devResetAt = s.devResetAt := rfl
@[simp] theorem State.emit_coastAt (x : Sent) : (s.emit x).coastAt = s.coastAt := rfl
@[simp] theorem State.emit_coastTime (x : Sent) : (s.emit x).coastTime = s.coastTime := rfl
@[simp] theorem State.emit_lhLevel (x : Sent) : (s.emit x).lhLevel = s.lhLevel := rfl
@[simp] theorem State.emit_chans (x : Sent) : (s.emit x).chans = s.chans := rfl
@[simp] theorem State.emit_bridges (x : Sent) : (s.emit x).bridges = s.bridges := rfl
@[simp] theorem State.emit_banks (x : Sent) : (s.emit x).banks = s.banks := rfl
@[simp] theorem State.emit_line (x : Sent) : (s.emit x).line = s.line := rfl
@[simp] theorem State.emit_grants (x : Sent) : (s.emit x).grants = s.grants := rfl
@[simp] theorem State.emit_gov (x : Sent) : (s.emit x).gov = s.gov := rfl
@[simp] theorem State.emit_govPend (x : Sent) : (s.emit x).govPend = s.govPend := rfl
@[simp] theorem State.emit_ports (x : Sent) : (s.emit x).ports = s.ports := rfl
@[simp] theorem State.emit_pairs (x : Sent) : (s.emit x).pairs = s.pairs := rfl
@[simp] theorem State.emit_pairSel (x : Sent) : (s.emit x).pairSel = s.pairSel := rfl
@[simp] theorem State.emit_flows (x : Sent) : (s.emit x).flows = s.flows := rfl
@[simp] theorem State.emit_fullTold (x : Sent) : (s.emit x).fullTold = s.fullTold := rfl
@[simp] theorem State.emit_fwd (x : Sent) : (s.emit x).fwd = s.fwd := rfl
@[simp] theorem State.emit_netPorts (x : Sent) : (s.emit x).netPorts = s.netPorts := rfl
@[simp] theorem State.emit_slowWin (x : Sent) : (s.emit x).slowWin = s.slowWin := rfl
@[simp] theorem State.emit_slowQ (x : Sent) : (s.emit x).slowQ = s.slowQ := rfl
@[simp] theorem State.emit_asGood (x : Sent) : (s.emit x).asGood = s.asGood := rfl
@[simp] theorem State.emit_asAt (x : Sent) : (s.emit x).asAt = s.asAt := rfl
@[simp] theorem State.emit_asHi (x : Sent) : (s.emit x).asHi = s.asHi := rfl
@[simp] theorem State.emit_fullAt (x : Sent) : (s.emit x).fullAt = s.fullAt := rfl
@[simp] theorem State.emit_log (x : Sent) : (s.emit x).log = s.log := rfl
@[simp] theorem State.emit_inbox (x : Sent) : (s.emit x).inbox = s.inbox := rfl
@[simp] theorem State.emit_summaryFlash (x : Sent) : (s.emit x).summaryFlash = s.summaryFlash := rfl
@[simp] theorem State.emit_summaryAt (x : Sent) : (s.emit x).summaryAt = s.summaryAt := rfl
@[simp] theorem State.emit_summaryLoaded (x : Sent) : (s.emit x).summaryLoaded = s.summaryLoaded := rfl
@[simp] theorem State.emit_fqTold (x : Sent) : (s.emit x).fqTold = s.fqTold := rfl
@[simp] theorem State.emit_fiDeb (x : Sent) : (s.emit x).fiDeb = s.fiDeb := rfl
@[simp] theorem State.emit_doms (x : Sent) : (s.emit x).doms = s.doms := rfl
@[simp] theorem State.emit_wakeTimer (x : Sent) : (s.emit x).wakeTimer = s.wakeTimer := rfl
@[simp] theorem State.emit_wkLevel (x : Sent) : (s.emit x).wkLevel = s.wkLevel := rfl
@[simp] theorem State.emit_hibAt (x : Sent) : (s.emit x).hibAt = s.hibAt := rfl
@[simp] theorem State.emit_sbPtr (x : Sent) : (s.emit x).sbPtr = s.sbPtr := rfl
@[simp] theorem State.emit_sbOut (x : Sent) : (s.emit x).sbOut = s.sbOut := rfl
@[simp] theorem State.emit_sysReturn (x : Sent) : (s.emit x).sysReturn = s.sysReturn := rfl
@[simp] theorem State.emit_sysAgain (x : Sent) : (s.emit x).sysAgain = s.sysAgain := rfl
@[simp] theorem State.emit_sbHold (x : Sent) : (s.emit x).sbHold = s.sbHold := rfl
@[simp] theorem State.emit_keyArr (x : Sent) : (s.emit x).keyArr = s.keyArr := rfl
@[simp] theorem State.emit_dbgArr (x : Sent) : (s.emit x).dbgArr = s.dbgArr := rfl
@[simp] theorem State.emit_testPins (x : Sent) : (s.emit x).testPins = s.testPins := rfl
@[simp] theorem State.emit_staged (x : Sent) : (s.emit x).staged = s.staged := rfl
@[simp] theorem State.emit_keyWrite (x : Sent) : (s.emit x).keyWrite = s.keyWrite := rfl
@[simp] theorem State.emit_cache (x : Sent) : (s.emit x).cache = s.cache := rfl
@[simp] theorem State.emit_ram (x : Sent) : (s.emit x).ram = s.ram := rfl
@[simp] theorem State.emit_remaskAt (x : Sent) : (s.emit x).remaskAt = s.remaskAt := rfl
@[simp] theorem State.emit_rngAt (x : Sent) : (s.emit x).rngAt = s.rngAt := rfl
@[simp] theorem State.emit_challenges (x : Sent) : (s.emit x).challenges = s.challenges := rfl
@[simp] theorem State.emit_imm (x : Sent) : (s.emit x).imm = s.imm := rfl
@[simp] theorem State.emit_flash (x : Sent) : (s.emit x).flash = s.flash := rfl
@[simp] theorem State.emit_erases (x : Sent) : (s.emit x).erases = s.erases := rfl
@[simp] theorem State.emit_cfgNow (x : Sent) : (s.emit x).cfgNow = s.cfgNow := rfl
@[simp] theorem State.emit_fwLock (x : Sent) : (s.emit x).fwLock = s.fwLock := rfl
@[simp] theorem State.emit_cfgLock (x : Sent) : (s.emit x).cfgLock = s.cfgLock := rfl
@[simp] theorem State.emit_runTicks (x : Sent) : (s.emit x).runTicks = s.runTicks := rfl
@[simp] theorem State.emit_uds (x : Sent) : (s.emit x).uds = s.uds := rfl
@[simp] theorem State.emit_axes (x : Sent) : (s.emit x).axes = s.axes := rfl
@[simp] theorem State.emit_timeHi (x : Sent) : (s.emit x).timeHi = s.timeHi := rfl
@[simp] theorem State.emit_alignCount (x : Sent) : (s.emit x).alignCount = s.alignCount := rfl
@[simp] theorem State.emit_alignAt (x : Sent) : (s.emit x).alignAt = s.alignAt := rfl
@[simp] theorem State.emit_stepDue (x : Sent) : (s.emit x).stepDue = s.stepDue := rfl
@[simp] theorem State.emit_rateFrac (x : Sent) : (s.emit x).rateFrac = s.rateFrac := rfl
@[simp] theorem State.emit_slots (x : Sent) : (s.emit x).slots = s.slots := rfl
@[simp] theorem State.emit_dueQ (x : Sent) : (s.emit x).dueQ = s.dueQ := rfl
@[simp] theorem State.emit_acts (x : Sent) : (s.emit x).acts = s.acts := rfl
@[simp] theorem State.emit_crossings (x : Sent) : (s.emit x).crossings = s.crossings := rfl
@[simp] theorem State.emit_tickAt (x : Sent) : (s.emit x).tickAt = s.tickAt := rfl
@[simp] theorem State.emit_fireTimes (x : Sent) : (s.emit x).fireTimes = s.fireTimes := rfl
@[simp] theorem State.emit_leadRuns (x : Sent) : (s.emit x).leadRuns = s.leadRuns := rfl
@[simp] theorem State.emit_later (x : Sent) : (s.emit x).later = s.later := rfl

end Sys2Proof.Machine
end

