-- ==== Sys2Proof/Laws/Fields.lean ====
section
/-! SUPPORT. Register words and their fields: a field reads back what was put into it, and every other field reads as before. -/

namespace Sys2Proof

theorem bits_testBit (n hi lo i : Nat) : (bits n hi lo).testBit i = (decide (i < hi + 1 - lo) && n.testBit (lo + i)) := by
  rw [bits, Nat.testBit_mod_two_pow, Nat.testBit_div_two_pow, Nat.add_comm i lo]

/-- The three parts of a number at a field. -/
theorem split_at_field (n hi lo : Nat) (h : lo ≤ hi + 1) :
    n = 2 ^ lo * (2 ^ (hi + 1 - lo) * (n / 2 ^ (hi + 1)) + bits n hi lo) + n % 2 ^ lo := by
  have h1 := Nat.div_add_mod n (2 ^ lo)
  have h2 := Nat.div_add_mod (n / 2 ^ lo) (2 ^ (hi + 1 - lo))
  rw [Nat.div_div_eq_div_mul, ← Nat.pow_add, show lo + (hi + 1 - lo) = hi + 1 by omega] at h2
  rw [bits, h2, h1]

theorem setBits_eq (n hi lo v : Nat) (h : lo ≤ hi + 1) :
    setBits n hi lo v = 2 ^ lo * (2 ^ (hi + 1 - lo) * (n / 2 ^ (hi + 1)) + v % 2 ^ (hi + 1 - lo)) + n % 2 ^ lo := by
  have hs := split_at_field n hi lo h
  rw [Nat.mul_add, Nat.mul_comm (2 ^ lo) (bits n hi lo)] at hs
  rw [setBits, Nat.mul_add, Nat.mul_comm (2 ^ lo) (v % _)]
  generalize 2 ^ lo * (2 ^ (hi + 1 - lo) * (n / 2 ^ (hi + 1))) = a at *
  generalize bits n hi lo * 2 ^ lo = b at *
  generalize v % 2 ^ (hi + 1 - lo) * 2 ^ lo = c at *
  omega

theorem setBits_testBit (n hi lo v i : Nat) (h : lo ≤ hi + 1) :
    (setBits n hi lo v).testBit i = if lo ≤ i ∧ i ≤ hi then v.testBit (i - lo) else n.testBit i := by
  rw [setBits_eq n hi lo v h, Nat.testBit_two_pow_mul_add _ (Nat.mod_lt _ (Nat.two_pow_pos lo))]
  split
  · rw [if_neg (by omega), Nat.testBit_mod_two_pow]; simp [*]
  · rw [Nat.testBit_two_pow_mul_add _ (Nat.mod_lt _ (Nat.two_pow_pos _))]
    split
    · rw [if_pos (by omega), Nat.testBit_mod_two_pow]; simp [*]
    · rw [if_neg (by omega), Nat.testBit_div_two_pow]; congr 1; omega

theorem bits_setBits_self (n hi lo v : Nat) (h : lo ≤ hi + 1) : bits (setBits n hi lo v) hi lo = v % 2 ^ (hi + 1 - lo) := by
  apply Nat.eq_of_testBit_eq
  intro i
  rw [bits_testBit, setBits_testBit _ _ _ _ _ h, Nat.testBit_mod_two_pow]
  by_cases hi' : i < hi + 1 - lo
  · rw [if_pos (by omega)]; simp [hi']
  · simp [hi']

theorem bits_setBits_of_disjoint (n hi lo v hi' lo' : Nat) (h : lo ≤ hi + 1) (hd : hi < lo' ∨ hi' < lo) :
    bits (setBits n hi lo v) hi' lo' = bits n hi' lo' := by
  apply Nat.eq_of_testBit_eq
  intro i
  rw [bits_testBit, bits_testBit, setBits_testBit _ _ _ _ _ h]
  by_cases hi' : i < hi' + 1 - lo'
  · rw [if_neg (by omega)]
  · simp [hi']

theorem setBits_lt (n hi lo v : Nat) (h : lo ≤ hi + 1) (hn : n < 2 ^ 32) (hhi : hi ≤ 31) : setBits n hi lo v < 2 ^ 32 := by
  apply Nat.lt_pow_two_of_testBit
  intro i hi'
  rw [setBits_testBit _ _ _ _ _ h, if_neg (by omega)]
  exact Nat.testBit_lt_two_pow (Nat.lt_of_lt_of_le hn (Nat.pow_le_pow_right (by decide) hi'))

@[simp] theorem word_toNat (n : Nat) : (word n).toNat = n % 2 ^ 32 := by simp [word]

namespace Machine

/-- A field inside a 32-bit word. -/
def FldOk (f : Fld) : Prop := f.lo ≤ f.hi + 1 ∧ f.hi ≤ 31

@[simp] theorem State.rd_wr_self (s : State) (a : Nat) (w : Word) : (s.wr a w).rd a = w := Sparse.get_set_self

theorem State.rd_wr_ne (s : State) {a b : Nat} (w : Word) (h : b ≠ a) : (s.wr a w).rd b = s.rd b := Sparse.get_set_ne h

theorem State.rd_put_ne (s : State) (f : Fld) (v : Nat) {b : Nat} (h : b ≠ f.addr) : (s.put f v).rd b = s.rd b := s.rd_wr_ne _ h

theorem State.get_put_self (s : State) (f : Fld) (v : Nat) (h : f.lo ≤ f.hi + 1) (h31 : f.hi ≤ 31) :
    (s.put f v).get f = v % 2 ^ (f.hi + 1 - f.lo) := by
  rw [State.get, State.put, State.rd_wr_self, word_toNat, Nat.mod_eq_of_lt (setBits_lt _ _ _ _ h (s.rd f.addr).isLt h31),
    bits_setBits_self _ _ _ _ h]

theorem State.get_put_ne (s : State) {f g : Fld} (v : Nat) (h : g.addr ≠ f.addr) : (s.put f v).get g = s.get g := by
  rw [State.get, State.get, s.rd_put_ne f v h]

theorem State.get_put_disjoint (s : State) (f g : Fld) (v : Nat) (ha : g.addr = f.addr) (h : f.lo ≤ f.hi + 1) (h31 : f.hi ≤ 31)
    (hd : f.hi < g.lo ∨ g.hi < f.lo) : (s.put f v).get g = s.get g := by
  rw [State.get, State.get, State.put, ha, State.rd_wr_self, word_toNat, Nat.mod_eq_of_lt (setBits_lt _ _ _ _ h (s.rd f.addr).isLt h31),
    bits_setBits_of_disjoint _ _ _ _ _ _ h hd]

/-- A field of one register reads as before where either the register or the bits differ. -/
theorem State.get_put_other (s : State) (f g : Fld) (v : Nat) (h : f.lo ≤ f.hi + 1) (h31 : f.hi ≤ 31)
    (hd : g.addr ≠ f.addr ∨ f.hi < g.lo ∨ g.hi < f.lo) : (s.put f v).get g = s.get g := by
  by_cases ha : g.addr = f.addr
  · exact s.get_put_disjoint f g v ha h h31 (by omega)
  · exact s.get_put_ne v ha

/-- Every write of a register keeps the register file's canonical form. -/
theorem State.wr_wf (s : State) (a : Nat) (w : Word) (h : Sparse.wf (fun b => word (regDefault b)) s.regs = true) :
    Sparse.wf (fun b => word (regDefault b)) (s.wr a w).regs = true := Sparse.wf_set _ _ h

@[simp] theorem State.hc_setHc_self (s : State) (n : Nat) (h : HostCtx) : (s.setHc n h).hc n = h := Sparse.get_set_self
theorem State.hc_setHc_ne (s : State) {m n : Nat} (h : HostCtx) (hne : m ≠ n) : (s.setHc n h).hc m = s.hc m := Sparse.get_set_ne hne
@[simp] theorem State.hc_modHc_self (s : State) (n : Nat) (f : HostCtx → HostCtx) : (s.modHc n f).hc n = f (s.hc n) := Sparse.get_set_self
theorem State.hc_modHc_ne (s : State) {m n : Nat} (f : HostCtx → HostCtx) (hne : m ≠ n) : (s.modHc n f).hc m = s.hc m := Sparse.get_set_ne hne
@[simp] theorem State.ch_modCh_self (s : State) (n : Nat) (f : Chan → Chan) : (s.modCh n f).ch n = f (s.ch n) := Sparse.get_set_self
theorem State.ch_modCh_ne (s : State) {m n : Nat} (f : Chan → Chan) (hne : m ≠ n) : (s.modCh n f).ch m = s.ch m := Sparse.get_set_ne hne
@[simp] theorem State.br_modBr_self (s : State) (n : Nat) (f : Bridge → Bridge) : (s.modBr n f).br n = f (s.br n) := Sparse.get_set_self
@[simp] theorem State.bank_modBank_self (s : State) (n : Nat) (f : Bank → Bank) : (s.modBank n f).bank n = f (s.bank n) := Sparse.get_set_self
@[simp] theorem State.grp_modGrp_self (s : State) (n : Nat) (f : GovGroup → GovGroup) : (s.modGrp n f).grp n = f (s.grp n) := Sparse.get_set_self
@[simp] theorem State.port_modPort_self (s : State) (n : Nat) (f : CanPort → CanPort) : (s.modPort n f).port n = f (s.port n) := Sparse.get_set_self
@[simp] theorem State.flow_setFlow_self (s : State) (n : Nat) (x : Option Flow) : (s.setFlow n x).flow n = x := Sparse.get_set_self
@[simp] theorem State.net_modNet_self (s : State) (n : Nat) (f : NetPort → NetPort) : (s.modNet n f).net n = f (s.net n) := Sparse.get_set_self
@[simp] theorem State.dom_modDom_self (s : State) (n : Nat) (f : Dom → Dom) : (s.modDom n f).dom n = f (s.dom n) := Sparse.get_set_self
theorem State.dom_modDom_ne (s : State) {m n : Nat} (f : Dom → Dom) (hne : m ≠ n) : (s.modDom n f).dom m = s.dom m := Sparse.get_set_ne hne
@[simp] theorem State.owner_setOwner_self (s : State) (k n : Nat) (o : Option Nat) : (s.setOwner k n o).owner k n = o := Sparse.get_set_self

end Machine

end Sys2Proof
end

