-- ==== Sys2Proof/Laws/Compl.lean ====
section
/-! SUPPORT. What writing a completion does: one record more for its context, and nothing else but what is sent. -/

namespace Sys2Proof.Machine

/-! ### Only host contexts change -/

@[simp] theorem State.modHc_noHosts (s : State) (n : Nat) (f : HostCtx → HostCtx) : (s.modHc n f).noHosts = s.noHosts := rfl
@[simp] theorem State.emit_noHosts (s : State) (x : Sent) : (s.emit x).noHosts = s.noHosts := rfl
@[simp] theorem State.fillRing_noHosts (s : State) (n : Nat) : (s.fillRing n).noHosts = s.noHosts := rfl

theorem State.foldl_noHosts {α : Type} (l : List α) (f : State → α → State) (hf : ∀ (u : State) (x : α), (f u x).noHosts = u.noHosts)
    (s : State) : (l.foldl f s).noHosts = s.noHosts := by
  induction l generalizing s with
  | nil => rfl
  | cons x l ih => rw [List.foldl_cons, ih, hf]

@[simp] theorem State.queueOut_noHosts (s : State) (n : Nat) (l : List Sent) : (s.queueOut n l).noHosts = s.noHosts := rfl

@[simp] theorem State.carry_noHosts (s : State) (n kind : Nat) (msg : List Byte) : (s.carry n kind msg).noHosts = s.noHosts := by
  unfold State.carry
  dsimp only
  split
  · rfl
  · split <;> rfl
  · split <;> rfl
  · rfl

@[simp] theorem State.sendGroups_noHosts (s : State) (n : Nat) (key : List Byte) (pc : RingItem Compl → Bool) (pe : RingItem EvRec → Bool) :
    (s.sendGroups n key pc pe).noHosts = s.noHosts := by
  unfold State.sendGroups
  rw [State.modHc_noHosts, State.foldl_noHosts]
  intro u x
  split <;> simp

@[simp] theorem State.sendNew_noHosts (s : State) (n : Nat) (key : List Byte) (all : Bool) : (s.sendNew n key all).noHosts = s.noHosts := by
  unfold State.sendNew
  split <;> simp

@[simp] theorem State.releaseClass_noHosts (s : State) (n c : Nat) : (s.releaseClass n c).noHosts = s.noHosts := by
  unfold State.releaseClass
  rw [State.sendNew_noHosts]
  split <;> simp

@[simp] theorem State.tryRelease_noHosts (s : State) (n c : Nat) : (s.tryRelease n c).noHosts = s.noHosts := by
  unfold State.tryRelease
  split
  · split <;> simp
  · rfl

@[simp] theorem State.freeClosed_noHosts (s : State) (n : Nat) : (s.freeClosed n).noHosts = s.noHosts := by
  unfold State.freeClosed
  split <;> rfl

@[simp] theorem State.pushCompl_noHosts (s : State) (h : Hdr) (c : Compl) : (s.pushCompl h c).noHosts = s.noHosts := by
  unfold State.pushCompl
  rw [State.freeClosed_noHosts]
  split <;> simp

/-- SYS is in a state to write records. -/
def State.recording (s : State) : Bool := s.sysUp && s.domOn Dm.sys

theorem State.complete_eq (s : State) (h : Hdr) (opc : Nat) (st : Byte) (r : Nat) (cont : List Word) (hs : s.recording = true) :
    s.complete h opc st r cont = s.pushCompl h (s.complOf h opc st r cont) := by
  simp only [State.recording, Bool.and_eq_true] at hs
  simp [State.complete, hs, State.complOf]

/-- A completion changes nothing but host contexts and what is sent. -/
theorem State.complete_noHosts (s : State) (h : Hdr) (opc : Nat) (st : Byte) (r : Nat) (cont : List Word) (hs : s.recording = true) :
    (s.complete h opc st r cont).noHosts = s.noHosts := by
  rw [s.complete_eq h opc st r cont hs, State.pushCompl_noHosts]

/-! ### One record more -/

/-- The completions that a host context holds, oldest first. -/
def HostCtx.answers (x : HostCtx) : List Compl := x.cring.map (fun r => r.item) ++ x.cwait ++ x.cpend.map (fun y => y.item)

theorem State.answers_def (s : State) (n : Nat) : s.answers n = (s.hc n).answers := rfl

theorem enterRing_items (now : Nat) (w : List Compl) (r : List (RingItem Compl)) (q : Half) :
    ((enterRing now w r q).2.1.map (fun x => x.item)) ++ (enterRing now w r q).1 = r.map (fun x => x.item) ++ w := by
  induction w generalizing r q with
  | nil => simp [enterRing]
  | cons c w ih =>
    unfold enterRing
    split
    · rw [ih]; simp
    · rfl

theorem State.fillRing_answers (s : State) (n m : Nat) : (s.fillRing n).answers m = s.answers m := by
  by_cases h : m = n
  · subst h
    simp only [State.answers_def, State.fillRing, State.hc_modHc_self, HostCtx.answers]
    rw [enterRing_items]
  · simp only [State.answers_def, State.fillRing, State.hc_modHc_ne _ _ h]

theorem State.modHc_answers (s : State) (n m : Nat) (f : HostCtx → HostCtx) (hf : ∀ x : HostCtx, (f x).answers = x.answers) :
    (s.modHc n f).answers m = s.answers m := by
  by_cases h : m = n
  · subst h; simp only [State.answers_def, State.hc_modHc_self, hf]
  · simp only [State.answers_def, State.hc_modHc_ne _ _ h]

theorem State.foldl_answers {α : Type} (l : List α) (f : State → α → State) (m : Nat)
    (hf : ∀ (u : State) (x : α), (f u x).answers m = u.answers m) (s : State) : (l.foldl f s).answers m = s.answers m := by
  induction l generalizing s with
  | nil => rfl
  | cons x l ih => rw [List.foldl_cons, ih, hf]

theorem State.emit_answers (s : State) (x : Sent) (m : Nat) : (s.emit x).answers m = s.answers m := rfl

theorem State.queueOut_answers (s : State) (n m : Nat) (l : List Sent) : (s.queueOut n l).answers m = s.answers m :=
  s.modHc_answers n m _ (fun _ => rfl)

theorem State.carry_answers (s : State) (n m kind : Nat) (msg : List Byte) : (s.carry n kind msg).answers m = s.answers m := by
  unfold State.carry
  dsimp only
  split
  · exact s.queueOut_answers _ _ _
  · split <;> rfl
  · split
    · rfl
    · exact s.queueOut_answers _ _ _
  · rfl

theorem State.sendGroups_answers (s : State) (n m : Nat) (key : List Byte) (pc : RingItem Compl → Bool) (pe : RingItem EvRec → Bool) :
    (s.sendGroups n key pc pe).answers m = s.answers m := by
  unfold State.sendGroups
  rw [State.modHc_answers]
  · apply State.foldl_answers
    intro u x
    split
    · rw [State.modHc_answers, State.carry_answers, State.emit_answers]
      intro x; rfl
    · rw [State.carry_answers, State.emit_answers]
  · intro x
    have hm : ∀ l : List (RingItem Compl), (l.map (fun r => if pc r = true then { r with delivered := true, sentAt := s.now } else r)).map (fun r => r.item) =
        l.map (fun r => r.item) := by
      intro l
      rw [List.map_map]
      apply List.map_congr_left
      intro r _
      simp only [Function.comp]
      split <;> rfl
    simp only [HostCtx.answers, hm]

theorem State.sendNew_answers (s : State) (n m : Nat) (key : List Byte) (all : Bool) : (s.sendNew n key all).answers m = s.answers m := by
  unfold State.sendNew
  split
  · rfl
  · exact s.sendGroups_answers _ _ _ _ _

theorem State.releaseClass_answers (s : State) (n c m : Nat) : (s.releaseClass n c).answers m = s.answers m := by
  unfold State.releaseClass
  rw [State.sendNew_answers]
  split
  · rw [State.fillRing_answers, State.modHc_answers]
    intro x
    simp [HostCtx.answers]
  · exact State.modHc_answers _ _ _ _ (fun _ => rfl)

theorem State.tryRelease_answers (s : State) (n c m : Nat) : (s.tryRelease n c).answers m = s.answers m := by
  unfold State.tryRelease
  split
  · split
    · exact State.modHc_answers _ _ _ _ (fun _ => rfl)
    · exact s.releaseClass_answers _ _ _
  · rfl

theorem State.freeClosed_answers (s : State) (n m : Nat) (h : s.closed n = false) : (s.freeClosed n).answers m = s.answers m := by
  unfold State.freeClosed
  rw [if_neg (by simp [h])]

theorem State.closed_of_noHosts {s t : State} (h : t.noHosts = s.noHosts) (n : Nat) : t.closed n = s.closed n := by
  have : t.regs = s.regs := by
    have hr := congrArg State.regs h
    exact hr
  unfold State.closed State.flag State.get State.rd
  rw [this]

/-- A context that is not closed gets exactly one record more, and every other context none. -/
theorem State.pushCompl_answers (s : State) (h : Hdr) (c : Compl) (m : Nat) (hc : s.closed h.hc.val = false) :
    (s.pushCompl h c).answers m = if m = h.hc.val then s.answers m ++ [c] else s.answers m := by
  unfold State.pushCompl
  rw [State.freeClosed_answers]
  · have base : (s.modHc h.hc.val (fun x => { x with cpend := x.cpend ++ [⟨s.now, c⟩], notifyDue := x.notifyDue || h.notify })).answers m =
        if m = h.hc.val then s.answers m ++ [c] else s.answers m := by
      by_cases hm : m = h.hc.val
      · subst hm; simp [State.answers_def, HostCtx.answers]
      · simp only [State.answers_def, State.hc_modHc_ne _ _ hm, if_neg hm]
    split
    · rw [State.tryRelease_answers, base]
    · exact base
  · rw [State.closed_of_noHosts (s := s)]
    · exact hc
    · split <;> simp

/-- A command's completion: one record, for its own context. -/
theorem State.complete_answers (s : State) (h : Hdr) (opc : Nat) (st : Byte) (r : Nat) (cont : List Word) (m : Nat)
    (hs : s.recording = true) (hc : s.closed h.hc.val = false) :
    (s.complete h opc st r cont).answers m =
      if m = h.hc.val then s.answers m ++ [s.complOf h opc st r cont] else s.answers m := by
  rw [s.complete_eq h opc st r cont hs, s.pushCompl_answers h _ m hc]

end Sys2Proof.Machine
end

