-- ==== Sys2Proof/Laws/Issue.lean ====
section
/-! SUPPORT. What a command's turn does: it is taken from its queue, runs, and answers. -/

namespace Sys2Proof.Machine

/-! ### Taking a command -/

@[simp] theorem State.nextName_noHosts (s : State) : s.nextName.noHosts = s.noHosts := rfl
@[simp] theorem State.setIssuing_noHosts (s : State) (n no : Nat) : (s.setIssuing n no).noHosts = s.noHosts := rfl
@[simp] theorem State.setQueue_noHosts (s : State) (n : Nat) (q : List QEntry) : (s.setQueue n q).noHosts = s.noHosts := rfl
@[simp] theorem State.nextName_answers (s : State) (m : Nat) : s.nextName.answers m = s.answers m := rfl
@[simp] theorem State.setIssuing_answers (s : State) (n no m : Nat) : (s.setIssuing n no).answers m = s.answers m := rfl
@[simp] theorem State.setQueue_answers (s : State) (n m : Nat) (q : List QEntry) : (s.setQueue n q).answers m = s.answers m :=
  State.modHc_answers _ _ _ _ (fun _ => rfl)

@[simp] theorem State.taken_noHosts (s : State) (n : Nat) (i : Instr) : (s.taken n i).noHosts = s.noHosts := by
  simp [State.taken, State.accepted]

@[simp] theorem State.taken_answers (s : State) (n m : Nat) (i : Instr) : (s.taken n i).answers m = s.answers m := by
  simp [State.taken, State.accepted]

/-- At its turn a command's effect runs on the state in which it has been taken. -/
theorem State.dispatch_turn {s : State} {h : Hdr} {i : Instr} (ht : s.turn h i = true) (f : State → State) :
    s.dispatch h i f = f (s.taken h.hc.val i) := by
  simp only [State.turn, Bool.and_eq_true, beq_iff_eq] at ht
  simp [State.dispatch, ht]

theorem State.turn_recording {s : State} {h : Hdr} {i : Instr} (ht : s.turn h i = true) : s.recording = true := by
  simp only [State.turn, State.serves, Bool.and_eq_true] at ht
  simp [State.recording, ht]

theorem State.recording_of_noHosts {s t : State} (h : t.noHosts = s.noHosts) : t.recording = s.recording := by
  have hu : t.sysUp = s.sysUp := by
    have e := congrArg State.sysUp h
    exact e
  have hd : t.doms = s.doms := by
    have e := congrArg State.doms h
    exact e
  unfold State.recording State.domOn State.dom
  rw [hu, hd]

theorem State.runs_turn {s : State} {h : Hdr} {i : Instr} (hr : s.runs h i = true) : s.turn h i = true := by
  simp only [State.runs, Bool.and_eq_true] at hr
  exact hr.1

theorem State.runs_closed {s : State} {h : Hdr} {i : Instr} (hr : s.runs h i = true) : s.closed h.hc.val = false := by
  simp only [State.runs, Bool.and_eq_true, Bool.not_eq_true'] at hr
  exact hr.2

theorem State.runI_turn {s : State} {h : Hdr} {i : Instr} (ht : s.turn h i = true) (f : State → Ans) :
    s.runI h i f = (f (s.taken h.hc.val i)).s.complete h (opcOf i) (f (s.taken h.hc.val i)).status (f (s.taken h.hc.val i)).result
      (f (s.taken h.hc.val i)).cont := State.dispatch_turn ht _

/-- An effect that leaves the queue, the time, one-time memory and what recording a completion needs as they are. -/
def State.calm (s u : State) (n : Nat) : Prop :=
  u.pending = s.pending ∧ u.now = s.now ∧ u.otp = s.otp ∧ u.devTime = s.devTime ∧ u.sysUp = s.sysUp ∧ u.doms = s.doms ∧ u.closed n = s.closed n

theorem State.noHosts_keep {s t : State} (hp : t.pending = s.pending) (hn : t.now = s.now) (ho : t.otp = s.otp) : s.keep t = t := by
  simp only [State.keep, ← hp, ← hn, ← ho]

/-- A command of class I whose effect is calm answers with one completion. -/
theorem State.takes_of_runI {s u v : State} {h : Hdr} {c : Instr} {f : State → Ans} {st : Byte} {r : Nat} {cont : List Word}
    (hr : s.runs h c = true) (hx : exec c s = act (fun x => x.runI h c f) s)
    (hf : f (s.taken h.hc.val c) = { s := v, status := st, result := r, cont := cont })
    (hv : v.noHosts = u.noHosts) (ha : v.answers h.hc.val = s.answers h.hc.val) (hu : s.calm u h.hc.val) : s.takes c h u r cont st := by
  obtain ⟨hp, hn, ho, hd, hs, hm, hc⟩ := hu
  have fld : ∀ {α : Type} (g : State → α), (∀ x : State, g x.noHosts = g x) → g v = g u := by
    intro α g hg
    rw [← hg v, hv, hg u]
  have hrec : v.recording = true := by
    rw [← State.turn_recording (State.runs_turn hr)]
    unfold State.recording State.domOn State.dom
    rw [fld State.sysUp (fun _ => rfl), fld State.doms (fun _ => rfl), hs, hm]
  have hcl : v.closed h.hc.val = false := by
    rw [State.closed_of_noHosts hv, hc]
    exact State.runs_closed hr
  have hk := State.complete_noHosts v h (opcOf c) st r cont hrec
  have fldk : ∀ {α : Type} (g : State → α), (∀ x : State, g x.noHosts = g x) → g (v.complete h (opcOf c) st r cont) = g u := by
    intro α g hg
    rw [← hg, hk, hv, hg u]
  refine ⟨v.complete h (opcOf c) st r cont, ?_, hk.trans hv, ?_⟩
  · rw [hx]
    show Host.Outcome.next (s.keep (s.runI h c f)) = _
    rw [State.runI_turn (State.runs_turn hr), hf]
    show Host.Outcome.next (s.keep (v.complete h (opcOf c) st r cont)) = _
    rw [State.noHosts_keep]
    · rw [fldk State.pending (fun _ => rfl), hp]
    · rw [fldk State.now (fun _ => rfl), hn]
    · rw [fldk State.otp (fun _ => rfl), ho]
  · show (v.complete h (opcOf c) st r cont).answers h.hc.val = _
    rw [State.complete_answers v h (opcOf c) st r cont _ hrec hcl, if_pos rfl, ha]
    have ht : v.time32 = s.time32 := by
      unfold State.time32
      rw [fld State.devTime (fun _ => rfl), hd]
    simp only [State.complOf, ht]

theorem State.calm_refl (s : State) (n : Nat) : s.calm s n := ⟨rfl, rfl, rfl, rfl, rfl, rfl, rfl⟩

/-- A command of class I that changes nothing answers. -/
theorem State.takes_same {s : State} {h : Hdr} {c : Instr} {f : State → Ans} {st : Byte} {r : Nat} {cont : List Word}
    (hr : s.runs h c = true) (hx : exec c s = act (fun x => x.runI h c f) s)
    (hf : f (s.taken h.hc.val c) = { s := s.taken h.hc.val c, status := st, result := r, cont := cont }) : s.takes c h s r cont st :=
  State.takes_of_runI hr hx hf (by simp) (by simp) (s.calm_refl _)

/-- Setting a field of a register other than HCn_STATE is calm. -/
theorem State.calm_put (s : State) (f : Fld) (v n : Nat) (hne : (hcState_closed n).addr ≠ f.addr) : s.calm (s.put f v) n := by
  refine ⟨rfl, rfl, rfl, rfl, rfl, rfl, ?_⟩
  simp only [State.closed, State.flag, State.get_put_ne s v hne]

theorem State.addJob_setJobs (v : State) (h : Hdr) (c : Instr) : ((v.addJob h c).2.setJobs v.jobs).noHosts = v.noHosts := rfl
theorem State.addJob_pending (v : State) (h : Hdr) (c : Instr) : (v.addJob h c).2.pending = v.pending := rfl
theorem State.addJob_now (v : State) (h : Hdr) (c : Instr) : (v.addJob h c).2.now = v.now := rfl
theorem State.addJob_otp (v : State) (h : Hdr) (c : Instr) : (v.addJob h c).2.otp = v.otp := rfl
theorem State.addJob_answers (v : State) (h : Hdr) (c : Instr) (m : Nat) : (v.addJob h c).2.answers m = v.answers m := rfl

/-- A class P command whose checks pass begins: its job is dispatched, and nothing else changes. -/
theorem State.begins_of_runP {s v : State} {h : Hdr} {c : Instr} {f : State → State × Option (Byte × Nat)}
    (hr : s.runs h c = true) (hx : exec c s = act (fun x => x.runP h c f) s) (hf : f (s.taken h.hc.val c) = (v, none))
    (hp : v.pending = s.pending) (hn : v.now = s.now) (ho : v.otp = s.otp) (ha : v.answers h.hc.val = s.answers h.hc.val) :
    s.begins c h v := by
  refine ⟨(v.addJob h c).2, { id := v.nextId, hdr := h, cmd := c, no := v.issuing }, ?_, rfl, rfl, rfl, rfl, rfl,
    v.addJob_setJobs h c, (v.addJob_answers h c _).trans ha⟩
  rw [hx]
  show Host.Outcome.next (s.keep (s.runP h c f)) = _
  rw [State.runP, State.dispatch_turn (State.runs_turn hr), hf]
  show Host.Outcome.next (s.keep (v.addJob h c).2) = _
  rw [State.noHosts_keep ((v.addJob_pending h c).trans hp) ((v.addJob_now h c).trans hn) ((v.addJob_otp h c).trans ho)]

end Sys2Proof.Machine
end

