-- ==== Sys2Proof/Laws/Frame.lean ====
section
/-! SUPPORT. What every command leaves alone, and small laws of loops and faults. -/

namespace Sys2Proof.Machine

/-- The outcome of a command is its effect with the queue, the time and one-time memory as before. -/
theorem act_eq (f : State → State) (s : State) : act f s = .next (s.keep (f s)) := rfl

theorem forEach_nil (f : Nat → State → State) (s : State) : forEach [] f s = s := rfl
theorem forEach_cons (k : Nat) (l : List Nat) (f : Nat → State → State) (s : State) : forEach (k :: l) f s = forEach l f (f k s) := rfl

/-- A loop keeps whatever each of its rounds keeps. -/
theorem forEach_keeps {α : Type} (g : State → α) (l : List Nat) (f : Nat → State → State) (h : ∀ (k : Nat) (u : State), g (f k u) = g u)
    (s : State) : g (forEach l f s) = g s := by
  induction l generalizing s with
  | nil => rfl
  | cons k l ih => rw [forEach_cons, ih, h]

@[simp] theorem State.fault_inbox (s : State) (src kind detail : Nat) :
    (s.fault src kind detail).inbox = s.inbox ++ [faultMsg src kind detail] := rfl
/-- A posted fault changes nothing but Scree's inbox. -/
theorem State.fault_eq (s : State) (src kind detail : Nat) :
    s.fault src kind detail = { s with inbox := s.inbox ++ [faultMsg src kind detail] } := rfl

/-- Every command answers a next state with the queue and the time as they were, and one-time memory as it was or with more of
it programmed. -/
theorem exec_frame (c : Instr) (s : State) :
    ∃ t : State, exec c s = .next t ∧ t.pending = s.pending ∧ t.now = s.now ∧ (t.otp = s.otp ∨ ∃ o : Otp, t.otp = s.otp.burn o) := by
  cases c
  all_goals first
    | exact ⟨_, rfl, rfl, rfl, .inl rfl⟩
    | exact ⟨_, rfl, rfl, rfl, .inr ⟨_, rfl⟩⟩

end Sys2Proof.Machine
end

