-- ==== Sys2Proof/Laws/Reads.lean ====
section
/-! SUPPORT. What each reading of the state gives after each update that does not touch it. -/

namespace Sys2Proof.Machine

variable (s : State)


/-! ### wr -/

@[simp] theorem State.wr_hc (a : Nat) (w : Word) (k0 : Nat) : (s.wr a w).hc k0 = s.hc k0 := rfl
@[simp] theorem State.wr_ch (a : Nat) (w : Word) (k0 : Nat) : (s.wr a w).ch k0 = s.ch k0 := rfl
@[simp] theorem State.wr_br (a : Nat) (w : Word) (k0 : Nat) : (s.wr a w).br k0 = s.br k0 := rfl
@[simp] theorem State.wr_bank (a : Nat) (w : Word) (k0 : Nat) : (s.wr a w).bank k0 = s.bank k0 := rfl
@[simp] theorem State.wr_grp (a : Nat) (w : Word) (k0 : Nat) : (s.wr a w).grp k0 = s.grp k0 := rfl
@[simp] theorem State.wr_port (a : Nat) (w : Word) (k0 : Nat) : (s.wr a w).port k0 = s.port k0 := rfl
@[simp] theorem State.wr_flow (a : Nat) (w : Word) (k0 : Nat) : (s.wr a w).flow k0 = s.flow k0 := rfl
@[simp] theorem State.wr_net (a : Nat) (w : Word) (k0 : Nat) : (s.wr a w).net k0 = s.net k0 := rfl
@[simp] theorem State.wr_dom (a : Nat) (w : Word) (k0 : Nat) : (s.wr a w).dom k0 = s.dom k0 := rfl
@[simp] theorem State.wr_domOn (a : Nat) (w : Word) (k0 : Nat) : (s.wr a w).domOn k0 = s.domOn k0 := rfl
@[simp] theorem State.wr_owner (a : Nat) (w : Word) (k0 i0 : Nat) : (s.wr a w).owner k0 i0 = s.owner k0 i0 := rfl
@[simp] theorem State.wr_owns (a : Nat) (w : Word) (h0 k0 i0 : Nat) : (s.wr a w).owns h0 k0 i0 = s.owns h0 k0 i0 := rfl
@[simp] theorem State.wr_slot (a : Nat) (w : Word) (k0 : Nat) : (s.wr a w).slot k0 = s.slot k0 := rfl
@[simp] theorem State.wr_ax (a : Nat) (w : Word) (k0 : Nat) : (s.wr a w).ax k0 = s.ax k0 := rfl

/-! ### put -/

@[simp] theorem State.put_hc (f : Fld) (v : Nat) (k0 : Nat) : (s.put f v).hc k0 = s.hc k0 := rfl
@[simp] theorem State.put_ch (f : Fld) (v : Nat) (k0 : Nat) : (s.put f v).ch k0 = s.ch k0 := rfl
@[simp] theorem State.put_br (f : Fld) (v : Nat) (k0 : Nat) : (s.put f v).br k0 = s.br k0 := rfl
@[simp] theorem State.put_bank (f : Fld) (v : Nat) (k0 : Nat) : (s.put f v).bank k0 = s.bank k0 := rfl
@[simp] theorem State.put_grp (f : Fld) (v : Nat) (k0 : Nat) : (s.put f v).grp k0 = s.grp k0 := rfl
@[simp] theorem State.put_port (f : Fld) (v : Nat) (k0 : Nat) : (s.put f v).port k0 = s.port k0 := rfl
@[simp] theorem State.put_flow (f : Fld) (v : Nat) (k0 : Nat) : (s.put f v).flow k0 = s.flow k0 := rfl
@[simp] theorem State.put_net (f : Fld) (v : Nat) (k0 : Nat) : (s.put f v).net k0 = s.net k0 := rfl
@[simp] theorem State.put_dom (f : Fld) (v : Nat) (k0 : Nat) : (s.put f v).dom k0 = s.dom k0 := rfl
@[simp] theorem State.put_domOn (f : Fld) (v : Nat) (k0 : Nat) : (s.put f v).domOn k0 = s.domOn k0 := rfl
@[simp] theorem State.put_owner (f : Fld) (v : Nat) (k0 i0 : Nat) : (s.put f v).owner k0 i0 = s.owner k0 i0 := rfl
@[simp] theorem State.put_owns (f : Fld) (v : Nat) (h0 k0 i0 : Nat) : (s.put f v).owns h0 k0 i0 = s.owns h0 k0 i0 := rfl
@[simp] theorem State.put_slot (f : Fld) (v : Nat) (k0 : Nat) : (s.put f v).slot k0 = s.slot k0 := rfl
@[simp] theorem State.put_ax (f : Fld) (v : Nat) (k0 : Nat) : (s.put f v).ax k0 = s.ax k0 := rfl

/-! ### putB -/

@[simp] theorem State.putB_hc (f : Fld) (b : Bool) (k0 : Nat) : (s.putB f b).hc k0 = s.hc k0 := rfl
@[simp] theorem State.putB_ch (f : Fld) (b : Bool) (k0 : Nat) : (s.putB f b).ch k0 = s.ch k0 := rfl
@[simp] theorem State.putB_br (f : Fld) (b : Bool) (k0 : Nat) : (s.putB f b).br k0 = s.br k0 := rfl
@[simp] theorem State.putB_bank (f : Fld) (b : Bool) (k0 : Nat) : (s.putB f b).bank k0 = s.bank k0 := rfl
@[simp] theorem State.putB_grp (f : Fld) (b : Bool) (k0 : Nat) : (s.putB f b).grp k0 = s.grp k0 := rfl
@[simp] theorem State.putB_port (f : Fld) (b : Bool) (k0 : Nat) : (s.putB f b).port k0 = s.port k0 := rfl
@[simp] theorem State.putB_flow (f : Fld) (b : Bool) (k0 : Nat) : (s.putB f b).flow k0 = s.flow k0 := rfl
@[simp] theorem State.putB_net (f : Fld) (b : Bool) (k0 : Nat) : (s.putB f b).net k0 = s.net k0 := rfl
@[simp] theorem State.putB_dom (f : Fld) (b : Bool) (k0 : Nat) : (s.putB f b).dom k0 = s.dom k0 := rfl
@[simp] theorem State.putB_domOn (f : Fld) (b : Bool) (k0 : Nat) : (s.putB f b).domOn k0 = s.domOn k0 := rfl
@[simp] theorem State.putB_owner (f : Fld) (b : Bool) (k0 i0 : Nat) : (s.putB f b).owner k0 i0 = s.owner k0 i0 := rfl
@[simp] theorem State.putB_owns (f : Fld) (b : Bool) (h0 k0 i0 : Nat) : (s.putB f b).owns h0 k0 i0 = s.owns h0 k0 i0 := rfl
@[simp] theorem State.putB_slot (f : Fld) (b : Bool) (k0 : Nat) : (s.putB f b).slot k0 = s.slot k0 := rfl
@[simp] theorem State.putB_ax (f : Fld) (b : Bool) (k0 : Nat) : (s.putB f b).ax k0 = s.ax k0 := rfl

/-! ### inc -/

@[simp] theorem State.inc_hc (f : Fld) (k0 : Nat) : (s.inc f).hc k0 = s.hc k0 := rfl
@[simp] theorem State.inc_ch (f : Fld) (k0 : Nat) : (s.inc f).ch k0 = s.ch k0 := rfl
@[simp] theorem State.inc_br (f : Fld) (k0 : Nat) : (s.inc f).br k0 = s.br k0 := rfl
@[simp] theorem State.inc_bank (f : Fld) (k0 : Nat) : (s.inc f).bank k0 = s.bank k0 := rfl
@[simp] theorem State.inc_grp (f : Fld) (k0 : Nat) : (s.inc f).grp k0 = s.grp k0 := rfl
@[simp] theorem State.inc_port (f : Fld) (k0 : Nat) : (s.inc f).port k0 = s.port k0 := rfl
@[simp] theorem State.inc_flow (f : Fld) (k0 : Nat) : (s.inc f).flow k0 = s.flow k0 := rfl
@[simp] theorem State.inc_net (f : Fld) (k0 : Nat) : (s.inc f).net k0 = s.net k0 := rfl
@[simp] theorem State.inc_dom (f : Fld) (k0 : Nat) : (s.inc f).dom k0 = s.dom k0 := rfl
@[simp] theorem State.inc_domOn (f : Fld) (k0 : Nat) : (s.inc f).domOn k0 = s.domOn k0 := rfl
@[simp] theorem State.inc_owner (f : Fld) (k0 i0 : Nat) : (s.inc f).owner k0 i0 = s.owner k0 i0 := rfl
@[simp] theorem State.inc_owns (f : Fld) (h0 k0 i0 : Nat) : (s.inc f).owns h0 k0 i0 = s.owns h0 k0 i0 := rfl
@[simp] theorem State.inc_slot (f : Fld) (k0 : Nat) : (s.inc f).slot k0 = s.slot k0 := rfl
@[simp] theorem State.inc_ax (f : Fld) (k0 : Nat) : (s.inc f).ax k0 = s.ax k0 := rfl

/-! ### incBy -/

@[simp] theorem State.incBy_hc (f : Fld) (n : Nat) (k0 : Nat) : (s.incBy f n).hc k0 = s.hc k0 := rfl
@[simp] theorem State.incBy_ch (f : Fld) (n : Nat) (k0 : Nat) : (s.incBy f n).ch k0 = s.ch k0 := rfl
@[simp] theorem State.incBy_br (f : Fld) (n : Nat) (k0 : Nat) : (s.incBy f n).br k0 = s.br k0 := rfl
@[simp] theorem State.incBy_bank (f : Fld) (n : Nat) (k0 : Nat) : (s.incBy f n).bank k0 = s.bank k0 := rfl
@[simp] theorem State.incBy_grp (f : Fld) (n : Nat) (k0 : Nat) : (s.incBy f n).grp k0 = s.grp k0 := rfl
@[simp] theorem State.incBy_port (f : Fld) (n : Nat) (k0 : Nat) : (s.incBy f n).port k0 = s.port k0 := rfl
@[simp] theorem State.incBy_flow (f : Fld) (n : Nat) (k0 : Nat) : (s.incBy f n).flow k0 = s.flow k0 := rfl
@[simp] theorem State.incBy_net (f : Fld) (n : Nat) (k0 : Nat) : (s.incBy f n).net k0 = s.net k0 := rfl
@[simp] theorem State.incBy_dom (f : Fld) (n : Nat) (k0 : Nat) : (s.incBy f n).dom k0 = s.dom k0 := rfl
@[simp] theorem State.incBy_domOn (f : Fld) (n : Nat) (k0 : Nat) : (s.incBy f n).domOn k0 = s.domOn k0 := rfl
@[simp] theorem State.incBy_owner (f : Fld) (n : Nat) (k0 i0 : Nat) : (s.incBy f n).owner k0 i0 = s.owner k0 i0 := rfl
@[simp] theorem State.incBy_owns (f : Fld) (n : Nat) (h0 k0 i0 : Nat) : (s.incBy f n).owns h0 k0 i0 = s.owns h0 k0 i0 := rfl
@[simp] theorem State.incBy_slot (f : Fld) (n : Nat) (k0 : Nat) : (s.incBy f n).slot k0 = s.slot k0 := rfl
@[simp] theorem State.incBy_ax (f : Fld) (n : Nat) (k0 : Nat) : (s.incBy f n).ax k0 = s.ax k0 := rfl

/-! ### setHc -/

@[simp] theorem State.setHc_rd (n : Nat) (h : HostCtx) (a0 : Nat) : (s.setHc n h).rd a0 = s.rd a0 := rfl
@[simp] theorem State.setHc_get (n : Nat) (h : HostCtx) (f0 : Fld) : (s.setHc n h).get f0 = s.get f0 := rfl
@[simp] theorem State.setHc_flag (n : Nat) (h : HostCtx) (f0 : Fld) : (s.setHc n h).flag f0 = s.flag f0 := rfl
@[simp] theorem State.setHc_ch (n : Nat) (h : HostCtx) (k0 : Nat) : (s.setHc n h).ch k0 = s.ch k0 := rfl
@[simp] theorem State.setHc_br (n : Nat) (h : HostCtx) (k0 : Nat) : (s.setHc n h).br k0 = s.br k0 := rfl
@[simp] theorem State.setHc_bank (n : Nat) (h : HostCtx) (k0 : Nat) : (s.setHc n h).bank k0 = s.bank k0 := rfl
@[simp] theorem State.setHc_grp (n : Nat) (h : HostCtx) (k0 : Nat) : (s.setHc n h).grp k0 = s.grp k0 := rfl
@[simp] theorem State.setHc_port (n : Nat) (h : HostCtx) (k0 : Nat) : (s.setHc n h).port k0 = s.port k0 := rfl
@[simp] theorem State.setHc_flow (n : Nat) (h : HostCtx) (k0 : Nat) : (s.setHc n h).flow k0 = s.flow k0 := rfl
@[simp] theorem State.setHc_net (n : Nat) (h : HostCtx) (k0 : Nat) : (s.setHc n h).net k0 = s.net k0 := rfl
@[simp] theorem State.setHc_dom (n : Nat) (h : HostCtx) (k0 : Nat) : (s.setHc n h).dom k0 = s.dom k0 := rfl
@[simp] theorem State.setHc_domOn (n : Nat) (h : HostCtx) (k0 : Nat) : (s.setHc n h).domOn k0 = s.domOn k0 := rfl
@[simp] theorem State.setHc_owner (n : Nat) (h : HostCtx) (k0 i0 : Nat) : (s.setHc n h).owner k0 i0 = s.owner k0 i0 := rfl
@[simp] theorem State.setHc_owns (n : Nat) (h : HostCtx) (h0 k0 i0 : Nat) : (s.setHc n h).owns h0 k0 i0 = s.owns h0 k0 i0 := rfl
@[simp] theorem State.setHc_slot (n : Nat) (h : HostCtx) (k0 : Nat) : (s.setHc n h).slot k0 = s.slot k0 := rfl
@[simp] theorem State.setHc_ax (n : Nat) (h : HostCtx) (k0 : Nat) : (s.setHc n h).ax k0 = s.ax k0 := rfl

/-! ### modHc -/

@[simp] theorem State.modHc_rd (n : Nat) (f : HostCtx → HostCtx) (a0 : Nat) : (s.modHc n f).rd a0 = s.rd a0 := rfl
@[simp] theorem State.modHc_get (n : Nat) (f : HostCtx → HostCtx) (f0 : Fld) : (s.modHc n f).get f0 = s.get f0 := rfl
@[simp] theorem State.modHc_flag (n : Nat) (f : HostCtx → HostCtx) (f0 : Fld) : (s.modHc n f).flag f0 = s.flag f0 := rfl
@[simp] theorem State.modHc_ch (n : Nat) (f : HostCtx → HostCtx) (k0 : Nat) : (s.modHc n f).ch k0 = s.ch k0 := rfl
@[simp] theorem State.modHc_br (n : Nat) (f : HostCtx → HostCtx) (k0 : Nat) : (s.modHc n f).br k0 = s.br k0 := rfl
@[simp] theorem State.modHc_bank (n : Nat) (f : HostCtx → HostCtx) (k0 : Nat) : (s.modHc n f).bank k0 = s.bank k0 := rfl
@[simp] theorem State.modHc_grp (n : Nat) (f : HostCtx → HostCtx) (k0 : Nat) : (s.modHc n f).grp k0 = s.grp k0 := rfl
@[simp] theorem State.modHc_port (n : Nat) (f : HostCtx → HostCtx) (k0 : Nat) : (s.modHc n f).port k0 = s.port k0 := rfl
@[simp] theorem State.modHc_flow (n : Nat) (f : HostCtx → HostCtx) (k0 : Nat) : (s.modHc n f).flow k0 = s.flow k0 := rfl
@[simp] theorem State.modHc_net (n : Nat) (f : HostCtx → HostCtx) (k0 : Nat) : (s.modHc n f).net k0 = s.net k0 := rfl
@[simp] theorem State.modHc_dom (n : Nat) (f : HostCtx → HostCtx) (k0 : Nat) : (s.modHc n f).dom k0 = s.dom k0 := rfl
@[simp] theorem State.modHc_domOn (n : Nat) (f : HostCtx → HostCtx) (k0 : Nat) : (s.modHc n f).domOn k0 = s.domOn k0 := rfl
@[simp] theorem State.modHc_owner (n : Nat) (f : HostCtx → HostCtx) (k0 i0 : Nat) : (s.modHc n f).owner k0 i0 = s.owner k0 i0 := rfl
@[simp] theorem State.modHc_owns (n : Nat) (f : HostCtx → HostCtx) (h0 k0 i0 : Nat) : (s.modHc n f).owns h0 k0 i0 = s.owns h0 k0 i0 := rfl
@[simp] theorem State.modHc_slot (n : Nat) (f : HostCtx → HostCtx) (k0 : Nat) : (s.modHc n f).slot k0 = s.slot k0 := rfl
@[simp] theorem State.modHc_ax (n : Nat) (f : HostCtx → HostCtx) (k0 : Nat) : (s.modHc n f).ax k0 = s.ax k0 := rfl

/-! ### setCh -/

@[simp] theorem State.setCh_rd (n : Nat) (c : Chan) (a0 : Nat) : (s.setCh n c).rd a0 = s.rd a0 := rfl
@[simp] theorem State.setCh_get (n : Nat) (c : Chan) (f0 : Fld) : (s.setCh n c).get f0 = s.get f0 := rfl
@[simp] theorem State.setCh_flag (n : Nat) (c : Chan) (f0 : Fld) : (s.setCh n c).flag f0 = s.flag f0 := rfl
@[simp] theorem State.setCh_hc (n : Nat) (c : Chan) (k0 : Nat) : (s.setCh n c).hc k0 = s.hc k0 := rfl
@[simp] theorem State.setCh_br (n : Nat) (c : Chan) (k0 : Nat) : (s.setCh n c).br k0 = s.br k0 := rfl
@[simp] theorem State.setCh_bank (n : Nat) (c : Chan) (k0 : Nat) : (s.setCh n c).bank k0 = s.bank k0 := rfl
@[simp] theorem State.setCh_grp (n : Nat) (c : Chan) (k0 : Nat) : (s.setCh n c).grp k0 = s.grp k0 := rfl
@[simp] theorem State.setCh_port (n : Nat) (c : Chan) (k0 : Nat) : (s.setCh n c).port k0 = s.port k0 := rfl
@[simp] theorem State.setCh_flow (n : Nat) (c : Chan) (k0 : Nat) : (s.setCh n c).flow k0 = s.flow k0 := rfl
@[simp] theorem State.setCh_net (n : Nat) (c : Chan) (k0 : Nat) : (s.setCh n c).net k0 = s.net k0 := rfl
@[simp] theorem State.setCh_dom (n : Nat) (c : Chan) (k0 : Nat) : (s.setCh n c).dom k0 = s.dom k0 := rfl
@[simp] theorem State.setCh_domOn (n : Nat) (c : Chan) (k0 : Nat) : (s.setCh n c).domOn k0 = s.domOn k0 := rfl
@[simp] theorem State.setCh_owner (n : Nat) (c : Chan) (k0 i0 : Nat) : (s.setCh n c).owner k0 i0 = s.owner k0 i0 := rfl
@[simp] theorem State.setCh_owns (n : Nat) (c : Chan) (h0 k0 i0 : Nat) : (s.setCh n c).owns h0 k0 i0 = s.owns h0 k0 i0 := rfl
@[simp] theorem State.setCh_slot (n : Nat) (c : Chan) (k0 : Nat) : (s.setCh n c).slot k0 = s.slot k0 := rfl
@[simp] theorem State.setCh_ax (n : Nat) (c : Chan) (k0 : Nat) : (s.setCh n c).ax k0 = s.ax k0 := rfl

/-! ### modCh -/

@[simp] theorem State.modCh_rd (n : Nat) (f : Chan → Chan) (a0 : Nat) : (s.modCh n f).rd a0 = s.rd a0 := rfl
@[simp] theorem State.modCh_get (n : Nat) (f : Chan → Chan) (f0 : Fld) : (s.modCh n f).get f0 = s.get f0 := rfl
@[simp] theorem State.modCh_flag (n : Nat) (f : Chan → Chan) (f0 : Fld) : (s.modCh n f).flag f0 = s.flag f0 := rfl
@[simp] theorem State.modCh_hc (n : Nat) (f : Chan → Chan) (k0 : Nat) : (s.modCh n f).hc k0 = s.hc k0 := rfl
@[simp] theorem State.modCh_br (n : Nat) (f : Chan → Chan) (k0 : Nat) : (s.modCh n f).br k0 = s.br k0 := rfl
@[simp] theorem State.modCh_bank (n : Nat) (f : Chan → Chan) (k0 : Nat) : (s.modCh n f).bank k0 = s.bank k0 := rfl
@[simp] theorem State.modCh_grp (n : Nat) (f : Chan → Chan) (k0 : Nat) : (s.modCh n f).grp k0 = s.grp k0 := rfl
@[simp] theorem State.modCh_port (n : Nat) (f : Chan → Chan) (k0 : Nat) : (s.modCh n f).port k0 = s.port k0 := rfl
@[simp] theorem State.modCh_flow (n : Nat) (f : Chan → Chan) (k0 : Nat) : (s.modCh n f).flow k0 = s.flow k0 := rfl
@[simp] theorem State.modCh_net (n : Nat) (f : Chan → Chan) (k0 : Nat) : (s.modCh n f).net k0 = s.net k0 := rfl
@[simp] theorem State.modCh_dom (n : Nat) (f : Chan → Chan) (k0 : Nat) : (s.modCh n f).dom k0 = s.dom k0 := rfl
@[simp] theorem State.modCh_domOn (n : Nat) (f : Chan → Chan) (k0 : Nat) : (s.modCh n f).domOn k0 = s.domOn k0 := rfl
@[simp] theorem State.modCh_owner (n : Nat) (f : Chan → Chan) (k0 i0 : Nat) : (s.modCh n f).owner k0 i0 = s.owner k0 i0 := rfl
@[simp] theorem State.modCh_owns (n : Nat) (f : Chan → Chan) (h0 k0 i0 : Nat) : (s.modCh n f).owns h0 k0 i0 = s.owns h0 k0 i0 := rfl
@[simp] theorem State.modCh_slot (n : Nat) (f : Chan → Chan) (k0 : Nat) : (s.modCh n f).slot k0 = s.slot k0 := rfl
@[simp] theorem State.modCh_ax (n : Nat) (f : Chan → Chan) (k0 : Nat) : (s.modCh n f).ax k0 = s.ax k0 := rfl

/-! ### modBr -/

@[simp] theorem State.modBr_rd (k : Nat) (f : Bridge → Bridge) (a0 : Nat) : (s.modBr k f).rd a0 = s.rd a0 := rfl
@[simp] theorem State.modBr_get (k : Nat) (f : Bridge → Bridge) (f0 : Fld) : (s.modBr k f).get f0 = s.get f0 := rfl
@[simp] theorem State.modBr_flag (k : Nat) (f : Bridge → Bridge) (f0 : Fld) : (s.modBr k f).flag f0 = s.flag f0 := rfl
@[simp] theorem State.modBr_hc (k : Nat) (f : Bridge → Bridge) (k0 : Nat) : (s.modBr k f).hc k0 = s.hc k0 := rfl
@[simp] theorem State.modBr_ch (k : Nat) (f : Bridge → Bridge) (k0 : Nat) : (s.modBr k f).ch k0 = s.ch k0 := rfl
@[simp] theorem State.modBr_bank (k : Nat) (f : Bridge → Bridge) (k0 : Nat) : (s.modBr k f).bank k0 = s.bank k0 := rfl
@[simp] theorem State.modBr_grp (k : Nat) (f : Bridge → Bridge) (k0 : Nat) : (s.modBr k f).grp k0 = s.grp k0 := rfl
@[simp] theorem State.modBr_port (k : Nat) (f : Bridge → Bridge) (k0 : Nat) : (s.modBr k f).port k0 = s.port k0 := rfl
@[simp] theorem State.modBr_flow (k : Nat) (f : Bridge → Bridge) (k0 : Nat) : (s.modBr k f).flow k0 = s.flow k0 := rfl
@[simp] theorem State.modBr_net (k : Nat) (f : Bridge → Bridge) (k0 : Nat) : (s.modBr k f).net k0 = s.net k0 := rfl
@[simp] theorem State.modBr_dom (k : Nat) (f : Bridge → Bridge) (k0 : Nat) : (s.modBr k f).dom k0 = s.dom k0 := rfl
@[simp] theorem State.modBr_domOn (k : Nat) (f : Bridge → Bridge) (k0 : Nat) : (s.modBr k f).domOn k0 = s.domOn k0 := rfl
@[simp] theorem State.modBr_owner (k : Nat) (f : Bridge → Bridge) (k0 i0 : Nat) : (s.modBr k f).owner k0 i0 = s.owner k0 i0 := rfl
@[simp] theorem State.modBr_owns (k : Nat) (f : Bridge → Bridge) (h0 k0 i0 : Nat) : (s.modBr k f).owns h0 k0 i0 = s.owns h0 k0 i0 := rfl
@[simp] theorem State.modBr_slot (k : Nat) (f : Bridge → Bridge) (k0 : Nat) : (s.modBr k f).slot k0 = s.slot k0 := rfl
@[simp] theorem State.modBr_ax (k : Nat) (f : Bridge → Bridge) (k0 : Nat) : (s.modBr k f).ax k0 = s.ax k0 := rfl

/-! ### modBank -/

@[simp] theorem State.modBank_rd (b : Nat) (f : Bank → Bank) (a0 : Nat) : (s.modBank b f).rd a0 = s.rd a0 := rfl
@[simp] theorem State.modBank_get (b : Nat) (f : Bank → Bank) (f0 : Fld) : (s.modBank b f).get f0 = s.get f0 := rfl
@[simp] theorem State.modBank_flag (b : Nat) (f : Bank → Bank) (f0 : Fld) : (s.modBank b f).flag f0 = s.flag f0 := rfl
@[simp] theorem State.modBank_hc (b : Nat) (f : Bank → Bank) (k0 : Nat) : (s.modBank b f).hc k0 = s.hc k0 := rfl
@[simp] theorem State.modBank_ch (b : Nat) (f : Bank → Bank) (k0 : Nat) : (s.modBank b f).ch k0 = s.ch k0 := rfl
@[simp] theorem State.modBank_br (b : Nat) (f : Bank → Bank) (k0 : Nat) : (s.modBank b f).br k0 = s.br k0 := rfl
@[simp] theorem State.modBank_grp (b : Nat) (f : Bank → Bank) (k0 : Nat) : (s.modBank b f).grp k0 = s.grp k0 := rfl
@[simp] theorem State.modBank_port (b : Nat) (f : Bank → Bank) (k0 : Nat) : (s.modBank b f).port k0 = s.port k0 := rfl
@[simp] theorem State.modBank_flow (b : Nat) (f : Bank → Bank) (k0 : Nat) : (s.modBank b f).flow k0 = s.flow k0 := rfl
@[simp] theorem State.modBank_net (b : Nat) (f : Bank → Bank) (k0 : Nat) : (s.modBank b f).net k0 = s.net k0 := rfl
@[simp] theorem State.modBank_dom (b : Nat) (f : Bank → Bank) (k0 : Nat) : (s.modBank b f).dom k0 = s.dom k0 := rfl
@[simp] theorem State.modBank_domOn (b : Nat) (f : Bank → Bank) (k0 : Nat) : (s.modBank b f).domOn k0 = s.domOn k0 := rfl
@[simp] theorem State.modBank_owner (b : Nat) (f : Bank → Bank) (k0 i0 : Nat) : (s.modBank b f).owner k0 i0 = s.owner k0 i0 := rfl
@[simp] theorem State.modBank_owns (b : Nat) (f : Bank → Bank) (h0 k0 i0 : Nat) : (s.modBank b f).owns h0 k0 i0 = s.owns h0 k0 i0 := rfl
@[simp] theorem State.modBank_slot (b : Nat) (f : Bank → Bank) (k0 : Nat) : (s.modBank b f).slot k0 = s.slot k0 := rfl
@[simp] theorem State.modBank_ax (b : Nat) (f : Bank → Bank) (k0 : Nat) : (s.modBank b f).ax k0 = s.ax k0 := rfl

/-! ### modGrp -/

@[simp] theorem State.modGrp_rd (g : Nat) (f : GovGroup → GovGroup) (a0 : Nat) : (s.modGrp g f).rd a0 = s.rd a0 := rfl
@[simp] theorem State.modGrp_get (g : Nat) (f : GovGroup → GovGroup) (f0 : Fld) : (s.modGrp g f).get f0 = s.get f0 := rfl
@[simp] theorem State.modGrp_flag (g : Nat) (f : GovGroup → GovGroup) (f0 : Fld) : (s.modGrp g f).flag f0 = s.flag f0 := rfl
@[simp] theorem State.modGrp_hc (g : Nat) (f : GovGroup → GovGroup) (k0 : Nat) : (s.modGrp g f).hc k0 = s.hc k0 := rfl
@[simp] theorem State.modGrp_ch (g : Nat) (f : GovGroup → GovGroup) (k0 : Nat) : (s.modGrp g f).ch k0 = s.ch k0 := rfl
@[simp] theorem State.modGrp_br (g : Nat) (f : GovGroup → GovGroup) (k0 : Nat) : (s.modGrp g f).br k0 = s.br k0 := rfl
@[simp] theorem State.modGrp_bank (g : Nat) (f : GovGroup → GovGroup) (k0 : Nat) : (s.modGrp g f).bank k0 = s.bank k0 := rfl
@[simp] theorem State.modGrp_port (g : Nat) (f : GovGroup → GovGroup) (k0 : Nat) : (s.modGrp g f).port k0 = s.port k0 := rfl
@[simp] theorem State.modGrp_flow (g : Nat) (f : GovGroup → GovGroup) (k0 : Nat) : (s.modGrp g f).flow k0 = s.flow k0 := rfl
@[simp] theorem State.modGrp_net (g : Nat) (f : GovGroup → GovGroup) (k0 : Nat) : (s.modGrp g f).net k0 = s.net k0 := rfl
@[simp] theorem State.modGrp_dom (g : Nat) (f : GovGroup → GovGroup) (k0 : Nat) : (s.modGrp g f).dom k0 = s.dom k0 := rfl
@[simp] theorem State.modGrp_domOn (g : Nat) (f : GovGroup → GovGroup) (k0 : Nat) : (s.modGrp g f).domOn k0 = s.domOn k0 := rfl
@[simp] theorem State.modGrp_owner (g : Nat) (f : GovGroup → GovGroup) (k0 i0 : Nat) : (s.modGrp g f).owner k0 i0 = s.owner k0 i0 := rfl
@[simp] theorem State.modGrp_owns (g : Nat) (f : GovGroup → GovGroup) (h0 k0 i0 : Nat) : (s.modGrp g f).owns h0 k0 i0 = s.owns h0 k0 i0 := rfl
@[simp] theorem State.modGrp_slot (g : Nat) (f : GovGroup → GovGroup) (k0 : Nat) : (s.modGrp g f).slot k0 = s.slot k0 := rfl
@[simp] theorem State.modGrp_ax (g : Nat) (f : GovGroup → GovGroup) (k0 : Nat) : (s.modGrp g f).ax k0 = s.ax k0 := rfl

/-! ### modPort -/

@[simp] theorem State.modPort_rd (n : Nat) (f : CanPort → CanPort) (a0 : Nat) : (s.modPort n f).rd a0 = s.rd a0 := rfl
@[simp] theorem State.modPort_get (n : Nat) (f : CanPort → CanPort) (f0 : Fld) : (s.modPort n f).get f0 = s.get f0 := rfl
@[simp] theorem State.modPort_flag (n : Nat) (f : CanPort → CanPort) (f0 : Fld) : (s.modPort n f).flag f0 = s.flag f0 := rfl
@[simp] theorem State.modPort_hc (n : Nat) (f : CanPort → CanPort) (k0 : Nat) : (s.modPort n f).hc k0 = s.hc k0 := rfl
@[simp] theorem State.modPort_ch (n : Nat) (f : CanPort → CanPort) (k0 : Nat) : (s.modPort n f).ch k0 = s.ch k0 := rfl
@[simp] theorem State.modPort_br (n : Nat) (f : CanPort → CanPort) (k0 : Nat) : (s.modPort n f).br k0 = s.br k0 := rfl
@[simp] theorem State.modPort_bank (n : Nat) (f : CanPort → CanPort) (k0 : Nat) : (s.modPort n f).bank k0 = s.bank k0 := rfl
@[simp] theorem State.modPort_grp (n : Nat) (f : CanPort → CanPort) (k0 : Nat) : (s.modPort n f).grp k0 = s.grp k0 := rfl
@[simp] theorem State.modPort_flow (n : Nat) (f : CanPort → CanPort) (k0 : Nat) : (s.modPort n f).flow k0 = s.flow k0 := rfl
@[simp] theorem State.modPort_net (n : Nat) (f : CanPort → CanPort) (k0 : Nat) : (s.modPort n f).net k0 = s.net k0 := rfl
@[simp] theorem State.modPort_dom (n : Nat) (f : CanPort → CanPort) (k0 : Nat) : (s.modPort n f).dom k0 = s.dom k0 := rfl
@[simp] theorem State.modPort_domOn (n : Nat) (f : CanPort → CanPort) (k0 : Nat) : (s.modPort n f).domOn k0 = s.domOn k0 := rfl
@[simp] theorem State.modPort_owner (n : Nat) (f : CanPort → CanPort) (k0 i0 : Nat) : (s.modPort n f).owner k0 i0 = s.owner k0 i0 := rfl
@[simp] theorem State.modPort_owns (n : Nat) (f : CanPort → CanPort) (h0 k0 i0 : Nat) : (s.modPort n f).owns h0 k0 i0 = s.owns h0 k0 i0 := rfl
@[simp] theorem State.modPort_slot (n : Nat) (f : CanPort → CanPort) (k0 : Nat) : (s.modPort n f).slot k0 = s.slot k0 := rfl
@[simp] theorem State.modPort_ax (n : Nat) (f : CanPort → CanPort) (k0 : Nat) : (s.modPort n f).ax k0 = s.ax k0 := rfl

/-! ### setFlow -/

@[simp] theorem State.setFlow_rd (n : Nat) (x : Option Flow) (a0 : Nat) : (s.setFlow n x).rd a0 = s.rd a0 := rfl
@[simp] theorem State.setFlow_get (n : Nat) (x : Option Flow) (f0 : Fld) : (s.setFlow n x).get f0 = s.get f0 := rfl
@[simp] theorem State.setFlow_flag (n : Nat) (x : Option Flow) (f0 : Fld) : (s.setFlow n x).flag f0 = s.flag f0 := rfl
@[simp] theorem State.setFlow_hc (n : Nat) (x : Option Flow) (k0 : Nat) : (s.setFlow n x).hc k0 = s.hc k0 := rfl
@[simp] theorem State.setFlow_ch (n : Nat) (x : Option Flow) (k0 : Nat) : (s.setFlow n x).ch k0 = s.ch k0 := rfl
@[simp] theorem State.setFlow_br (n : Nat) (x : Option Flow) (k0 : Nat) : (s.setFlow n x).br k0 = s.br k0 := rfl
@[simp] theorem State.setFlow_bank (n : Nat) (x : Option Flow) (k0 : Nat) : (s.setFlow n x).bank k0 = s.bank k0 := rfl
@[simp] theorem State.setFlow_grp (n : Nat) (x : Option Flow) (k0 : Nat) : (s.setFlow n x).grp k0 = s.grp k0 := rfl
@[simp] theorem State.setFlow_port (n : Nat) (x : Option Flow) (k0 : Nat) : (s.setFlow n x).port k0 = s.port k0 := rfl
@[simp] theorem State.setFlow_net (n : Nat) (x : Option Flow) (k0 : Nat) : (s.setFlow n x).net k0 = s.net k0 := rfl
@[simp] theorem State.setFlow_dom (n : Nat) (x : Option Flow) (k0 : Nat) : (s.setFlow n x).dom k0 = s.dom k0 := rfl
@[simp] theorem State.setFlow_domOn (n : Nat) (x : Option Flow) (k0 : Nat) : (s.setFlow n x).domOn k0 = s.domOn k0 := rfl
@[simp] theorem State.setFlow_owner (n : Nat) (x : Option Flow) (k0 i0 : Nat) : (s.setFlow n x).owner k0 i0 = s.owner k0 i0 := rfl
@[simp] theorem State.setFlow_owns (n : Nat) (x : Option Flow) (h0 k0 i0 : Nat) : (s.setFlow n x).owns h0 k0 i0 = s.owns h0 k0 i0 := rfl
@[simp] theorem State.setFlow_slot (n : Nat) (x : Option Flow) (k0 : Nat) : (s.setFlow n x).slot k0 = s.slot k0 := rfl
@[simp] theorem State.setFlow_ax (n : Nat) (x : Option Flow) (k0 : Nat) : (s.setFlow n x).ax k0 = s.ax k0 := rfl

/-! ### modNet -/

@[simp] theorem State.modNet_rd (p : Nat) (f : NetPort → NetPort) (a0 : Nat) : (s.modNet p f).rd a0 = s.rd a0 := rfl
@[simp] theorem State.modNet_get (p : Nat) (f : NetPort → NetPort) (f0 : Fld) : (s.modNet p f).get f0 = s.get f0 := rfl
@[simp] theorem State.modNet_flag (p : Nat) (f : NetPort → NetPort) (f0 : Fld) : (s.modNet p f).flag f0 = s.flag f0 := rfl
@[simp] theorem State.modNet_hc (p : Nat) (f : NetPort → NetPort) (k0 : Nat) : (s.modNet p f).hc k0 = s.hc k0 := rfl
@[simp] theorem State.modNet_ch (p : Nat) (f : NetPort → NetPort) (k0 : Nat) : (s.modNet p f).ch k0 = s.ch k0 := rfl
@[simp] theorem State.modNet_br (p : Nat) (f : NetPort → NetPort) (k0 : Nat) : (s.modNet p f).br k0 = s.br k0 := rfl
@[simp] theorem State.modNet_bank (p : Nat) (f : NetPort → NetPort) (k0 : Nat) : (s.modNet p f).bank k0 = s.bank k0 := rfl
@[simp] theorem State.modNet_grp (p : Nat) (f : NetPort → NetPort) (k0 : Nat) : (s.modNet p f).grp k0 = s.grp k0 := rfl
@[simp] theorem State.modNet_port (p : Nat) (f : NetPort → NetPort) (k0 : Nat) : (s.modNet p f).port k0 = s.port k0 := rfl
@[simp] theorem State.modNet_flow (p : Nat) (f : NetPort → NetPort) (k0 : Nat) : (s.modNet p f).flow k0 = s.flow k0 := rfl
@[simp] theorem State.modNet_dom (p : Nat) (f : NetPort → NetPort) (k0 : Nat) : (s.modNet p f).dom k0 = s.dom k0 := rfl
@[simp] theorem State.modNet_domOn (p : Nat) (f : NetPort → NetPort) (k0 : Nat) : (s.modNet p f).domOn k0 = s.domOn k0 := rfl
@[simp] theorem State.modNet_owner (p : Nat) (f : NetPort → NetPort) (k0 i0 : Nat) : (s.modNet p f).owner k0 i0 = s.owner k0 i0 := rfl
@[simp] theorem State.modNet_owns (p : Nat) (f : NetPort → NetPort) (h0 k0 i0 : Nat) : (s.modNet p f).owns h0 k0 i0 = s.owns h0 k0 i0 := rfl
@[simp] theorem State.modNet_slot (p : Nat) (f : NetPort → NetPort) (k0 : Nat) : (s.modNet p f).slot k0 = s.slot k0 := rfl
@[simp] theorem State.modNet_ax (p : Nat) (f : NetPort → NetPort) (k0 : Nat) : (s.modNet p f).ax k0 = s.ax k0 := rfl

/-! ### modDom -/

@[simp] theorem State.modDom_rd (d : Nat) (f : Dom → Dom) (a0 : Nat) : (s.modDom d f).rd a0 = s.rd a0 := rfl
@[simp] theorem State.modDom_get (d : Nat) (f : Dom → Dom) (f0 : Fld) : (s.modDom d f).get f0 = s.get f0 := rfl
@[simp] theorem State.modDom_flag (d : Nat) (f : Dom → Dom) (f0 : Fld) : (s.modDom d f).flag f0 = s.flag f0 := rfl
@[simp] theorem State.modDom_hc (d : Nat) (f : Dom → Dom) (k0 : Nat) : (s.modDom d f).hc k0 = s.hc k0 := rfl
@[simp] theorem State.modDom_ch (d : Nat) (f : Dom → Dom) (k0 : Nat) : (s.modDom d f).ch k0 = s.ch k0 := rfl
@[simp] theorem State.modDom_br (d : Nat) (f : Dom → Dom) (k0 : Nat) : (s.modDom d f).br k0 = s.br k0 := rfl
@[simp] theorem State.modDom_bank (d : Nat) (f : Dom → Dom) (k0 : Nat) : (s.modDom d f).bank k0 = s.bank k0 := rfl
@[simp] theorem State.modDom_grp (d : Nat) (f : Dom → Dom) (k0 : Nat) : (s.modDom d f).grp k0 = s.grp k0 := rfl
@[simp] theorem State.modDom_port (d : Nat) (f : Dom → Dom) (k0 : Nat) : (s.modDom d f).port k0 = s.port k0 := rfl
@[simp] theorem State.modDom_flow (d : Nat) (f : Dom → Dom) (k0 : Nat) : (s.modDom d f).flow k0 = s.flow k0 := rfl
@[simp] theorem State.modDom_net (d : Nat) (f : Dom → Dom) (k0 : Nat) : (s.modDom d f).net k0 = s.net k0 := rfl
@[simp] theorem State.modDom_owner (d : Nat) (f : Dom → Dom) (k0 i0 : Nat) : (s.modDom d f).owner k0 i0 = s.owner k0 i0 := rfl
@[simp] theorem State.modDom_owns (d : Nat) (f : Dom → Dom) (h0 k0 i0 : Nat) : (s.modDom d f).owns h0 k0 i0 = s.owns h0 k0 i0 := rfl
@[simp] theorem State.modDom_slot (d : Nat) (f : Dom → Dom) (k0 : Nat) : (s.modDom d f).slot k0 = s.slot k0 := rfl
@[simp] theorem State.modDom_ax (d : Nat) (f : Dom → Dom) (k0 : Nat) : (s.modDom d f).ax k0 = s.ax k0 := rfl

/-! ### setOwner -/

@[simp] theorem State.setOwner_rd (kind idx : Nat) (o : Option Nat) (a0 : Nat) : (s.setOwner kind idx o).rd a0 = s.rd a0 := rfl
@[simp] theorem State.setOwner_get (kind idx : Nat) (o : Option Nat) (f0 : Fld) : (s.setOwner kind idx o).get f0 = s.get f0 := rfl
@[simp] theorem State.setOwner_flag (kind idx : Nat) (o : Option Nat) (f0 : Fld) : (s.setOwner kind idx o).flag f0 = s.flag f0 := rfl
@[simp] theorem State.setOwner_hc (kind idx : Nat) (o : Option Nat) (k0 : Nat) : (s.setOwner kind idx o).hc k0 = s.hc k0 := rfl
@[simp] theorem State.setOwner_ch (kind idx : Nat) (o : Option Nat) (k0 : Nat) : (s.setOwner kind idx o).ch k0 = s.ch k0 := rfl
@[simp] theorem State.setOwner_br (kind idx : Nat) (o : Option Nat) (k0 : Nat) : (s.setOwner kind idx o).br k0 = s.br k0 := rfl
@[simp] theorem State.setOwner_bank (kind idx : Nat) (o : Option Nat) (k0 : Nat) : (s.setOwner kind idx o).bank k0 = s.bank k0 := rfl
@[simp] theorem State.setOwner_grp (kind idx : Nat) (o : Option Nat) (k0 : Nat) : (s.setOwner kind idx o).grp k0 = s.grp k0 := rfl
@[simp] theorem State.setOwner_port (kind idx : Nat) (o : Option Nat) (k0 : Nat) : (s.setOwner kind idx o).port k0 = s.port k0 := rfl
@[simp] theorem State.setOwner_flow (kind idx : Nat) (o : Option Nat) (k0 : Nat) : (s.setOwner kind idx o).flow k0 = s.flow k0 := rfl
@[simp] theorem State.setOwner_net (kind idx : Nat) (o : Option Nat) (k0 : Nat) : (s.setOwner kind idx o).net k0 = s.net k0 := rfl
@[simp] theorem State.setOwner_dom (kind idx : Nat) (o : Option Nat) (k0 : Nat) : (s.setOwner kind idx o).dom k0 = s.dom k0 := rfl
@[simp] theorem State.setOwner_domOn (kind idx : Nat) (o : Option Nat) (k0 : Nat) : (s.setOwner kind idx o).domOn k0 = s.domOn k0 := rfl
@[simp] theorem State.setOwner_slot (kind idx : Nat) (o : Option Nat) (k0 : Nat) : (s.setOwner kind idx o).slot k0 = s.slot k0 := rfl
@[simp] theorem State.setOwner_ax (kind idx : Nat) (o : Option Nat) (k0 : Nat) : (s.setOwner kind idx o).ax k0 = s.ax k0 := rfl

/-! ### emit -/

@[simp] theorem State.emit_rd (x : Sent) (a0 : Nat) : (s.emit x).rd a0 = s.rd a0 := rfl
@[simp] theorem State.emit_get (x : Sent) (f0 : Fld) : (s.emit x).get f0 = s.get f0 := rfl
@[simp] theorem State.emit_flag (x : Sent) (f0 : Fld) : (s.emit x).flag f0 = s.flag f0 := rfl
@[simp] theorem State.emit_hc (x : Sent) (k0 : Nat) : (s.emit x).hc k0 = s.hc k0 := rfl
@[simp] theorem State.emit_ch (x : Sent) (k0 : Nat) : (s.emit x).ch k0 = s.ch k0 := rfl
@[simp] theorem State.emit_br (x : Sent) (k0 : Nat) : (s.emit x).br k0 = s.br k0 := rfl
@[simp] theorem State.emit_bank (x : Sent) (k0 : Nat) : (s.emit x).bank k0 = s.bank k0 := rfl
@[simp] theorem State.emit_grp (x : Sent) (k0 : Nat) : (s.emit x).grp k0 = s.grp k0 := rfl
@[simp] theorem State.emit_port (x : Sent) (k0 : Nat) : (s.emit x).port k0 = s.port k0 := rfl
@[simp] theorem State.emit_flow (x : Sent) (k0 : Nat) : (s.emit x).flow k0 = s.flow k0 := rfl
@[simp] theorem State.emit_net (x : Sent) (k0 : Nat) : (s.emit x).net k0 = s.net k0 := rfl
@[simp] theorem State.emit_dom (x : Sent) (k0 : Nat) : (s.emit x).dom k0 = s.dom k0 := rfl
@[simp] theorem State.emit_domOn (x : Sent) (k0 : Nat) : (s.emit x).domOn k0 = s.domOn k0 := rfl
@[simp] theorem State.emit_owner (x : Sent) (k0 i0 : Nat) : (s.emit x).owner k0 i0 = s.owner k0 i0 := rfl
@[simp] theorem State.emit_owns (x : Sent) (h0 k0 i0 : Nat) : (s.emit x).owns h0 k0 i0 = s.owns h0 k0 i0 := rfl
@[simp] theorem State.emit_slot (x : Sent) (k0 : Nat) : (s.emit x).slot k0 = s.slot k0 := rfl
@[simp] theorem State.emit_ax (x : Sent) (k0 : Nat) : (s.emit x).ax k0 = s.ax k0 := rfl

/-! ### keep -/

@[simp] theorem State.keep_pending (u : State) : (s.keep u).pending = s.pending := rfl
@[simp] theorem State.keep_now (u : State) : (s.keep u).now = s.now := rfl
@[simp] theorem State.keep_otp (u : State) : (s.keep u).otp = s.otp := rfl
@[simp] theorem State.keep_devTime (u : State) : (s.keep u).devTime = u.devTime := rfl
@[simp] theorem State.keep_regs (u : State) : (s.keep u).regs = u.regs := rfl
@[simp] theorem State.keep_freeCount (u : State) : (s.keep u).freeCount = u.freeCount := rfl
@[simp] theorem State.keep_nextId (u : State) : (s.keep u).nextId = u.nextId := rfl
@[simp] theorem State.keep_issuing (u : State) : (s.keep u).issuing = u.issuing := rfl
@[simp] theorem State.keep_turnHc (u : State) : (s.keep u).turnHc = u.turnHc := rfl
@[simp] theorem State.keep_hcs (u : State) : (s.keep u).hcs = u.hcs := rfl
@[simp] theorem State.keep_owners (u : State) : (s.keep u).owners = u.owners := rfl
@[simp] theorem State.keep_jobs (u : State) : (s.keep u).jobs = u.jobs := rfl
@[simp] theorem State.keep_portCells (u : State) : (s.keep u).portCells = u.portCells := rfl
@[simp] theorem State.keep_backlog (u : State) : (s.keep u).backlog = u.backlog := rfl
@[simp] theorem State.keep_lostFor (u : State) : (s.keep u).lostFor = u.lostFor := rfl
@[simp] theorem State.keep_sent (u : State) : (s.keep u).sent = u.sent := rfl
@[simp] theorem State.keep_sdo (u : State) : (s.keep u).sdo = u.sdo := rfl
@[simp] theorem State.keep_crce (u : State) : (s.keep u).crce = u.crce := rfl
@[simp] theorem State.keep_rdy (u : State) : (s.keep u).rdy = u.rdy := rfl
@[simp] theorem State.keep_aonIrq (u : State) : (s.keep u).aonIrq = u.aonIrq := rfl
@[simp] theorem State.keep_vsup (u : State) : (s.keep u).vsup = u.vsup := rfl
@[simp] theorem State.keep_powerLost (u : State) : (s.keep u).powerLost = u.powerLost := rfl
@[simp] theorem State.keep_uvMask (u : State) : (s.keep u).uvMask = u.uvMask := rfl
@[simp] theorem State.keep_degMask (u : State) : (s.keep u).degMask = u.degMask := rfl
@[simp] theorem State.keep_olFrom (u : State) : (s.keep u).olFrom = u.olFrom := rfl
@[simp] theorem State.keep_vioOk (u : State) : (s.keep u).vioOk = u.vioOk := rfl
@[simp] theorem State.keep_t0 (u : State) : (s.keep u).t0 = u.t0 := rfl
@[simp] theorem State.keep_sysUp (u : State) : (s.keep u).sysUp = u.sysUp := rfl
@[simp] theorem State.keep_serving (u : State) : (s.keep u).serving = u.serving := rfl
@[simp] theorem State.keep_rstLow (u : State) : (s.keep u).rstLow = u.rstLow := rfl
@[simp] theorem State.keep_sysStartTimes (u : State) : (s.keep u).sysStartTimes = u.sysStartTimes := rfl
@[simp] theorem State.keep_devResetAt (u : State) : (s.keep u).devResetAt = u.devResetAt := rfl
@[simp] theorem State.keep_coastAt (u : State) : (s.keep u).coastAt = u.coastAt := rfl
@[simp] theorem State.keep_coastTime (u : State) : (s.keep u).coastTime = u.coastTime := rfl
@[simp] theorem State.keep_lhLevel (u : State) : (s.keep u).lhLevel = u.lhLevel := rfl
@[simp] theorem State.keep_chans (u : State) : (s.keep u).chans = u.chans := rfl
@[simp] theorem State.keep_bridges (u : State) : (s.keep u).bridges = u.bridges := rfl
@[simp] theorem State.keep_banks (u : State) : (s.keep u).banks = u.banks := rfl
@[simp] theorem State.keep_line (u : State) : (s.keep u).line = u.line := rfl
@[simp] theorem State.keep_grants (u : State) : (s.keep u).grants = u.grants := rfl
@[simp] theorem State.keep_gov (u : State) : (s.keep u).gov = u.gov := rfl
@[simp] theorem State.keep_govPend (u : State) : (s.keep u).govPend = u.govPend := rfl
@[simp] theorem State.keep_ports (u : State) : (s.keep u).ports = u.ports := rfl
@[simp] theorem State.keep_pairs (u : State) : (s.keep u).pairs = u.pairs := rfl
@[simp] theorem State.keep_pairSel (u : State) : (s.keep u).pairSel = u.pairSel := rfl
@[simp] theorem State.keep_flows (u : State) : (s.keep u).flows = u.flows := rfl
@[simp] theorem State.keep_fullTold (u : State) : (s.keep u).fullTold = u.fullTold := rfl
@[simp] theorem State.keep_fwd (u : State) : (s.keep u).fwd = u.fwd := rfl
@[simp] theorem State.keep_netPorts (u : State) : (s.keep u).netPorts = u.netPorts := rfl
@[simp] theorem State.keep_slowWin (u : State) : (s.keep u).slowWin = u.slowWin := rfl
@[simp] theorem State.keep_slowQ (u : State) : (s.keep u).slowQ = u.slowQ := rfl
@[simp] theorem State.keep_asGood (u : State) : (s.keep u).asGood = u.asGood := rfl
@[simp] theorem State.keep_asAt (u : State) : (s.keep u).asAt = u.asAt := rfl
@[simp] theorem State.keep_asHi (u : State) : (s.keep u).asHi = u.asHi := rfl
@[simp] theorem State.keep_fullAt (u : State) : (s.keep u).fullAt = u.fullAt := rfl
@[simp] theorem State.keep_log (u : State) : (s.keep u).log = u.log := rfl
@[simp] theorem State.keep_inbox (u : State) : (s.keep u).inbox = u.inbox := rfl
@[simp] theorem State.keep_summaryFlash (u : State) : (s.keep u).summaryFlash = u.summaryFlash := rfl
@[simp] theorem State.keep_summaryAt (u : State) : (s.keep u).summaryAt = u.summaryAt := rfl
@[simp] theorem State.keep_summaryLoaded (u : State) : (s.keep u).summaryLoaded = u.summaryLoaded := rfl
@[simp] theorem State.keep_fqTold (u : State) : (s.keep u).fqTold = u.fqTold := rfl
@[simp] theorem State.keep_fiDeb (u : State) : (s.keep u).fiDeb = u.fiDeb := rfl
@[simp] theorem State.keep_doms (u : State) : (s.keep u).doms = u.doms := rfl
@[simp] theorem State.keep_wakeTimer (u : State) : (s.keep u).wakeTimer = u.wakeTimer := rfl
@[simp] theorem State.keep_wkLevel (u : State) : (s.keep u).wkLevel = u.wkLevel := rfl
@[simp] theorem State.keep_hibAt (u : State) : (s.keep u).hibAt = u.hibAt := rfl
@[simp] theorem State.keep_sbPtr (u : State) : (s.keep u).sbPtr = u.sbPtr := rfl
@[simp] theorem State.keep_sbOut (u : State) : (s.keep u).sbOut = u.sbOut := rfl
@[simp] theorem State.keep_sysReturn (u : State) : (s.keep u).sysReturn = u.sysReturn := rfl
@[simp] theorem State.keep_sysAgain (u : State) : (s.keep u).sysAgain = u.sysAgain := rfl
@[simp] theorem State.keep_sbHold (u : State) : (s.keep u).sbHold = u.sbHold := rfl
@[simp] theorem State.keep_keyArr (u : State) : (s.keep u).keyArr = u.keyArr := rfl
@[simp] theorem State.keep_dbgArr (u : State) : (s.keep u).dbgArr = u.dbgArr := rfl
@[simp] theorem State.keep_testPins (u : State) : (s.keep u).testPins = u.testPins := rfl
@[simp] theorem State.keep_staged (u : State) : (s.keep u).staged = u.staged := rfl
@[simp] theorem State.keep_keyWrite (u : State) : (s.keep u).keyWrite = u.keyWrite := rfl
@[simp] theorem State.keep_cache (u : State) : (s.keep u).cache = u.cache := rfl
@[simp] theorem State.keep_ram (u : State) : (s.keep u).ram = u.ram := rfl
@[simp] theorem State.keep_remaskAt (u : State) : (s.keep u).remaskAt = u.remaskAt := rfl
@[simp] theorem State.keep_rngAt (u : State) : (s.keep u).rngAt = u.rngAt := rfl
@[simp] theorem State.keep_challenges (u : State) : (s.keep u).challenges = u.challenges := rfl
@[simp] theorem State.keep_imm (u : State) : (s.keep u).imm = u.imm := rfl
@[simp] theorem State.keep_flash (u : State) : (s.keep u).flash = u.flash := rfl
@[simp] theorem State.keep_erases (u : State) : (s.keep u).erases = u.erases := rfl
@[simp] theorem State.keep_cfgNow (u : State) : (s.keep u).cfgNow = u.cfgNow := rfl
@[simp] theorem State.keep_fwLock (u : State) : (s.keep u).fwLock = u.fwLock := rfl
@[simp] theorem State.keep_cfgLock (u : State) : (s.keep u).cfgLock = u.cfgLock := rfl
@[simp] theorem State.keep_runTicks (u : State) : (s.keep u).runTicks = u.runTicks := rfl
@[simp] theorem State.keep_uds (u : State) : (s.keep u).uds = u.uds := rfl
@[simp] theorem State.keep_axes (u : State) : (s.keep u).axes = u.axes := rfl
@[simp] theorem State.keep_timeHi (u : State) : (s.keep u).timeHi = u.timeHi := rfl
@[simp] theorem State.keep_alignCount (u : State) : (s.keep u).alignCount = u.alignCount := rfl
@[simp] theorem State.keep_alignAt (u : State) : (s.keep u).alignAt = u.alignAt := rfl
@[simp] theorem State.keep_stepDue (u : State) : (s.keep u).stepDue = u.stepDue := rfl
@[simp] theorem State.keep_rateFrac (u : State) : (s.keep u).rateFrac = u.rateFrac := rfl
@[simp] theorem State.keep_slots (u : State) : (s.keep u).slots = u.slots := rfl
@[simp] theorem State.keep_dueQ (u : State) : (s.keep u).dueQ = u.dueQ := rfl
@[simp] theorem State.keep_acts (u : State) : (s.keep u).acts = u.acts := rfl
@[simp] theorem State.keep_crossings (u : State) : (s.keep u).crossings = u.crossings := rfl
@[simp] theorem State.keep_tickAt (u : State) : (s.keep u).tickAt = u.tickAt := rfl
@[simp] theorem State.keep_fireTimes (u : State) : (s.keep u).fireTimes = u.fireTimes := rfl
@[simp] theorem State.keep_leadRuns (u : State) : (s.keep u).leadRuns = u.leadRuns := rfl
@[simp] theorem State.keep_later (u : State) : (s.keep u).later = u.later := rfl
@[simp] theorem State.keep_rd (u : State) (a0 : Nat) : (s.keep u).rd a0 = u.rd a0 := rfl
@[simp] theorem State.keep_get (u : State) (f0 : Fld) : (s.keep u).get f0 = u.get f0 := rfl
@[simp] theorem State.keep_flag (u : State) (f0 : Fld) : (s.keep u).flag f0 = u.flag f0 := rfl
@[simp] theorem State.keep_hc (u : State) (k0 : Nat) : (s.keep u).hc k0 = u.hc k0 := rfl
@[simp] theorem State.keep_ch (u : State) (k0 : Nat) : (s.keep u).ch k0 = u.ch k0 := rfl
@[simp] theorem State.keep_br (u : State) (k0 : Nat) : (s.keep u).br k0 = u.br k0 := rfl
@[simp] theorem State.keep_bank (u : State) (k0 : Nat) : (s.keep u).bank k0 = u.bank k0 := rfl
@[simp] theorem State.keep_grp (u : State) (k0 : Nat) : (s.keep u).grp k0 = u.grp k0 := rfl
@[simp] theorem State.keep_port (u : State) (k0 : Nat) : (s.keep u).port k0 = u.port k0 := rfl
@[simp] theorem State.keep_flow (u : State) (k0 : Nat) : (s.keep u).flow k0 = u.flow k0 := rfl
@[simp] theorem State.keep_net (u : State) (k0 : Nat) : (s.keep u).net k0 = u.net k0 := rfl
@[simp] theorem State.keep_dom (u : State) (k0 : Nat) : (s.keep u).dom k0 = u.dom k0 := rfl
@[simp] theorem State.keep_domOn (u : State) (k0 : Nat) : (s.keep u).domOn k0 = u.domOn k0 := rfl
@[simp] theorem State.keep_owner (u : State) (k0 i0 : Nat) : (s.keep u).owner k0 i0 = u.owner k0 i0 := rfl
@[simp] theorem State.keep_owns (u : State) (h0 k0 i0 : Nat) : (s.keep u).owns h0 k0 i0 = u.owns h0 k0 i0 := rfl
@[simp] theorem State.keep_slot (u : State) (k0 : Nat) : (s.keep u).slot k0 = u.slot k0 := rfl
@[simp] theorem State.keep_ax (u : State) (k0 : Nat) : (s.keep u).ax k0 = u.ax k0 := rfl

/-- An effect that leaves the queue, the time and one-time memory alone is the whole of what a command does. -/
theorem State.keep_of {u : State} (hp : u.pending = s.pending) (hn : u.now = s.now) (ho : u.otp = s.otp) : s.keep u = u := by
  simp only [State.keep, ← hp, ← hn, ← ho]

end Sys2Proof.Machine
end

