-- ==== Sys2Proof/Laws/Taken.lean ====
section
/-! SUPPORT. Taking a command from its queue changes nothing but that queue: one lemma per field and per reading. -/

namespace Sys2Proof.Machine

variable (s : State) (n : Nat) (i : Instr)

/-! ### Fields -/

@[simp] theorem State.taken_pending : (s.taken n i).pending = s.pending := by simp only [State.taken, State.accepted, State.setIssuing, State.nextName, State.setQueue, State.modHc_pending]
@[simp] theorem State.taken_now : (s.taken n i).now = s.now := by simp only [State.taken, State.accepted, State.setIssuing, State.nextName, State.setQueue, State.modHc_now]
@[simp] theorem State.taken_otp : (s.taken n i).otp = s.otp := by simp only [State.taken, State.accepted, State.setIssuing, State.nextName, State.setQueue, State.modHc_otp]
@[simp] theorem State.taken_devTime : (s.taken n i).devTime = s.devTime := by simp only [State.taken, State.accepted, State.setIssuing, State.nextName, State.setQueue, State.modHc_devTime]
@[simp] theorem State.taken_regs : (s.taken n i).regs = s.regs := by simp only [State.taken, State.accepted, State.setIssuing, State.nextName, State.setQueue, State.modHc_regs]
@[simp] theorem State.taken_freeCount : (s.taken n i).freeCount = s.freeCount := by simp only [State.taken, State.accepted, State.setIssuing, State.nextName, State.setQueue, State.modHc_freeCount]
@[simp] theorem State.taken_owners : (s.taken n i).owners = s.owners := by simp only [State.taken, State.accepted, State.setIssuing, State.nextName, State.setQueue, State.modHc_owners]
@[simp] theorem State.taken_jobs : (s.taken n i).jobs = s.jobs := by simp only [State.taken, State.accepted, State.setIssuing, State.nextName, State.setQueue, State.modHc_jobs]
@[simp] theorem State.taken_portCells : (s.taken n i).portCells = s.portCells := by simp only [State.taken, State.accepted, State.setIssuing, State.nextName, State.setQueue, State.modHc_portCells]
@[simp] theorem State.taken_backlog : (s.taken n i).backlog = s.backlog := by simp only [State.taken, State.accepted, State.setIssuing, State.nextName, State.setQueue, State.modHc_backlog]
@[simp] theorem State.taken_lostFor : (s.taken n i).lostFor = s.lostFor := by simp only [State.taken, State.accepted, State.setIssuing, State.nextName, State.setQueue, State.modHc_lostFor]
@[simp] theorem State.taken_sent : (s.taken n i).sent = s.sent := by simp only [State.taken, State.accepted, State.setIssuing, State.nextName, State.setQueue, State.modHc_sent]
@[simp] theorem State.taken_sdo : (s.taken n i).sdo = s.sdo := by simp only [State.taken, State.accepted, State.setIssuing, State.nextName, State.setQueue, State.modHc_sdo]
@[simp] theorem State.taken_crce : (s.taken n i).crce = s.crce := by simp only [State.taken, State.accepted, State.setIssuing, State.nextName, State.setQueue, State.modHc_crce]
@[simp] theorem State.taken_rdy : (s.taken n i).rdy = s.rdy := by simp only [State.taken, State.accepted, State.setIssuing, State.nextName, State.setQueue, State.modHc_rdy]
@[simp] theorem State.taken_aonIrq : (s.taken n i).aonIrq = s.aonIrq := by simp only [State.taken, State.accepted, State.setIssuing, State.nextName, State.setQueue, State.modHc_aonIrq]
@[simp] theorem State.taken_vsup : (s.taken n i).vsup = s.vsup := by simp only [State.taken, State.accepted, State.setIssuing, State.nextName, State.setQueue, State.modHc_vsup]
@[simp] theorem State.taken_powerLost : (s.taken n i).powerLost = s.powerLost := by simp only [State.taken, State.accepted, State.setIssuing, State.nextName, State.setQueue, State.modHc_powerLost]
@[simp] theorem State.taken_uvMask : (s.taken n i).uvMask = s.uvMask := by simp only [State.taken, State.accepted, State.setIssuing, State.nextName, State.setQueue, State.modHc_uvMask]
@[simp] theorem State.taken_degMask : (s.taken n i).degMask = s.degMask := by simp only [State.taken, State.accepted, State.setIssuing, State.nextName, State.setQueue, State.modHc_degMask]
@[simp] theorem State.taken_olFrom : (s.taken n i).olFrom = s.olFrom := by simp only [State.taken, State.accepted, State.setIssuing, State.nextName, State.setQueue, State.modHc_olFrom]
@[simp] theorem State.taken_vioOk : (s.taken n i).vioOk = s.vioOk := by simp only [State.taken, State.accepted, State.setIssuing, State.nextName, State.setQueue, State.modHc_vioOk]
@[simp] theorem State.taken_t0 : (s.taken n i).t0 = s.t0 := by simp only [State.taken, State.accepted, State.setIssuing, State.nextName, State.setQueue, State.modHc_t0]
@[simp] theorem State.taken_sysUp : (s.taken n i).sysUp = s.sysUp := by simp only [State.taken, State.accepted, State.setIssuing, State.nextName, State.setQueue, State.modHc_sysUp]
@[simp] theorem State.taken_serving : (s.taken n i).serving = s.serving := by simp only [State.taken, State.accepted, State.setIssuing, State.nextName, State.setQueue, State.modHc_serving]
@[simp] theorem State.taken_rstLow : (s.taken n i).rstLow = s.rstLow := by simp only [State.taken, State.accepted, State.setIssuing, State.nextName, State.setQueue, State.modHc_rstLow]
@[simp] theorem State.taken_sysStartTimes : (s.taken n i).sysStartTimes = s.sysStartTimes := by simp only [State.taken, State.accepted, State.setIssuing, State.nextName, State.setQueue, State.modHc_sysStartTimes]
@[simp] theorem State.taken_devResetAt : (s.taken n i).devResetAt = s.devResetAt := by simp only [State.taken, State.accepted, State.setIssuing, State.nextName, State.setQueue, State.modHc_devResetAt]
@[simp] theorem State.taken_coastAt : (s.taken n i).coastAt = s.coastAt := by simp only [State.taken, State.accepted, State.setIssuing, State.nextName, State.setQueue, State.modHc_coastAt]
@[simp] theorem State.taken_coastTime : (s.taken n i).coastTime = s.coastTime := by simp only [State.taken, State.accepted, State.setIssuing, State.nextName, State.setQueue, State.modHc_coastTime]
@[simp] theorem State.taken_lhLevel : (s.taken n i).lhLevel = s.lhLevel := by simp only [State.taken, State.accepted, State.setIssuing, State.nextName, State.setQueue, State.modHc_lhLevel]
@[simp] theorem State.taken_chans : (s.taken n i).chans = s.chans := by simp only [State.taken, State.accepted, State.setIssuing, State.nextName, State.setQueue, State.modHc_chans]
@[simp] theorem State.taken_bridges : (s.taken n i).bridges = s.bridges := by simp only [State.taken, State.accepted, State.setIssuing, State.nextName, State.setQueue, State.modHc_bridges]
@[simp] theorem State.taken_banks : (s.taken n i).banks = s.banks := by simp only [State.taken, State.accepted, State.setIssuing, State.nextName, State.setQueue, State.modHc_banks]
@[simp] theorem State.taken_line : (s.taken n i).line = s.line := by simp only [State.taken, State.accepted, State.setIssuing, State.nextName, State.setQueue, State.modHc_line]
@[simp] theorem State.taken_grants : (s.taken n i).grants = s.grants := by simp only [State.taken, State.accepted, State.setIssuing, State.nextName, State.setQueue, State.modHc_grants]
@[simp] theorem State.taken_gov : (s.taken n i).gov = s.gov := by simp only [State.taken, State.accepted, State.setIssuing, State.nextName, State.setQueue, State.modHc_gov]
@[simp] theorem State.taken_govPend : (s.taken n i).govPend = s.govPend := by simp only [State.taken, State.accepted, State.setIssuing, State.nextName, State.setQueue, State.modHc_govPend]
@[simp] theorem State.taken_ports : (s.taken n i).ports = s.ports := by simp only [State.taken, State.accepted, State.setIssuing, State.nextName, State.setQueue, State.modHc_ports]
@[simp] theorem State.taken_pairs : (s.taken n i).pairs = s.pairs := by simp only [State.taken, State.accepted, State.setIssuing, State.nextName, State.setQueue, State.modHc_pairs]
@[simp] theorem State.taken_pairSel : (s.taken n i).pairSel = s.pairSel := by simp only [State.taken, State.accepted, State.setIssuing, State.nextName, State.setQueue, State.modHc_pairSel]
@[simp] theorem State.taken_flows : (s.taken n i).flows = s.flows := by simp only [State.taken, State.accepted, State.setIssuing, State.nextName, State.setQueue, State.modHc_flows]
@[simp] theorem State.taken_fullTold : (s.taken n i).fullTold = s.fullTold := by simp only [State.taken, State.accepted, State.setIssuing, State.nextName, State.setQueue, State.modHc_fullTold]
@[simp] theorem State.taken_fwd : (s.taken n i).fwd = s.fwd := by simp only [State.taken, State.accepted, State.setIssuing, State.nextName, State.setQueue, State.modHc_fwd]
@[simp] theorem State.taken_netPorts : (s.taken n i).netPorts = s.netPorts := by simp only [State.taken, State.accepted, State.setIssuing, State.nextName, State.setQueue, State.modHc_netPorts]
@[simp] theorem State.taken_slowWin : (s.taken n i).slowWin = s.slowWin := by simp only [State.taken, State.accepted, State.setIssuing, State.nextName, State.setQueue, State.modHc_slowWin]
@[simp] theorem State.taken_slowQ : (s.taken n i).slowQ = s.slowQ := by simp only [State.taken, State.accepted, State.setIssuing, State.nextName, State.setQueue, State.modHc_slowQ]
@[simp] theorem State.taken_asGood : (s.taken n i).asGood = s.asGood := by simp only [State.taken, State.accepted, State.setIssuing, State.nextName, State.setQueue, State.modHc_asGood]
@[simp] theorem State.taken_asAt : (s.taken n i).asAt = s.asAt := by simp only [State.taken, State.accepted, State.setIssuing, State.nextName, State.setQueue, State.modHc_asAt]
@[simp] theorem State.taken_asHi : (s.taken n i).asHi = s.asHi := by simp only [State.taken, State.accepted, State.setIssuing, State.nextName, State.setQueue, State.modHc_asHi]
@[simp] theorem State.taken_fullAt : (s.taken n i).fullAt = s.fullAt := by simp only [State.taken, State.accepted, State.setIssuing, State.nextName, State.setQueue, State.modHc_fullAt]
@[simp] theorem State.taken_log : (s.taken n i).log = s.log := by simp only [State.taken, State.accepted, State.setIssuing, State.nextName, State.setQueue, State.modHc_log]
@[simp] theorem State.taken_inbox : (s.taken n i).inbox = s.inbox := by simp only [State.taken, State.accepted, State.setIssuing, State.nextName, State.setQueue, State.modHc_inbox]
@[simp] theorem State.taken_summaryFlash : (s.taken n i).summaryFlash = s.summaryFlash := by simp only [State.taken, State.accepted, State.setIssuing, State.nextName, State.setQueue, State.modHc_summaryFlash]
@[simp] theorem State.taken_summaryAt : (s.taken n i).summaryAt = s.summaryAt := by simp only [State.taken, State.accepted, State.setIssuing, State.nextName, State.setQueue, State.modHc_summaryAt]
@[simp] theorem State.taken_summaryLoaded : (s.taken n i).summaryLoaded = s.summaryLoaded := by simp only [State.taken, State.accepted, State.setIssuing, State.nextName, State.setQueue, State.modHc_summaryLoaded]
@[simp] theorem State.taken_fqTold : (s.taken n i).fqTold = s.fqTold := by simp only [State.taken, State.accepted, State.setIssuing, State.nextName, State.setQueue, State.modHc_fqTold]
@[simp] theorem State.taken_fiDeb : (s.taken n i).fiDeb = s.fiDeb := by simp only [State.taken, State.accepted, State.setIssuing, State.nextName, State.setQueue, State.modHc_fiDeb]
@[simp] theorem State.taken_doms : (s.taken n i).doms = s.doms := by simp only [State.taken, State.accepted, State.setIssuing, State.nextName, State.setQueue, State.modHc_doms]
@[simp] theorem State.taken_wakeTimer : (s.taken n i).wakeTimer = s.wakeTimer := by simp only [State.taken, State.accepted, State.setIssuing, State.nextName, State.setQueue, State.modHc_wakeTimer]
@[simp] theorem State.taken_wkLevel : (s.taken n i).wkLevel = s.wkLevel := by simp only [State.taken, State.accepted, State.setIssuing, State.nextName, State.setQueue, State.modHc_wkLevel]
@[simp] theorem State.taken_hibAt : (s.taken n i).hibAt = s.hibAt := by simp only [State.taken, State.accepted, State.setIssuing, State.nextName, State.setQueue, State.modHc_hibAt]
@[simp] theorem State.taken_sbPtr : (s.taken n i).sbPtr = s.sbPtr := by simp only [State.taken, State.accepted, State.setIssuing, State.nextName, State.setQueue, State.modHc_sbPtr]
@[simp] theorem State.taken_sbOut : (s.taken n i).sbOut = s.sbOut := by simp only [State.taken, State.accepted, State.setIssuing, State.nextName, State.setQueue, State.modHc_sbOut]
@[simp] theorem State.taken_sysReturn : (s.taken n i).sysReturn = s.sysReturn := by simp only [State.taken, State.accepted, State.setIssuing, State.nextName, State.setQueue, State.modHc_sysReturn]
@[simp] theorem State.taken_sysAgain : (s.taken n i).sysAgain = s.sysAgain := by simp only [State.taken, State.accepted, State.setIssuing, State.nextName, State.setQueue, State.modHc_sysAgain]
@[simp] theorem State.taken_sbHold : (s.taken n i).sbHold = s.sbHold := by simp only [State.taken, State.accepted, State.setIssuing, State.nextName, State.setQueue, State.modHc_sbHold]
@[simp] theorem State.taken_keyArr : (s.taken n i).keyArr = s.keyArr := by simp only [State.taken, State.accepted, State.setIssuing, State.nextName, State.setQueue, State.modHc_keyArr]
@[simp] theorem State.taken_dbgArr : (s.taken n i).dbgArr = s.dbgArr := by simp only [State.taken, State.accepted, State.setIssuing, State.nextName, State.setQueue, State.modHc_dbgArr]
@[simp] theorem State.taken_testPins : (s.taken n i).testPins = s.testPins := by simp only [State.taken, State.accepted, State.setIssuing, State.nextName, State.setQueue, State.modHc_testPins]
@[simp] theorem State.taken_staged : (s.taken n i).staged = s.staged := by simp only [State.taken, State.accepted, State.setIssuing, State.nextName, State.setQueue, State.modHc_staged]
@[simp] theorem State.taken_keyWrite : (s.taken n i).keyWrite = s.keyWrite := by simp only [State.taken, State.accepted, State.setIssuing, State.nextName, State.setQueue, State.modHc_keyWrite]
@[simp] theorem State.taken_cache : (s.taken n i).cache = s.cache := by simp only [State.taken, State.accepted, State.setIssuing, State.nextName, State.setQueue, State.modHc_cache]
@[simp] theorem State.taken_ram : (s.taken n i).ram = s.ram := by simp only [State.taken, State.accepted, State.setIssuing, State.nextName, State.setQueue, State.modHc_ram]
@[simp] theorem State.taken_remaskAt : (s.taken n i).remaskAt = s.remaskAt := by simp only [State.taken, State.accepted, State.setIssuing, State.nextName, State.setQueue, State.modHc_remaskAt]
@[simp] theorem State.taken_rngAt : (s.taken n i).rngAt = s.rngAt := by simp only [State.taken, State.accepted, State.setIssuing, State.nextName, State.setQueue, State.modHc_rngAt]
@[simp] theorem State.taken_challenges : (s.taken n i).challenges = s.challenges := by simp only [State.taken, State.accepted, State.setIssuing, State.nextName, State.setQueue, State.modHc_challenges]
@[simp] theorem State.taken_imm : (s.taken n i).imm = s.imm := by simp only [State.taken, State.accepted, State.setIssuing, State.nextName, State.setQueue, State.modHc_imm]
@[simp] theorem State.taken_flash : (s.taken n i).flash = s.flash := by simp only [State.taken, State.accepted, State.setIssuing, State.nextName, State.setQueue, State.modHc_flash]
@[simp] theorem State.taken_erases : (s.taken n i).erases = s.erases := by simp only [State.taken, State.accepted, State.setIssuing, State.nextName, State.setQueue, State.modHc_erases]
@[simp] theorem State.taken_cfgNow : (s.taken n i).cfgNow = s.cfgNow := by simp only [State.taken, State.accepted, State.setIssuing, State.nextName, State.setQueue, State.modHc_cfgNow]
@[simp] theorem State.taken_fwLock : (s.taken n i).fwLock = s.fwLock := by simp only [State.taken, State.accepted, State.setIssuing, State.nextName, State.setQueue, State.modHc_fwLock]
@[simp] theorem State.taken_cfgLock : (s.taken n i).cfgLock = s.cfgLock := by simp only [State.taken, State.accepted, State.setIssuing, State.nextName, State.setQueue, State.modHc_cfgLock]
@[simp] theorem State.taken_runTicks : (s.taken n i).runTicks = s.runTicks := by simp only [State.taken, State.accepted, State.setIssuing, State.nextName, State.setQueue, State.modHc_runTicks]
@[simp] theorem State.taken_uds : (s.taken n i).uds = s.uds := by simp only [State.taken, State.accepted, State.setIssuing, State.nextName, State.setQueue, State.modHc_uds]
@[simp] theorem State.taken_axes : (s.taken n i).axes = s.axes := by simp only [State.taken, State.accepted, State.setIssuing, State.nextName, State.setQueue, State.modHc_axes]
@[simp] theorem State.taken_timeHi : (s.taken n i).timeHi = s.timeHi := by simp only [State.taken, State.accepted, State.setIssuing, State.nextName, State.setQueue, State.modHc_timeHi]
@[simp] theorem State.taken_alignCount : (s.taken n i).alignCount = s.alignCount := by simp only [State.taken, State.accepted, State.setIssuing, State.nextName, State.setQueue, State.modHc_alignCount]
@[simp] theorem State.taken_alignAt : (s.taken n i).alignAt = s.alignAt := by simp only [State.taken, State.accepted, State.setIssuing, State.nextName, State.setQueue, State.modHc_alignAt]
@[simp] theorem State.taken_stepDue : (s.taken n i).stepDue = s.stepDue := by simp only [State.taken, State.accepted, State.setIssuing, State.nextName, State.setQueue, State.modHc_stepDue]
@[simp] theorem State.taken_rateFrac : (s.taken n i).rateFrac = s.rateFrac := by simp only [State.taken, State.accepted, State.setIssuing, State.nextName, State.setQueue, State.modHc_rateFrac]
@[simp] theorem State.taken_slots : (s.taken n i).slots = s.slots := by simp only [State.taken, State.accepted, State.setIssuing, State.nextName, State.setQueue, State.modHc_slots]
@[simp] theorem State.taken_dueQ : (s.taken n i).dueQ = s.dueQ := by simp only [State.taken, State.accepted, State.setIssuing, State.nextName, State.setQueue, State.modHc_dueQ]
@[simp] theorem State.taken_acts : (s.taken n i).acts = s.acts := by simp only [State.taken, State.accepted, State.setIssuing, State.nextName, State.setQueue, State.modHc_acts]
@[simp] theorem State.taken_crossings : (s.taken n i).crossings = s.crossings := by simp only [State.taken, State.accepted, State.setIssuing, State.nextName, State.setQueue, State.modHc_crossings]
@[simp] theorem State.taken_tickAt : (s.taken n i).tickAt = s.tickAt := by simp only [State.taken, State.accepted, State.setIssuing, State.nextName, State.setQueue, State.modHc_tickAt]
@[simp] theorem State.taken_fireTimes : (s.taken n i).fireTimes = s.fireTimes := by simp only [State.taken, State.accepted, State.setIssuing, State.nextName, State.setQueue, State.modHc_fireTimes]
@[simp] theorem State.taken_leadRuns : (s.taken n i).leadRuns = s.leadRuns := by simp only [State.taken, State.accepted, State.setIssuing, State.nextName, State.setQueue, State.modHc_leadRuns]
@[simp] theorem State.taken_later : (s.taken n i).later = s.later := by simp only [State.taken, State.accepted, State.setIssuing, State.nextName, State.setQueue, State.modHc_later]

/-! ### Readings -/

@[simp] theorem State.taken_rd (a : Nat) : (s.taken n i).rd a = s.rd a := by simp only [State.rd, State.taken_regs]
@[simp] theorem State.taken_get (f : Fld) : (s.taken n i).get f = s.get f := by simp only [State.get, State.taken_rd]
@[simp] theorem State.taken_flag (f : Fld) : (s.taken n i).flag f = s.flag f := by simp only [State.flag, State.taken_get]
@[simp] theorem State.taken_ch (k : Nat) : (s.taken n i).ch k = s.ch k := by simp only [State.ch, State.taken_chans]
@[simp] theorem State.taken_br (k : Nat) : (s.taken n i).br k = s.br k := by simp only [State.br, State.taken_bridges]
@[simp] theorem State.taken_bank (k : Nat) : (s.taken n i).bank k = s.bank k := by simp only [State.bank, State.taken_banks]
@[simp] theorem State.taken_grp (k : Nat) : (s.taken n i).grp k = s.grp k := by simp only [State.grp, State.taken_gov]
@[simp] theorem State.taken_port (k : Nat) : (s.taken n i).port k = s.port k := by simp only [State.port, State.taken_ports]
@[simp] theorem State.taken_flow (k : Nat) : (s.taken n i).flow k = s.flow k := by simp only [State.flow, State.taken_flows]
@[simp] theorem State.taken_net (k : Nat) : (s.taken n i).net k = s.net k := by simp only [State.net, State.taken_netPorts]
@[simp] theorem State.taken_slot (k : Nat) : (s.taken n i).slot k = s.slot k := by simp only [State.slot, State.taken_slots]
@[simp] theorem State.taken_ax (k : Nat) : (s.taken n i).ax k = s.ax k := by simp only [State.ax, State.taken_axes]
@[simp] theorem State.taken_dom (k : Nat) : (s.taken n i).dom k = s.dom k := by simp only [State.dom, State.taken_doms]
@[simp] theorem State.taken_domOn (k : Nat) : (s.taken n i).domOn k = s.domOn k := by simp only [State.domOn, State.taken_dom]
@[simp] theorem State.taken_owner (k m : Nat) : (s.taken n i).owner k m = s.owner k m := by simp only [State.owner, State.taken_owners]
@[simp] theorem State.taken_owns (h k m : Nat) : (s.taken n i).owns h k m = s.owns h k m := by simp only [State.owns, State.taken_owner]
@[simp] theorem State.taken_sysHolder (h : Nat) : (s.taken n i).sysHolder h = s.sysHolder h := by simp only [State.sysHolder, State.taken_owns]
@[simp] theorem State.taken_closed (h : Nat) : (s.taken n i).closed h = s.closed h := by simp only [State.closed, State.taken_flag]
@[simp] theorem State.taken_bound (h : Nat) : (s.taken n i).bound h = s.bound h := by simp only [State.bound, State.taken_get]
@[simp] theorem State.taken_quota (h k : Nat) : (s.taken n i).quota h k = s.quota h k := by simp only [State.quota, State.taken_get]
@[simp] theorem State.taken_bridged (k : Nat) : (s.taken n i).bridged k = s.bridged k := by simp only [State.bridged, State.taken_rd]
@[simp] theorem State.taken_recording : (s.taken n i).recording = s.recording := by simp only [State.recording, State.taken_sysUp, State.taken_domOn]

end Sys2Proof.Machine
end

