-- ==== Sys2Proof/Laws/TakenReads.lean ====
section
/-! SUPPORT. What a reading of the state gives where a command has been taken from its context's queue: the same as before it, for every
reading that does not look at the queues themselves. -/

namespace Sys2Proof.Machine

variable (s : State) (n : Nat) (i : Instr)

@[simp] theorem State.taken_time32 : (s.taken n i).time32 = s.time32 := by simp [State.time32]
@[simp] theorem State.taken_isolated (src : Nat) : (s.taken n i).isolated src = s.isolated src := by simp [State.isolated]
@[simp] theorem State.taken_ridgeUp (l : Nat) : (s.taken n i).ridgeUp l = s.ridgeUp l := by simp [State.ridgeUp]
@[simp] theorem State.taken_portWord (p k : Nat) : (s.taken n i).portWord p k = s.portWord p k := by simp [State.portWord]
@[simp] theorem State.taken_netUp (p : Nat) : (s.taken n i).netUp p = s.netUp p := by simp [State.netUp]
@[simp] theorem State.taken_ka : (s.taken n i).ka = s.ka := by simp [State.ka]
@[simp] theorem State.taken_shares (n1 : Nat) : (s.taken n i).shares n1 = s.shares n1 := by simp [State.shares]
@[simp] theorem State.taken_useKey (n1 b : Nat) : (s.taken n i).useKey n1 b = s.useKey n1 b := by simp [State.useKey]
@[simp] theorem State.taken_unique : (s.taken n i).unique = s.unique := by simp [State.unique]
@[simp] theorem State.taken_parentOf (d : DKey) : (s.taken n i).parentOf d = s.parentOf d := by simp [State.parentOf]
@[simp] theorem State.taken_derived (d : DKey) : (s.taken n i).derived d = s.derived d := by simp [State.derived]
@[simp] theorem State.taken_baseKey (n1 : Nat) (d : DKey) : (s.taken n i).baseKey n1 d = s.baseKey n1 d := by simp [State.baseKey]
@[simp] theorem State.taken_stagedOf (n1 : Nat) : (s.taken n i).stagedOf n1 = s.stagedOf n1 := by simp [State.stagedOf]
@[simp] theorem State.taken_ownNumber : (s.taken n i).ownNumber = s.ownNumber := by simp [State.ownNumber]
@[simp] theorem State.taken_govShared : (s.taken n i).govShared = s.govShared := by simp [State.govShared]
@[simp] theorem State.taken_govIdx (g : Nat) : (s.taken n i).govIdx g = s.govIdx g := by simp [State.govIdx]
@[simp] theorem State.taken_govOf (ch : Nat) : (s.taken n i).govOf ch = s.govOf ch := by simp [State.govOf]
@[simp] theorem State.taken_members (g : Nat) : (s.taken n i).members g = s.members g := by simp [State.members]
@[simp] theorem State.taken_govAlone (g : Nat) : (s.taken n i).govAlone g = s.govAlone g := by simp [State.govAlone]
@[simp] theorem State.taken_shareOf (g : Nat) : (s.taken n i).shareOf g = s.shareOf g := by simp [State.shareOf]
@[simp] theorem State.taken_countOwned (hc kind count : Nat) : (s.taken n i).countOwned hc kind count = s.countOwned hc kind count := by
  simp [State.countOwned]
@[simp] theorem State.taken_countClaimed (hc kind : Nat) : (s.taken n i).countClaimed hc kind = s.countClaimed hc kind := by simp [State.countClaimed]
@[simp] theorem State.taken_hcInrush (hc g : Nat) : (s.taken n i).hcInrush hc g = s.hcInrush hc g := by simp [State.hcInrush]
@[simp] theorem State.taken_inrushUse (hc g : Nat) : (s.taken n i).inrushUse hc g = s.inrushUse hc g := by simp [State.inrushUse]
@[simp] theorem State.taken_offered (dest : List Nat) : (s.taken n i).offered dest = s.offered dest := by simp [State.offered]
@[simp] theorem State.taken_ownerList (kind idx : Nat) : (s.taken n i).ownerList kind idx = s.ownerList kind idx := by simp [State.ownerList]
@[simp] theorem State.taken_sysHolders : (s.taken n i).sysHolders = s.sysHolders := by simp [State.sysHolders]
@[simp] theorem State.taken_canf (n1 k hi lo : Nat) : (s.taken n i).canf n1 k hi lo = s.canf n1 k hi lo := by simp [State.canf]
@[simp] theorem State.taken_canAllows (n1 fmt : Nat) : (s.taken n i).canAllows n1 fmt = s.canAllows n1 fmt := by simp [State.canAllows]
@[simp] theorem State.taken_canSt (n1 : Nat) : (s.taken n i).canSt n1 = s.canSt n1 := by simp [State.canSt]
@[simp] theorem State.taken_canSends (n1 : Nat) : (s.taken n i).canSends n1 = s.canSends n1 := by simp [State.canSends]
@[simp] theorem State.taken_canHears (n1 : Nat) : (s.taken n i).canHears n1 = s.canHears n1 := by simp [State.canHears]
@[simp] theorem State.taken_sofTime (age : Nat) : (s.taken n i).sofTime age = s.sofTime age := by simp [State.sofTime]
@[simp] theorem State.taken_tdcOn (n1 : Nat) (f : CanFrame) : (s.taken n i).tdcOn n1 f = s.tdcOn n1 f := by simp [State.tdcOn]
@[simp] theorem State.taken_rxq (n1 q : Nat) : (s.taken n i).rxq n1 q = s.rxq n1 q := by simp [State.rxq]
@[simp] theorem State.taken_pair (k : Nat) : (s.taken n i).pair k = s.pair k := by simp [State.pair]
@[simp] theorem State.taken_pairList : (s.taken n i).pairList = s.pairList := by simp [State.pairList]
@[simp] theorem State.taken_pairFor (n1 : Nat) (f : CanFrame) (own : Bool) : (s.taken n i).pairFor n1 f own = s.pairFor n1 f own := by
  simp [State.pairFor]
@[simp] theorem State.taken_linkTo (c : Nat) : (s.taken n i).linkTo c = s.linkTo c := by simp [State.linkTo]
@[simp] theorem State.taken_job (n1 : Nat) : (s.taken n i).job n1 = s.job n1 := by simp [State.job]
@[simp] theorem State.taken_domLost (d : Nat) : (s.taken n i).domLost d = s.domLost d := by simp [State.domLost]
@[simp] theorem State.taken_bringSet (d : Nat) : (s.taken n i).bringSet d = s.bringSet d := by simp [State.bringSet]
@[simp] theorem State.taken_exitReady (d : Nat) : (s.taken n i).exitReady d = s.exitReady d := by simp [State.exitReady]
@[simp] theorem State.taken_pairOf (n1 : Nat) : (s.taken n i).pairOf n1 = s.pairOf n1 := by simp [State.pairOf]
@[simp] theorem State.taken_ownedBy (n1 : Nat) : (s.taken n i).ownedBy n1 = s.ownedBy n1 := by simp [State.ownedBy]
@[simp] theorem State.taken_underWay (j : Job) : (s.taken n i).underWay j = s.underWay j := by simp [State.underWay]
@[simp] theorem State.taken_txFull (i1 : Instr) : (s.taken n i).txFull i1 = s.txFull i1 := by simp [State.txFull]
@[simp] theorem State.taken_waking (i1 : Instr) : (s.taken n i).waking i1 = s.waking i1 := by simp [State.waking]
@[simp] theorem State.taken_bankCut (b : Nat) : (s.taken n i).bankCut b = s.bankCut b := by simp [State.bankCut]
@[simp] theorem State.taken_regCut (a : Nat) : (s.taken n i).regCut a = s.regCut a := by simp [State.regCut]
@[simp] theorem State.taken_linkLost (i1 : Instr) : (s.taken n i).linkLost i1 = s.linkLost i1 := by simp [State.linkLost]
@[simp] theorem State.taken_serves (hc : Nat) : (s.taken n i).serves hc = s.serves hc := by simp [State.serves]
@[simp] theorem State.taken_phaseGate (i1 : Instr) : (s.taken n i).phaseGate i1 = s.phaseGate i1 := by simp [State.phaseGate]
@[simp] theorem State.taken_limpGate (i1 : Instr) : (s.taken n i).limpGate i1 = s.limpGate i1 := by simp [State.limpGate]
@[simp] theorem State.taken_gate (h : Hdr) (i1 : Instr) : (s.taken n i).gate h i1 = s.gate h i1 := by simp [State.gate]
@[simp] theorem State.taken_writing : (s.taken n i).writing = s.writing := by simp [State.writing]
@[simp] theorem State.taken_cfgw (n1 k : Nat) : (s.taken n i).cfgw n1 k = s.cfgw n1 k := by simp [State.cfgw]
@[simp] theorem State.taken_chPrio (n1 : Nat) : (s.taken n i).chPrio n1 = s.chPrio n1 := by simp [State.chPrio]
@[simp] theorem State.taken_chDefer (n1 : Nat) : (s.taken n i).chDefer n1 = s.chDefer n1 := by simp [State.chDefer]
@[simp] theorem State.taken_limSteady (n1 : Nat) : (s.taken n i).limSteady n1 = s.limSteady n1 := by simp [State.limSteady]
@[simp] theorem State.taken_limInrush (n1 : Nat) : (s.taken n i).limInrush n1 = s.limInrush n1 := by simp [State.limInrush]
@[simp] theorem State.taken_inrushTime (n1 : Nat) : (s.taken n i).inrushTime n1 = s.inrushTime n1 := by simp [State.inrushTime]
@[simp] theorem State.taken_dtLimit (n1 : Nat) : (s.taken n i).dtLimit n1 = s.dtLimit n1 := by simp [State.dtLimit]
@[simp] theorem State.taken_dtHyst (n1 : Nat) : (s.taken n i).dtHyst n1 = s.dtHyst n1 := by simp [State.dtHyst]
@[simp] theorem State.taken_restartMax (n1 : Nat) : (s.taken n i).restartMax n1 = s.restartMax n1 := by simp [State.restartMax]
@[simp] theorem State.taken_budgetI (n1 : Nat) : (s.taken n i).budgetI n1 = s.budgetI n1 := by simp [State.budgetI]
@[simp] theorem State.taken_budgetT (n1 : Nat) : (s.taken n i).budgetT n1 = s.budgetT n1 := by simp [State.budgetT]
@[simp] theorem State.taken_head (n1 : Nat) : (s.taken n i).head n1 = s.head n1 := by simp [State.head]
@[simp] theorem State.taken_uvCh (n1 : Nat) : (s.taken n i).uvCh n1 = s.uvCh n1 := by simp [State.uvCh]
@[simp] theorem State.taken_dtCode (n1 : Nat) : (s.taken n i).dtCode n1 = s.dtCode n1 := by simp [State.dtCode]
@[simp] theorem State.taken_vbatCode (b : Nat) : (s.taken n i).vbatCode b = s.vbatCode b := by simp [State.vbatCode]
@[simp] theorem State.taken_aboveLevel (n1 : Nat) : (s.taken n i).aboveLevel n1 = s.aboveLevel n1 := by simp [State.aboveLevel]
@[simp] theorem State.taken_coolEnough (n1 : Nat) : (s.taken n i).coolEnough n1 = s.coolEnough n1 := by simp [State.coolEnough]
@[simp] theorem State.taken_tooHot (n1 : Nat) : (s.taken n i).tooHot n1 = s.tooHot n1 := by simp [State.tooHot]
@[simp] theorem State.taken_restartN (n1 : Nat) : (s.taken n i).restartN n1 = s.restartN n1 := by simp [State.restartN]
@[simp] theorem State.taken_waits (n1 : Nat) : (s.taken n i).waits n1 = s.waits n1 := by simp [State.waits]
@[simp] theorem State.taken_chCode (n1 : Nat) : (s.taken n i).chCode n1 = s.chCode n1 := by simp [State.chCode]
@[simp] theorem State.taken_bankCoast (b : Nat) : (s.taken n i).bankCoast b = s.bankCoast b := by simp [State.bankCoast]
@[simp] theorem State.taken_chWord (n1 : Nat) : (s.taken n i).chWord n1 = s.chWord n1 := by simp [State.chWord]
@[simp] theorem State.taken_limpEntry (n1 : Nat) : (s.taken n i).limpEntry n1 = s.limpEntry n1 := by simp [State.limpEntry]
@[simp] theorem State.taken_limpMode (n1 : Nat) : (s.taken n i).limpMode n1 = s.limpMode n1 := by simp [State.limpMode]
@[simp] theorem State.taken_lhActive (sel : Nat) (inv : Bool) : (s.taken n i).lhActive sel inv = s.lhActive sel inv := by simp [State.lhActive]
@[simp] theorem State.taken_limpOn (n1 : Nat) : (s.taken n i).limpOn n1 = s.limpOn n1 := by simp [State.limpOn]
@[simp] theorem State.taken_limpFor (n1 : Nat) : (s.taken n i).limpFor n1 = s.limpFor n1 := by simp [State.limpFor]
@[simp] theorem State.taken_limpBase (n1 : Nat) : (s.taken n i).limpBase n1 = s.limpBase n1 := by simp [State.limpBase]
@[simp] theorem State.taken_basePeriod (n1 : Nat) : (s.taken n i).basePeriod n1 = s.basePeriod n1 := by simp [State.basePeriod]
@[simp] theorem State.taken_gen (n1 : Nat) : (s.taken n i).gen n1 = s.gen n1 := by simp [State.gen]
@[simp] theorem State.taken_chPeriod (n1 : Nat) : (s.taken n i).chPeriod n1 = s.chPeriod n1 := by simp [State.chPeriod]
@[simp] theorem State.taken_inPeriod (n1 : Nat) : (s.taken n i).inPeriod n1 = s.inPeriod n1 := by simp [State.inPeriod]
@[simp] theorem State.taken_onOffset (n1 : Nat) : (s.taken n i).onOffset n1 = s.onOffset n1 := by simp [State.onOffset]
@[simp] theorem State.taken_nextOn (n1 : Nat) : (s.taken n i).nextOn n1 = s.nextOn n1 := by simp [State.nextOn]
@[simp] theorem State.taken_tMin (n1 : Nat) : (s.taken n i).tMin n1 = s.tMin n1 := by simp [State.tMin]
@[simp] theorem State.taken_onTicks (n1 : Nat) : (s.taken n i).onTicks n1 = s.onTicks n1 := by simp [State.onTicks]
@[simp] theorem State.taken_clamps (n1 : Nat) : (s.taken n i).clamps n1 = s.clamps n1 := by simp [State.clamps]
@[simp] theorem State.taken_pwmHigh (n1 : Nat) : (s.taken n i).pwmHigh n1 = s.pwmHigh n1 := by simp [State.pwmHigh]
@[simp] theorem State.taken_passTime (k : Nat) : (s.taken n i).passTime k = s.passTime k := by simp [State.passTime]
@[simp] theorem State.taken_mustPass (k : Nat) (fwd : Bool) : (s.taken n i).mustPass k fwd = s.mustPass k fwd := by simp [State.mustPass]
@[simp] theorem State.taken_goesFwd (k : Nat) : (s.taken n i).goesFwd k = s.goesFwd k := by simp [State.goesFwd]
@[simp] theorem State.taken_isOn (n1 : Nat) : (s.taken n i).isOn n1 = s.isOn n1 := by simp [State.isOn]
@[simp] theorem State.taken_pulseWidth (n1 : Nat) : (s.taken n i).pulseWidth n1 = s.pulseWidth n1 := by simp [State.pulseWidth]
@[simp] theorem State.taken_lampDuty (b duty vnom : Nat) : (s.taken n i).lampDuty b duty vnom = s.lampDuty b duty vnom := by simp [State.lampDuty]
@[simp] theorem State.taken_pset (n1 k : Nat) : (s.taken n i).pset n1 k = s.pset n1 k := by simp [State.pset]
@[simp] theorem State.taken_swin (n1 : Nat) : (s.taken n i).swin n1 = s.swin n1 := by simp [State.swin]
@[simp] theorem State.taken_parked (set : List Word) : (s.taken n i).parked set = s.parked set := by simp [State.parked]
@[simp] theorem State.taken_parkedSet (code : Nat) (set : List Word) : (s.taken n i).parkedSet code set = s.parkedSet code set := by
  simp [State.parkedSet]
@[simp] theorem State.taken_axOut (n1 : Nat) : (s.taken n i).axOut n1 = s.axOut n1 := by simp [State.axOut]
@[simp] theorem State.taken_limpWant (n1 : Nat) : (s.taken n i).limpWant n1 = s.limpWant n1 := by simp [State.limpWant]
@[simp] theorem State.taken_profileCheck (n1 code k : Nat) : (s.taken n i).profileCheck n1 code k = s.profileCheck n1 code k := by
  simp [State.profileCheck]
@[simp] theorem State.taken_leadBandOf (n1 : Nat) (vbat : Int) : (s.taken n i).leadBandOf n1 vbat = s.leadBandOf n1 vbat := by simp [State.leadBandOf]
@[simp] theorem State.taken_leadBand (n1 : Nat) : (s.taken n i).leadBand n1 = s.leadBand n1 := by simp [State.leadBand]
@[simp] theorem State.taken_leadEntry (n1 kind band : Nat) : (s.taken n i).leadEntry n1 kind band = s.leadEntry n1 kind band := by
  simp [State.leadEntry]
@[simp] theorem State.taken_reached (x : Slot) (l : Int) : (s.taken n i).reached x l = s.reached x l := by simp [State.reached]
@[simp] theorem State.taken_toGo (x : Slot) : (s.taken n i).toGo x = s.toGo x := by simp [State.toGo]
@[simp] theorem State.taken_nextTarget (x : Slot) : (s.taken n i).nextTarget x = s.nextTarget x := by simp [State.nextTarget]
@[simp] theorem State.taken_usedOf (g : Nat) : (s.taken n i).usedOf g = s.usedOf g := by simp [State.usedOf]
@[simp] theorem State.taken_shareMax (g : Nat) : (s.taken n i).shareMax g = s.shareMax g := by simp [State.shareMax]
@[simp] theorem State.taken_frozen (g : Nat) : (s.taken n i).frozen g = s.frozen g := by simp [State.frozen]
@[simp] theorem State.taken_reqAmt (r : Req) (g : Nat) : (s.taken n i).reqAmt r g = s.reqAmt r g := by simp [State.reqAmt]
@[simp] theorem State.taken_reqGroups (r : Req) : (s.taken n i).reqGroups r = s.reqGroups r := by simp [State.reqGroups]
@[simp] theorem State.taken_shareOk (r : Req) (g : Nat) : (s.taken n i).shareOk r g = s.shareOk r g := by simp [State.shareOk]
@[simp] theorem State.taken_roomOk (r : Req) (g : Nat) : (s.taken n i).roomOk r g = s.roomOk r g := by simp [State.roomOk]
@[simp] theorem State.taken_reaches (r : Req) : (s.taken n i).reaches r = s.reaches r := by simp [State.reaches]
@[simp] theorem State.taken_ahead (r : Req) : (s.taken n i).ahead r = s.ahead r := by simp [State.ahead]
@[simp] theorem State.taken_shareHeld (passed : List Nat) (r : Req) : (s.taken n i).shareHeld passed r = s.shareHeld passed r := by
  simp [State.shareHeld]
@[simp] theorem State.taken_ordered : (s.taken n i).ordered = s.ordered := by simp [State.ordered]
@[simp] theorem State.taken_passables : (s.taken n i).passables = s.passables := by simp [State.passables]
@[simp] theorem State.taken_grantable (r : Req) : (s.taken n i).grantable r = s.grantable r := by simp [State.grantable]
@[simp] theorem State.taken_turnCase (n1 : Nat) : (s.taken n i).turnCase n1 = s.turnCase n1 := by simp [State.turnCase]
@[simp] theorem State.taken_onCase (n1 : Nat) : (s.taken n i).onCase n1 = s.onCase n1 := by simp [State.onCase]
@[simp] theorem State.taken_limpOnNow : (s.taken n i).limpOnNow = s.limpOnNow := by simp [State.limpOnNow]
@[simp] theorem State.taken_cooled (n1 : Nat) : (s.taken n i).cooled n1 = s.cooled n1 := by simp [State.cooled]
@[simp] theorem State.taken_wanted (n1 : Nat) : (s.taken n i).wanted n1 = s.wanted n1 := by simp [State.wanted]
@[simp] theorem State.taken_mayRestart (n1 : Nat) : (s.taken n i).mayRestart n1 = s.mayRestart n1 := by simp [State.mayRestart]
@[simp] theorem State.taken_moveOf (k a d t : Nat) (job : Option Nat) : (s.taken n i).moveOf k a d t job = s.moveOf k a d t job := by
  simp [State.moveOf]
@[simp] theorem State.taken_edgeDue (n1 : Nat) : (s.taken n i).edgeDue n1 = s.edgeDue n1 := by simp [State.edgeDue]
@[simp] theorem State.taken_wholeRefusal (r : Req) : (s.taken n i).wholeRefusal r = s.wholeRefusal r := by simp [State.wholeRefusal]
@[simp] theorem State.taken_servedByOther (r : Req) : (s.taken n i).servedByOther r = s.servedByOther r := by simp [State.servedByOther]
@[simp] theorem State.taken_growReq (r : Req) : (s.taken n i).growReq r = s.growReq r := by simp [State.growReq]
@[simp] theorem State.taken_warnedBanks (r : Req) : (s.taken n i).warnedBanks r = s.warnedBanks r := by simp [State.warnedBanks]
@[simp] theorem State.taken_overAsk (r : Req) : (s.taken n i).overAsk r = s.overAsk r := by simp [State.overAsk]
@[simp] theorem State.taken_armed : (s.taken n i).armed = s.armed := by simp [State.armed]
@[simp] theorem State.taken_axf (n1 k hi lo : Nat) : (s.taken n i).axf n1 k hi lo = s.axf n1 k hi lo := by simp [State.axf]
@[simp] theorem State.taken_axRec (n1 : Nat) : (s.taken n i).axRec n1 = s.axRec n1 := by simp [State.axRec]
@[simp] theorem State.taken_axKind (n1 : Nat) : (s.taken n i).axKind n1 = s.axKind n1 := by simp [State.axKind]
@[simp] theorem State.taken_axSource (n1 : Nat) : (s.taken n i).axSource n1 = s.axSource n1 := by simp [State.axSource]
@[simp] theorem State.taken_axScale (n1 : Nat) : (s.taken n i).axScale n1 = s.axScale n1 := by simp [State.axScale]
@[simp] theorem State.taken_axTimeout (n1 : Nat) : (s.taken n i).axTimeout n1 = s.axTimeout n1 := by simp [State.axTimeout]
@[simp] theorem State.taken_axLimit (n1 : Nat) (x : Int) : (s.taken n i).axLimit n1 x = s.axLimit n1 x := by simp [State.axLimit]
@[simp] theorem State.taken_axHeld (n1 : Nat) (a : Axis) (x : Int) : (s.taken n i).axHeld n1 a x = s.axHeld n1 a x := by simp [State.axHeld]
@[simp] theorem State.taken_axInv (n1 : Nat) (v : Int) : (s.taken n i).axInv n1 v = s.axInv n1 v := by simp [State.axInv]
@[simp] theorem State.taken_axSpeed (n1 : Nat) (d : Int) (dt : Nat) : (s.taken n i).axSpeed n1 d dt = s.axSpeed n1 d dt := by simp [State.axSpeed]
@[simp] theorem State.taken_axField (n1 : Nat) (data : List Byte) : (s.taken n i).axField n1 data = s.axField n1 data := by simp [State.axField]
@[simp] theorem State.taken_axStat (n1 : Nat) : (s.taken n i).axStat n1 = s.axStat n1 := by simp [State.axStat]
@[simp] theorem State.taken_axVel (n1 : Nat) : (s.taken n i).axVel n1 = s.axVel n1 := by simp [State.axVel]
@[simp] theorem State.taken_swf (n1 hi lo : Nat) : (s.taken n i).swf n1 hi lo = s.swf n1 hi lo := by simp [State.swf]
@[simp] theorem State.taken_swinCont (n1 : Nat) : (s.taken n i).swinCont n1 = s.swinCont n1 := by simp [State.swinCont]
@[simp] theorem State.taken_swinCyclic (n1 : Nat) : (s.taken n i).swinCyclic n1 = s.swinCyclic n1 := by simp [State.swinCyclic]
@[simp] theorem State.taken_fif (n1 hi lo : Nat) : (s.taken n i).fif n1 hi lo = s.fif n1 hi lo := by simp [State.fif]
@[simp] theorem State.taken_pairDelay (src index : Nat) (second : Bool) : (s.taken n i).pairDelay src index second = s.pairDelay src index second := by
  simp [State.pairDelay]
@[simp] theorem State.taken_wetSums (n1 w : Nat) : (s.taken n i).wetSums n1 w = s.wetSums n1 w := by simp [State.wetSums]
@[simp] theorem State.taken_wetOk (n1 w : Nat) : (s.taken n i).wetOk n1 w = s.wetOk n1 w := by simp [State.wetOk]
@[simp] theorem State.taken_wetWord (n1 : Nat) (w : Word) : (s.taken n i).wetWord n1 w = s.wetWord n1 w := by simp [State.wetWord]
@[simp] theorem State.taken_fiInv : (s.taken n i).fiInv = s.fiInv := by simp [State.fiInv]
@[simp] theorem State.taken_fiState : (s.taken n i).fiState = s.fiState := by simp [State.fiState]
@[simp] theorem State.taken_fieldLive : (s.taken n i).fieldLive = s.fieldLive := by simp [State.fieldLive]
@[simp] theorem State.taken_fqOn (k : Nat) : (s.taken n i).fqOn k = s.fqOn k := by simp [State.fqOn]
@[simp] theorem State.taken_v5out : (s.taken n i).v5out = s.v5out := by simp [State.v5out]
@[simp] theorem State.taken_oscRuns : (s.taken n i).oscRuns = s.oscRuns := by simp [State.oscRuns]
@[simp] theorem State.taken_rdyPin : (s.taken n i).rdyPin = s.rdyPin := by simp [State.rdyPin]
@[simp] theorem State.taken_testOpen : (s.taken n i).testOpen = s.testOpen := by simp [State.testOpen]
@[simp] theorem State.taken_tdo : (s.taken n i).tdo = s.tdo := by simp [State.tdo]
@[simp] theorem State.taken_axFilt (n1 : Nat) : (s.taken n i).axFilt n1 = s.axFilt n1 := by simp [State.axFilt]
@[simp] theorem State.taken_chRec (n1 : Nat) : (s.taken n i).chRec n1 = s.chRec n1 := by simp [State.chRec]
@[simp] theorem State.taken_mirrorBridge (n1 : Nat) (ws : List Word) : (s.taken n i).mirrorBridge n1 ws = s.mirrorBridge n1 ws := by
  simp [State.mirrorBridge]
@[simp] theorem State.taken_pairOff (n1 : Nat) : (s.taken n i).pairOff n1 = s.pairOff n1 := by simp [State.pairOff]
@[simp] theorem State.taken_thetaMilli (n1 : Nat) : (s.taken n i).thetaMilli n1 = s.thetaMilli n1 := by simp [State.thetaMilli]
@[simp] theorem State.taken_chStatCont (n1 : Nat) : (s.taken n i).chStatCont n1 = s.chStatCont n1 := by simp [State.chStatCont]
@[simp] theorem State.taken_drivable (n1 : Nat) : (s.taken n i).drivable n1 = s.drivable n1 := by simp [State.drivable]
@[simp] theorem State.taken_chOnRefusal (h : Hdr) (n1 : Nat) : (s.taken n i).chOnRefusal h n1 = s.chOnRefusal h n1 := by simp [State.chOnRefusal]
@[simp] theorem State.taken_chOffRefusal (h : Hdr) (n1 : Nat) : (s.taken n i).chOffRefusal h n1 = s.chOffRefusal h n1 := by simp [State.chOffRefusal]
@[simp] theorem State.taken_safeHeld (n1 : Nat) : (s.taken n i).safeHeld n1 = s.safeHeld n1 := by simp [State.safeHeld]
@[simp] theorem State.taken_conducts (n1 : Nat) : (s.taken n i).conducts n1 = s.conducts n1 := by simp [State.conducts]
@[simp] theorem State.taken_switches (n1 : Nat) : (s.taken n i).switches n1 = s.switches n1 := by simp [State.switches]
@[simp] theorem State.taken_limitOver (n1 : Nat) : (s.taken n i).limitOver n1 = s.limitOver n1 := by simp [State.limitOver]
@[simp] theorem State.taken_thetaNext (n1 : Nat) : (s.taken n i).thetaNext n1 = s.thetaNext n1 := by simp [State.thetaNext]
@[simp] theorem State.taken_reports (b : Nat) : (s.taken n i).reports b = s.reports b := by simp [State.reports]
@[simp] theorem State.taken_chanDiss (n1 : Nat) : (s.taken n i).chanDiss n1 = s.chanDiss n1 := by simp [State.chanDiss]
@[simp] theorem State.taken_bankMilli (b : Nat) : (s.taken n i).bankMilli b = s.bankMilli b := by simp [State.bankMilli]
@[simp] theorem State.taken_loadSeen (n1 : Nat) : (s.taken n i).loadSeen n1 = s.loadSeen n1 := by simp [State.loadSeen]
@[simp] theorem State.taken_avg (n1 : Nat) : (s.taken n i).avg n1 = s.avg n1 := by simp [State.avg]
@[simp] theorem State.taken_motorSet (k : Nat) : (s.taken n i).motorSet k = s.motorSet k := by simp [State.motorSet]
@[simp] theorem State.taken_closing (k : Nat) : (s.taken n i).closing k = s.closing k := by simp [State.closing]
@[simp] theorem State.taken_rippleRate (k : Nat) (ma : Int) : (s.taken n i).rippleRate k ma = s.rippleRate k ma := by simp [State.rippleRate]
@[simp] theorem State.taken_pinchRef (k : Nat) (m : Move) : (s.taken n i).pinchRef k m = s.pinchRef k m := by simp [State.pinchRef]
@[simp] theorem State.taken_pinchZone (k : Nat) (m : Move) : (s.taken n i).pinchZone k m = s.pinchZone k m := by simp [State.pinchZone]
@[simp] theorem State.taken_olRuns (b : Nat) : (s.taken n i).olRuns b = s.olRuns b := by simp [State.olRuns]
@[simp] theorem State.taken_onTested (n1 : Nat) : (s.taken n i).onTested n1 = s.onTested n1 := by simp [State.onTested]
@[simp] theorem State.taken_volSeen (n1 : Nat) : (s.taken n i).volSeen n1 = s.volSeen n1 := by simp [State.volSeen]
@[simp] theorem State.taken_offTested (n1 : Nat) : (s.taken n i).offTested n1 = s.offTested n1 := by simp [State.offTested]
@[simp] theorem State.taken_olFree (n1 : Nat) : (s.taken n i).olFree n1 = s.olFree n1 := by simp [State.olFree]
@[simp] theorem State.taken_olFilt (n1 : Nat) : (s.taken n i).olFilt n1 = s.olFilt n1 := by simp [State.olFilt]
@[simp] theorem State.taken_holdDuty (n1 : Nat) (set : List Word) (duty : Nat) : (s.taken n i).holdDuty n1 set duty = s.holdDuty n1 set duty := by
  simp [State.holdDuty]
@[simp] theorem State.taken_limpHolds (n1 : Nat) : (s.taken n i).limpHolds n1 = s.limpHolds n1 := by simp [State.limpHolds]
@[simp] theorem State.taken_frameEnds (b : Nat) : (s.taken n i).frameEnds b = s.frameEnds b := by simp [State.frameEnds]
@[simp] theorem State.taken_rippleDue (k : Nat) (filled : Bool) : (s.taken n i).rippleDue k filled = s.rippleDue k filled := by simp [State.rippleDue]
@[simp] theorem State.taken_rippleAx (k : Nat) : (s.taken n i).rippleAx k = s.rippleAx k := by simp [State.rippleAx]
@[simp] theorem State.taken_tooManyFilled (k : Nat) : (s.taken n i).tooManyFilled k = s.tooManyFilled k := by simp [State.tooManyFilled]
@[simp] theorem State.taken_motionRuns (k : Nat) : (s.taken n i).motionRuns k = s.motionRuns k := by simp [State.motionRuns]
@[simp] theorem State.taken_motionDone (k : Nat) : (s.taken n i).motionDone k = s.motionDone k := by simp [State.motionDone]
@[simp] theorem State.taken_stalled (k : Nat) : (s.taken n i).stalled k = s.stalled k := by simp [State.stalled]
@[simp] theorem State.taken_transient (n1 : Nat) : (s.taken n i).transient n1 = s.transient n1 := by simp [State.transient]
@[simp] theorem State.taken_freezeGroup (g : Nat) : (s.taken n i).freezeGroup g = s.freezeGroup g := by simp [State.freezeGroup]
@[simp] theorem State.taken_aligned : (s.taken n i).aligned = s.aligned := by simp [State.aligned]
@[simp] theorem State.taken_govShares (g : Nat) : (s.taken n i).govShares g = s.govShares g := by simp [State.govShares]
@[simp] theorem State.taken_othersOf (g : Nat) : (s.taken n i).othersOf g = s.othersOf g := by simp [State.othersOf]
@[simp] theorem State.taken_isLinked (m : Nat) : (s.taken n i).isLinked m = s.isLinked m := by simp [State.isLinked]
@[simp] theorem State.taken_demand (g prio : Nat) : (s.taken n i).demand g prio = s.demand g prio := by simp [State.demand]
@[simp] theorem State.taken_linkedMask : (s.taken n i).linkedMask = s.linkedMask := by simp [State.linkedMask]
@[simp] theorem State.taken_govReport (g : Nat) : (s.taken n i).govReport g = s.govReport g := by simp [State.govReport]
@[simp] theorem State.taken_govCfgMsg (g : Nat) : (s.taken n i).govCfgMsg g = s.govCfgMsg g := by simp [State.govCfgMsg]
@[simp] theorem State.taken_lowBudget (g : Nat) : (s.taken n i).lowBudget g = s.lowBudget g := by simp [State.lowBudget]
@[simp] theorem State.taken_fixedOf (g m : Nat) : (s.taken n i).fixedOf g m = s.fixedOf g m := by simp [State.fixedOf]
@[simp] theorem State.taken_transport (n1 : Nat) : (s.taken n i).transport n1 = s.transport n1 := by simp [State.transport]
@[simp] theorem State.taken_isAuth (n1 : Nat) : (s.taken n i).isAuth n1 = s.isAuth n1 := by simp [State.isAuth]
@[simp] theorem State.taken_lenLimit (n1 : Nat) : (s.taken n i).lenLimit n1 = s.lenLimit n1 := by simp [State.lenLimit]
@[simp] theorem State.taken_canRec (n1 : Nat) : (s.taken n i).canRec n1 = s.canRec n1 := by simp [State.canRec]
@[simp] theorem State.taken_txq (n1 q : Nat) : (s.taken n i).txq n1 q = s.txq n1 q := by simp [State.txq]
@[simp] theorem State.taken_cmdRoom (n1 q : Nat) : (s.taken n i).cmdRoom n1 q = s.cmdRoom n1 q := by simp [State.cmdRoom]
@[simp] theorem State.taken_txHead (n1 : Nat) : (s.taken n i).txHead n1 = s.txHead n1 := by simp [State.txHead]
@[simp] theorem State.taken_txById (n1 id : Nat) : (s.taken n i).txById n1 id = s.txById n1 id := by simp [State.txById]
@[simp] theorem State.taken_onWire (n1 : Nat) : (s.taken n i).onWire n1 = s.onWire n1 := by simp [State.onWire]
@[simp] theorem State.taken_portQuota (p : Nat) : (s.taken n i).portQuota p = s.portQuota p := by simp [State.portQuota]
@[simp] theorem State.taken_vlanOf (vid : Nat) : (s.taken n i).vlanOf vid = s.vlanOf vid := by simp [State.vlanOf]
@[simp] theorem State.taken_vlanMember (vid p : Nat) : (s.taken n i).vlanMember vid p = s.vlanMember vid p := by simp [State.vlanMember]
@[simp] theorem State.taken_vlanIn (p : Nat) (f : EthFrame) : (s.taken n i).vlanIn p f = s.vlanIn p f := by simp [State.vlanIn]
@[simp] theorem State.taken_vlanOut (vid pcp p : Nat) (f : EthFrame) : (s.taken n i).vlanOut vid pcp p f = s.vlanOut vid pcp p f := by
  simp [State.vlanOut]
@[simp] theorem State.taken_flowList : (s.taken n i).flowList = s.flowList := by simp [State.flowList]
@[simp] theorem State.taken_findFlow (p : Flow → Bool) : (s.taken n i).findFlow p = s.findFlow p := by simp [State.findFlow]
@[simp] theorem State.taken_freeCtx : (s.taken n i).freeCtx = s.freeCtx := by simp [State.freeCtx]
@[simp] theorem State.taken_victim : (s.taken n i).victim = s.victim := by simp [State.victim]
@[simp] theorem State.taken_l2Flow (mac vid : Nat) : (s.taken n i).l2Flow mac vid = s.l2Flow mac vid := by simp [State.l2Flow]
@[simp] theorem State.taken_asSlave : (s.taken n i).asSlave = s.asSlave := by simp [State.asSlave]
@[simp] theorem State.taken_grandmaster : (s.taken n i).grandmaster = s.grandmaster := by simp [State.grandmaster]
@[simp] theorem State.taken_asOffset : (s.taken n i).asOffset = s.asOffset := by simp [State.asOffset]
@[simp] theorem State.taken_asRate : (s.taken n i).asRate = s.asRate := by simp [State.asRate]
@[simp] theorem State.taken_gptp (tm : Nat) : (s.taken n i).gptp tm = s.gptp tm := by simp [State.gptp]
@[simp] theorem State.taken_syncTicks (p : Nat) : (s.taken n i).syncTicks p = s.syncTicks p := by simp [State.syncTicks]
@[simp] theorem State.taken_acfMsg (x : Flow) (f : CanFrame) (tm : Nat) : (s.taken n i).acfMsg x f tm = s.acfMsg x f tm := by simp [State.acfMsg]
@[simp] theorem State.taken_ownMac : (s.taken n i).ownMac = s.ownMac := by simp [State.ownMac]
@[simp] theorem State.taken_ownIp : (s.taken n i).ownIp = s.ownIp := by simp [State.ownIp]
@[simp] theorem State.taken_udpHc (p dport ip : Nat) : (s.taken n i).udpHc p dport ip = s.udpHc p dport ip := by simp [State.udpHc]
@[simp] theorem State.taken_forLocal (f : EthFrame) : (s.taken n i).forLocal f = s.forLocal f := by simp [State.forLocal]
@[simp] theorem State.taken_nmf (n1 k hi lo : Nat) : (s.taken n i).nmf n1 k hi lo = s.nmf n1 k hi lo := by simp [State.nmf]
@[simp] theorem State.taken_wakeMatches (n1 : Nat) (f : CanFrame) : (s.taken n i).wakeMatches n1 f = s.wakeMatches n1 f := by simp [State.wakeMatches]
@[simp] theorem State.taken_isSync (n1 : Nat) (f : CanFrame) : (s.taken n i).isSync n1 f = s.isSync n1 f := by simp [State.isSync]
@[simp] theorem State.taken_flowOf (n1 : Nat) (f : CanFrame) : (s.taken n i).flowOf n1 f = s.flowOf n1 f := by simp [State.flowOf]
@[simp] theorem State.taken_axTakes (n1 : Nat) (f : CanFrame) : (s.taken n i).axTakes n1 f = s.axTakes n1 f := by simp [State.axTakes]
@[simp] theorem State.taken_canEnds (n1 : Nat) : (s.taken n i).canEnds n1 = s.canEnds n1 := by simp [State.canEnds]
@[simp] theorem State.taken_tmFrame (n1 code seq : Nat) (rest : List Byte) : (s.taken n i).tmFrame n1 code seq rest = s.tmFrame n1 code seq rest := by
  simp [State.tmFrame]
@[simp] theorem State.taken_frameTime (n1 : Nat) (f : CanFrame) : (s.taken n i).frameTime n1 f = s.frameTime n1 f := by simp [State.frameTime]
@[simp] theorem State.taken_anyHeld (n1 : Nat) : (s.taken n i).anyHeld n1 = s.anyHeld n1 := by simp [State.anyHeld]
@[simp] theorem State.taken_tecStep (n1 : Nat) (e : CanFault) (k : Nat) : (s.taken n i).tecStep n1 e k = s.tecStep n1 e k := by simp [State.tecStep]
@[simp] theorem State.taken_collides (n1 : Nat) (e : CanFault) : (s.taken n i).collides n1 e = s.collides n1 e := by simp [State.collides]
@[simp] theorem State.taken_tmWanted (n1 : Nat) : (s.taken n i).tmWanted n1 = s.tmWanted n1 := by simp [State.tmWanted]
@[simp] theorem State.taken_ownsPorts (hc m : Nat) : (s.taken n i).ownsPorts hc m = s.ownsPorts hc m := by simp [State.ownsPorts]
@[simp] theorem State.taken_portRec (p : Nat) : (s.taken n i).portRec p = s.portRec p := by simp [State.portRec]
@[simp] theorem State.taken_seenMaster (l : Nat) : (s.taken n i).seenMaster l = s.seenMaster l := by simp [State.seenMaster]
@[simp] theorem State.taken_lowMaster : (s.taken n i).lowMaster = s.lowMaster := by simp [State.lowMaster]
@[simp] theorem State.taken_otherSlave (p : Nat) : (s.taken n i).otherSlave p = s.otherSlave p := by simp [State.otherSlave]
@[simp] theorem State.taken_netStatWords (p kind : Nat) : (s.taken n i).netStatWords p kind = s.netStatWords p kind := by simp [State.netStatWords]
@[simp] theorem State.taken_axisTwice (l src : Nat) (f : RidgeFrame) : (s.taken n i).axisTwice l src f = s.axisTwice l src f := by
  simp [State.axisTwice]
@[simp] theorem State.taken_axisOwn (l : Nat) (f : RidgeFrame) : (s.taken n i).axisOwn l f = s.axisOwn l f := by simp [State.axisOwn]
@[simp] theorem State.taken_timePayload (l : Nat) : (s.taken n i).timePayload l = s.timePayload l := by simp [State.timePayload]
@[simp] theorem State.taken_peerFrame (l : Nat) (ftype : Byte) (b : List Byte) : (s.taken n i).peerFrame l ftype b = s.peerFrame l ftype b := by
  simp [State.peerFrame]
@[simp] theorem State.taken_faultSummary : (s.taken n i).faultSummary = s.faultSummary := by simp [State.faultSummary]
@[simp] theorem State.taken_timeLink (m : Nat) : (s.taken n i).timeLink m = s.timeLink m := by simp [State.timeLink]
@[simp] theorem State.taken_limpPwm (b : Nat) : (s.taken n i).limpPwm b = s.limpPwm b := by simp [State.limpPwm]
@[simp] theorem State.taken_limpSlot : (s.taken n i).limpSlot = s.limpSlot := by simp [State.limpSlot]
@[simp] theorem State.taken_sumList : (s.taken n i).sumList = s.sumList := by simp [State.sumList]
@[simp] theorem State.taken_immf (k hi lo : Nat) : (s.taken n i).immf k hi lo = s.immf k hi lo := by simp [State.immf]
@[simp] theorem State.taken_immLive : (s.taken n i).immLive = s.immLive := by simp [State.immLive]
@[simp] theorem State.taken_slotServes (n1 b : Nat) : (s.taken n i).slotServes n1 b = s.slotServes n1 b := by simp [State.slotServes]
@[simp] theorem State.taken_keysOk : (s.taken n i).keysOk = s.keysOk := by simp [State.keysOk]
@[simp] theorem State.taken_parkClock : (s.taken n i).parkClock = s.parkClock := by simp [State.parkClock]
@[simp] theorem State.taken_parkCode : (s.taken n i).parkCode = s.parkCode := by simp [State.parkCode]
@[simp] theorem State.taken_enrolled : (s.taken n i).enrolled = s.enrolled := by simp [State.enrolled]
@[simp] theorem State.taken_parks : (s.taken n i).parks = s.parks := by simp [State.parks]
@[simp] theorem State.taken_parkShown : (s.taken n i).parkShown = s.parkShown := by simp [State.parkShown]
@[simp] theorem State.taken_reqNow : (s.taken n i).reqNow = s.reqNow := by simp [State.reqNow]
@[simp] theorem State.taken_immWords : (s.taken n i).immWords = s.immWords := by simp [State.immWords]
@[simp] theorem State.taken_uwbPolls : (s.taken n i).uwbPolls = s.uwbPolls := by simp [State.uwbPolls]
@[simp] theorem State.taken_tokStat (k : Nat) : (s.taken n i).tokStat k = s.tokStat k := by simp [State.tokStat]
@[simp] theorem State.taken_invalidCount (k : Nat) : (s.taken n i).invalidCount k = s.invalidCount k := by simp [State.invalidCount]
@[simp] theorem State.taken_relFrame (key : List Byte) (fresh reason : Nat) (block : Bool) : (s.taken n i).relFrame key fresh reason block = s.relFrame key fresh reason block := by
  simp [State.relFrame]
@[simp] theorem State.taken_entryReady (d : Nat) : (s.taken n i).entryReady d = s.entryReady d := by simp [State.entryReady]
@[simp] theorem State.taken_hibernates : (s.taken n i).hibernates = s.hibernates := by simp [State.hibernates]
@[simp] theorem State.taken_inhHigh (k : Nat) : (s.taken n i).inhHigh k = s.inhHigh k := by simp [State.inhHigh]
@[simp] theorem State.taken_wkf (c k hi lo : Nat) : (s.taken n i).wkf c k hi lo = s.wkf c k hi lo := by simp [State.wkf]
@[simp] theorem State.taken_wakeMask (c : Nat) : (s.taken n i).wakeMask c = s.wakeMask c := by simp [State.wakeMask]
@[simp] theorem State.taken_wakeOn (c : Nat) : (s.taken n i).wakeOn c = s.wakeOn c := by simp [State.wakeOn]
@[simp] theorem State.taken_levelWake (c : Nat) : (s.taken n i).levelWake c = s.levelWake c := by simp [State.levelWake]
@[simp] theorem State.taken_rateWord (n1 : Nat) : (s.taken n i).rateWord n1 = s.rateWord n1 := by simp [State.rateWord]
@[simp] theorem State.taken_canFast (n1 : Nat) : (s.taken n i).canFast n1 = s.canFast n1 := by simp [State.canFast]
@[simp] theorem State.taken_detector (n1 : Nat) : (s.taken n i).detector n1 = s.detector n1 := by simp [State.detector]
@[simp] theorem State.taken_fqFlags : (s.taken n i).fqFlags = s.fqFlags := by simp [State.fqFlags]
@[simp] theorem State.taken_neededOutside (mask : Nat) : (s.taken n i).neededOutside mask = s.neededOutside mask := by simp [State.neededOutside]
@[simp] theorem State.taken_domCode (d : Nat) : (s.taken n i).domCode d = s.domCode d := by simp [State.domCode]
@[simp] theorem State.taken_domWord (k : Nat) : (s.taken n i).domWord k = s.domWord k := by simp [State.domWord]
@[simp] theorem State.taken_canSleeping (n1 : Nat) : (s.taken n i).canSleeping n1 = s.canSleeping n1 := by simp [State.canSleeping]
@[simp] theorem State.taken_nmWaits (n1 : Nat) : (s.taken n i).nmWaits n1 = s.nmWaits n1 := by simp [State.nmWaits]
@[simp] theorem State.taken_nmRuns (n1 : Nat) : (s.taken n i).nmRuns n1 = s.nmRuns n1 := by simp [State.nmRuns]
@[simp] theorem State.taken_nmShown (n1 : Nat) : (s.taken n i).nmShown n1 = s.nmShown n1 := by simp [State.nmShown]
@[simp] theorem State.taken_slotRecOk (ws : List Word) : (s.taken n i).slotRecOk ws = s.slotRecOk ws := by simp [State.slotRecOk]
@[simp] theorem State.taken_actionOwned (hc : Nat) (x : Slot) : (s.taken n i).actionOwned hc x = s.actionOwned hc x := by simp [State.actionOwned]
@[simp] theorem State.taken_armRefusal (hc n1 : Nat) (ws : List Word) : (s.taken n i).armRefusal hc n1 ws = s.armRefusal hc n1 ws := by
  simp [State.armRefusal]
@[simp] theorem State.taken_slotCode (n1 : Nat) : (s.taken n i).slotCode n1 = s.slotCode n1 := by simp [State.slotCode]
@[simp] theorem State.taken_wantsBudget (x : Slot) : (s.taken n i).wantsBudget x = s.wantsBudget x := by simp [State.wantsBudget]
@[simp] theorem State.taken_nextDue : (s.taken n i).nextDue = s.nextDue := by simp [State.nextDue]
@[simp] theorem State.taken_fireRate : (s.taken n i).fireRate = s.fireRate := by simp [State.fireRate]
@[simp] theorem State.taken_spkHeld (x : Slot) : (s.taken n i).spkHeld x = s.spkHeld x := by simp [State.spkHeld]
@[simp] theorem State.taken_spkRefusal (x : Slot) : (s.taken n i).spkRefusal x = s.spkRefusal x := by simp [State.spkRefusal]
@[simp] theorem State.taken_spkBarred (x : Slot) : (s.taken n i).spkBarred x = s.spkBarred x := by simp [State.spkBarred]
@[simp] theorem State.taken_srcOwners (c : Nat) : (s.taken n i).srcOwners c = s.srcOwners c := by simp [State.srcOwners]
@[simp] theorem State.taken_fltN : (s.taken n i).fltN = s.fltN := by simp [State.fltN]
@[simp] theorem State.taken_entryOf (m : Word) : (s.taken n i).entryOf m = s.entryOf m := by simp [State.entryOf]
@[simp] theorem State.taken_newEntry (m : Word) (slot : Nat) : (s.taken n i).newEntry m slot = s.newEntry m slot := by simp [State.newEntry]
@[simp] theorem State.taken_mayRetest (m : Word) : (s.taken n i).mayRetest m = s.mayRetest m := by simp [State.mayRetest]
@[simp] theorem State.taken_stillThere (m : Word) : (s.taken n i).stillThere m = s.stillThere m := by simp [State.stillThere]
@[simp] theorem State.taken_recovered (m : Word) : (s.taken n i).recovered m = s.recovered m := by simp [State.recovered]
@[simp] theorem State.taken_testSays (e : FEntry) (n1 : Nat) (transient : Bool) : (s.taken n i).testSays e n1 transient = s.testSays e n1 transient := by
  simp [State.testSays]
@[simp] theorem State.taken_retestSays (e : FEntry) (m : Word) (transient : Bool) : (s.taken n i).retestSays e m transient = s.retestSays e m transient := by
  simp [State.retestSays]
@[simp] theorem State.taken_underTest (m : Word) : (s.taken n i).underTest m = s.underTest m := by simp [State.underTest]
@[simp] theorem State.taken_quietDue (e : FEntry) : (s.taken n i).quietDue e = s.quietDue e := by simp [State.quietDue]
@[simp] theorem State.taken_limpHeld : (s.taken n i).limpHeld = s.limpHeld := by simp [State.limpHeld]
@[simp] theorem State.taken_transitionTo (state : Byte) : (s.taken n i).transitionTo state = s.transitionTo state := by simp [State.transitionTo]
@[simp] theorem State.taken_slotLive (n1 : Nat) : (s.taken n i).slotLive n1 = s.slotLive n1 := by simp [State.slotLive]
@[simp] theorem State.taken_immResult : (s.taken n i).immResult = s.immResult := by simp [State.immResult]
@[simp] theorem State.taken_tokEntry (k : Nat) : (s.taken n i).tokEntry k = s.tokEntry k := by simp [State.tokEntry]
@[simp] theorem State.taken_immServes : (s.taken n i).immServes = s.immServes := by simp [State.immServes]
@[simp] theorem State.taken_onTrial : (s.taken n i).onTrial = s.onTrial := by simp [State.onTrial]
@[simp] theorem State.taken_mayHand (hc kind idx : Nat) : (s.taken n i).mayHand hc kind idx = s.mayHand hc kind idx := by simp [State.mayHand]
@[simp] theorem State.taken_handList (hc kind first count : Nat) (dest : Option Nat) : (s.taken n i).handList hc kind first count dest = s.handList hc kind first count dest := by
  simp [State.handList]
@[simp] theorem State.taken_splits (l : List Nat) (dest : Option Nat) : (s.taken n i).splits l dest = s.splits l dest := by simp [State.splits]
@[simp] theorem State.taken_ownerKey : (s.taken n i).ownerKey = s.ownerKey := by simp [State.ownerKey]
@[simp] theorem State.taken_reasonOf (a : Area) : (s.taken n i).reasonOf a = s.reasonOf a := by simp [State.reasonOf]
@[simp] theorem State.taken_timeLeft (end_ u : Nat) : (s.taken n i).timeLeft end_ u = s.timeLeft end_ u := by simp [State.timeLeft]
@[simp] theorem State.taken_viewBank (r : RegAt) (w : Nat) : (s.taken n i).viewBank r w = s.viewBank r w := by simp [State.viewBank]
@[simp] theorem State.taken_viewCrank (r : RegAt) (w : Nat) : (s.taken n i).viewCrank r w = s.viewCrank r w := by simp [State.viewCrank]
@[simp] theorem State.taken_viewNet (hc : Nat) (r : RegAt) (w : Nat) : (s.taken n i).viewNet hc r w = s.viewNet hc r w := by simp [State.viewNet]
@[simp] theorem State.taken_viewAon (r : RegAt) (w : Nat) : (s.taken n i).viewAon r w = s.viewAon r w := by simp [State.viewAon]
@[simp] theorem State.taken_viewUpd (r : RegAt) (w : Nat) : (s.taken n i).viewUpd r w = s.viewUpd r w := by simp [State.viewUpd]
@[simp] theorem State.taken_stored (a : Nat) : (s.taken n i).stored a = s.stored a := by simp [State.stored]
@[simp] theorem State.taken_storedF (f : Fld) : (s.taken n i).storedF f = s.storedF f := by simp [State.storedF]
@[simp] theorem State.taken_regRule (a : Nat) (r : RegAt) : (s.taken n i).regRule a r = s.regRule a r := by simp [State.regRule]
@[simp] theorem State.taken_ownsBank (hc b : Nat) : (s.taken n i).ownsBank hc b = s.ownsBank hc b := by simp [State.ownsBank]
@[simp] theorem State.taken_inBank (hc b : Nat) : (s.taken n i).inBank hc b = s.inBank hc b := by simp [State.inBank]
@[simp] theorem State.taken_mayReadPower (hc a : Nat) (r : RegAt) : (s.taken n i).mayReadPower hc a r = s.mayReadPower hc a r := by
  simp [State.mayReadPower]
@[simp] theorem State.taken_mayRead (hc : Nat) (a : Nat) (r : RegAt) : (s.taken n i).mayRead hc a r = s.mayRead hc a r := by simp [State.mayRead]
@[simp] theorem State.taken_mayWrite (hc : Nat) (a : Nat) (r : RegAt) (w : Word) : (s.taken n i).mayWrite hc a r w = s.mayWrite hc a r w := by
  simp [State.mayWrite]
@[simp] theorem State.taken_kindWord (k : Nat) (w : Word) : (s.taken n i).kindWord k w = s.kindWord k w := by simp [State.kindWord]
@[simp] theorem State.taken_budgetWord (n1 k : Nat) (w : Word) : (s.taken n i).budgetWord n1 k w = s.budgetWord n1 k w := by simp [State.budgetWord]
@[simp] theorem State.taken_regGate (a : Nat) (write : Bool) : (s.taken n i).regGate a write = s.regGate a write := by simp [State.regGate]
@[simp] theorem State.taken_hifAnswers : (s.taken n i).hifAnswers = s.hifAnswers := by simp [State.hifAnswers]
@[simp] theorem State.taken_cfgOk (a : Area) : (s.taken n i).cfgOk a = s.cfgOk a := by simp [State.cfgOk]
@[simp] theorem State.taken_cfgUsable (a : Area) : (s.taken n i).cfgUsable a = s.cfgUsable a := by simp [State.cfgUsable]
@[simp] theorem State.taken_chooseCfg : (s.taken n i).chooseCfg = s.chooseCfg := by simp [State.chooseCfg]
@[simp] theorem State.taken_bindKey (n1 : Nat) : (s.taken n i).bindKey n1 = s.bindKey n1 := by simp [State.bindKey]
@[simp] theorem State.taken_namedFor (c : Nat) : (s.taken n i).namedFor c = s.namedFor c := by simp [State.namedFor]
@[simp] theorem State.taken_cfgList (d : Option Nat) : (s.taken n i).cfgList d = s.cfgList d := by simp [State.cfgList]
@[simp] theorem State.taken_toVerone : (s.taken n i).toVerone = s.toVerone := by simp [State.toVerone]
@[simp] theorem State.taken_cfgReady (version : Word) : (s.taken n i).cfgReady version = s.cfgReady version := by simp [State.cfgReady]
@[simp] theorem State.taken_cfgActiveFits (version : Word) : (s.taken n i).cfgActiveFits version = s.cfgActiveFits version := by
  simp [State.cfgActiveFits]
@[simp] theorem State.taken_mayBegin (hc : Nat) : (s.taken n i).mayBegin hc = s.mayBegin hc := by simp [State.mayBegin]
@[simp] theorem State.taken_confirmRefused (hc : Nat) : (s.taken n i).confirmRefused hc = s.confirmRefused hc := by simp [State.confirmRefused]
@[simp] theorem State.taken_udsHc : (s.taken n i).udsHc = s.udsHc := by simp [State.udsHc]
@[simp] theorem State.taken_udsOn : (s.taken n i).udsOn = s.udsOn := by simp [State.udsOn]
@[simp] theorem State.taken_udsHdr : (s.taken n i).udsHdr = s.udsHdr := by simp [State.udsHdr]
@[simp] theorem State.taken_udsBusy : (s.taken n i).udsBusy = s.udsBusy := by simp [State.udsBusy]
@[simp] theorem State.taken_udsLocked : (s.taken n i).udsLocked = s.udsLocked := by simp [State.udsLocked]
@[simp] theorem State.taken_udsLen : (s.taken n i).udsLen = s.udsLen := by simp [State.udsLen]
@[simp] theorem State.taken_udsNext : (s.taken n i).udsNext = s.udsNext := by simp [State.udsNext]
@[simp] theorem State.taken_udsDataSt (len : Nat) : (s.taken n i).udsDataSt len = s.udsDataSt len := by simp [State.udsDataSt]
@[simp] theorem State.taken_udsMayEnd : (s.taken n i).udsMayEnd = s.udsMayEnd := by simp [State.udsMayEnd]
@[simp] theorem State.taken_carried : (s.taken n i).carried = s.carried := by simp [State.carried]
@[simp] theorem State.taken_channelOwners : (s.taken n i).channelOwners = s.channelOwners := by simp [State.channelOwners]
@[simp] theorem State.taken_codeRuns (k : Nat) : (s.taken n i).codeRuns k = s.codeRuns k := by simp [State.codeRuns]
@[simp] theorem State.taken_otpCoast : (s.taken n i).otpCoast = s.otpCoast := by simp [State.otpCoast]

end Sys2Proof.Machine
end

