-- ==== Sys2Proof/Tests/Slice0.lean ====
section
/-! SUPPORT. The model's own tests: ill-formed commands, values that the spec works out, single commands, and for each statement that has
hypotheses a state and operands that meet those of each of its clauses. -/

namespace Sys2Proof.Tests

open Sys2Proof Sys2Proof.Machine

set_option linter.unusedVariables false
set_option Elab.async false

/-! ### States for the tests -/

/-- Full service. -/
def up : State :=
  ((forEach (List.range 24) (fun d u => u.modDom d (fun _ => { st := .on })) { State.reset with
    sysUp := true, serving := true }).put pwrStart_phase 3).put pwrStart_limp 0
def hd : Hdr := { hc := 0 }
def hd7 : Hdr := { hc := 7 }
def atomic : Hdr := { hc := 0, atomic := true }
/-- A record of `n` words with the given fields: word, high bit, low bit, value. -/
def mkRec (n : Nat) (fs : List (Nat × Nat × Nat × Nat)) : List Word :=
  fs.foldl (fun ws f => setRec ws f.1 f.2.1 f.2.2.1 f.2.2.2) (List.replicate n 0)
/-- A record stored. -/
def storeRec (s : State) (f : Nat → Fld) (ws : List Word) : State :=
  forEach (List.range ws.length) (fun k u => u.wr (f k).addr (ws.getD k 0)) s
/-- Full service at a time. -/
def upAt (t : Nat) : State := { up with now := t, devTime := t }
/-- Channel `n` of `up` changed. -/
def upCh (n : Nat) (f : Chan → Chan) : State := up.modCh n f
/-- Channels 62 and 63 work as bridge 7, with a record in its set 0. -/
def bridge7 (set : List Word) : State := (storeRec (up.put ⟨(chCfg_word 62 0).addr, 30, 30⟩ 1) (chPset_word 62 0) set).modBank 7 (fun b => { b with storeOk := true })
/-- Axis 7 with a source. -/
def axis7 (src : Nat) : State := up.put ⟨(axCfg_word 7 0).addr, 29, 26⟩ src
/-- CAN5 in NORMAL, with a mode. -/
def can5 (mode : Nat) : State := (up.put (canState_state 5) 0).put ⟨(canCfg_word 5 0).addr, 31, 30⟩ mode
/-- A frame that waits in a transmit queue. -/
def txItem (id ident : Nat) : TxItem := { id := id, frame := { ident := ident }, kind := .cmd 0 }
/-- CAN5's domain is on its way to Retention, and its agreement runs. -/
def can5Sleeps : State :=
  ((((can5 0).put ⟨(pwrNm_word 5 0).addr, 31, 31⟩ 1).modDom (Dm.can 5) (fun x => { x with going := some .ret }))).modPort 5
    (fun p => { p with nmSentReady := true })
/-- CAN5 sleeps with its detector armed. -/
def can5Wakes : State := (((up.put ⟨(pwrWakecfg_word 0x15 0).addr, 31, 31⟩ 1).put (canState_state 5) 2).put ⟨(canCfg_word 5 1).addr, 31, 24⟩ 0)
/-- Ridge link 1 is UP. -/
def ridge1 : State := up.put ⟨(rdgStat_state 1).addr, 2, 0⟩ 2
/-- A log entry of kind 0x12 of source 0x3F. -/
def ent : FEntry := { slot := 0, msg := 0x0FD20000, reaction := 2, planned := 4, recov := 0, first := 0, last := 0, createdAt := 0, lastAt := 0 }
/-- The entry in the log. -/
def logged (e : FEntry) : State := { upAt (sec 1000) with log := [e] }
/-- SERVICE lifecycle state `lc`, HC0's context. -/
def life (lc : Nat) : State := { up with otp := { lc := lc } }
/-- Sixteen bytes of zero, as two shares of one. -/
def zkey (n : Nat) : Shares := ⟨List.replicate n 0, List.replicate n 0⟩
/-- Slot 63 holds a working key with USAGE `u`. -/
def keyed63 (u : Nat) : State :=
  { life 2 with
    keyArr := { mfr := some (List.replicate 32 1), owner := some (List.replicate 32 2),
                slots := [(63, { recA := some { key := List.replicate 32 0, usage := u, version := 1 }, copyA := some 1, copyB := some 1 })] }
    ram := [(63, zkey 32)] }
/-- An enrolment, and a staged key of slot 63. -/
def tok7 : Tok := { id := 0, treply := 8000000, tol := 100, typ := 1, parkWake := true }
def staged63 : Staged := { slot := 63, key := List.replicate 32 0, usage := 1, version := 2, verified := true }
/-- The firmware state and what else of the flash. -/
def flashed (f : Flash → Flash) : State := up.modFlash f
/-- The UDS server answers for HC7. -/
def udsUp : State := ((up.put updUds_enable 1).put updUds_hc 7).put (hcBind_transport 7) 3
/-- Its programming session is unlocked, and what else of it. -/
def udsOpen (f : Uds → Uds) : State := { udsUp with uds := f { programming := true, unlocked := true } }
/-- Bytes and the CRC-8 of the first `n`. -/
def withCrc (bs : List Byte) : List Byte := bs ++ [crc8 bs] ++ List.replicate 32 0
/-- Bytes and their CRC-32. -/
def withCrc32 (bs : List Byte) : List Byte := bs ++ beBytes 4 (crc32 bs)
/-- HC7's flow is authenticated under slot 63's key. -/
def authUp : State := (((keyed63 1).put (hcBind_transport 7) 3).put (hcBind_auth 7) 1).put (hcBind_keyslot 7) 63
/-- Channel `n` is on. -/
def chanOnAt (n : Nat) : State := upCh n (fun c => { c with drive := .on })
/-- Bridge 7 is driven forward, with a move or a profile. -/
def moving (m : Move) (f : Bridge → Bridge) : State :=
  (bridge7 []).modBr 7 (fun b => f { b with st := .forward, move := some m })
def profiled (p : Profile) : State :=
  ((bridge7 []).modBr 7 (fun b => { b with st := .forward })).modCh 62 (fun c => { c with profile := some p, drive := .on })

/-! ### Ill-formed commands -/

/-- Each check of `Instr.wellFormed` refuses an ill-formed command (spec/03, R56; spec/04, R80). -/
theorem test_wf_lengths : [Instr.limpMapProgram hd [0] 0 0, .chConfig hd 0 [], .axisConfig hd 0 [], .spkArm hd 0 [0], .leadSet hd 0 [],
    .canConfig hd 0 [], .ethConfig hd 0 [], .flowAdd hd 0 [], .wakeConfig hd 0 [], .nmConfig hd 0 [], .swinConfig hd 0 [], .fieldConfig hd 0 [],
    .canTx hd 0 0 [], .keyRootWrite hd 0 [], .keyStage hd 0 [], .keyVerify hd 0 [], .keyChallenge hd 0 [], .lifecycleSet hd 0 [],
    .immEnroll hd 0 [], .updateData hd 0 [], .configData hd 0 []].map Instr.wellFormed = List.replicate 21 false := by decide +kernel

/-- A download of more than 2048 bytes at once (spec/19, R425). -/
theorem test_wf_data : (Instr.updateData hd 0 (List.replicate 2049 0)).wellFormed = false ∧
    (Instr.configData hd 0 (List.replicate 2049 0)).wellFormed = false := by decide +kernel

/-- Frames that no bus carries: an identifier too long, data too long, format 3, XL with 29 bits, FD with a remote flag (spec/13, R283). -/
theorem test_wf_canFrames : [({ ident := 2 ^ 11 } : CanFrame), { ident := 2 ^ 29, ext := true }, { ident := 0, data := List.replicate 9 0 },
    { ident := 0, fmt := 1, data := List.replicate 65 0 }, { ident := 0, fmt := 3 }, { ident := 0, fmt := 2, ext := true },
    { ident := 0, fmt := 1, rtr := true }].map (fun f => (Instr.canFrameReceived 0 f 0).wellFormed) = List.replicate 7 false := by decide +kernel

/-- The same frame at a sleeping port's detector, and an Ethernet frame with an address of more than 48 bits. -/
theorem test_wf_loads : (Instr.fullService [true]).wellFormed = false := by decide +kernel
theorem test_wf_wakeFrame : (Instr.canWakeFrame 0 { ident := 2 ^ 11 }).wellFormed = false := by decide +kernel
theorem test_wf_ethFrame : (Instr.ethFrameReceived 0 { dst := 2 ^ 48, src := 0, etype := 0, payload := [] }).wellFormed = false := by decide +kernel

/-- Means, scans and code comparisons of the wrong number (spec/06, R132, R136; spec/19, R438). -/
theorem test_wf_events : (Instr.dissipationEstimate []).wellFormed = false ∧ (Instr.auxiliaryScan 0 [] [] 0 0).wellFormed = false ∧
    (Instr.resynchronisation false []).wellFormed = false := by decide +kernel

/-! ### Values that the spec works out -/

/-- The check value of R71, over the bytes of "123456789". -/
theorem test_crc8_checkValue : crc8 (ascii "123456789") = 0x4B := by decide +kernel

/-- Debounce codes 18 and 20 (spec/12, R257): 512 µs and 1.024 ms. -/
theorem test_debounce : debTicks 18 = 51200 ∧ debTicks 20 = 102400 := by decide +kernel

/-- The combine's limp map (spec/03, "Example: the combine's limp map"): its one programmed slot. -/
def combine : State :=
  let e : List Half := (List.range 64).map (fun n => if n < 2 then 0x2000 else if n = 16 ∨ n = 17 then 0x4080 else if n = 20 ∨ n = 21 then 0x6000
    else if n = 48 then 0x6800 else if n = 49 then 0xC000 else 0)
  { State.reset with otp := { slots := [some { entries := e, bases := 0, coast := 500 }, none, none, none], lc := 2 } }

/-- Its words SYS_LIMPMAP0 and SYS_LIMPMAP8, and the modes ON, PWM, FOLLOW, LOW and OFF. -/
theorem test_limpMap_words : (combine.readOtp.rd (sysLimpmap_even 0).addr = 0x20002000 ∧ combine.readOtp.rd (sysLimpmap_even 8).addr = 0x40804080) ∧
    [0, 16, 20, 49, 50].map combine.readOtp.limpMode = [1, 2, 3, 6, 0] := by decide +kernel

/-- LH1 drives wiper 0 (CH48): off with LH1 low, on with it high. -/
theorem test_limpMap_follow : combine.readOtp.limpOn 48 = false ∧ ({ combine.readOtp with lhLevel := 2 } : State).limpOn 48 = true := by decide +kernel

/-- The record of the scout robot's AX0 (spec/09, "Example: the scout robot's ground axis") and its SCALE, 48.828125. -/
theorem test_axisRecord : axRecOk [0x04003000, 0x00000030, 0xD400802B, 0x04000032, 0, 0, 0, 0] = true ∧
    (forEach (List.range 8) (fun k s => s.wr (axCfg_word 0 k).addr ([0x04003000, 0x00000030, 0xD400802B, 0x04000032].getD k 0)) up).axScale 0 = 3200000 := by
  decide +kernel

/-- Its opening and closing slots (spec/10, "Worked example: a patch on the scout robot") are good records. -/
theorem test_slotRecords : up.slotRecOk [0x01042405, 0, 0x00BEBC20, 0, 0, 0x02010000, 0, 0] = true ∧
    up.slotRecOk [0x01012405, 0, 0x00BFA680, 0x1F400000, 0, 0, 0, 0] = true := by decide +kernel

/-- Their leads: 12,001 µs with T_ARR 12,000, and 8013 µs with T_OFF 12. -/
theorem test_leads :
    let s := (((up.put ⟨(spkLead_word 36 6).addr, 31, 0⟩ (12000 * 65537)).put ⟨(spkLead_word 36 7).addr, 31, 0⟩ (12000 * 65537)).put
      ⟨(spkLead_word 36 4).addr, 31, 0⟩ (12 * 65537)).put ⟨(spkLead_word 36 5).addr, 31, 0⟩ (12 * 65537)
    s.leadTicks (mkSlot 0 0 [0x01042405, 0, 0x00BEBC20, 0, 0, 0x02010000, 0, 0]) = 1200100 ∧
      s.leadTicks (mkSlot 0 0 [0x01012405, 0, 0x00BFA680, 0x1F400000, 0, 0, 0, 0]) = 801300 := by decide +kernel

/-- The arm at 120 mm in a pinch zone of 200 mm is in bin 12 (spec/08, R190, example). -/
theorem test_pinchBin : pinchBin 4000 2400 = 12 := by decide +kernel

/-- The header lamps' second boundary (spec/11, "Example: eight header lamps"): a pool of 20 A goes to device 1's WORK demand. -/
theorem test_allocation :
    let m (k share used work : Nat) : Exchange × Nat :=
      ({ member := k, share := share, used := used, wWork := work, wComfort := 0, frozen := false, aligned := true }, 300)
    allocation 600 [m 0 100 0 0, m 1 300 240 720] 1 = 200 ∧ allocation 600 [m 0 100 0 0, m 1 300 240 720] 0 = 0 := by decide +kernel

/-- Word 1 for 250 kbit/s (spec/13, R279, example) is fast enough for a detector; its wake record (spec/15, "Example: a shutdown cut
short") is good. -/
theorem test_canBitTiming : (up.put ⟨(canCfg_word 0 1).addr, 31, 0⟩ 0x033E1E3C).canFast 0 = true ∧ wakeRecOk 0x10 [0x943FC11A, 0, 0, 0] = true := by
  decide +kernel

/-- HC2's charge before its quota is cut (spec/05, "Example: cutting a guidance host's quota"): 64 event records take 4 cells. -/
theorem test_cells :
    let r : EvRec := { cls := 0, src := 0, code := 0, arg := 0, time := 0, data := 0 }
    (up.modHc 2 (fun x => { x with ering := (List.range 64).map (fun k => { seq := BitVec.ofNat 16 k, item := r }) })).hcCells 2 = 4 := by decide +kernel

/-! ### Single commands -/

/-- What a next state holds. -/
def after {α : Type} (o : Host.Outcome State Fault Refusal) (f : State → α) : Option α :=
  match o with
  | .next s => some (f s)
  | _ => none
/-- The status and RESULT of a context's newest waiting completion. -/
def said (n : Nat) (s : State) : Option (Byte × Word) := ((s.hc n).cpend.map (fun x => (x.item.status, x.item.result))).getLast?

/-- UPDATE_BEGIN by HC0 while HC3 holds the lock (spec/19, "Example: two sources at once"): BUSY, RESULT 3. -/
theorem test_updateBegin_locked : after (exec (.updateBegin hd 1843456) { up with fwLock := some { hc := 3 } }) (said 0) = some (some (0x10, 3)) := by
  decide +kernel

/-- CH_ON of a channel turns it on with no inrush to wait for (spec/06, R12). -/
theorem test_chOn : after (exec (.chOn hd (2 ^ 20)) up) (fun s => ((s.ch 20).drive, (s.ch 21).drive)) = some (.on, .off) := by decide +kernel

/-- A first trip of a channel that is on (spec/07, R158, R160): off, COOLING, 8 ms of off time, and the fault's message. -/
theorem test_shortHard : after (exec (.shortHard 20 0x123 0x45) ((upCh 20 (fun c => { c with cmdOn := true, drive := .on })).put ⟨(chCfg_word 20 4).addr, 31, 24⟩ 7))
    (fun s => ((s.ch 20).drive, (s.ch 20).cooling, (s.ch 20).coolEnd, s.inbox)) = some (.off, true, ms 8, [faultMsg 20 0x01 20]) := by decide +kernel

/-- A frame with a bad CRC (spec/04, R70): it is counted, CRCE is set, and nothing is written. -/
theorem test_spiWrite_badCrc : after (exec (.spiRegWrite { bytes := List.replicate 10 2 }) up) (fun s => (s.crce, s.get sysHifstat_frameErr, s.rd 0x20202)) =
    some (true, 1, up.rd 0x20202) := by decide +kernel

/-- SWIN39 closes (spec/12, R258, R260): its state and its change bit. -/
theorem test_swinChange : after (exec (.swinDebouncedChange 39 true) (up.put ⟨(swinCfg_word 39).addr, 31, 30⟩ 1))
    (fun s => (s.get (swinState_state 1), s.get (swinChg_chg 1))) = some (128, 128) := by decide +kernel

/-- The thermal trip of FQ5 without AUTORST (spec/12, R268): it latches off. -/
theorem test_fqThermal : after (exec (.fqThermal 5) ((up.put fqState_on 32).put ⟨(fqCfg_word 5).addr, 27, 27⟩ 0))
    (fun s => (s.get fqState_on, s.get fqLatch_latched)) = some (0, 32) := by decide +kernel

/-- The sideband's pointer (spec/15, R344). -/
theorem test_sidebandPointer : after (exec (.sidebandPointerWrite [0x0C, 0x00, 0x04]) up) (fun s => s.sbPtr) = some 0x0C0004 := by decide +kernel

/-- A firmware download of another size begins afresh; one of the same context and size goes on (spec/19, R424). -/
theorem test_updateBegin_resumes : (after (exec (.updateBegin hd 4096) (flashed (fun f => { f with fwState := 1, fwSize := 4096, fwNext := 2048 }))) (said 0) =
    some (some (0, 2048))) ∧ after (exec (.updateBegin hd 8192) (flashed (fun f => { f with fwState := 1, fwSize := 4096, fwNext := 2048 }))) (said 0) =
    some (some (0, 0)) := by decide +kernel

/-- DOMAIN_SET of AON is BAD_PARAM (spec/15, R324), and a lifecycle step that the table lacks is BAD_STATE (spec/18, R384). -/
theorem test_domainSet_aon : after (exec (.domainSet hd 1 1) up) (fun s => (said 0 s).map (fun x => x.1)) = some (some St.badParam) := by decide +kernel
theorem test_lifecycle_noSuchStep : after (exec (.lifecycleSet hd 3 (List.replicate 16 0)) (life 1)) (fun s => (said 0 s).map (fun x => x.1)) =
    some (some St.badState) := by decide +kernel


/-! ### Witnesses for the statements -/

/-- The hypotheses of StepRunsTheFrontCommand can be met. -/
theorem witness_StepRunsTheFrontCommand :
    ∃ s : State, s.pending = [] :=
  ⟨up, by decide +kernel⟩

/-- The hypotheses of OneTimeMemoryOnlyGrows can be met. -/
theorem witness_OneTimeMemoryOnlyGrows :
    ∃ (o : Otp) (s t : State), o.leadsTo s.otp ∧ step s = .next t :=
  ⟨{}, up, _, by refine ⟨rfl, ?_, by decide, rfl, by decide +kernel, by simp, by simp⟩; intro k x; rcases k with _ | _ | _ | _ | k <;> simp, rfl⟩

/-- The hypotheses of ResetState can be met. -/
theorem witness_ResetState :
    ∃ d : Nat, d < 24 :=
  ⟨0, by decide +kernel⟩

/-- The hypotheses of GatesRefuseWithoutEffect can be met. -/
theorem witness_GatesRefuseWithoutEffect :
    ∃ (s : State) (c : Instr) (h : Hdr) (st : Byte), hdrOf c = some h ∧ s.serves h.hc.val = true ∧ s.closed h.hc.val = false ∧ (s.accepted h.hc.val c).pick h.hc.val [] (s.queueFor h.hc.val c) none = some c ∧ (s.accepted h.hc.val c).inTurn h.hc.val c = true ∧ s.gate h c = .refuse st :=
  ⟨up, .nop { hc := 7, atomic := true }, { hc := 7, atomic := true }, St.badParam, by decide +kernel⟩

/-- The hypotheses of each clause of SupplyAndStartRowsComplete can be met. -/
theorem witness_SupplyAndStartRowsComplete :
    (∃ s : State, s.vsup ≠ .valid) ∧
    (∃ s : State, s.vsup = .valid) ∧
    (∃ (g : Fin 2) (s : State), bitOf s.uvMask g.val = false) ∧
    (∃ (g : Fin 2) (s : State), bitOf s.uvMask g.val = true) ∧
    (∃ (g : Fin 2) (s : State), bitOf s.degMask g.val = true ∧ bitOf s.uvMask g.val = false) ∧
    (∃ (b : Fin 8) (s : State) (d : Nat), (s.bank b.val).limpDue = some d ∧ d ≤ s.now ∧ s.vsup = .valid ∧ s.domOn (Dm.bank b.val) = true) ∧
    (∃ s : State, s.get pwrStart_phase = 1 ∧ s.sysReturn = false ∧ s.sysUp = false ∧ s.rstLow = false ∧ s.vsup = .valid ∧ (List.range 8).all (fun b => (s.bank b).limpDue.isNone) = true) ∧
    (∃ (loads : List Bool) (s : State), s.get pwrStart_phase = 2 ∧ s.sysUp = true ∧ s.domOn Dm.sys = true ∧ s.flash.copying.isNone = true ∧ s.sysAgain = false) ∧
    (∃ (loads : List Bool) (s : State), s.get pwrStart_phase = 2 ∧ s.sysUp = true ∧ s.domOn Dm.sys = true ∧ s.flash.copying.isNone = true ∧ s.sysAgain = true) ∧
    (∃ (s : State) (d : Nat), s.devResetAt = some d ∧ d ≤ s.now ∧ s.vsup = .valid) ∧
    (∃ s : State, s.rstLow = false) ∧
    (∃ s : State, s.vsup = .valid ∧ s.domOn Dm.sys = true ∧ s.rstLow = false ∧ (s.sysUp = true ∨ s.sysReturn = true ∨ 2 ≤ s.get pwrStart_phase)) ∧
    (∃ (ecc : Bool) (codes : List Bool) (s : State), s.vsup = .valid ∧ s.domOn Dm.sys = true ∧ s.sysUp = false ∧ s.sysReturn = false ∧ s.rstLow = false ∧ 2 ≤ s.get pwrStart_phase) :=
  ⟨⟨{ up with vsup := .notValid }, by decide +kernel⟩,
    ⟨up, by decide +kernel⟩,
    ⟨1, up, by decide +kernel⟩,
    ⟨1, { up with uvMask := 2 }, by decide +kernel⟩,
    ⟨1, { up with degMask := 2 }, by decide +kernel⟩,
    ⟨7, { State.reset with now := 170000 }, 170000, by decide +kernel⟩,
    ⟨(forEach (List.range 8) (fun b u => u.modBank b (fun x => { x with limpDue := none })) State.reset).put pwrStart_phase 1, by decide +kernel⟩,
    ⟨[], up.put pwrStart_phase 2, by decide +kernel⟩,
    ⟨[], { up.put pwrStart_phase 2 with sysAgain := true }, by decide +kernel⟩,
    ⟨{ up with devResetAt := some 5, now := 5 }, 5, by decide +kernel⟩,
    ⟨up, by decide +kernel⟩,
    ⟨up, by decide +kernel⟩,
    ⟨true, [], { up with sysUp := false }, by decide +kernel⟩⟩

/-- The hypotheses of each clause of NoGoodSlotMeansEveryEntryOff can be met. -/
theorem witness_NoGoodSlotMeansEveryEntryOff :
    (∃ s : State, (∀ x : LimpSlot, some x ∈ s.otp.slots → x.crcGood = false) ∧ ∃ n : Nat, n < 64) ∧
    (∃ s : State, (∀ x : LimpSlot, some x ∈ s.otp.slots → x.crcGood = false)) ∧
    (∃ s : State, ∃ (k : Nat) (x : LimpSlot), s.otp.slots[k]? = some (some x) ∧ x.crcGood = false) ∧
    (∃ s : State, s.otp.lc = 0 ∧ ∃ n : Nat, n < 64) ∧
    (∃ (b : Fin 8) (s : State) (d : Nat), (s.bank b.val).limpDue = some d ∧ d ≤ s.now ∧ s.vsup = .valid ∧ s.domOn (Dm.bank b.val) = true ∧ s.get pwrStart_phase = 0) :=
  ⟨⟨{ State.reset with otp := { slots := [some { entries := List.replicate 64 0x2000, bases := 0, coast := 500, crcGood := false }, none, none, none], lc := 2 } }, by intro x h; simp at h; subst h; rfl, 63, by decide +kernel⟩,
    ⟨{ State.reset with otp := { slots := [some { entries := List.replicate 64 0x2000, bases := 0, coast := 500, crcGood := false }, none, none, none], lc := 2 } }, by intro x h; simp at h; subst h; rfl⟩,
    ⟨{ State.reset with otp := { slots := [some { entries := List.replicate 64 0x2000, bases := 0, coast := 500, crcGood := false }, none, none, none], lc := 2 } }, 0, { entries := List.replicate 64 0x2000, bases := 0, coast := 500, crcGood := false }, by decide +kernel⟩,
    ⟨State.reset, by decide +kernel, 63, by decide +kernel⟩,
    ⟨7, { State.reset with now := 170000 }, 170000, by decide +kernel⟩⟩

/-- The hypotheses of SysResetBeginsCoast can be met. -/
theorem witness_SysResetBeginsCoast :
    ∃ (s : State) (cause : Nat), s.coastAt = none ∧ s.get sysCoastcfg_coastTime ≠ 0 ∧ (s.sysStartTimes.filter (fun x => decide (s.now < x + sec 10))).length < 2 ∧ 3 ≤ cause ∧ cause ≤ 9 :=
  ⟨up.put sysCoastcfg_coastTime 500, 3, by decide +kernel⟩

/-- The hypotheses of each clause of CoastRowsComplete can be met. -/
theorem witness_CoastRowsComplete :
    (∃ (s : State) (a : Nat), s.coastAt = some a ∧ a + ms s.coastTime ≤ s.now ∧ s.domOn Dm.crk = true) ∧
    (∃ (b : Fin 8) (s : State), (s.bank b.val).linkUp = true ∧ s.domOn (Dm.bank b.val) = true) ∧
    (∃ (b : Fin 8) (s : State), (s.bank b.val).linkUp = false) ∧
    (∃ (b : Fin 8) (s : State) (a : Nat), (s.bank b.val).coastAt = some a ∧ a + ms ((s.bank b.val).coastMs + 1) ≤ s.now) ∧
    (∃ (k : Fin 4) (high : Bool) (s : State), bitOf s.lhLevel k.val ≠ high) ∧
    (∃ (k : Fin 4) (high : Bool) (s : State), bitOf s.lhLevel k.val ≠ high ∧ (∀ n : Nat, n < 64 → (s.ch n).follow = none)) :=
  ⟨⟨{ up with coastAt := some 0, coastTime := 500, now := ms 500 }, 0, by decide +kernel⟩,
    ⟨7, up, by decide +kernel⟩,
    ⟨7, up.modBank 7 (fun x => { x with linkUp := false }), by decide +kernel⟩,
    ⟨7, { up.modBank 7 (fun x => { x with coastAt := some 0, coastMs := 499 }) with now := ms 500 }, 0, by decide +kernel⟩,
    ⟨3, true, up, by decide +kernel⟩,
    ⟨3, true, up, by decide +kernel⟩⟩

/-- The hypotheses of each clause of ReportsComplete can be met. -/
theorem witness_ReportsComplete :
    (∃ (s : State) (h : Hdr), s.runs h (.nop h) = true) ∧
    (∃ (s : State) (h : Hdr) (k : Nat), s.runs h (.barrier h) = true ∧ ((s.queueFor h.hc.val (.barrier h)).find? (fun e => e.cmd == Instr.barrier h)).map (fun e => e.ahead) = some k) ∧
    (∃ (s : State) (h : Hdr), s.runs h (.getStatus h) = true) ∧
    (∃ (s : State) (h : Hdr), s.runs h (.getInfo h) = true) ∧
    (∃ (s : State) (h : Hdr), s.runs h (.pwrStatus h) = true) ∧
    (∃ (s : State) (h : Hdr), s.runs h (.timeRead h) = true) ∧
    (∃ (s : State) (h : Hdr), s.runs h (.immState h) = true) ∧
    (∃ (s : State) (h : Hdr), s.runs h (.swinRead h) = true) ∧
    (∃ (s : State) (h : Hdr), s.runs h (.fieldRead h) = true) ∧
    (∃ (s : State) (h : Hdr) (ch : Byte), s.runs h (.chStatus h ch) = true ∧ ch.toNat ≤ 63) ∧
    (∃ (s : State) (h : Hdr) (a : Byte), s.runs h (.axisRead h a) = true ∧ a.toNat ≤ 7) ∧
    (∃ (s : State) (h : Hdr) (n : Half), s.runs h (.spkRead h n) = true ∧ n.toNat ≤ 4095 ∧ s.slot n.toNat = none) ∧
    (∃ (s : State) (h : Hdr) (n : Half) (x : Slot), s.runs h (.spkRead h n) = true ∧ n.toNat ≤ 4095 ∧ s.slot n.toNat = some x) ∧
    (∃ (s : State) (h : Hdr) (ch : Byte), s.runs h (.leadRead h ch) = true ∧ ch.toNat ≤ 63) ∧
    (∃ (s : State) (h : Hdr) (p k : Byte) (ws : List Nat), s.runs h (.netStats h p k) = true ∧
    (
      let t := s.noteT1s p.toNat
      t.netStatWords p.toNat k.toNat = some ws)) ∧
    (∃ (s : State) (h : Hdr) (i : Half) (c : Byte), s.runs h (.faultRead h i c) = true ∧ 1 ≤ c.toNat ∧ c.toNat ≤ 15) ∧
    (∃ (s : State) (h : Hdr) (n : Byte), s.runs h (.analogRead h n) = true ∧ (n.toNat < 40 ∨ (64 ≤ n.toNat ∧ n.toNat < 68))) :=
  ⟨⟨up, hd, by decide +kernel⟩,
    ⟨up, hd, 0, by decide +kernel⟩,
    ⟨up, hd, by decide +kernel⟩,
    ⟨up, hd, by decide +kernel⟩,
    ⟨up, hd, by decide +kernel⟩,
    ⟨up, hd, by decide +kernel⟩,
    ⟨up, hd, by decide +kernel⟩,
    ⟨up, hd, by decide +kernel⟩,
    ⟨up, hd, by decide +kernel⟩,
    ⟨up, hd, 63, by decide +kernel⟩,
    ⟨up, hd, 7, by decide +kernel⟩,
    ⟨up, hd, 4095, by decide +kernel⟩,
    ⟨up.setSlot 4095 (some (mkSlot 0 0 [])), hd, 4095, _, by decide +kernel, by decide +kernel, rfl⟩,
    ⟨up, hd, 63, by decide +kernel⟩,
    ⟨up, hd, 0, 4, _, by decide +kernel, rfl⟩,
    ⟨up, hd, 0, 15, by decide +kernel⟩,
    ⟨up, hd, 67, by decide +kernel⟩⟩

/-- The hypotheses of each clause of SystemCommandsComplete can be met. -/
theorem witness_SystemCommandsComplete :
    (∃ (s : State) (h : Hdr), s.runs h (.limpRelease h) = true ∧ s.sysHolder h.hc.val = true ∧ (s.get pwrStart_phase = 2 ∨ s.get pwrStart_phase = 3) ∧ s.limpHeld = false ∧ s.flag pwrStart_limp = true) ∧
    (∃ (s : State) (h : Hdr), s.runs h (.limpRelease h) = true ∧ s.sysHolder h.hc.val = true ∧ (s.get pwrStart_phase = 2 ∨ s.get pwrStart_phase = 3) ∧ s.limpHeld = false ∧ s.flag pwrStart_limp = false) ∧
    (∃ (s : State) (h : Hdr) (es : List Half) (bases coast : Half), s.runs h (.limpMapProgram h es bases coast) = true ∧ limpMapOk es coast = true ∧ h.hc = 0 ∧ (s.otp.lc = 1 ∨ s.otp.lc = 3) ∧ s.otp.freeSlot.isSome = true) ∧
    (∃ (s : State) (h : Hdr), s.runs h (.sysReset h 0) = true) ∧
    (∃ (s : State) (h : Hdr), s.runs h (.sysReset h 1) = true) ∧
    (∃ (s : State) (h : Hdr) (kind : Byte) (first count : Half) (dest : Byte),
      let c := Instr.ownGrant h kind first count dest
      s.runs h c = true ∧ resRange kind.toNat first.toNat count.toNat = true ∧ dest.toNat ≤ 7 ∧ kind ≠ 2 ∧ s.closed dest.toNat = false ∧ s.bound dest.toNat = true) ∧
    (∃ (s : State) (h : Hdr) (kind : Byte) (first count : Half),
      let c := Instr.ownRelease h kind first count
      s.runs h c = true ∧ resRange kind.toNat first.toNat count.toNat = true ∧ kind ≠ 2) ∧
    (∃ (s : State) (h : Hdr) (first count : Half) (dest : Byte), dest.toNat ≤ 7 ∧ resRange 2 first.toNat count.toNat = true ∧ s.runs h (.ownGrant h 2 first count dest) = true) ∧
    (∃ (s : State) (h : Hdr) (first count : Half) (dest : Byte), dest.toNat ≤ 7 ∧ resRange 2 first.toNat count.toNat = true ∧ s.runs h (.ownRelease h 2 first count) = true) ∧
    (∃ (s : State) (h : Hdr) (hc item : Byte) (value : Word),
      let c := Instr.quotaSet h hc item value
      s.runs h c = true ∧ s.sysHolder h.hc.val = true ∧ hc.toNat ≤ 7 ∧ item.toNat ≤ 7 ∧ (quotaRange item.toNat).1 ≤ value.toNat ∧ value.toNat ≤ (quotaRange item.toNat).2) ∧
    (∃ (s : State) (h : Hdr) (hc : Byte),
      let c := Instr.hcClose h hc
      s.runs h c = true ∧ s.sysHolder h.hc.val = true ∧ 1 ≤ hc.toNat ∧ hc.toNat ≤ 7 ∧ hc.toNat ≠ h.hc.val ∧ s.closed hc.toNat = false) ∧
    (∃ (s : State) (h : Hdr) (hc : Byte),
      let c := Instr.hcClose h hc
      s.runs h c = true ∧ s.sysHolder h.hc.val = true ∧ 1 ≤ hc.toNat ∧ hc.toNat ≤ 7 ∧ hc.toNat ≠ h.hc.val ∧ s.closed hc.toNat = true) ∧
    (∃ (s : State) (h : Hdr) (tag : Half), s.runs h (.abort h tag) = true) ∧
    (∃ (s : State) (h : Hdr) (tag : Half), s.runs h (.abort h tag) = true ∧ s.jobs = [] ∧ (∀ e ∈ ((s.taken h.hc.val (.abort h tag)).hc h.hc.val).queue, ∀ x : Hdr, hdrOf e.cmd = some x → x.tag ≠ tag) ∧ (∀ b ∈ (s.hc h.hc.val).bad, b.hdr.tag ≠ tag)) :=
  ⟨⟨up.put pwrStart_limp 1, hd, by decide +kernel⟩,
    ⟨up, hd, by decide +kernel⟩,
    ⟨{ up with otp := { lc := 1 } }, hd, List.replicate 64 0, 0, 0, by decide +kernel⟩,
    ⟨up, hd, by decide +kernel⟩,
    ⟨up, hd, by decide +kernel⟩,
    ⟨up.put (hcBind_transport 7) 1, hd, 0, 0, 0, 7, by decide +kernel⟩,
    ⟨up, hd, 0, 0, 0, by decide +kernel⟩,
    ⟨up, hd, 0, 0, 0, by decide +kernel⟩,
    ⟨up, hd, 0, 0, 0, by decide +kernel⟩,
    ⟨up, hd, 0, 0, 0, by decide +kernel⟩,
    ⟨up, hd, 7, by decide +kernel⟩,
    ⟨up.putB (hcState_closed 7) true, hd, 7, by decide +kernel⟩,
    ⟨up, hd, 0, by decide +kernel⟩,
    ⟨up, hd, 0, by decide +kernel⟩⟩

/-- The hypotheses of each clause of TurnOnMeetsTheChannel can be met. -/
theorem witness_TurnOnMeetsTheChannel :
    (∃ (s : State) (n : Nat),
      let c := s.ch n
      c.disabled = true) ∧
    (∃ (s : State) (n : Nat),
      let c := s.ch n
      c.disabled = false ∧ c.follow.isSome = true) ∧
    (∃ (s : State) (n : Nat),
      let c := s.ch n
      c.disabled = false ∧ c.follow = none ∧ c.latched = true) ∧
    (∃ (s : State) (n : Nat),
      let c := s.ch n
      c.disabled = false ∧ c.follow = none ∧ c.latched = false ∧ c.cooling = true) ∧
    (∃ (s : State) (n : Nat),
      let c := s.ch n
      c.disabled = false ∧ c.follow = none ∧ c.latched = false ∧ c.cooling = false ∧ c.drive ≠ .off) ∧
    (∃ (s : State) (n : Nat),
      let c := s.ch n
      c.disabled = false ∧ c.follow = none ∧ c.latched = false ∧ c.cooling = false ∧ c.drive = .off ∧ s.uvCh n = true) ∧
    (∃ (s : State) (n : Nat),
      let c := s.ch n
      c.disabled = false ∧ c.follow = none ∧ c.latched = false ∧ c.cooling = false ∧ c.drive = .off ∧ s.uvCh n = false ∧ c.tripped = true ∧ s.now < c.coolEnd) ∧
    (∃ (s : State) (n : Nat),
      let c := s.ch n
      c.disabled = false ∧ c.follow = none ∧ c.latched = false ∧ c.cooling = false ∧ c.drive = .off ∧ s.uvCh n = false ∧ (c.tripped = false ∨ c.coolEnd ≤ s.now) ∧ (s.pairOf n).any s.tooHot = true) ∧
    (∃ (s : State) (n : Nat),
      let c := s.ch n
      c.disabled = false ∧ c.follow = none ∧ c.latched = false ∧ c.cooling = false ∧ c.drive = .off ∧ s.uvCh n = false ∧ (c.tripped = false ∨ c.coolEnd ≤ s.now) ∧ (s.pairOf n).any s.tooHot = false) :=
  ⟨⟨upCh 63 (fun c => { c with disabled := true }), 63, by decide +kernel⟩,
    ⟨upCh 63 (fun c => { c with follow := some { sel := 0, inv := false, limp := false } }), 63, by decide +kernel⟩,
    ⟨upCh 63 (fun c => { c with latched := true }), 63, by decide +kernel⟩,
    ⟨upCh 63 (fun c => { c with cooling := true }), 63, by decide +kernel⟩,
    ⟨upCh 63 (fun c => { c with drive := .pwm }), 63, by decide +kernel⟩,
    ⟨{ up with uvMask := 2 }, 63, by decide +kernel⟩,
    ⟨upCh 63 (fun c => { c with tripped := true, coolEnd := 1 }), 63, by decide +kernel⟩,
    ⟨up.put (chVt_tch 63) 4095, 63, by decide +kernel⟩,
    ⟨up, 63, by decide +kernel⟩⟩

/-- The hypotheses of each clause of ChOnCompletes can be met. -/
theorem witness_ChOnCompletes :
    (∃ (s : State) (h : Hdr) (mask : Dword),
      let c := Instr.chOn h mask
      s.runs h c = true ∧ h.atomic = false ∧ mask ≠ 0) ∧
    (∃ (s : State) (h : Hdr), s.runs h (.chOn h 0) = true ∧ h.atomic = false) ∧
    (∃ (s : State) (h : Hdr) (mask : Dword),
      let c := Instr.chOn h mask
      let cs := maskList 64 mask.toNat
      s.runs h c = true ∧ h.atomic = true ∧ mask ≠ 0 ∧ (∀ n ∈ cs, s.owns h.hc.val 0 n = true ∧ (s.taken h.hc.val c).onCase n = .ask)) ∧
    (∃ (s : State) (h : Hdr) (mask : Dword),
      let c := Instr.chOn h mask
      s.runs h c = true ∧ h.atomic = true ∧ (∀ n ∈ maskList 64 mask.toNat, s.owns h.hc.val 0 n = true ∧
        ((s.taken h.hc.val c).onCase n = .already ∨ (s.taken h.hc.val c).onCase n = .later))) ∧
    (∃ (s : State) (h : Hdr) (id n : Nat), s.owns h.hc.val 0 n = false) ∧
    (∃ (s : State) (h : Hdr) (id n : Nat), s.owns h.hc.val 0 n = true ∧ ∃ st : Byte, s.onCase n = .refuse st) ∧
    (∃ (s : State) (h : Hdr) (id n : Nat), s.owns h.hc.val 0 n = true ∧ s.onCase n = .later) ∧
    (∃ (s : State) (h : Hdr) (id n : Nat), s.owns h.hc.val 0 n = true ∧ s.onCase n = .already ∧ s.isOn n = true) ∧
    (∃ (s : State) (h : Hdr) (id n : Nat), s.owns h.hc.val 0 n = true ∧ s.onCase n = .already ∧ s.isOn n = false) ∧
    (∃ (s : State) (h : Hdr) (id n : Nat), s.owns h.hc.val 0 n = true ∧ s.onCase n = .ask) :=
  ⟨⟨up, hd, 2 ^ 63, by decide +kernel⟩,
    ⟨up, hd, by decide +kernel⟩,
    ⟨up, atomic, 2 ^ 63 + 1, by decide +kernel⟩,
    ⟨{ up with uvMask := 2 }, atomic, 2 ^ 63, by decide +kernel⟩,
    ⟨up, hd7, 0, 63, by decide +kernel⟩,
    ⟨upCh 63 (fun c => { c with latched := true }), hd, 0, 63, by decide +kernel, St.locked, by decide +kernel⟩,
    ⟨{ up with uvMask := 2 }, hd, 0, 63, by decide +kernel⟩,
    ⟨upCh 47 (fun c => { c with drive := .on }), hd, 0, 47, by decide +kernel⟩,
    ⟨upCh 63 (fun c => { c with drive := .low }), hd, 0, 63, by decide +kernel⟩,
    ⟨up, hd, 0, 63, by decide +kernel⟩⟩

/-- The hypotheses of each clause of MaskCommandsComplete can be met. -/
theorem witness_MaskCommandsComplete :
    (∃ (s : State) (h : Hdr) (mask : Dword),
      let c := Instr.chOff h mask
      let t := s.taken h.hc.val c
      let on := (maskList 64 mask.toNat).filter (fun n => (s.ch n).drive != .off)
      s.runs h c = true ∧ (h.atomic = false ∨ (∀ n ∈ maskList 64 mask.toNat, t.chOffRefusal h n = none))) ∧
    (∃ (s : State) (h : Hdr) (mask : Dword) (st : Byte),
      let c := Instr.chOff h mask
      s.runs h c = true ∧ h.atomic = true ∧ (maskList 64 mask.toNat).findSome? (fun n => (s.taken h.hc.val c).chOffRefusal h n) = some st) ∧
    (∃ (s : State) (h : Hdr) (mask : Dword),
      let c := Instr.chClearLatch h mask
      let t := s.taken h.hc.val c
      let held := (maskList 64 mask.toNat).filter (fun n => (s.ch n).latched)
      s.runs h c = true) ∧
    (∃ (s : State) (h : Hdr) (mask : Dword),
      let c := Instr.chDisable h mask
      let t := s.taken h.hc.val c
      let was := (maskList 64 mask.toNat).filter (fun n => !(s.ch n).disabled)
      s.runs h c = true) :=
  ⟨⟨up, hd, 2 ^ 63, by decide +kernel⟩,
    ⟨upCh 63 (fun c => { c with follow := some { sel := 0, inv := false, limp := false } }), { hc := 0, atomic := true }, 2 ^ 63, St.badState, by decide +kernel⟩,
    ⟨up, hd, 2 ^ 63, by decide +kernel⟩,
    ⟨up, hd, 2 ^ 63, by decide +kernel⟩⟩

/-- The hypotheses of each clause of ChannelSettingsComplete can be met. -/
theorem witness_ChannelSettingsComplete :
    (∃ (s : State) (h : Hdr) (ch base : Byte) (duty : Half) (phase : Byte),
      let c := Instr.chSetDuty h ch base duty phase
      s.runs h c = true ∧ ch.toNat ≤ 63 ∧ base.toNat ≤ 3 ∧ duty.toNat ≤ 0xFFF ∧ s.owns h.hc.val 0 ch.toNat = true ∧ (s.ch ch.toNat).disabled = false) ∧
    (∃ (s : State) (h : Hdr) (ch : Byte) (record : List Word),
      let c := Instr.chConfig h ch record
      let t := s.taken h.hc.val c
      let n := ch.toNat
      let ws := t.mirrorBridge n record
      s.runs h c = true ∧ n ≤ 63 ∧ record.length = 8 ∧ onlyFields chFields record = true ∧ chRecOk (chClass n) (s.get (govBudget_budget (t.govOf n))) ws = true ∧ s.owns h.hc.val 0 n = true ∧ (setField ws 0 31 31 = 0 ∨ t.safeHeld n = false) ∧ (chClass n ≠ .HB ∨ (setField ws 0 30 30 == 1) = s.bridged n ∨ t.pairOff n = true)) ∧
    (∃ (s : State) (h : Hdr) (ch lhsel inv : Byte),
      let c := Instr.chFollowLh h ch lhsel inv
      s.runs h c = true ∧ ch.toNat ≤ 63 ∧ inv.toNat ≤ 1 ∧ (s.bridged ch.toNat = false ∨ ch.toNat % 2 = 0) ∧ s.owns h.hc.val 0 ch.toNat = true ∧ lhsel.toNat ≤ 3) ∧
    (∃ (s : State) (h : Hdr) (ch lhsel inv : Byte),
      let c := Instr.chFollowLh h ch lhsel inv
      s.runs h c = true ∧ ch.toNat ≤ 63 ∧ inv.toNat ≤ 1 ∧ (s.bridged ch.toNat = false ∨ ch.toNat % 2 = 0) ∧ s.owns h.hc.val 0 ch.toNat = true ∧ lhsel = 0xFF ∧ (s.ch ch.toNat).follow.isSome = true) ∧
    (∃ (s : State) (h : Hdr) (ch lhsel inv : Byte),
      let c := Instr.chFollowLh h ch lhsel inv
      s.runs h c = true ∧ ch.toNat ≤ 63 ∧ inv.toNat ≤ 1 ∧ (s.bridged ch.toNat = false ∨ ch.toNat % 2 = 0) ∧ s.owns h.hc.val 0 ch.toNat = true ∧ lhsel = 0xFF ∧ (s.ch ch.toNat).follow = none) ∧
    (∃ (s : State) (h : Hdr) (bank : Byte) (freq : Half),
      let c := Instr.bankBase h bank freq
      s.runs h c = true ∧ bank.toNat ≤ 7 ∧ 25 ≤ freq.toNat ∧ freq.toNat ≤ 25000 ∧ (∀ k : Nat, k < 8 → s.owns h.hc.val 0 (8 * bank.toNat + k) = true)) ∧
    (∃ (s : State) (h : Hdr) (bridge mode : Byte),
      let c := Instr.motorStop h bridge mode
      let n := 48 + 2 * bridge.toNat
      s.runs h c = true ∧ bridge.toNat ≤ 7 ∧ mode.toNat ≤ 1 ∧ s.owns h.hc.val 0 n = true ∧ s.owns h.hc.val 0 (n + 1) = true ∧ s.bridged n = true) :=
  ⟨⟨up, hd, 63, 3, 0xFFF, 0, by decide +kernel⟩,
    ⟨up, hd, 63, up.chRec 63, by decide +kernel⟩,
    ⟨up, hd, 63, 3, 1, by decide +kernel⟩,
    ⟨upCh 63 (fun c => { c with follow := some { sel := 0, inv := false, limp := false } }), hd, 63, 0xFF, 0, by decide +kernel⟩,
    ⟨up, hd, 63, 0xFF, 0, by decide +kernel⟩,
    ⟨up, hd, 7, 25000, by decide +kernel⟩,
    ⟨bridge7 [], hd, 7, 1, by decide +kernel⟩⟩

/-- The hypotheses of each clause of TimedOutputsComplete can be met. -/
theorem witness_TimedOutputsComplete :
    (∃ (s : State) (h : Hdr) (ch : Byte) (width : Word),
      let c := Instr.chPulse h ch width
      let t := s.taken h.hc.val c
      let n := ch.toNat
      s.runs h c = true ∧ n ≤ 63 ∧ 20 ≤ width.toNat ∧ width.toNat ≤ 60000000 ∧ s.owns h.hc.val 0 n = true ∧ t.onCase n = .ask) ∧
    (∃ (s : State) (h : Hdr) (ch : Byte) (width : Word),
      let c := Instr.chPulse h ch width
      let t := s.taken h.hc.val c
      let n := ch.toNat
      s.runs h c = true ∧ n ≤ 63 ∧ 20 ≤ width.toNat ∧ width.toNat ≤ 60000000 ∧ s.owns h.hc.val 0 n = true ∧ t.onCase n = .later) ∧
    (∃ (s : State) (h : Hdr) (ch : Byte) (width : Word),
      let c := Instr.chPulse h ch width
      let t := s.taken h.hc.val c
      let n := ch.toNat
      s.runs h c = true ∧ n ≤ 63 ∧ 20 ≤ width.toNat ∧ width.toNat ≤ 60000000 ∧ s.owns h.hc.val 0 n = true ∧ t.onCase n = .already) ∧
    (∃ (s : State) (h : Hdr) (ch profile : Byte) (k : Half),
      let c := Instr.chStartProfile h ch profile k
      let t := s.taken h.hc.val c
      let n := ch.toNat
      s.runs h c = true ∧ n ≤ 63 ∧ t.profileCheck n profile.toNat k.toNat = none ∧ s.owns h.hc.val 0 n = true ∧ t.onCase n = .later) ∧
    (∃ (s : State) (h : Hdr) (ch profile : Byte) (k : Half),
      let c := Instr.chStartProfile h ch profile k
      let t := s.taken h.hc.val c
      let n := ch.toNat
      let set := s.pset n k.toNat
      s.runs h c = true ∧ n ≤ 63 ∧ t.profileCheck n profile.toNat k.toNat = none ∧ s.owns h.hc.val 0 n = true ∧ t.parkedSet profile.toNat set = true ∧ (t.onCase n = .ask ∨ t.onCase n = .already)) ∧
    (∃ (s : State) (h : Hdr) (ch profile : Byte) (k : Half),
      let c := Instr.chStartProfile h ch profile k
      let t := s.taken h.hc.val c
      let n := ch.toNat
      let set := s.pset n k.toNat
      s.runs h c = true ∧ n ≤ 63 ∧ t.profileCheck n profile.toNat k.toNat = none ∧ s.owns h.hc.val 0 n = true ∧ t.parkedSet profile.toNat set = false ∧ t.onCase n = .already) ∧
    (∃ (s : State) (h : Hdr) (ch profile : Byte) (k : Half),
      let c := Instr.chStartProfile h ch profile k
      let t := s.taken h.hc.val c
      let n := ch.toNat
      let set := s.pset n k.toNat
      s.runs h c = true ∧ n ≤ 63 ∧ t.profileCheck n profile.toNat k.toNat = none ∧ s.owns h.hc.val 0 n = true ∧ t.parkedSet profile.toNat set = false ∧ t.onCase n = .ask) ∧
    (∃ (s : State) (h : Hdr) (bridge axis : Byte) (duty : Half) (target : Dword),
      let c := Instr.motorTarget h bridge axis duty target
      let t := s.taken h.hc.val c
      let k := bridge.toNat
      let n := 48 + 2 * k
      s.runs h c = true ∧ k ≤ 7 ∧ axis.toNat ≤ 7 ∧ duty.toNat ≤ 0xFFF ∧ motorSetFor (s.pset n 0) axis.toNat = true ∧ s.owns h.hc.val 0 n = true ∧ s.owns h.hc.val 0 (n + 1) = true ∧ s.bridged n = true ∧ (s.bank (bankOf n)).storeOk = true ∧ t.onCase n = .later) ∧
    (∃ (s : State) (h : Hdr) (bridge axis : Byte) (duty : Half) (target : Dword),
      let c := Instr.motorTarget h bridge axis duty target
      let t := s.taken h.hc.val c
      let k := bridge.toNat
      let n := 48 + 2 * k
      s.runs h c = true ∧ k ≤ 7 ∧ axis.toNat ≤ 7 ∧ duty.toNat ≤ 0xFFF ∧ motorSetFor (s.pset n 0) axis.toNat = true ∧ s.owns h.hc.val 0 n = true ∧ s.owns h.hc.val 0 (n + 1) = true ∧ s.bridged n = true ∧ (s.bank (bankOf n)).storeOk = true ∧ (t.onCase n = .ask ∨ t.onCase n = .already) ∧ t.isOn n = false) ∧
    (∃ (s : State) (h : Hdr) (bridge axis : Byte) (duty : Half) (target : Dword),
      let c := Instr.motorTarget h bridge axis duty target
      let t := s.taken h.hc.val c
      let k := bridge.toNat
      let n := 48 + 2 * k
      s.runs h c = true ∧ k ≤ 7 ∧ axis.toNat ≤ 7 ∧ duty.toNat ≤ 0xFFF ∧ motorSetFor (s.pset n 0) axis.toNat = true ∧ s.owns h.hc.val 0 n = true ∧ s.owns h.hc.val 0 (n + 1) = true ∧ s.bridged n = true ∧ (s.bank (bankOf n)).storeOk = true ∧ t.onCase n = .already ∧ t.isOn n = true) :=
  ⟨⟨up, hd, 47, 60000000, by decide +kernel⟩,
    ⟨{ up with uvMask := 2 }, hd, 47, 20, by decide +kernel⟩,
    ⟨upCh 47 (fun c => { c with drive := .on }), hd, 47, 20, by decide +kernel⟩,
    ⟨{ ((storeRec up (chPset_word 47 3) (mkRec 8 [(0, 31, 24, 1), (0, 11, 0, 0xFFF), (1, 31, 16, 10000)])).modBank 5 (fun b => { b with storeOk := true })) with uvMask := 2 }, hd, 47, 1, 3, by decide +kernel⟩,
    ⟨bridge7 (mkRec 8 [(0, 31, 24, 3), (0, 11, 10, 2), (1, 31, 24, 39), (2, 15, 0, 100), (3, 31, 16, 10), (3, 15, 0, 1), (4, 31, 24, 7), (5, 31, 16, 1), (5, 15, 0, 1)]), hd, 62, 3, 0, by decide +kernel⟩,
    ⟨((storeRec up (chPset_word 47 3) (mkRec 8 [(0, 31, 24, 1), (0, 11, 0, 0xFFF), (1, 31, 16, 10000)])).modBank 5 (fun b => { b with storeOk := true })).modCh 47 (fun c => { c with drive := .pwm }), hd, 47, 1, 3, by decide +kernel⟩,
    ⟨(storeRec up (chPset_word 47 3) (mkRec 8 [(0, 31, 24, 1), (0, 11, 0, 0xFFF), (1, 31, 16, 10000)])).modBank 5 (fun b => { b with storeOk := true }), hd, 47, 1, 3, by decide +kernel⟩,
    ⟨{ bridge7 (mkRec 8 [(0, 31, 24, 4), (1, 31, 16, 1), (2, 31, 16, 10), (2, 15, 8, 1), (3, 31, 16, 10), (3, 15, 0, 1), (4, 31, 24, 7), (5, 31, 16, 1), (5, 15, 0, 1)]) with uvMask := 2 }, hd, 7, 7, 0xFFF, 0, by decide +kernel⟩,
    ⟨bridge7 (mkRec 8 [(0, 31, 24, 4), (1, 31, 16, 1), (2, 31, 16, 10), (2, 15, 8, 1), (3, 31, 16, 10), (3, 15, 0, 1), (4, 31, 24, 7), (5, 31, 16, 1), (5, 15, 0, 1)]), hd, 7, 7, 0xFFF, 0, by decide +kernel⟩,
    ⟨((bridge7 (mkRec 8 [(0, 31, 24, 4), (1, 31, 16, 1), (2, 31, 16, 10), (2, 15, 8, 1), (3, 31, 16, 10), (3, 15, 0, 1), (4, 31, 24, 7), (5, 31, 16, 1), (5, 15, 0, 1)])).modBr 7 (fun b => { b with st := .forward })).modCh 62 (fun c => { c with drive := .on }), hd, 7, 7, 0xFFF, 0, by decide +kernel⟩⟩

/-- The hypotheses of SetDutyStoresTheNextPeriod can be met. -/
theorem witness_SetDutyStoresTheNextPeriod :
    ∃ (s : State) (n duty phase div : Nat), n < 64 ∧ duty ≤ 0xFFF ∧ phase ≤ 0xFF ∧ div ≤ 3 :=
  ⟨up, 63, 0xFFF, 0xFF, 3, by decide +kernel⟩

/-- The hypotheses of each clause of TurnOnEdge can be met. -/
theorem witness_TurnOnEdge :
    (∃ (s : State) (n : Nat), n < 64 ∧ s.bridged n = false ∧ (s.ch n).drive = .off) ∧
    (∃ (s : State) (n : Nat), n < 64 ∧ s.bridged n = false ∧ (s.ch n).drive = .off ∧
    (
      let t := s.turnOn n
      ∃ m : Nat, m ≠ n)) :=
  ⟨⟨up, 63, by decide +kernel⟩,
    ⟨up, 63, by decide +kernel, by decide +kernel, by decide +kernel, 62, by decide +kernel⟩⟩

/-- The hypotheses of each clause of CrankRowsComplete can be met. -/
theorem witness_CrankRowsComplete :
    (∃ (s : State) (h : Hdr) (axis : Byte) (record : List Word),
      let c := Instr.axisConfig h axis record
      s.runs h c = true ∧ axis.toNat ≤ 7 ∧ record.length = 8 ∧ axRecOk record = true ∧ s.owns h.hc.val 1 axis.toNat = true) ∧
    (∃ (s : State) (h : Hdr) (axis : Byte) (pos : Dword),
      let c := Instr.axisWrite h axis pos
      s.runs h c = true ∧ axis.toNat ≤ 7 ∧ s.owns h.hc.val 1 axis.toNat = true ∧ s.axSource axis.toNat = 8) ∧
    (∃ (s : State) (h : Hdr) (axis : Byte) (pos : Dword),
      let c := Instr.axisWrite h axis pos
      s.runs h c = true ∧ axis.toNat ≤ 7 ∧ s.owns h.hc.val 1 axis.toNat = true ∧ s.axSource axis.toNat ≠ 8) ∧
    (∃ (s : State) (h : Hdr) (axis enable : Byte),
      let c := Instr.axisPublish h axis enable
      s.runs h c = true ∧ axis.toNat ≤ 7 ∧ enable.toNat ≤ 1 ∧ s.owns h.hc.val 1 axis.toNat = true) ∧
    (∃ (s : State) (h : Hdr) (ch : Byte) (table : List Word),
      let c := Instr.leadSet h ch table
      s.runs h c = true ∧ ch.toNat ≤ 63 ∧ table.length = 8 ∧ leadRecOk table = true ∧ s.owns h.hc.val 0 ch.toNat = true) ∧
    (∃ (n : Fin 8) (a b up : Bool) (s : State), s.domOn Dm.crk = true ∧ axIsEdge (s.axSource n.val) = true ∧ (s.axSource n.val ≠ 2 ∨ s.fieldLive = true) ∧ (s.axSource n.val ≠ 3 ∨ (s.swinCont (2 * s.axf n.val 0 23 16) = true ∧ s.swinCont (2 * s.axf n.val 0 23 16 + 1) = true)) ∧ s.axFilt n.val = 0 ∧
    (
      let inv (k : Nat) : Bool := s.axSource n.val == 2 && s.fif (2 * s.axf n.val 0 23 16 + k) 25 25 == 1
      edgeDecode (s.axf n.val 0 25 24) ((s.ax n.val).a != inv 0) ((s.ax n.val).b != inv 1) (a != inv 0) (b != inv 1) = (some up, false))) ∧
    (∃ (n : Fin 8) (a b : Bool) (s : State), s.domOn Dm.crk = true ∧ axIsEdge (s.axSource n.val) = true ∧ (s.axSource n.val ≠ 2 ∨ s.fieldLive = true) ∧ (s.axSource n.val ≠ 3 ∨ (s.swinCont (2 * s.axf n.val 0 23 16) = true ∧ s.swinCont (2 * s.axf n.val 0 23 16 + 1) = true)) ∧ s.axFilt n.val ≠ 0) ∧
    (∃ (n : Fin 8) (a b : Bool) (s : State), s.domOn Dm.crk = true ∧ axIsEdge (s.axSource n.val) = true ∧ (s.axSource n.val ≠ 2 ∨ s.fieldLive = true) ∧ (s.axSource n.val ≠ 3 ∨ (s.swinCont (2 * s.axf n.val 0 23 16) = true ∧ s.swinCont (2 * s.axf n.val 0 23 16 + 1) = true)) ∧ s.axFilt n.val = 0 ∧
    (
      let inv (k : Nat) : Bool := s.axSource n.val == 2 && s.fif (2 * s.axf n.val 0 23 16 + k) 25 25 == 1
      edgeDecode (s.axf n.val 0 25 24) ((s.ax n.val).a != inv 0) ((s.ax n.val).b != inv 1) (a != inv 0) (b != inv 1) = (none, true) ∧
    (
      let l := s.devTime :: (s.ax n.val).qerrs.filter (fun e => decide (s.devTime < e + sec 1))
      l.length < 16))) ∧
    (∃ (n : Fin 8) (a b : Bool) (s : State), s.domOn Dm.crk = true ∧ axIsEdge (s.axSource n.val) = true ∧ (s.axSource n.val ≠ 2 ∨ s.fieldLive = true) ∧ (s.axSource n.val ≠ 3 ∨ (s.swinCont (2 * s.axf n.val 0 23 16) = true ∧ s.swinCont (2 * s.axf n.val 0 23 16 + 1) = true)) ∧ s.axFilt n.val = 0 ∧
    (
      let inv (k : Nat) : Bool := s.axSource n.val == 2 && s.fif (2 * s.axf n.val 0 23 16 + k) 25 25 == 1
      edgeDecode (s.axf n.val 0 25 24) ((s.ax n.val).a != inv 0) ((s.ax n.val).b != inv 1) (a != inv 0) (b != inv 1) = (none, true) ∧
    (
      let l := s.devTime :: (s.ax n.val).qerrs.filter (fun e => decide (s.devTime < e + sec 1))
      16 ≤ l.length))) ∧
    (∃ (n : Fin 8) (s : State), s.domOn Dm.crk = true ∧ axIsEdge (s.axSource n.val) = true ∧ (s.ax n.val).heardAt + s.axTimeout n.val ≤ s.now ∧ ((s.ax n.val).st = .init ∨ (s.ax n.val).st = .tracking ∨ (s.ax n.val).st = .reversing)) ∧
    (∃ (n : Fin 8) (s : State), s.domOn Dm.crk = true ∧ axIsMsg (s.axSource n.val) = true ∧ (s.ax n.val).heardAt + s.axTimeout n.val ≤ s.now ∧ (s.ax n.val).st ≠ .sourceLost ∧ (s.ax n.val).st ≠ .extrapolating ∧ s.axf n.val 3 23 22 = 1) ∧
    (∃ (n : Fin 8) (s : State), s.domOn Dm.crk = true ∧ axIsMsg (s.axSource n.val) = true ∧ (s.ax n.val).heardAt + s.axTimeout n.val ≤ s.now ∧ (s.ax n.val).st ≠ .sourceLost ∧ (s.ax n.val).st ≠ .extrapolating ∧ s.axf n.val 3 23 22 ≠ 1) ∧
    (∃ (n : Fin 8) (s : State), s.domOn Dm.crk = true ∧ (s.ax n.val).st = .extrapolating ∧ (s.ax n.val).lostAt + ms (s.axf n.val 4 31 16) ≤ s.now) :=
  ⟨⟨up, hd, 7, up.axRec 7, by decide +kernel⟩,
    ⟨axis7 8, hd, 7, 0, by decide +kernel⟩,
    ⟨up, hd, 7, 0, by decide +kernel⟩,
    ⟨up, hd, 7, 1, by decide +kernel⟩,
    ⟨up, hd, 63, (List.range 8).map (fun k => up.rd (spkLead_word 63 k).addr), by decide +kernel⟩,
    ⟨7, true, false, true, (axis7 1).put ⟨(axCfg_word 7 0).addr, 25, 24⟩ 3, by decide +kernel⟩,
    ⟨7, true, true, (axis7 1).put ⟨(axCfg_word 7 0).addr, 14, 12⟩ 3, by decide +kernel⟩,
    ⟨7, true, true, axis7 1, by decide +kernel⟩,
    ⟨7, true, true, (axis7 1).modAx 7 (fun x => { x with qerrs := List.replicate 15 0 }), by decide +kernel⟩,
    ⟨7, { (axis7 1).modAx 7 (fun x => { x with st := .tracking }) with now := sec 65 }, by decide +kernel⟩,
    ⟨7, { (axis7 4).put ⟨(axCfg_word 7 3).addr, 23, 22⟩ 1 with now := sec 65 }, by decide +kernel⟩,
    ⟨7, { axis7 4 with now := sec 65 }, by decide +kernel⟩,
    ⟨7, { (axis7 4).modAx 7 (fun x => { x with st := .extrapolating }) with now := sec 65 }, by decide +kernel⟩⟩

/-- The hypotheses of each clause of AxisPresetSetsThePosition can be met. -/
theorem witness_AxisPresetSetsThePosition :
    (∃ (s : State) (n : Nat) (pos : Int), n < 8 ∧ s.axKind n ≠ 1 ∧ -(2 ^ 47) < pos ∧ pos < 2 ^ 47 - 1 ∧ axIsEdge (s.axSource n) = false) ∧
    (∃ (s : State) (n : Nat) (pos : Int), n < 8 ∧ s.axKind n ≠ 1 ∧ -(2 ^ 47) < pos ∧ pos < 2 ^ 47 - 1 ∧ axIsEdge (s.axSource n) = false ∧ ∃ m : Nat, m ≠ n) :=
  ⟨⟨up, 7, 0, by decide +kernel⟩,
    ⟨up, 7, 0, by decide +kernel, by decide +kernel, by decide +kernel, by decide +kernel, by decide +kernel, 6, by decide +kernel⟩⟩

/-- The hypotheses of each clause of SprocketRowsComplete can be met. -/
theorem witness_SprocketRowsComplete :
    (∃ (s : State) (h : Hdr) (slot : Half) (record : List Word),
      let c := Instr.spkArm h slot record
      let t := s.taken h.hc.val c
      s.runs h c = true ∧ t.armRefusal h.hc.val slot.toNat record = none) ∧
    (∃ (s : State) (h : Hdr) (first count : Half),
      let c := Instr.spkCancel h first count
      s.runs h c = true) ∧
    (∃ s : State, s.domOn Dm.crk = true ∧ s.tickAt + us 1 ≤ s.now) ∧
    (∃ (n : Fin 4096) (s : State) (x : Slot) (r at_ : Nat), s.slot n.val = some x ∧ x.due = some (r, at_) ∧ s.domOn Dm.crk = true ∧ s.nextDue = some n.val ∧ s.fireRate = true) ∧
    (∃ (n : Fin 4096) (s : State) (x : Slot) (g : Nat), s.slot n.val = some x ∧ x.granted = some g ∧ x.st = .requesting ∧ x.due = none ∧ g + us 100 ≤ s.now) :=
  ⟨⟨up, hd, 4095, (mkRec 8 [(0, 31, 30, 1), (0, 19, 16, 1)]), by decide +kernel⟩,
    ⟨up, hd, 0, 0, by decide +kernel⟩,
    ⟨upAt 100, by decide +kernel⟩,
    ⟨4095, ({ upAt 100 with dueQ := [4095] } : State).setSlot 4095 (some { mkSlot 0 0 (mkRec 8 [(0, 31, 30, 1), (0, 19, 16, 1)]) with due := some (0, 50) }), { mkSlot 0 0 (mkRec 8 [(0, 31, 30, 1), (0, 19, 16, 1)]) with due := some (0, 50) }, 0, 50, by decide +kernel⟩,
    ⟨4095, (upAt (us 100)).setSlot 4095 (some { mkSlot 0 0 (mkRec 8 [(0, 31, 30, 1), (0, 19, 16, 1)]) with st := .requesting, granted := some 0 }), { mkSlot 0 0 (mkRec 8 [(0, 31, 30, 1), (0, 19, 16, 1)]) with st := .requesting, granted := some 0 }, 0, by decide +kernel⟩⟩

/-- The hypotheses of each clause of SpkArmRefusals can be met. -/
theorem witness_SpkArmRefusals :
    (∃ (s : State) (hc n : Nat) (ws : List Word),
      let bad := 4095 < n ∨ ws.length ≠ 8 ∨ s.slotRecOk ws = false
      bad) ∧
    (∃ (s : State) (hc n : Nat) (ws : List Word),
      let bad := 4095 < n ∨ ws.length ≠ 8 ∨ s.slotRecOk ws = false
      ¬ bad ∧ ∃ y : Slot, s.slot n = some y) ∧
    (∃ (s : State) (hc n : Nat) (ws : List Word),
      let x := mkSlot hc 0 ws
      let bad := 4095 < n ∨ ws.length ≠ 8 ∨ s.slotRecOk ws = false
      ¬ bad ∧ s.slot n = none ∧ s.actionOwned hc x = false) ∧
    (∃ (s : State) (hc n : Nat) (ws : List Word),
      let x := mkSlot hc 0 ws
      let bad := 4095 < n ∨ ws.length ≠ 8 ∨ s.slotRecOk ws = false
      ¬ bad ∧ s.slot n = none ∧ s.actionOwned hc x = true ∧ s.quota hc 1 ≤ s.countClaimed hc 2) ∧
    (∃ (s : State) (hc n : Nat) (ws : List Word),
      let x := mkSlot hc 0 ws
      let bad := 4095 < n ∨ ws.length ≠ 8 ∨ s.slotRecOk ws = false
      ¬ bad ∧ s.slot n = none ∧ s.actionOwned hc x = true ∧ s.countClaimed hc 2 < s.quota hc 1 ∧ s.flag (hcState_overQuota hc) = false ∧ x.power = true ∧ s.flag pwrStart_limp = true) ∧
    (∃ (s : State) (hc n : Nat) (ws : List Word),
      let x := mkSlot hc 0 ws
      let bad := 4095 < n ∨ ws.length ≠ 8 ∨ s.slotRecOk ws = false
      ¬ bad ∧ s.slot n = none ∧ s.actionOwned hc x = true ∧ s.countClaimed hc 2 < s.quota hc 1 ∧ s.flag (hcState_overQuota hc) = false ∧ x.power = true ∧ x.chans.any (fun c => (s.ch c).disabled) = true) ∧
    (∃ (s : State) (hc n : Nat) (ws : List Word),
      let x := mkSlot hc 0 ws
      let bad := 4095 < n ∨ ws.length ≠ 8 ∨ s.slotRecOk ws = false
      ¬ bad ∧ s.slot n = none ∧ s.actionOwned hc x = true ∧ s.countClaimed hc 2 < s.quota hc 1 ∧ s.flag (hcState_overQuota hc) = false ∧ x.power = true ∧ s.flag pwrStart_limp = false ∧ x.chans.any (fun c => (s.ch c).disabled) = false) ∧
    (∃ (s : State) (hc n : Nat) (ws : List Word),
      let x := mkSlot hc 0 ws
      let bad := 4095 < n ∨ ws.length ≠ 8 ∨ s.slotRecOk ws = false
      ¬ bad ∧ s.slot n = none ∧ s.actionOwned hc x = true ∧ s.countClaimed hc 2 < s.quota hc 1 ∧ s.flag (hcState_overQuota hc) = false ∧ x.power = false) :=
  ⟨⟨up, 0, 4096, [], by decide +kernel⟩,
    ⟨up.setSlot 4095 (some (mkSlot 0 0 [])), 0, 4095, (mkRec 8 [(0, 31, 30, 1), (0, 19, 16, 1), (0, 15, 8, 63)]), by decide +kernel, mkSlot 0 0 [], by decide +kernel⟩,
    ⟨up, 7, 4095, (mkRec 8 [(0, 31, 30, 1), (0, 19, 16, 1), (0, 15, 8, 63)]), by decide +kernel⟩,
    ⟨up.put (hcQuota_value 0 1) 0, 0, 4095, (mkRec 8 [(0, 31, 30, 1), (0, 19, 16, 1), (0, 15, 8, 63)]), by decide +kernel⟩,
    ⟨up.put pwrStart_limp 1, 0, 4095, (mkRec 8 [(0, 31, 30, 1), (0, 19, 16, 1), (0, 15, 8, 63)]), by decide +kernel⟩,
    ⟨upCh 63 (fun c => { c with disabled := true }), 0, 4095, (mkRec 8 [(0, 31, 30, 1), (0, 19, 16, 1), (0, 15, 8, 63)]), by decide +kernel⟩,
    ⟨up, 0, 4095, (mkRec 8 [(0, 31, 30, 1), (0, 19, 16, 1), (0, 15, 8, 63)]), by decide +kernel⟩,
    ⟨up, 0, 4095, (mkRec 8 [(0, 31, 30, 1), (0, 19, 16, 6)]), by decide +kernel⟩⟩

/-- The hypotheses of each clause of CanCommandsComplete can be met. -/
theorem witness_CanCommandsComplete :
    (∃ (s : State) (h : Hdr) (port : Byte) (record : List Word),
      let c := Instr.canConfig h port record
      s.runs h c = true ∧ port.toNat ≤ 5 ∧ record.length = 8 ∧ onlyFields canFields record = true ∧ canRecOk record = true ∧ s.owns h.hc.val 3 port.toNat = true ∧ s.get (canState_state port.toNat) ≠ 0) ∧
    (∃ (s : State) (h : Hdr) (port state : Byte),
      let c := Instr.canState h port state
      let t := s.taken h.hc.val c
      s.runs h c = true ∧ port.toNat ≤ 5 ∧ state.toNat ≤ 3 ∧ s.owns h.hc.val 3 port.toNat = true ∧ (state = 0 ∨ ((t.disableTx port.toNat).port port.toNat).onAir = none)) ∧
    (∃ (s : State) (h : Hdr) (port state : Byte),
      let c := Instr.canState h port state
      let t := s.taken h.hc.val c
      s.runs h c = true ∧ port.toNat ≤ 5 ∧ state.toNat ≤ 3 ∧ s.owns h.hc.val 3 port.toNat = true ∧ state ≠ 0 ∧ ((t.disableTx port.toNat).port port.toNat).onAir.isSome = true) ∧
    (∃ (s : State) (h : Hdr) (port txq : Byte) (frame : List Byte),
      let c := Instr.canTx h port txq frame
      s.runs h c = true ∧ port.toNat ≤ 5 ∧ txq.toNat ≤ 1 ∧ txOk frame = true ∧ s.owns h.hc.val 3 port.toNat = true ∧ s.canAllows port.toNat (txFrame frame).fmt = true ∧ s.canSt port.toNat = 0) ∧
    (∃ (s : State) (h : Hdr) (pair : Half) (port queue : Byte) (mask pattern : Word),
      let c := Instr.canFilter h pair port queue mask pattern
      let k := pair.toNat
      s.runs h c = true ∧ k ≤ 1023 ∧ port.toNat ≤ 5 ∧ queue.toNat ≤ 1 ∧ s.owner 4 k = some h.hc.val) ∧
    (∃ (s : State) (h : Hdr) (pair : Half) (port queue : Byte) (mask pattern : Word),
      let c := Instr.canFilter h pair port queue mask pattern
      let k := pair.toNat
      s.runs h c = true ∧ k ≤ 1023 ∧ port.toNat ≤ 5 ∧ queue.toNat ≤ 1 ∧ s.owner 4 k = none ∧ s.countClaimed h.hc.val 4 < s.quota h.hc.val 6 ∧ s.flag (hcState_overQuota h.hc.val) = false) ∧
    (∃ (s : State) (h : Hdr) (pair : Half) (port queue : Byte) (mask pattern : Word),
      let c := Instr.canFilter h pair port queue mask pattern
      let k := pair.toNat
      s.runs h c = true ∧ k ≤ 1023 ∧ port.toNat ≤ 5 ∧ queue = 0xFF ∧ s.owner 4 k = some h.hc.val) ∧
    (∃ (s : State) (h : Hdr) (pair : Half) (port queue : Byte) (mask pattern : Word),
      let c := Instr.canFilter h pair port queue mask pattern
      let k := pair.toNat
      s.runs h c = true ∧ k ≤ 1023 ∧ port.toNat ≤ 5 ∧ queue = 0xFF ∧ s.owner 4 k = none) ∧
    (∃ (s : State) (h : Hdr) (port queue : Byte),
      let c := Instr.canRxPull h port queue
      let after := (s.rxq port.toNat queue.toNat).filter (fun e => e.owner == h.hc.val && !e.pulled)
      s.runs h c = true ∧ port.toNat ≤ 5 ∧ queue.toNat ≤ 1 ∧ after = []) ∧
    (∃ (s : State) (h : Hdr) (port queue : Byte),
      let c := Instr.canRxPull h port queue
      let after := (s.rxq port.toNat queue.toNat).filter (fun e => e.owner == h.hc.val && !e.pulled)
      s.runs h c = true ∧ port.toNat ≤ 5 ∧ queue.toNat ≤ 1 ∧ ∃ (e : RxEntry) (rest : List RxEntry), after = e :: rest) ∧
    (∃ (s : State) (h : Hdr) (port queue : Byte) (count : Half),
      let c := Instr.canRxAck h port queue count
      let n := port.toNat
      let q := queue.toNat
      s.runs h c = true ∧ n ≤ 5 ∧ q ≤ 1 ∧ count = 0) ∧
    (∃ (s : State) (h : Hdr) (port queue : Byte) (count : Half),
      let c := Instr.canRxAck h port queue count
      let n := port.toNat
      let q := queue.toNat
      s.runs h c = true ∧ n ≤ 5 ∧ q ≤ 1 ∧ count ≠ 0) :=
  ⟨⟨up, hd, 5, up.canRec 5, by decide +kernel⟩,
    ⟨up, hd, 5, 3, by decide +kernel⟩,
    ⟨(can5 0).modPort 5 (fun p => { p with q1 := [txItem 1 5], onAir := some 1 }), hd, 5, 3, by decide +kernel⟩,
    ⟨can5 0, hd, 5, 1, List.replicate 8 0, by decide +kernel⟩,
    ⟨up.setOwner 4 1023 (some 0), hd, 1023, 5, 1, 0, 0, by decide +kernel⟩,
    ⟨up, hd, 1023, 5, 1, 0, 0, by decide +kernel⟩,
    ⟨up.setOwner 4 1023 (some 0), hd, 1023, 5, 0xFF, 0, 0, by decide +kernel⟩,
    ⟨up, hd, 1023, 5, 0xFF, 0, 0, by decide +kernel⟩,
    ⟨up, hd, 5, 1, by decide +kernel⟩,
    ⟨up.modPort 5 (fun p => { p with rxB := [{ pair := 0, owner := 0, frame := { ident := 1 }, time := 0, drop := false }] }), hd, 5, 1, by decide +kernel, by decide +kernel, by decide +kernel, { pair := 0, owner := 0, frame := { ident := 1 }, time := 0, drop := false }, [], by decide +kernel⟩,
    ⟨up, hd, 5, 1, 0, by decide +kernel⟩,
    ⟨up, hd, 5, 1, 1, by decide +kernel⟩⟩

/-- The hypotheses of each clause of CanEventsComplete can be met. -/
theorem witness_CanEventsComplete :
    (∃ (p : Fin 6) (f : CanFrame) (age : Nat) (s : State), s.canHears p.val = true ∧ s.canAllows p.val f.fmt = true) ∧
    (∃ (p : Fin 6) (f : CanFrame) (age : Nat) (s : State), s.canHears p.val = true ∧ s.canAllows p.val f.fmt = false ∧ s.canf p.val 0 26 26 = 1) ∧
    (∃ (p : Fin 6) (f : CanFrame) (age : Nat) (s : State), s.canHears p.val = true ∧ s.canAllows p.val f.fmt = false ∧ s.canf p.val 0 26 26 = 0) ∧
    (∃ (p : Fin 6) (age delay q : Nat) (x : TxItem) (s : State), s.canEnds p.val = true ∧ s.onWire p.val = some (q, x) ∧ (s.tdcOn p.val x.frame = false ∨ delay ≤ 127)) ∧
    (∃ (p : Fin 6) (age delay q : Nat) (x : TxItem) (s : State), s.canEnds p.val = true ∧ s.onWire p.val = some (q, x) ∧ s.tdcOn p.val x.frame = true ∧ 127 < delay) ∧
    (∃ (p : Fin 6) (age delay q : Nat) (x : TxItem) (s : State), s.canEnds p.val = true ∧ s.onWire p.val = some (q, x)) ∧
    (∃ (p : Fin 6) (e : CanFault) (more age delay : Nat) (s : State), (s.port p.val).onAir = none ∧ s.canHears p.val = true) ∧
    (∃ (p : Fin 6) (e : CanFault) (more age delay : Nat) (s : State), (s.port p.val).onAir = none ∧ s.canHears p.val = true ∧ s.canSt p.val ≠ 0) ∧
    (∃ (p : Fin 6) (e : CanFault) (more age delay : Nat) (s : State), (s.port p.val).onAir = none ∧ s.canHears p.val = true ∧ s.canSt p.val = 0) ∧
    (∃ (k : Fin 512) (x : Flow) (s : State), s.flow k.val = some x ∧ s.domOn Dm.net = true ∧ x.open_ ≠ [] ∧ x.openAt + us (x.fld 8 15 0) ≤ s.now) ∧
    (∃ (p : Fin 6) (s : State), s.domOn (Dm.can p.val) = true ∧ s.canSt p.val ≤ 1 ∧ s.get (canState_errstate p.val) = 2 ∧ (s.port p.val).recovering = false ∧ s.canf p.val 0 27 27 = 1 ∧ (s.port p.val).boAt + ms (s.canf p.val 6 31 16) ≤ s.now) ∧
    (∃ (p : Fin 6) (s : State), s.domOn (Dm.can p.val) = true ∧ s.canSt p.val ≤ 1 ∧ s.get (canState_errstate p.val) = 2 ∧ (s.port p.val).recovering = true ∧ (s.port p.val).boAt + 1408 * ((s.canf p.val 1 31 24 + 1) * (3 + s.canf p.val 1 23 16 + s.canf p.val 1 15 9)) * 5 / 4 ≤ s.now) ∧
    (∃ (p : Fin 6) (s : State), s.flag (canState_tmActive p.val) = true ∧ s.tmWanted p.val = true ∧ (s.port p.val).tmAt ≤ s.now) ∧
    (∃ (p : Fin 6) (m : Bool) (s : State), s.tmWanted p.val = m ∧ s.flag (canState_tmActive p.val) ≠ m) :=
  ⟨⟨5, { ident := 1 }, 0, can5 0, by decide +kernel⟩,
    ⟨5, { ident := 1, fmt := 1 }, 0, (can5 0).put ⟨(canCfg_word 5 0).addr, 26, 26⟩ 1, by decide +kernel⟩,
    ⟨5, { ident := 1, fmt := 1 }, 0, ((can5 0).put ⟨(canCfg_word 5 0).addr, 26, 26⟩ 0).put (canState_state 5) 1, by decide +kernel⟩,
    ⟨5, 0, 0, 1, txItem 1 5, (can5 0).modPort 5 (fun p => { p with q1 := [txItem 1 5] }), by decide +kernel⟩,
    ⟨5, 0, 128, 1, { id := 1, frame := { ident := 5, fmt := 1, brs := true }, kind := .cmd 0 }, ((can5 1).put ⟨(canCfg_word 5 2).addr, 3, 3⟩ 1).modPort 5 (fun p => { p with q1 := [{ id := 1, frame := { ident := 5, fmt := 1, brs := true }, kind := .cmd 0 }] }), by decide +kernel⟩,
    ⟨5, 0, 0, 1, txItem 1 5, (can5 0).modPort 5 (fun p => { p with q1 := [txItem 1 5] }), by decide +kernel⟩,
    ⟨5, { kind := .crc, place := .crc }, 0, 0, 0, can5 0, by decide +kernel⟩,
    ⟨5, { kind := .crc, place := .crc }, 0, 0, 0, (can5 0).put (canState_state 5) 1, by decide +kernel⟩,
    ⟨5, { kind := .crc, place := .crc }, 0, 0, 0, can5 0, by decide +kernel⟩,
    ⟨511, { rec_ := [], learned := false, hitAt := 0, open_ := [[0]] }, up.setFlow 511 (some { rec_ := [], learned := false, hitAt := 0, open_ := [[0]] }), by decide +kernel⟩,
    ⟨5, { (((can5 0).put (canState_errstate 5) 2).put ⟨(canCfg_word 5 0).addr, 27, 27⟩ 1) with now := sec 66 }, by decide +kernel⟩,
    ⟨5, { (((can5 0).put (canState_errstate 5) 2).put ⟨(canCfg_word 5 0).addr, 27, 27⟩ 1).modPort 5 (fun p => { p with recovering := true }) with now := sec 66 }, by decide +kernel⟩,
    ⟨5, { ((can5 0).put (canState_tmActive 5) 1).put ⟨(canCfg_word 5 0).addr, 25, 24⟩ 2 with now := sec 66 }, by decide +kernel⟩,
    ⟨5, true, { (can5 0).put ⟨(canCfg_word 5 0).addr, 25, 24⟩ 2 with now := sec 66 }, by decide +kernel⟩⟩

/-- The hypotheses of each clause of PortOffersTheBestFrame can be met. -/
theorem witness_PortOffersTheBestFrame :
    (∃ (s : State) (n q : Nat) (x : TxItem), s.txHead n = some (q, x)) ∧
    (∃ (s : State) (n q : Nat) (x : TxItem), s.txHead n = some (q, x) ∧ ∃ y ∈ (s.port n).q0, y.held = none) ∧
    (∃ (s : State) (n q : Nat) (x : TxItem), s.txHead n = some (q, x) ∧ q = 1) ∧
    (∃ (s : State) (n q : Nat) (x : TxItem), s.txHead n = some (q, x) ∧ q = 1 ∧ ∃ y ∈ (s.port n).q0, y.held = none) :=
  ⟨⟨(can5 0).modPort 5 (fun p => { p with q1 := [txItem 1 5] }), 5, 1, txItem 1 5, by decide +kernel⟩,
    ⟨(can5 0).modPort 5 (fun p => { p with q0 := [txItem 2 6, txItem 1 5] }), 5, 0, txItem 1 5, by decide +kernel, txItem 2 6, by decide +kernel⟩,
    ⟨(can5 0).modPort 5 (fun p => { p with q1 := [txItem 1 5] }), 5, 1, txItem 1 5, by decide +kernel⟩,
    ⟨(can5 0).modPort 5 (fun p => { p with q0 := [txItem 2 6], q1 := [txItem 1 5] }), 5, 1, txItem 1 5, by decide +kernel, by decide +kernel, txItem 2 6, by decide +kernel⟩⟩

/-- The hypotheses of each clause of SleepAgreementComplete can be met. -/
theorem witness_SleepAgreementComplete :
    (∃ (p : Fin 6) (s : State), s.nmRuns p.val = true ∧ (s.port p.val).nmSt = 0 ∧ (s.port p.val).nmAt ≤ s.now) ∧
    (∃ (p : Fin 6) (s : State), s.nmRuns p.val = true ∧ s.nmWaits p.val = true ∧ (s.port p.val).nmSt = 0 ∧ (s.port p.val).nmSentReady = true ∧ (s.port p.val).nmNotReady + ms (30 * s.nmf p.val 3 15 10) ≤ s.now) ∧
    (∃ (p : Fin 6) (s : State), (s.port p.val).nmSt = 3 ∧ s.nmWaits p.val = true ∧ (s.port p.val).nmWbs + ms (10 * s.nmf p.val 3 23 16) ≤ s.now) ∧
    (∃ (p : Fin 6) (f : CanFrame) (s : State), s.detector p.val = true ∧ s.wakeMatches p.val f = true) ∧
    (∃ (p : Fin 6) (s : State), s.detector p.val = true) ∧
    (∃ (p : Fin 6) (s : State) (a : Nat), (s.port p.val).fwAt = some a ∧ a + ms 200 ≤ s.now ∧
    (
      let t := s.modPort p.val (fun y => { y with fwAt := none })
      (s.port p.val).fwGood = true)) ∧
    (∃ (p : Fin 6) (s : State) (a : Nat), (s.port p.val).fwAt = some a ∧ a + ms 200 ≤ s.now ∧
    (
      let t := s.modPort p.val (fun y => { y with fwAt := none })
      (s.port p.val).fwGood = false)) ∧
    (∃ (p : Fin 6) (s : State) (a : Nat), (s.port p.val).fwAt = some a ∧ a + ms 200 ≤ s.now ∧
    (
      let t := s.modPort p.val (fun y => { y with fwAt := none })
      let u := (t.inc (pwrFw_total p.val)).inc (pwrFw_consec p.val)
      (s.wkf (0x10 + p.val) 3 7 4 = 0 ∨ u.get (pwrFw_consec p.val) < s.wkf (0x10 + p.val) 3 7 4))) ∧
    (∃ (p : Fin 6) (s : State) (a : Nat), (s.port p.val).fwAt = some a ∧ a + ms 200 ≤ s.now ∧
    (
      let t := s.modPort p.val (fun y => { y with fwAt := none })
      let u := (t.inc (pwrFw_total p.val)).inc (pwrFw_consec p.val)
      s.wkf (0x10 + p.val) 3 7 4 ≠ 0 ∧ s.wkf (0x10 + p.val) 3 7 4 ≤ u.get (pwrFw_consec p.val))) ∧
    (∃ (p : Fin 6) (s : State) (a : Nat), (s.port p.val).fwAt = some a ∧ a + ms 200 ≤ s.now ∧
    (
      let t := s.modPort p.val (fun y => { y with fwAt := none })
      let u := (t.inc (pwrFw_total p.val)).inc (pwrFw_consec p.val)
      s.wkf (0x10 + p.val) 3 7 4 ≠ 0 ∧ s.wkf (0x10 + p.val) 3 7 4 ≤ u.get (pwrFw_consec p.val) ∧ s.wkf (0x10 + p.val) 3 3 2 = 1)) ∧
    (∃ (p : Fin 6) (s : State) (a : Nat), (s.port p.val).fwAt = some a ∧ a + ms 200 ≤ s.now ∧
    (
      let t := s.modPort p.val (fun y => { y with fwAt := none })
      let u := (t.inc (pwrFw_total p.val)).inc (pwrFw_consec p.val)
      s.wkf (0x10 + p.val) 3 7 4 ≠ 0 ∧ s.wkf (0x10 + p.val) 3 7 4 ≤ u.get (pwrFw_consec p.val) ∧ s.wkf (0x10 + p.val) 3 3 2 = 2)) ∧
    (∃ (p : Fin 6) (s : State), s.flag (pwrFw_susp p.val) = true ∧ (s.port p.val).suspEnd ≤ s.now) :=
  ⟨⟨5, can5Sleeps, by decide +kernel⟩,
    ⟨5, { can5Sleeps with now := sec 66 }, by decide +kernel⟩,
    ⟨5, { can5Sleeps.modPort 5 (fun p => { p with nmSt := 3 }) with now := sec 66 }, by decide +kernel⟩,
    ⟨5, { ident := 0 }, can5Wakes, by decide +kernel⟩,
    ⟨5, can5Wakes, by decide +kernel⟩,
    ⟨5, { up.modPort 5 (fun p => { p with fwAt := some 0, fwGood := true }) with now := ms 200 }, 0, by decide +kernel⟩,
    ⟨5, { up.modPort 5 (fun p => { p with fwAt := some 0 }) with now := ms 200 }, 0, by decide +kernel⟩,
    ⟨5, { up.modPort 5 (fun p => { p with fwAt := some 0 }) with now := ms 200 }, 0, by decide +kernel⟩,
    ⟨5, ({ up.modPort 5 (fun p => { p with fwAt := some 0 }) with now := ms 200 } : State).put ⟨(pwrWakecfg_word 0x15 3).addr, 7, 4⟩ 1, 0, by decide +kernel⟩,
    ⟨5, (({ up.modPort 5 (fun p => { p with fwAt := some 0 }) with now := ms 200 } : State).put ⟨(pwrWakecfg_word 0x15 3).addr, 7, 4⟩ 1).put ⟨(pwrWakecfg_word 0x15 3).addr, 3, 2⟩ 1, 0, by decide +kernel⟩,
    ⟨5, (({ up.modPort 5 (fun p => { p with fwAt := some 0 }) with now := ms 200 } : State).put ⟨(pwrWakecfg_word 0x15 3).addr, 7, 4⟩ 1).put ⟨(pwrWakecfg_word 0x15 3).addr, 3, 2⟩ 2, 0, by decide +kernel⟩,
    ⟨5, up.put (pwrFw_susp 5) 1, by decide +kernel⟩⟩

/-- The hypotheses of each clause of NetworkRowsComplete can be met. -/
theorem witness_NetworkRowsComplete :
    (∃ (s : State) (h : Hdr) (flow : Half) (record : List Word),
      let c := Instr.flowAdd h flow record
      let hc := h.hc.val
      let k := flow.toNat
      let x : Flow := { rec_ := record, learned := false, hitAt := s.now }
      s.runs h c = true ∧ flowRecOk record = true ∧ s.ownsPorts hc (x.fld 0 13 0) = true ∧ s.ownsPorts hc (x.fld 1 13 0) = true ∧ s.findFlow (fun y => !y.learned && y.key == x.key) = none ∧ k < 512 ∧ (s.flow k).all (fun y => y.learned) = true ∧ s.countClaimed hc 5 < s.quota hc 7 ∧ s.flag (hcState_overQuota hc) = false) ∧
    (∃ (s : State) (h : Hdr) (flow : Half) (record : List Word),
      let c := Instr.flowAdd h flow record
      let hc := h.hc.val
      let k := flow.toNat
      let x : Flow := { rec_ := record, learned := false, hitAt := s.now }
      s.runs h c = true ∧ flowRecOk record = true ∧ s.ownsPorts hc (x.fld 0 13 0) = true ∧ s.ownsPorts hc (x.fld 1 13 0) = true ∧ s.findFlow (fun y => !y.learned && y.key == x.key) = none ∧ ∃ y : Flow, k < 512 ∧ s.flow k = some y ∧ y.learned = false ∧ s.owns hc 5 k = true) ∧
    (∃ (s : State) (h : Hdr) (flow : Half) (record : List Word),
      let c := Instr.flowAdd h flow record
      let hc := h.hc.val
      let k := flow.toNat
      let x : Flow := { rec_ := record, learned := false, hitAt := s.now }
      let t := (s.taken h.hc.val c).dropLearned x.key
      s.runs h c = true ∧ flowRecOk record = true ∧ s.ownsPorts hc (x.fld 0 13 0) = true ∧ s.ownsPorts hc (x.fld 1 13 0) = true ∧ s.findFlow (fun y => !y.learned && y.key == x.key) = none ∧ ∃ n : Nat, k = 0xFFFF ∧ s.countClaimed hc 5 < s.quota hc 7 ∧ s.flag (hcState_overQuota hc) = false ∧ t.placeCtx.1 = some n) ∧
    (∃ (s : State) (h : Hdr) (flow : Half),
      let c := Instr.flowRemove h flow
      s.runs h c = true ∧ flow.toNat ≤ 511 ∧ s.owns h.hc.val 5 flow.toNat = true) ∧
    (∃ (s : State) (h : Hdr) (port : Byte) (record : List Word),
      let c := Instr.ethConfig h port record
      let p := port.toNat
      s.runs h c = true ∧ p ≤ 5 ∧ record.length = 8 ∧ onlyFields portFields record = true ∧ portRecOk p record = true ∧ (setField record 3 30 30 = 0 ∨ s.otherSlave p = false) ∧ s.owns h.hc.val 0x0C p = true) ∧
    (∃ (p : Fin 6) (s : State), ∃ f ∈ (s.ageOut p.val).fwd, f.copies ≠ [] ∧ ∀ c ∈ f.copies, c.port = p.val) ∧
    (∃ (p : Fin 4) (s : State), 2 ≤ p.val ∧ bitOf (s.portWord p.val 0) 27 = true ∧ bits (s.portWord p.val 0) 15 8 ≠ 0 ∧ s.flag (phyStat_plcaOk p.val) = true ∧ (s.net p.val).beaconAt + ms 4 ≤ s.now) ∧
    (∃ (p : Fin 4) (plca : Bool) (s : State), s.domOn (if p.val < 2 then Dm.eth else Dm.t1s) = true ∧ bitOf (s.portWord p.val 0) 31 = true ∧ s.isolated (0x50 + p.val) = false ∧ s.flag (phyStat_link p.val) = false) ∧
    (∃ (p : Fin 4) (plca : Bool) (s : State), s.domOn (if p.val < 2 then Dm.eth else Dm.t1s) = true ∧ s.flag (phyStat_link p.val) = true) ∧
    (∃ (p : Nat) (offset rate : Int) (pdelay : Nat) (s : State), s.asSlave = some p ∧ s.netUp p = true) ∧
    (∃ s : State, s.asSlave = none) ∧
    (∃ (p : Nat) (s : State), s.asSlave = some p ∧ s.asAt + 3 * s.syncTicks p ≤ s.now) :=
  ⟨⟨up, hd, 511, List.replicate 16 0, by decide +kernel⟩,
    ⟨(up.setFlow 511 (some { rec_ := [0, 0, 1], learned := false, hitAt := 0 })).setOwner 5 511 (some 0), hd, 511, List.replicate 16 0, by decide +kernel, by decide +kernel, by decide +kernel, by decide +kernel, by decide +kernel, { rec_ := [0, 0, 1], learned := false, hitAt := 0 }, by decide +kernel⟩,
    ⟨up, hd, 0xFFFF, List.replicate 16 0, by decide +kernel, by decide +kernel, by decide +kernel, by decide +kernel, by decide +kernel, 0, by decide +kernel⟩,
    ⟨up.setOwner 5 511 (some 0), hd, 511, by decide +kernel⟩,
    ⟨up, hd, 5, up.portRec 5, by decide +kernel⟩,
    ⟨5, { up with fwd := [{ ingress := 0, cells := 1, copies := [{ port := 5, pcp := 0, since := 0, frame := { dst := 0, src := 0, etype := 0, payload := [] } }] }] }, by decide +kernel⟩,
    ⟨3, { ((up.put ⟨(phyCfg_word 3 0).addr, 27, 27⟩ 1).put ⟨(phyCfg_word 3 0).addr, 15, 8⟩ 254).put (phyStat_plcaOk 3) 1 with now := ms 4 }, by decide +kernel⟩,
    ⟨3, true, up.put ⟨(phyCfg_word 3 0).addr, 31, 31⟩ 1, by decide +kernel⟩,
    ⟨3, true, up.put (phyStat_link 3) 1, by decide +kernel⟩,
    ⟨1, 0, 0, 0, (up.put ⟨(phyCfg_word 1 3).addr, 31, 30⟩ 3).put (phyStat_link 1) 1, by decide +kernel⟩,
    ⟨up, by decide +kernel⟩,
    ⟨1, { (up.put ⟨(phyCfg_word 1 3).addr, 31, 30⟩ 3) with now := sec 400 }, by decide +kernel⟩⟩

/-- The hypotheses of each clause of RidgeEventsComplete can be met. -/
theorem witness_RidgeEventsComplete :
    (∃ (l : Fin 2) (bytes : List Byte) (s : State), s.ridgeUp l.val = true ∧ ridgeGood bytes = false) ∧
    (∃ (l : Fin 2) (bytes : List Byte) (s : State), s.ridgeUp l.val = true ∧ ridgeGood bytes = true ∧ ridgeParse bytes = none) ∧
    (∃ (l : Fin 2) (bytes : List Byte) (s : State), s.ridgeUp l.val = true ∧ ∃ f : RidgeFrame, ridgeGood bytes = true ∧ ridgeParse bytes = some f ∧ f.hops < 3 ∧ f.src.toNat ≠ s.ownNumber) ∧
    (∃ (l : Fin 2) (bytes : List Byte) (s : State), s.ridgeUp l.val = true ∧ ∃ f : RidgeFrame, ridgeGood bytes = true ∧ ridgeParse bytes = some f ∧
    (
      let t := s.ridgeHeard l.val f
      f.hops < 3 ∧ f.src.toNat = s.ownNumber ∧ t.axisOwn l.val f = true)) ∧
    (∃ (l : Fin 2) (bytes : List Byte) (s : State), s.ridgeUp l.val = true ∧ ∃ f : RidgeFrame, ridgeGood bytes = true ∧ ridgeParse bytes = some f ∧
    (
      let t := s.ridgeHeard l.val f
      (3 ≤ f.hops ∨ (f.src.toNat = s.ownNumber ∧ t.axisOwn l.val f = false)))) ∧
    (∃ (l : Fin 2) (master : BitVec 2) (offset : Int) (delay : Nat) (s : State), s.ridgeUp l.val = true ∧ s.domOn Dm.crk = true ∧
    (
      let t := s.timeHeard l.val master.toNat delay
      (t.get crankTsync_master = t.ownNumber ∨ t.timeLink (t.get crankTsync_master) ≠ some l.val))) ∧
    (∃ (l : Fin 2) (master : BitVec 2) (offset : Int) (delay : Nat) (s : State), s.ridgeUp l.val = true ∧ s.domOn Dm.crk = true ∧
    (
      let t := s.timeHeard l.val master.toNat delay
      t.get crankTsync_master ≠ t.ownNumber ∧ t.timeLink (t.get crankTsync_master) = some l.val)) ∧
    (∃ s : State, s.domOn Dm.crk = true ∧ s.flag crankTsync_isMaster = false ∧ s.alignAt + ms 1 ≤ s.now) ∧
    (∃ (l : Fin 2) (came : List Bool) (peer : TrainFrame) (acked swapped : Bool) (s : State), s.domOn Dm.net = true ∧ bitOf (s.portWord (4 + l.val) 0) 31 = true ∧ s.get (rdgStat_state l.val) % 8 ≠ 2 ∧ s.isolated (0x54 + l.val) = false ∧ ((s.net (4 + l.val)).lastTrain = 0 ∨
        (s.net (4 + l.val)).lastTrain + (if s.get (rdgStat_state l.val) % 8 = 3 then sec 1 else ms 10) ≤ s.now) ∧ (∀ b ∈ came, b = false)) ∧
    (∃ (l : Fin 2) (came : List Bool) (peer : TrainFrame) (acked swapped : Bool) (s : State), s.domOn Dm.net = true ∧ bitOf (s.portWord (4 + l.val) 0) 31 = true ∧ s.get (rdgStat_state l.val) % 8 ≠ 2 ∧ s.isolated (0x54 + l.val) = false ∧ ((s.net (4 + l.val)).lastTrain = 0 ∨
        (s.net (4 + l.val)).lastTrain + (if s.get (rdgStat_state l.val) % 8 = 3 then sec 1 else ms 10) ≤ s.now) ∧ true ∈ came ∧ peer.version ≠ Config.ridgeVersion) ∧
    (∃ (l : Fin 2) (came : List Bool) (peer : TrainFrame) (acked swapped : Bool) (s : State), s.domOn Dm.net = true ∧ bitOf (s.portWord (4 + l.val) 0) 31 = true ∧ s.get (rdgStat_state l.val) % 8 ≠ 2 ∧ s.isolated (0x54 + l.val) = false ∧ ((s.net (4 + l.val)).lastTrain = 0 ∨
        (s.net (4 + l.val)).lastTrain + (if s.get (rdgStat_state l.val) % 8 = 3 then sec 1 else ms 10) ≤ s.now) ∧ true ∈ came ∧ peer.version = Config.ridgeVersion ∧ (threeGood 0 came = false ∨ acked = false)) ∧
    (∃ (l : Fin 2) (came : List Bool) (peer : TrainFrame) (acked swapped : Bool) (s : State), s.domOn Dm.net = true ∧ bitOf (s.portWord (4 + l.val) 0) 31 = true ∧ s.get (rdgStat_state l.val) % 8 ≠ 2 ∧ s.isolated (0x54 + l.val) = false ∧ ((s.net (4 + l.val)).lastTrain = 0 ∨
        (s.net (4 + l.val)).lastTrain + (if s.get (rdgStat_state l.val) % 8 = 3 then sec 1 else ms 10) ≤ s.now) ∧ true ∈ came ∧ peer.version = Config.ridgeVersion ∧ threeGood 0 came = true ∧ acked = true ∧ peer.cluster.toNat = s.ownNumber) ∧
    (∃ (l : Fin 2) (came : List Bool) (peer : TrainFrame) (acked swapped : Bool) (s : State), s.domOn Dm.net = true ∧ bitOf (s.portWord (4 + l.val) 0) 31 = true ∧ s.get (rdgStat_state l.val) % 8 ≠ 2 ∧ s.isolated (0x54 + l.val) = false ∧ ((s.net (4 + l.val)).lastTrain = 0 ∨
        (s.net (4 + l.val)).lastTrain + (if s.get (rdgStat_state l.val) % 8 = 3 then sec 1 else ms 10) ≤ s.now) ∧ true ∈ came ∧ peer.version = Config.ridgeVersion ∧ threeGood 0 came = true ∧ acked = true ∧ peer.cluster.toNat ≠ s.ownNumber) ∧
    (∃ (l : Fin 2) (s : State), s.ridgeUp l.val = true ∧ (s.net (4 + l.val)).dead s.now = true) ∧
    (∃ s : State, s.domOn Dm.crk = true) :=
  ⟨⟨1, [], ridge1, by decide +kernel⟩,
    ⟨1, withCrc32 [0, 0, 0, 1], ridge1, by decide +kernel⟩,
    ⟨1, ridgeWire { ftype := 1, src := 3, dst := 1, hops := 2, payload := [1, 2] }, ridge1, by decide +kernel, { ftype := 1, src := 3, dst := 1, hops := 2, payload := [1, 2] }, by decide +kernel⟩,
    ⟨1, ridgeWire { ftype := 5, src := 0, hops := 2, payload := List.replicate 29 7 }, ridge1.put ⟨crankPublish_axes.addr, 7, 7⟩ 1, by decide +kernel, { ftype := 5, src := 0, hops := 2, payload := List.replicate 29 7 }, by decide +kernel⟩,
    ⟨1, ridgeWire { ftype := 1, src := 3, hops := 3, payload := [] }, ridge1, by decide +kernel, { ftype := 1, src := 3, hops := 3, payload := [] }, by decide +kernel⟩,
    ⟨1, 3, 0, 0, ridge1, by decide +kernel⟩,
    ⟨1, 0, 0, 0, ridge1.put rdgCluster_number 3, by decide +kernel⟩,
    ⟨{ up.put crankTsync_isMaster 0 with now := ms 1 }, by decide +kernel⟩,
    ⟨1, [false], { cluster := 3, part := 0, version := 0 }, true, true, up.put ⟨(rdgCfg_word 1 0).addr, 31, 31⟩ 1, by decide +kernel, by decide +kernel, by decide +kernel, by decide +kernel, by decide +kernel, by simp⟩,
    ⟨1, [false, true], { cluster := 3, part := 0, version := Config.ridgeVersion + 1 }, true, true, up.put ⟨(rdgCfg_word 1 0).addr, 31, 31⟩ 1, by decide +kernel, by decide +kernel, by decide +kernel, by decide +kernel, by decide +kernel, by simp, by simp⟩,
    ⟨1, [true], { cluster := 3, part := 0, version := Config.ridgeVersion }, true, true, up.put ⟨(rdgCfg_word 1 0).addr, 31, 31⟩ 1, by decide +kernel, by decide +kernel, by decide +kernel, by decide +kernel, by decide +kernel, by simp, rfl, .inl rfl⟩,
    ⟨1, [true, true, true], { cluster := 0, part := 0, version := Config.ridgeVersion }, true, true, up.put ⟨(rdgCfg_word 1 0).addr, 31, 31⟩ 1, by decide +kernel, by decide +kernel, by decide +kernel, by decide +kernel, by decide +kernel, by simp, rfl, rfl, rfl, by decide +kernel⟩,
    ⟨1, [true, true, true], { cluster := 3, part := 0, version := Config.ridgeVersion }, true, true, up.put ⟨(rdgCfg_word 1 0).addr, 31, 31⟩ 1, by decide +kernel, by decide +kernel, by decide +kernel, by decide +kernel, by decide +kernel, by simp, rfl, rfl, rfl, by decide +kernel⟩,
    ⟨1, { ridge1 with now := us 20 }, by decide +kernel⟩,
    ⟨up, by decide +kernel⟩⟩

/-- The hypotheses of each clause of RidgeStateReadsTheLink can be met. -/
theorem witness_RidgeStateReadsTheLink :
    (∃ (s : State) (h : Hdr) (l : Byte), s.runs h (.ridgeState h l) = true ∧ l.toNat ≤ 1) ∧
    (∃ (s : State) (h : Hdr) (l : Byte), s.runs h (.ridgeState h l) = true ∧ 1 < l.toNat) ∧
    (∃ (l : Fin 2) (st : Nat) (peer : BitVec 2) (swapped : Bool) (s : State), st < 4) ∧
    (∃ (l : Fin 2) (s : State), s.domOn Dm.net = true) :=
  ⟨⟨up, hd, 0, by decide +kernel⟩,
    ⟨up, hd, 255, by decide +kernel⟩,
    ⟨0, 0, 0, true, up, by decide +kernel⟩,
    ⟨0, up, by decide +kernel⟩⟩

/-- The hypotheses of each clause of LowestNumberIsMaster can be met. -/
theorem witness_LowestNumberIsMaster :
    (∃ s : State, s.lowMaster = s.ownNumber) ∧
    (∃ s : State, s.lowMaster ≠ s.ownNumber) ∧
    (∃ s : State, s.lowMaster ≠ s.ownNumber ∧ s.flag crankTsync_isMaster = true) :=
  ⟨⟨up, by decide +kernel⟩,
    ⟨((ridge1.put rdgCluster_number 3).modNet 5 (fun x => { x with master := some 0 })), by decide +kernel⟩,
    ⟨((ridge1.put rdgCluster_number 3).modNet 5 (fun x => { x with master := some 0 })).put crankTsync_isMaster 1, by decide +kernel⟩⟩

/-- The hypotheses of each clause of PowerRowsComplete can be met. -/
theorem witness_PowerRowsComplete :
    (∃ (s : State) (h : Hdr) (mask : Word) (state : Byte),
      let c := Instr.domainSet h mask state
      let ds := maskList 24 mask.toNat
      s.runs h c = true ∧ mask.toNat % 2 = 0 ∧ mask.toNat < 2 ^ 24 ∧ (∀ d ∈ ds, s.owns h.hc.val 9 d = true) ∧ state = 0) ∧
    (∃ (s : State) (h : Hdr) (mask : Word) (state : Byte),
      let c := Instr.domainSet h mask state
      let t := s.taken h.hc.val c
      let ds := maskList 24 mask.toNat
      s.runs h c = true ∧ mask.toNat % 2 = 0 ∧ mask.toNat < 2 ^ 24 ∧ (∀ d ∈ ds, s.owns h.hc.val 9 d = true) ∧ (state = 1 ∨ state = 2) ∧ t.neededOutside mask.toNat = false ∧ (s.flag pwrStart_limp = false ∨ ∀ d ∈ ds, ¬ (14 ≤ d ∧ d < 22))) ∧
    (∃ (s : State) (h : Hdr) (source : Byte) (record : List Word),
      let c := Instr.wakeConfig h source record
      let n := source.toNat
      s.runs h c = true ∧ wakeSrc n = true ∧ record.length = 4 ∧ wakeRecOk n record = true ∧ s.owns h.hc.val 0x0A 1 = true ∧ (n < 0x10 ∨ s.owns h.hc.val 3 (n - 0x10) = true) ∧ (n < 0x10 ∨ setField record 0 31 31 = 0 ∨ s.canFast (n - 0x10) = true)) ∧
    (∃ (s : State) (h : Hdr) (port : Byte) (record : List Word),
      let c := Instr.nmConfig h port record
      let n := port.toNat
      s.runs h c = true ∧ n ≤ 5 ∧ record.length = 4 ∧ nmRecOk record = true ∧ s.owns h.hc.val 3 n = true ∧ (s.taken h.hc.val c).canSleeping n = false) ∧
    (∃ (d : Fin 24) (s : State),
      let t := s.kickEntries
      (t.dom d.val).begun = true ∧ (t.dom d.val).going ≠ some .on ∧ (t.dom d.val).going.isSome = true) ∧
    (∃ (d : Fin 24) (ecc load : Bool) (s : State),
      let t := s.kickExits
      (t.dom d.val).going = some .on ∧ (t.dom d.val).begun = true ∧ ¬ (d.val = Dm.sys ∧ (t.dom d.val).from_ ≠ .ret ∧ s.rstLow = true)) ∧
    (∃ (s : State) (e : Nat), s.wakeTimer = some e ∧ e ≤ s.now + ms (s.wkf 0x0A 1 31 0) * 3 / 100) :=
  ⟨⟨up, hd, 0xFFFFFE, 0, by decide +kernel⟩,
    ⟨up, hd, 0xFFFFFE, 2, by decide +kernel⟩,
    ⟨up, hd, 0x15, mkRec 4 [(0, 31, 31, 1)], by decide +kernel⟩,
    ⟨up, hd, 5, mkRec 4 [(3, 23, 16, 1), (3, 15, 10, 1), (3, 9, 7, 1)], by decide +kernel⟩,
    ⟨21, (up.modDom 21 (fun x => { x with going := some .off, begun := true })), by decide +kernel⟩,
    ⟨21, true, true, (up.modDom 21 (fun _ => { st := .off, going := some .on, begun := true })), by decide +kernel⟩,
    ⟨{ upAt 5 with wakeTimer := some 5 }, 5, by decide +kernel⟩⟩

/-- The hypotheses of each clause of InputRowsComplete can be met. -/
theorem witness_InputRowsComplete :
    (∃ (s : State) (h : Hdr) (input : Byte) (w : Word),
      let c := Instr.swinConfig h input [w, 0]
      let n := input.toNat
      s.runs h c = true ∧ s.owns h.hc.val 7 n = true ∧ n < 40 ∧ swinOk w.toNat = true ∧ s.wetOk n w.toNat = true) ∧
    (∃ (s : State) (h : Hdr) (input : Byte) (w : Word),
      let c := Instr.swinConfig h input [w, 0]
      let n := input.toNat
      s.runs h c = true ∧ s.owns h.hc.val 7 n = true ∧ 64 ≤ n ∧ n < 68 ∧ bits w.toNat 30 0 = 0) ∧
    (∃ (s : State) (h : Hdr) (mask value : Half),
      let c := Instr.fieldOut h mask value
      s.runs h c = true) ∧
    (∃ (s : State) (h : Hdr) (ch : Byte) (w : Word),
      let c := Instr.fieldConfig h ch [w, 0]
      let n := ch.toNat
      s.runs h c = true ∧ n ≤ 31 ∧ fieldRecOk (decide (16 ≤ n)) w.toNat = true ∧ n < 16 ∧ s.owns h.hc.val 6 n = true) ∧
    (∃ (s : State) (h : Hdr) (ch : Byte) (w : Word),
      let c := Instr.fieldConfig h ch [w, 0]
      let n := ch.toNat
      s.runs h c = true ∧ n ≤ 31 ∧ fieldRecOk (decide (16 ≤ n)) w.toNat = true ∧ 16 ≤ n ∧ s.owns h.hc.val 9 Dm.field = true) ∧
    (∃ (n : Fin 40) (closed : Bool) (s : State), s.swf n.val 31 30 ≠ 0 ∧ s.swin n.val ≠ closed) ∧
    (∃ (n : Fin 40) (closed : Bool) (s : State), s.swf n.val 31 30 ≠ 0 ∧ s.swin n.val ≠ closed ∧ ∃ m : Nat, m < 40 ∧ m ≠ n.val) ∧
    (∃ (n : Fin 8) (level : Bool) (s : State), s.wakeOn n.val = false) ∧
    (∃ (n : Fin 8) (level : Bool) (s : State),
      let t : State := { s with wkLevel := setBits s.wkLevel n.val n.val (b2n level) }
      s.wakeOn n.val = true ∧ s.wkf n.val 0 30 29 = 3 ∧ t.levelWake n.val = true) ∧
    (∃ (n : Fin 8) (level : Bool) (s : State), s.wakeOn n.val = true ∧ s.wkf n.val 0 30 29 = 0 ∧ s.wkLevel.testBit n.val = false ∧ level = true) ∧
    (∃ (n : Fin 8) (level : Bool) (s : State), s.wakeOn n.val = true ∧ s.wkf n.val 0 30 29 = 1 ∧ s.wkLevel.testBit n.val = true ∧ level = false) ∧
    (∃ (n : Fin 8) (level : Bool) (s : State), s.wakeOn n.val = true ∧ s.wkf n.val 0 30 29 = 2 ∧ s.wkLevel.testBit n.val ≠ level) ∧
    (∃ (n : Fin 16) (active : Bool) (s : State), s.fieldLive = true ∧ s.fiState.testBit n.val ≠ active) ∧
    (∃ (n : Fin 16) (active : Bool) (s : State), s.fieldLive = true ∧ s.fiState.testBit n.val ≠ active ∧ ∃ m : Nat, m ≠ n.val) :=
  ⟨⟨up, hd, 39, 0x40000000, by decide +kernel⟩,
    ⟨up, hd, 67, 0, by decide +kernel⟩,
    ⟨up, hd, 0, 0, by decide +kernel⟩,
    ⟨up, hd, 15, 0, by decide +kernel⟩,
    ⟨up, hd, 31, 0, by decide +kernel⟩,
    ⟨39, true, (up.put ⟨(swinCfg_word 39).addr, 31, 30⟩ 1), by decide +kernel⟩,
    ⟨39, true, (up.put ⟨(swinCfg_word 39).addr, 31, 30⟩ 1), by decide +kernel, by decide +kernel, 0, by decide +kernel⟩,
    ⟨0, true, up, by decide +kernel⟩,
    ⟨7, true, ((up.put ⟨(pwrWakecfg_word 7 0).addr, 31, 29⟩ 7).put ⟨(pwrWakecfg_word 7 0).addr, 23, 0⟩ 0x200000).modDom 21 (fun _ => { st := .ret }), by decide +kernel⟩,
    ⟨7, true, (up.put ⟨(pwrWakecfg_word 7 0).addr, 31, 29⟩ 4), by decide +kernel⟩,
    ⟨7, false, { (up.put ⟨(pwrWakecfg_word 7 0).addr, 31, 29⟩ 5) with wkLevel := 128 }, by decide +kernel⟩,
    ⟨7, true, (up.put ⟨(pwrWakecfg_word 7 0).addr, 31, 29⟩ 6), by decide +kernel⟩,
    ⟨15, true, ((up.put fieldStat_linkOk 1).put fieldStat_powerOk 1), by decide +kernel⟩,
    ⟨15, true, ((up.put fieldStat_linkOk 1).put fieldStat_powerOk 1), by decide +kernel, by decide +kernel, 0, by decide +kernel⟩⟩

/-- The hypotheses of each clause of FieldEventsComplete can be met. -/
theorem witness_FieldEventsComplete :
    (∃ (k : Fin 16) (s : State), (s.get fqState_on).testBit k.val = true ∧ s.fqTold.testBit k.val = false) ∧
    (∃ (k : Fin 16) (s : State), (s.get fqState_on).testBit k.val = true) ∧
    (∃ (k : Fin 16) (s : State), (s.get fqState_on).testBit k.val = true ∧ bits (s.rd (fqCfg_word k.val).addr).toNat 27 27 = 0) ∧
    (∃ (k : Fin 16) (s : State), (s.get fqLatch_latched).testBit k.val = false) ∧
    (∃ (rejected : Nat) (s : State), s.fieldLive = true) ∧
    (∃ s : State, s.domOn Dm.field = true ∧ s.flag fieldStat_powerOk = true) ∧
    (∃ (fi : Half) (rejected : Nat) (s : State), s.domOn Dm.field = true ∧ s.fieldLive = false) ∧
    (∃ s : State, s.domOn Dm.field = true ∧ s.flag fieldStat_lpUv = false) ∧
    (∃ s : State, s.domOn Dm.field = true) ∧
    (∃ s : State, s.v5out = true) :=
  ⟨⟨15, (up.put fqState_on 0xFFFF), by decide +kernel⟩,
    ⟨15, (up.put fqState_on 0xFFFF), by decide +kernel⟩,
    ⟨15, (up.put fqState_on 0xFFFF).put ⟨(fqCfg_word 15).addr, 27, 27⟩ 0, by decide +kernel⟩,
    ⟨15, up, by decide +kernel⟩,
    ⟨0, ((up.put fieldStat_linkOk 1).put fieldStat_powerOk 1), by decide +kernel⟩,
    ⟨((up.put fieldStat_linkOk 1).put fieldStat_powerOk 1), by decide +kernel⟩,
    ⟨0, 0, up.put fieldStat_linkOk 0, by decide +kernel⟩,
    ⟨up, by decide +kernel⟩,
    ⟨up.put fieldStat_lpUv 1, by decide +kernel⟩,
    ⟨up, by decide +kernel⟩⟩

/-- The hypotheses of each clause of FieldOutputsAreHeldOff can be met. -/
theorem witness_FieldOutputsAreHeldOff :
    (∃ s : State, (s.fieldLive = false ∨ s.flag fieldStat_lpUv = true)) ∧
    (∃ (s : State) (hc mask value k : Nat) (atomic : Bool), k < 16 ∧ mask = 2 ^ k ∧ s.owns hc 6 k = true ∧ value.testBit k = true ∧ (s.get fqLatch_latched).testBit k = true) :=
  ⟨⟨up, by decide +kernel⟩,
    ⟨up.put fqLatch_latched 0xFFFF, 0, 2 ^ 15, 2 ^ 15, 15, true, by decide +kernel⟩⟩

/-- The hypotheses of each clause of DebounceCodes can be met. -/
theorem witness_DebounceCodes :
    (∃ k : Nat, k ≤ 15) ∧
    (∃ k : Nat, k ≤ 14) ∧
    (∃ c : Nat, c ≤ 31) :=
  ⟨⟨0, by decide +kernel⟩,
    ⟨0, by decide +kernel⟩,
    ⟨0, by decide +kernel⟩⟩

/-- The hypotheses of each clause of EventDeliveryComplete can be met. -/
theorem witness_EventDeliveryComplete :
    (∃ (s : State) (h : Hdr) (cls enable count wake : Byte) (time : Half),
      let c := Instr.evtClassSet h cls enable count wake time
      s.runs h c = true ∧ classOk cls.toNat enable.toNat count.toNat wake.toNat time.toNat = true) ∧
    (∃ (s : State) (h : Hdr) (disable : Byte),
      let c := Instr.evtGdis h disable
      s.runs h c = true ∧ disable.toNat ≤ 1) ∧
    (∃ (s : State) (h : Hdr),
      let c := Instr.hostSleep h
      s.runs h (c 1) = true) ∧
    (∃ (s : State) (h : Hdr),
      let c := Instr.hostSleep h
      s.runs h (c 0) = true) ∧
    (∃ (hc : Fin 8) (cls : Fin 24) (s : State), s.sysUp = true ∧ s.domOn Dm.sys = true) :=
  ⟨⟨up, hd, 23, 1, 1, 1, 1, by decide +kernel⟩,
    ⟨up, hd, 0, by decide +kernel⟩,
    ⟨up, hd, by decide +kernel⟩,
    ⟨up, hd, by decide +kernel⟩,
    ⟨0, 0, up, by decide +kernel⟩⟩

/-- The hypotheses of each clause of FaultRowsComplete can be met. -/
theorem witness_FaultRowsComplete :
    (∃ (s : State) (h : Hdr) (m : Word) (e : FEntry),
      let c := Instr.faultHandled h m
      s.runs h c = true ∧ s.entryOf m = some e ∧ (∀ d : Nat, e.timer = some d → s.domOn Dm.crk = true → s.now < d) ∧ (s.sysHolder h.hc.val = true ∨ h.hc.val ∈ s.srcOwners (srcOf m)) ∧ e.timer.isSome = true) ∧
    (∃ (s : State) (h : Hdr) (m : Word) (e : FEntry),
      let c := Instr.faultHandled h m
      s.runs h c = true ∧ s.entryOf m = some e ∧ (∀ d : Nat, e.timer = some d → s.domOn Dm.crk = true → s.now < d) ∧ (s.sysHolder h.hc.val = true ∨ h.hc.val ∈ s.srcOwners (srcOf m)) ∧ e.timer = none ∧ e.escalated = false) ∧
    (∃ (s : State) (h : Hdr) (m : Word) (e : FEntry),
      let c := Instr.faultHandled h m
      s.runs h c = true ∧ s.entryOf m = some e ∧ (∀ d : Nat, e.timer = some d → s.domOn Dm.crk = true → s.now < d) ∧ (s.sysHolder h.hc.val = true ∨ h.hc.val ∈ s.srcOwners (srcOf m)) ∧ e.timer = none ∧ e.escalated = true) ∧
    (∃ (s : State) (h : Hdr) (m : Word),
      let c := Instr.faultHandled h m
      s.runs h c = true ∧ (∀ (e : FEntry) (d : Nat), s.entryOf m = some e → e.timer = some d → s.domOn Dm.crk = true → s.now < d) ∧ s.sysHolder h.hc.val = false ∧ h.hc.val ∉ s.srcOwners (srcOf m)) ∧
    (∃ (s : State) (h : Hdr) (m : Word),
      let c := Instr.faultHandled h m
      s.runs h c = true ∧ (∀ (e : FEntry) (d : Nat), s.entryOf m = some e → e.timer = some d → s.domOn Dm.crk = true → s.now < d) ∧ (s.sysHolder h.hc.val = true ∨ h.hc.val ∈ s.srcOwners (srcOf m)) ∧ s.entryOf m = none) ∧
    (∃ (s : State) (h : Hdr) (m : Word) (e e' : FEntry) (d : Nat),
      let c := Instr.faultHandled h m
      let u := (s.taken h.hc.val c).escalate e
      s.runs h c = true ∧ s.entryOf m = some e ∧ s.domOn Dm.crk = true ∧ e.timer = some d ∧ d ≤ s.now ∧ u.entryOf m = some e' ∧ e'.timer = none ∧ e'.escalated = true ∧ (u.sysHolder h.hc.val = true ∨ h.hc.val ∈ u.srcOwners (srcOf m))) ∧
    (∃ (s : State) (h : Hdr) (kind : Byte) (src : Half),
      let c := Instr.faultClear h kind src
      let v := s.taken h.hc.val c
      let t := if v.domOn Dm.crk then (v.log.filter v.quietDue).foldl (fun (u : State) e => u.quiet e) v else v
      s.runs h c = true ∧ (kind = 0xFF ∨ kind.toNat ∈ faultKinds) ∧ (src = 0xFFFF ∨ srcValid src.toNat = true) ∧ s.sysHolder h.hc.val = false) ∧
    (∃ (s : State) (h : Hdr) (kind : Byte) (src : Half),
      let c := Instr.faultClear h kind src
      let v := s.taken h.hc.val c
      let t := if v.domOn Dm.crk then (v.log.filter v.quietDue).foldl (fun (u : State) e => u.quiet e) v else v
      s.runs h c = true ∧ (kind = 0xFF ∨ kind.toNat ∈ faultKinds) ∧ (src = 0xFFFF ∨ srcValid src.toNat = true) ∧ s.sysHolder h.hc.val = true) ∧
    (∃ (s : State) (h : Hdr) (kind reaction action : Byte) (time quiet : Half),
      let c := Instr.faultReaction h kind reaction action time quiet
      let k := kind.toNat
      s.runs h c = true ∧ k ∈ faultKinds ∧ reactionOk k reaction.toNat action.toNat time.toNat = true ∧ 1 ≤ quiet.toNat ∧ quiet.toNat ≤ 60000 ∧ s.sysHolder h.hc.val = true) ∧
    (∃ (m : Word) (s : State), s.domOn Dm.crk = true ∧ kindOf m ∈ faultKinds ∧ srcValid (srcOf m) = true) ∧
    (∃ (m : Word) (transient result : Bool) (e : FEntry) (s : State), s.domOn Dm.crk = true ∧ s.entryOf m = some e ∧ e.cls = .none ∧ (∀ d : Nat, e.timer = some d → s.now < d) ∧ s.retestSays e m transient = some result) ∧
    (∃ (m : Word) (transient result : Bool) (e e' : FEntry) (d : Nat) (s : State), s.domOn Dm.crk = true ∧ s.entryOf m = some e ∧ e.timer = some d ∧ d ≤ s.now ∧ (s.escalate e).underTest m = some e' ∧ (s.escalate e).retestSays e' m transient = some result) ∧
    (∃ (m : Word) (e : FEntry) (d : Nat) (s : State), s.domOn Dm.crk = true ∧ s.entryOf m = some e ∧ e.timer = some d ∧ d ≤ s.now) ∧
    (∃ (m : Word) (e : FEntry) (r : Nat) (s : State), s.domOn Dm.crk = true ∧ s.entryOf m = some e ∧ e.reactEnd = some r ∧ e.st ≠ .latched ∧ max e.lastAt r + ms (10 * s.get (screeQuiet_quiet (kindOf m))) ≤ s.now ∧
    (
      let t := s.inc (screeKind_recov (kindOf m))
      t.get (screeKind_recov (kindOf m)) < t.get (screeKind_rmax (kindOf m)))) ∧
    (∃ (m : Word) (e : FEntry) (r : Nat) (s : State), s.domOn Dm.crk = true ∧ s.entryOf m = some e ∧ e.reactEnd = some r ∧ e.st ≠ .latched ∧ max e.lastAt r + ms (10 * s.get (screeQuiet_quiet (kindOf m))) ≤ s.now ∧
    (
      let t := s.inc (screeKind_recov (kindOf m))
      t.get (screeKind_rmax (kindOf m)) ≤ t.get (screeKind_recov (kindOf m)))) ∧
    (∃ s : State, s.sysUp = true ∧ s.domOn Dm.sys = true ∧ (s.summaryAt = 0 ∨ s.summaryAt + sec 60 ≤ s.now)) :=
  ⟨⟨logged { ent with timer := some (sec 2000) }, hd, 0x0FD20000, { ent with timer := some (sec 2000) }, by decide +kernel⟩,
    ⟨logged { ent with timer := none }, hd, 0x0FD20000, { ent with timer := none }, by decide +kernel⟩,
    ⟨logged { ent with escalated := true }, hd, 0x0FD20000, { ent with escalated := true }, by decide +kernel⟩,
    ⟨up, hd7, 0x00330000, by decide +kernel, (by intro e d h; rw [show State.entryOf up 0x00330000 = none from by decide +kernel] at h; cases h), by decide +kernel⟩,
    ⟨up, hd, 0x00330000, by decide +kernel, (by intro e d h; rw [show State.entryOf up 0x00330000 = none from by decide +kernel] at h; cases h), by decide +kernel⟩,
    ⟨logged { ent with planned := 0, timer := some 5 }, hd, 0x0FD20000, { ent with planned := 0, timer := some 5 }, { ent with planned := 0, action := 0, escalated := true, st := .acted, reactEnd := some (sec 1000), last := (upAt (sec 1000)).time32 }, 5, by decide +kernel⟩,
    ⟨up, hd7, 0x33, 0x87, by decide +kernel⟩,
    ⟨up, hd, 0x33, 0x87, by decide +kernel⟩,
    ⟨up, hd, 0x12, 2, 4, 1000, 60000, by decide +kernel⟩,
    ⟨0x0FD20000, up, by decide +kernel⟩,
    ⟨0x0FD20000, true, true, { ent with cls := .none }, logged { ent with cls := .none }, by decide +kernel⟩,
    ⟨0x0FD20000, true, true, { ent with planned := 0, timer := some 5 }, { ent with planned := 0, action := 0, escalated := true, st := .acted, reactEnd := some (sec 1000), last := (upAt (sec 1000)).time32 }, 5, logged { ent with planned := 0, timer := some 5 }, by decide +kernel⟩,
    ⟨0x0FD20000, { ent with timer := some (sec 1000) }, sec 1000, logged { ent with timer := some (sec 1000) }, by decide +kernel⟩,
    ⟨0x0FD20000, { ent with reactEnd := some 0 }, 0, logged { ent with reactEnd := some 0 }, by decide +kernel⟩,
    ⟨0x0FD20000, { ent with reactEnd := some 0 }, 0, (logged { ent with reactEnd := some 0 }).put (screeKind_rmax 0x12) 0, by decide +kernel⟩,
    ⟨up, by decide +kernel⟩⟩

/-- The hypotheses of each clause of ReportsMergeIntoOneEntry can be met. -/
theorem witness_ReportsMergeIntoOneEntry :
    (∃ (s : State) (m : Word), ∃ e : FEntry, s.entryOf m = some e) ∧
    (∃ (s : State) (m : Word), ∃ e : FEntry, s.entryOf m = some e ∧ ∃ x ∈ s.log, x.slot ≠ e.slot) ∧
    (∃ (s : State) (m : Word), s.entryOf m = none ∧ s.get (screeKind_reaction (kindOf m)) < 3 ∧ s.log.length < 512) ∧
    (∃ (s : State) (m : Word), s.entryOf m = none ∧ s.get (screeKind_reaction (kindOf m)) < 3 ∧ s.log.length < 512 ∧ noRetest (kindOf m) = true) ∧
    (∃ (s : State) (m : Word), s.entryOf m = none ∧ s.get (screeKind_reaction (kindOf m)) < 3 ∧ s.log.length < 512 ∧ noRetest (kindOf m) = false) :=
  ⟨⟨logged ent, 0x0FD20000, ent, by decide +kernel⟩,
    ⟨{ logged ent with log := [ent, { ent with slot := 1, msg := 1 }] }, 0x0FD20000, ent, by decide +kernel, { ent with slot := 1, msg := 1 }, by decide +kernel⟩,
    ⟨up, 0, by decide +kernel⟩,
    ⟨up, 0x00330000, by decide +kernel⟩,
    ⟨up, 0x000A0000, by decide +kernel⟩⟩

/-- The hypotheses of FaultPinFollowsTheLog can be met. -/
theorem witness_FaultPinFollowsTheLog :
    ∃ s : State, (∀ e ∈ s.log, e.st = .cleared) :=
  ⟨up, by decide +kernel⟩

/-- The hypotheses of each clause of KeyCommandsComplete can be met. -/
theorem witness_KeyCommandsComplete :
    (∃ (s : State) (h : Hdr) (root : Byte) (key : List Byte), s.runs h (.keyRootWrite h root key) = true ∧ root.toNat ≤ 1 ∧ key.length = 32 ∧ h.hc = 0 ∧ s.otp.lc = 1) ∧
    (∃ (s : State) (h : Hdr) (state : Byte) (auth : List Byte) (lc : Nat) (debug : Bool), s.runs h (.lifecycleSet h state auth) = true ∧ h.hc = 0 ∧ s.transitionTo state = some (lc, debug, false) ∧ s.otp.made < 30 ∧ auth = List.replicate 16 0) ∧
    (∃ (s : State) (h : Hdr) (state : Byte) (auth key : List Byte) (lc : Nat) (debug : Bool),
      let c := Instr.lifecycleSet h state auth
      let u := (s.taken h.hc.val c).derive .lifecycle
      s.runs h c = true ∧ h.hc = 0 ∧ s.transitionTo state = some (lc, debug, true) ∧ s.otp.made < 30 ∧ u.1 = some key) ∧
    (∃ (s : State) (h : Hdr) (token : Byte) (record kt : List Byte) (x : Tok),
      let c := Instr.immEnroll h token record
      let u := (s.taken h.hc.val c).derive (.token (s.immf 1 31 26) x.id)
      s.runs h c = true ∧ token.toNat ≤ 7 ∧ record.length = 48 ∧ tokOf token.toNat (wordsOf record) = some x ∧ s.enrolled.any (fun p => p.1 != token.toNat && p.2.id == x.id) = false ∧ s.owns h.hc.val 0x0B 0 = true ∧ s.immLive = true ∧ s.ka.tok token.toNat = none ∧ u.1 = some kt) ∧
    (∃ (s : State) (h : Hdr) (token : Byte), s.runs h (.immRevoke h token) = true ∧ token.toNat ≤ 7 ∧ s.owns h.hc.val 0x0B 0 = true ∧ s.immLive = true ∧ (s.ka.tok token.toNat).isSome = true) ∧
    (∃ (s : State) (h : Hdr) (slot : Byte) (x : Staged),
      let c := Instr.keyCommit h slot
      s.runs h c = true ∧ slot.toNat ≤ 63 ∧ s.owns h.hc.val 8 slot.toNat = true ∧ s.slotLive slot.toNat = true ∧ s.stagedOf slot.toNat = some x ∧ x.verified = true) ∧
    (∃ (s : State) (h : Hdr) (slot : Byte) (wrapped kek : List Byte),
      let c := Instr.keyStage h slot wrapped
      let n := slot.toNat
      let u := (s.taken h.hc.val c).derive (.kek n)
      s.runs h c = true ∧ n ≤ 63 ∧ wrapped.length = 48 ∧ s.owns h.hc.val 8 n = true ∧ s.slotLive n = true ∧ u.1 = some kek) ∧
    (∃ (u : State) (n : Nat) (b : List Byte) (x : Staged), stageOf n (((u.ka.slot n).version).getD 0) b = .ok x ∧
    (
      let l := u.staged.filter (fun y => y.slot != n)
      l.length < 4)) ∧
    (∃ (u : State) (n : Nat) (b : List Byte) (x : Staged), stageOf n (((u.ka.slot n).version).getD 0) b = .ok x ∧
    (
      let l := u.staged.filter (fun y => y.slot != n)
      4 ≤ l.length)) ∧
    (∃ (s : State) (h : Hdr) (slot : Byte) (nonce : List Byte) (x : Staged),
      let c := Instr.keyVerify h slot nonce
      let n := slot.toNat
      s.runs h c = true ∧ n ≤ 63 ∧ nonce.length = 16 ∧ s.owns h.hc.val 8 n = true ∧ s.slotLive n = true ∧ s.stagedOf n = some x) ∧
    (∃ (s : State) (h : Hdr) (slot : Byte) (nonce key : List Byte),
      let c := Instr.keyChallenge h slot nonce
      let l := s.challenges.filter (fun x => decide (s.now < x + sec 1))
      s.runs h c = true ∧ slot.toNat ≤ 63 ∧ nonce.length = 16 ∧ s.slotLive slot.toNat = true ∧ s.useKey slot.toNat 1 = some key ∧ l.length < 20) ∧
    (∃ (s : State) (h : Hdr) (slot : Byte) (nonce key : List Byte),
      let c := Instr.keyChallenge h slot nonce
      let l := s.challenges.filter (fun x => decide (s.now < x + sec 1))
      s.runs h c = true ∧ slot.toNat ≤ 63 ∧ nonce.length = 16 ∧ s.slotLive slot.toNat = true ∧ s.useKey slot.toNat 1 = some key ∧ 20 ≤ l.length) :=
  ⟨⟨life 1, hd, 1, List.replicate 32 0, by decide +kernel⟩,
    ⟨life 0, hd, 1, List.replicate 16 0, 1, false, by decide +kernel⟩,
    ⟨{ life 2 with keyArr := { mfr := some (List.replicate 32 1) }, cache := [{ name := .lifecycle, sh := zkey 32 }] }, hd, 3, List.replicate 16 0, (zkey 32).key, 3, false, by decide +kernel⟩,
    ⟨{ ((keyed63 4).put ⟨immCfg0_ch.addr + 4, 31, 26⟩ 63) with cache := [{ name := .token 63 0, sh := zkey 16 }] }, hd, 7, (List.replicate 8 0 ++ [0, 0x7A, 0x12, 0x00, 0, 100, 1, 1] ++ List.replicate 32 0), (zkey 16).key, tok7, by decide +kernel⟩,
    ⟨{ life 2 with keyArr := { toks := [(7, some tok7)] } }, hd, 7, by decide +kernel⟩,
    ⟨{ life 2 with staged := [staged63] }, hd, 63, staged63, by decide +kernel⟩,
    ⟨{ keyed63 0 with cache := [{ name := .kek 63, sh := zkey 32 }] }, hd, 63, List.replicate 48 0, (zkey 32).key, by decide +kernel⟩,
    ⟨{ keyed63 0 with staged := [staged63] }, 63, (List.replicate 32 0 ++ [63, 1, 0, 0, 0, 0, 0, 2] : List Byte), { staged63 with verified := false }, rfl, by decide +kernel⟩,
    ⟨{ keyed63 0 with staged := [1, 2, 3, 4].map (fun k => { staged63 with slot := k }) }, 63, (List.replicate 32 0 ++ [63, 1, 0, 0, 0, 0, 0, 2] : List Byte), { staged63 with verified := false }, rfl, by decide +kernel⟩,
    ⟨{ life 2 with staged := [staged63] }, hd, 63, List.replicate 16 0, staged63, by decide +kernel⟩,
    ⟨keyed63 2, hd, 63, List.replicate 16 0, (zkey 32).key, by decide +kernel⟩,
    ⟨{ keyed63 2 with challenges := List.replicate 20 0 }, hd, 63, List.replicate 16 0, (zkey 32).key, by decide +kernel⟩⟩

/-- The hypotheses of each clause of LifecycleTransitions can be met. -/
theorem witness_LifecycleTransitions :
    (∃ (lc : Nat) (debug roots : Bool) (state lc' : Nat) (debug' keyed : Bool), transition lc debug roots state = some (lc', debug', keyed) ∧ debug = true) ∧
    (∃ (lc : Nat) (debug roots : Bool) (state lc' : Nat) (debug' keyed : Bool), transition lc debug roots state = some (lc', debug', keyed) ∧ debug = false ∧ debug' = false) ∧
    (∃ (lc : Nat) (debug roots : Bool) (state lc' : Nat) (debug' keyed : Bool), transition lc debug roots state = some (lc', debug', keyed) ∧ debug = false ∧ debug' = true) :=
  ⟨⟨3, true, true, 0x11, 3, false, false, by decide +kernel⟩,
    ⟨1, false, true, 2, 2, false, true, by decide +kernel⟩,
    ⟨3, false, true, 0x10, 3, true, true, by decide +kernel⟩⟩

/-- The hypotheses of each clause of KeyAndImmobiliserEventsComplete can be met. -/
theorem witness_KeyAndImmobiliserEventsComplete :
    (∃ s : State, s.sysUp = true ∧ s.domOn Dm.sys = true ∧ s.flag keyStat_rngOk = true ∧ s.remaskAt + ms (s.get keyCfg_remask) ≤ s.now) ∧
    (∃ s : State, s.sysUp = true ∧ s.domOn Dm.sys = true ∧ (s.rngAt = none ∨ (∃ t : Nat, s.rngAt = some t ∧ t + sec 1 ≤ s.now))) ∧
    (∃ s : State, s.sysUp = true ∧ s.domOn Dm.sys = true) ∧
    (∃ s : State, s.immServes = true ∧ s.imm.retryAt = none ∧ (∀ t : Nat, s.imm.lastAt = some t → t + ms (s.immf 1 19 10) ≤ s.now)) ∧
    (∃ (s : State) (e : Nat), s.imm.retryAt = some e ∧ e ≤ s.now ∧ s.immServes = true) ∧
    (∃ (answers : List PollAnswer) (p : Poll) (s : State), s.imm.poll = some p ∧ p.startAt + ms 18 ≤ s.now ∧ s.uwbPolls = true) ∧
    (∃ s : State, s.imm.rel ≠ .blocked ∧ s.imm.frameAt ≤ s.now ∧ s.sysUp = true ∧ s.domOn Dm.sys = true) ∧
    (∃ (answers : List PollAnswer) (s : State), s.parks = true ∧ (s.parkCode = 1 ∨ s.parkCode = 2) ∧ (∀ e : Nat, s.imm.retryAt = some e → e ≤ s.now) ∧ (s.imm.retryAt = none → ms (if s.parkCode = 1 then 1000 else 4000) * 1000 ≤ (s.now - s.imm.parkPoll) * s.imm.parkRate)) ∧
    (∃ s : State, s.parks = true) :=
  ⟨⟨({ up with now := sec 70000 } : State).put keyStat_rngOk 1, by decide +kernel⟩,
    ⟨up, by decide +kernel, by decide +kernel, .inl (by decide +kernel)⟩,
    ⟨up, by decide +kernel⟩,
    ⟨((life 2).modDom Dm.uwb (fun _ => { st := .on })).modImm (fun i => { i with req := true }), by decide +kernel⟩,
    ⟨((life 2).modDom Dm.uwb (fun _ => { st := .on })).modImm (fun i => { i with req := true, retryAt := some 0 }), 0, by decide +kernel⟩,
    ⟨[], { startAt := 0, count := 0, toks := [] }, { ((life 2).modDom Dm.uwb (fun _ => { st := .on })).modImm (fun i => { i with poll := some { startAt := 0, count := 0, toks := [] } }) with now := ms 18 }, by decide +kernel⟩,
    ⟨up.modImm (fun i => { i with rel := .released }), by decide +kernel⟩,
    ⟨[], { (((life 2).modDom Dm.uwb (fun _ => { st := .on })).modImm (fun i => { i with retryAt := some 0 }) : State) with keyArr := { toks := [(7, some tok7)] } }, by decide +kernel⟩,
    ⟨{ (((life 2).modDom Dm.uwb (fun _ => { st := .on })).modImm (fun i => { i with retryAt := some 0 }) : State) with keyArr := { toks := [(7, some tok7)] }, now := sec 2000000 }, by decide +kernel⟩⟩

/-- The hypotheses of each clause of UpdateCommandsComplete can be met. -/
theorem witness_UpdateCommandsComplete :
    (∃ (s : State) (h : Hdr) (size : Word),
      let c := Instr.updateBegin h size
      let t := s.taken h.hc.val c
      s.runs h c = true ∧ 1 ≤ size.toNat ∧ size.toNat ≤ 2097152 ∧ s.mayBegin h.hc.val = true ∧ s.onTrial = false ∧ s.fwLock.all (fun l => l.hc == h.hc.val) = true) ∧
    (∃ (s : State) (h : Hdr) (size : Word),
      let c := Instr.updateBegin h size
      let t := s.taken h.hc.val c
      s.runs h c = true ∧ 1 ≤ size.toNat ∧ size.toNat ≤ 2097152 ∧ s.mayBegin h.hc.val = true ∧ s.onTrial = false ∧ ∃ l : StageLock, s.fwLock = some l ∧ l.hc ≠ h.hc.val) ∧
    (∃ (s : State) (h : Hdr) (size : Word), s.runs h (.updateBegin h size) = true ∧ (size.toNat = 0 ∨ 2097152 < size.toNat)) ∧
    (∃ (s : State) (h : Hdr) (size : Word), s.runs h (.updateBegin h size) = true ∧ 1 ≤ size.toNat ∧ size.toNat ≤ 2097152 ∧ s.mayBegin h.hc.val = false) ∧
    (∃ (s : State) (h : Hdr) (size : Word),
      let c := Instr.configBegin h size
      s.runs h c = true ∧ 1 ≤ size.toNat ∧ size.toNat ≤ 262144 ∧ s.mayBegin h.hc.val = true ∧ s.cfgLock.all (fun l => l.hc == h.hc.val) = true ∧ s.flash.cfgStage = 1 ∧ s.flash.cfgSize = size.toNat ∧ s.flash.cfgHc = h.hc.val) ∧
    (∃ (s : State) (h : Hdr) (size : Word),
      let c := Instr.configBegin h size
      s.runs h c = true ∧ 1 ≤ size.toNat ∧ size.toNat ≤ 262144 ∧ s.mayBegin h.hc.val = true ∧ s.cfgLock.all (fun l => l.hc == h.hc.val) = true ∧ ¬ (s.flash.cfgStage = 1 ∧ s.flash.cfgSize = size.toNat ∧ s.flash.cfgHc = h.hc.val)) ∧
    (∃ (s : State) (h : Hdr),
      let c := Instr.updateStatus h
      s.runs h c = true) ∧
    (∃ (s : State) (h : Hdr),
      let c := Instr.updateCancel h
      s.runs h c = true ∧ (s.owns h.hc.val 0x0A 4 = true ∨ ∃ l : StageLock, s.fwLock = some l ∧ l.hc = h.hc.val) ∧ (s.flash.fwState = 1 ∨ s.flash.fwState = 2)) ∧
    (∃ (s : State) (h : Hdr),
      let c := Instr.updateCancel h
      s.runs h c = true ∧ (s.owns h.hc.val 0x0A 4 = true ∨ ∃ l : StageLock, s.fwLock = some l ∧ l.hc = h.hc.val) ∧ s.flash.fwState = 4) ∧
    (∃ (s : State) (h : Hdr) (offset : Word) (data : List Byte) (l : StageLock), s.runs h (.updateData h offset data) = true ∧ 1 ≤ data.length ∧ data.length ≤ 2048 ∧ s.fwLock = some l ∧ l.hc = h.hc.val ∧ offset.toNat = s.flash.fwNext ∧ offset.toNat + data.length ≤ s.flash.fwSize) ∧
    (∃ (s : State) (h : Hdr) (offset : Word) (data : List Byte) (l : StageLock), s.runs h (.configData h offset data) = true ∧ 1 ≤ data.length ∧ data.length ≤ 2048 ∧ s.cfgLock = some l ∧ l.hc = h.hc.val ∧ offset.toNat = s.flash.cfgNext ∧ offset.toNat + data.length ≤ s.flash.cfgSize) ∧
    (∃ (s : State) (h : Hdr), s.runs h (.updateEnd h) = true ∧ endAllowed s.fwLock h.hc.val (s.flash.fwState == 1) s.flash.fwNext s.flash.fwSize = true) ∧
    (∃ (s : State) (h : Hdr), s.runs h (.configEnd h) = true ∧ endAllowed s.cfgLock h.hc.val (s.flash.cfgStage == 1) s.flash.cfgNext s.flash.cfgSize = true) ∧
    (∃ (s : State) (h : Hdr), s.runs h (.updateConfirm h) = true ∧ s.flash.fwState = 4 ∧ (s.owns h.hc.val 0x0A 4 = true ∨ (s.onTrial = true ∧ s.flash.trialHc = h.hc.val))) :=
  ⟨⟨up, hd, 2097152, by decide +kernel⟩,
    ⟨{ up with fwLock := some { hc := 7 } }, hd, 2097152, by decide +kernel, by decide +kernel, by decide +kernel, by decide +kernel, by decide +kernel, { hc := 7 }, by decide +kernel⟩,
    ⟨up, hd, 2097153, by decide +kernel⟩,
    ⟨up, hd7, 2097152, by decide +kernel⟩,
    ⟨flashed (fun f => { f with cfgStage := 1, cfgSize := 262144, cfgNext := 2048 }), hd, 262144, by decide +kernel⟩,
    ⟨up, hd, 262144, by decide +kernel⟩,
    ⟨up, hd, by decide +kernel⟩,
    ⟨flashed (fun f => { f with fwState := 2 }), hd, by decide +kernel, .inl (by decide +kernel), by decide +kernel⟩,
    ⟨flashed (fun f => { f with fwState := 4 }), hd, by decide +kernel, .inl (by decide +kernel), by decide +kernel⟩,
    ⟨{ flashed (fun f => { f with fwState := 1, fwSize := 4096, fwNext := 2048 }) with fwLock := some { hc := 0 } }, hd, 2048, List.replicate 2048 0, { hc := 0 }, by decide +kernel⟩,
    ⟨{ flashed (fun f => { f with cfgStage := 1, cfgSize := 4096, cfgNext := 2048 }) with cfgLock := some { hc := 0 } }, hd, 2048, List.replicate 2048 0, { hc := 0 }, by decide +kernel⟩,
    ⟨{ flashed (fun f => { f with fwState := 1, fwSize := 4096, fwNext := 4096 }) with fwLock := some { hc := 0 } }, hd, by decide +kernel⟩,
    ⟨{ flashed (fun f => { f with cfgStage := 1, cfgSize := 4096, cfgNext := 4096 }) with cfgLock := some { hc := 0 } }, hd, by decide +kernel⟩,
    ⟨flashed (fun f => { f with fwState := 4 }), hd, by decide +kernel⟩⟩

/-- The hypotheses of each clause of FlashEventsComplete can be met. -/
theorem witness_FlashEventsComplete :
    (∃ (s : State) (w : KeyWrite), s.sysUp = true ∧ s.domOn Dm.sys = true ∧ s.keyWrite = some w) ∧
    (∃ (s : State) (j : Job), s.sysUp = true ∧ s.domOn Dm.sys = true ∧ s.keyWrite = none ∧ s.writing = some j) ∧
    (∃ (s : State) (l : StageLock), s.fwLock = some l ∧ sec 60 ≤ l.idle) ∧
    (∃ (s : State) (l : StageLock), s.cfgLock = some l ∧ sec 60 ≤ l.idle) ∧
    (∃ (s : State) (c : Copying) (st : Nat) (rest : List Nat), s.flash.copying = some c ∧ c.stages = st :: rest ∧ s.get pwrStart_phase = 4 ∧
    (
      let e := s.erase (stageAddr st c.block)
      c.block + 1 < stageBlocks st)) ∧
    (∃ (s : State) (c : Copying) (st : Nat) (rest : List Nat), s.flash.copying = some c ∧ c.stages = st :: rest ∧ s.get pwrStart_phase = 4 ∧
    (
      let e := s.erase (stageAddr st c.block)
      stageBlocks st ≤ c.block + 1 ∧ rest = [])) ∧
    (∃ (s : State) (c : Copying) (st : Nat) (rest : List Nat), s.flash.copying = some c ∧ c.stages = st :: rest ∧ s.get pwrStart_phase = 4 ∧
    (
      let e := s.erase (stageAddr st c.block)
      stageBlocks st ≤ c.block + 1 ∧ rest ≠ [])) ∧
    (∃ (s : State) (c : Copying) (st : Nat) (rest : List Nat), s.flash.copying = some c ∧ c.stages = st :: rest ∧ s.get pwrStart_phase = 4 ∧
    (
      let e := s.erase (stageAddr st c.block)
      c.tries < 2)) ∧
    (∃ (s : State) (c : Copying) (st : Nat) (rest : List Nat), s.flash.copying = some c ∧ c.stages = st :: rest ∧ s.get pwrStart_phase = 4 ∧
    (
      let e := s.erase (stageAddr st c.block)
      2 ≤ c.tries)) ∧
    (∃ s : State, s.onTrial = true ∧ sec 60 ≤ s.runTicks) ∧
    (∃ s : State, s.flash.fwState = 4 ∧ 1800 ≤ s.flash.runtime + s.runTicks / sec 1) ∧
    (∃ s : State, s.get pwrStart_phase = 3 ∧ s.sysUp = true ∧ s.domOn Dm.sys = true) :=
  ⟨⟨{ up with keyWrite := some { job := 0, key := staged63 } }, { job := 0, key := staged63 }, by decide +kernel⟩,
    ⟨{ up with jobs := [{ id := 1, hdr := hd, cmd := .updateEnd hd }] }, { id := 1, hdr := hd, cmd := .updateEnd hd }, by decide +kernel⟩,
    ⟨{ up with fwLock := some { hc := 7, idle := sec 60 } }, { hc := 7, idle := sec 60 }, by decide +kernel⟩,
    ⟨{ up with cfgLock := some { hc := 7, idle := sec 60 } }, { hc := 7, idle := sec 60 }, by decide +kernel⟩,
    ⟨(flashed (fun f => { f with copying := some { why := .update true, stages := [3], block := 30, tries := 0 } })).put pwrStart_phase 4, { why := .update true, stages := [3], block := 30, tries := 0 }, 3, [], by decide +kernel⟩,
    ⟨(flashed (fun f => { f with copying := some { why := .update true, stages := [4], block := 3, tries := 0 } })).put pwrStart_phase 4, { why := .update true, stages := [4], block := 3, tries := 0 }, 4, [], by decide +kernel⟩,
    ⟨(flashed (fun f => { f with copying := some { why := .update true, stages := [3, 4], block := 31, tries := 0 } })).put pwrStart_phase 4, { why := .update true, stages := [3, 4], block := 31, tries := 0 }, 3, [4], by decide +kernel⟩,
    ⟨(flashed (fun f => { f with copying := some { why := .update true, stages := [4], block := 3, tries := 1 } })).put pwrStart_phase 4, { why := .update true, stages := [4], block := 3, tries := 1 }, 4, [], by decide +kernel⟩,
    ⟨(flashed (fun f => { f with copying := some { why := .update true, stages := [3], block := 31, tries := 2 } })).put pwrStart_phase 4, { why := .update true, stages := [3], block := 31, tries := 2 }, 3, [], by decide +kernel⟩,
    ⟨{ flashed (fun f => { f with fwState := 4 }) with runTicks := sec 60 }, by decide +kernel⟩,
    ⟨flashed (fun f => { f with fwState := 4, runtime := 1800 }), by decide +kernel⟩,
    ⟨up, by decide +kernel⟩⟩

/-- The hypotheses of each clause of DownloadsLeaveTheImagesAlone can be met. -/
theorem witness_DownloadsLeaveTheImagesAlone :
    (∃ (s t : State) (c : Instr), ((0x60 ≤ opcOf c ∧ opcOf c ≤ 0x69) ∨ c = .flashWriteComplete) ∧ exec c s = .next t) ∧
    (∃ s : State, ∃ k : Nat, s.otp.revoked.testBit k = true) :=
  ⟨⟨up, _, .updateStatus hd, .inl (by decide), rfl⟩,
    ⟨{ up with otp := { lc := 2, revoked := 8 } }, 3, by decide +kernel⟩⟩

/-- The hypotheses of each clause of TrialAndCopyBarUpdates can be met. -/
theorem witness_TrialAndCopyBarUpdates :
    (∃ (s : State) (h : Hdr) (size : Word), s.runs h (.updateBegin h size) = true ∧ 1 ≤ size.toNat ∧ size.toNat ≤ 2097152 ∧ s.mayBegin h.hc.val = true ∧ (s.flash.fwState = 4 ∨ s.flash.fwState = 5)) ∧
    (∃ (s : State) (c : Instr) (h : Hdr), hdrOf c = some h ∧ 0x60 ≤ opcOf c ∧ opcOf c < 0x70 ∧ h.atomic = false ∧ s.get pwrStart_phase = 4 ∧ s.serves h.hc.val = true ∧ s.closed h.hc.val = false ∧ (s.accepted h.hc.val c).pick h.hc.val [] (s.queueFor h.hc.val c) none = some c) :=
  ⟨⟨flashed (fun f => { f with fwState := 5 }), hd, 2097152, by decide +kernel⟩,
    ⟨up.put pwrStart_phase 4, .updateStatus hd, hd, by decide +kernel⟩⟩

/-- The hypotheses of each clause of UdsServicesComplete can be met. -/
theorem witness_UdsServicesComplete :
    (∃ (s : State) (sub : Byte), s.udsOn = true ∧ (sub = 1 ∨ sub = 2)) ∧
    (∃ s : State, s.udsOn = true ∧ s.udsHeard.udsMayAct = true) ∧
    (∃ s : State, s.udsOn = true) ∧
    (∃ s : State, s.udsOn = true ∧ s.udsHeard.udsLocked = false) ∧
    (∃ (s : State) (key seed k : List Byte), s.udsOn = true ∧ s.udsHeard.udsLocked = false ∧ key.length = 16 ∧ s.uds.seed = some seed ∧ s.udsHeard.useKey (s.get updUds_slot) 1 = some k) ∧
    (∃ (s : State) (e : Nat), s.uds.lockEnd = some e ∧ e ≤ s.now) ∧
    (∃ s : State, s.uds.programming = true ∧ s.uds.lastAt + sec 5 ≤ s.now) ∧
    (∃ s : State, s.udsOn = true ∧ s.uds.programming = true ∧ s.uds.unlocked = true ∧ s.udsHeard.udsMayAct = true ∧
    (
      let u := s.udsHeard.udsPaid
      u.udsBusy = false ∧ u.confirmRefused u.udsHc = none)) ∧
    (∃ s : State, s.udsOn = true ∧ s.uds.programming = true ∧ s.uds.unlocked = true ∧ s.udsHeard.udsMayAct = true) ∧
    (∃ s : State, s.udsOn = true ∧ s.uds.programming = true ∧ s.uds.unlocked = true ∧ s.udsHeard.udsMayAct = true ∧ ∃ (size : List Byte) (a : Byte), size.length = 4 ∧ a.toNat ≤ 1) ∧
    (∃ s : State, s.udsOn = true ∧ s.uds.programming = true ∧ s.uds.unlocked = true ∧ s.udsHeard.udsMayAct = true ∧
    (
      let u := s.udsHeard.udsPaid
      s.uds.active = true ∧ s.udsHeard.udsBusy = false ∧ ∃ (c : Byte) (rest : List Byte), c.toNat = (s.uds.seq + 1) % 256 ∧ u.udsDataSt rest.length = St.ok)) ∧
    (∃ s : State, s.udsOn = true ∧ s.uds.programming = true ∧ s.uds.unlocked = true ∧ s.udsHeard.udsMayAct = true ∧
    (
      let u := s.udsHeard.udsPaid
      s.uds.active = true ∧ s.udsHeard.udsBusy = false ∧ u.udsMayEnd = true)) ∧
    (∃ (s : State) (data : List Byte), s.udsOn = false) ∧
    (∃ (s : State) (data : List Byte), s.udsOn = true ∧ s.uds.programming = false) ∧
    (∃ (s : State) (data : List Byte), s.udsOn = true ∧ s.uds.programming = true ∧ s.uds.unlocked = false) :=
  ⟨⟨udsUp, 2, by decide +kernel⟩,
    ⟨udsUp, by decide +kernel⟩,
    ⟨udsUp, by decide +kernel⟩,
    ⟨udsUp, by decide +kernel⟩,
    ⟨((({ keyed63 2 with uds := { seed := some [] } } : State).put updUds_enable 1).put (hcBind_transport 0) 2).put updUds_slot 63, List.replicate 16 0, [], (zkey 32).key, by decide +kernel⟩,
    ⟨{ up with uds := { lockEnd := some 0 } }, 0, by decide +kernel⟩,
    ⟨{ udsOpen id with now := sec 5 }, by decide +kernel⟩,
    ⟨(udsOpen id).modFlash (fun f => { f with fwState := 4, trialHc := 7 }), by decide +kernel⟩,
    ⟨udsOpen id, by decide +kernel⟩,
    ⟨udsOpen id, by decide +kernel, by decide +kernel, by decide +kernel, by decide +kernel, List.replicate 4 0, 1, by decide +kernel⟩,
    ⟨{ (udsOpen (fun u => { u with active := true, seq := 255 })).modFlash (fun f => { f with fwState := 1, fwSize := 4096, fwNext := 2048 }) with fwLock := some { hc := 7 } }, by decide +kernel, by decide +kernel, by decide +kernel, by decide +kernel, by decide +kernel, by decide +kernel, 0, List.replicate 2048 0, by decide +kernel⟩,
    ⟨{ (udsOpen (fun u => { u with active := true, seq := 255 })).modFlash (fun f => { f with fwState := 1, fwSize := 4096, fwNext := 4096 }) with fwLock := some { hc := 7 } }, by decide +kernel⟩,
    ⟨up, [], by decide +kernel⟩,
    ⟨udsUp, [], by decide +kernel⟩,
    ⟨{ udsUp with uds := { programming := true } }, [], by decide +kernel⟩⟩

/-- The hypotheses of each clause of RegisterRowsComplete can be met. -/
theorem witness_RegisterRowsComplete :
    (∃ (s : State) (h : Hdr) (addr : Word) (count : Byte),
      let c := Instr.regRead h addr count
      s.runs h c = true ∧ addr.toNat < 2 ^ 24 ∧ 1 ≤ count.toNat ∧ count.toNat ≤ 60) ∧
    (∃ (s : State) (h : Hdr) (addr data : Word),
      let c := Instr.regWrite h addr data
      s.runs h c = true ∧ addr.toNat < 2 ^ 24) ∧
    (∃ (s : State) (h : Hdr) (addr mask value : Word),
      let c := Instr.regModify h addr mask value
      s.runs h c = true ∧ addr.toNat < 2 ^ 24) ∧
    (∃ (hc : Fin 8) (addr : Nat) (data : Word) (s : State),
      let r := s.hostWrite hc.val (addr % 2 ^ 24) allOnes data
      r.1 = St.ok) ∧
    (∃ (hc : Fin 8) (ch : Fin 64) (k : Fin 8) (data : Word) (s : State),
      let r := s.hostWrite hc.val (0x50000 + ch.val * 0x100 + k.val * 4) allOnes data
      r.1 = St.ok) ∧
    (∃ (hc : Fin 8) (ax k : Fin 8) (data : Word) (s : State),
      let r := s.hostWrite hc.val (0x60000 + ax.val * 0x100 + k.val * 4) allOnes data
      r.1 = St.ok) ∧
    (∃ (hc b : Fin 8) (s : State),
      let r := s.hostWrite hc.val (bankCmptest_run b.val).addr allOnes (word 0x100)
      r.1 = St.ok) ∧
    (∃ (hc : Fin 8) (data : Word) (s : State),
      let r := s.hostWrite hc.val updPolicy_requireOwner.addr allOnes data
      r.1 = St.ok) ∧
    (∃ (hc : Fin 8) (s : State),
      let r := s.hostRead hc.val compatWakesrc_wk.addr
      r.1 = St.ok) :=
  ⟨⟨up, hd, 0xFFFFFF, 60, by decide +kernel⟩,
    ⟨up, hd, 0xFFFFFF, 0, by decide +kernel⟩,
    ⟨up, hd, 0xFFFFFF, 0, 0, by decide +kernel⟩,
    ⟨0, 0x100, 5, up, by decide +kernel⟩,
    ⟨0, 63, 7, 0, up, by decide +kernel⟩,
    ⟨0, 7, 7, 0, up, by decide +kernel⟩,
    ⟨0, 7, up, by decide +kernel⟩,
    ⟨0, 1, life 1, by decide +kernel⟩,
    ⟨0, up, by decide +kernel⟩⟩

/-- The hypotheses of each clause of FieldsReadBack can be met. -/
theorem witness_FieldsReadBack :
    (∃ (s : State) (f g : Fld) (v : Nat), f.lo ≤ f.hi ∧ f.hi < 32 ∧ g.lo ≤ g.hi ∧ g.hi < 32 ∧ v < 2 ^ (f.hi + 1 - f.lo)) ∧
    (∃ (s : State) (f g : Fld) (v : Nat), f.lo ≤ f.hi ∧ f.hi < 32 ∧ g.lo ≤ g.hi ∧ g.hi < 32 ∧ v < 2 ^ (f.hi + 1 - f.lo) ∧ (f.addr ≠ g.addr ∨ f.hi < g.lo ∨ g.hi < f.lo)) ∧
    (∃ (s : State) (f g : Fld) (v : Nat), f.lo ≤ f.hi ∧ f.hi < 32 ∧ g.lo ≤ g.hi ∧ g.hi < 32 ∧ v < 2 ^ (f.hi + 1 - f.lo) ∧ Sparse.wf (fun a => word (regDefault a)) s.regs = true) :=
  ⟨⟨up, ⟨0, 31, 0⟩, ⟨0, 31, 0⟩, 2 ^ 32 - 1, by decide +kernel⟩,
    ⟨up, ⟨0, 31, 16⟩, ⟨0, 15, 0⟩, 2 ^ 16 - 1, by decide +kernel⟩,
    ⟨up, ⟨0, 31, 16⟩, ⟨0, 15, 0⟩, 2 ^ 16 - 1, by decide +kernel⟩⟩

/-- The hypotheses of each clause of RefusedAccessesChangeNothing can be met. -/
theorem witness_RefusedAccessesChangeNothing :
    (∃ (s : State) (hc a : Nat) (m v : Word), blockRegs a = none) ∧
    (∃ (s : State) (hc a : Nat) (m v : Word), ∃ (l : List RegDesc) (d : Nat), blockRegs a = some l ∧ domOfAddr a = some d ∧ s.domOn d = false) ∧
    (∃ (s : State) (hc a : Nat) (m v : Word), ∃ (l : List RegDesc) (d : Nat), blockRegs a = some l ∧ domOfAddr a = some d ∧ s.get pwrStart_phase ≠ 3 ∧ earlyWrite a = false) ∧
    (∃ (s : State) (hc a : Nat) (m v : Word), ∃ (l : List RegDesc) (d : Nat), blockRegs a = some l ∧ domOfAddr a = some d ∧ s.domOn d = true ∧ (d = Dm.sys → s.sysUp = true) ∧ findReg l a = none) ∧
    (∃ (s : State) (hc a : Nat) (m v : Word), ∃ (l : List RegDesc) (d : Nat), blockRegs a = some l ∧ domOfAddr a = some d ∧ s.domOn d = true ∧ (d = Dm.sys → s.sysUp = true) ∧ ∃ (x : RegDesc) (r : RegAt), findReg l a = some (x, r) ∧ s.mayRead hc a r = false) ∧
    (∃ (s : State) (hc a : Nat) (m v : Word), ∃ (l : List RegDesc) (d : Nat), blockRegs a = some l ∧ domOfAddr a = some d ∧ s.domOn d = true ∧ (d = Dm.sys → s.sysUp = true) ∧ ∃ (x : RegDesc) (r : RegAt), findReg l a = some (x, r) ∧ (s.get pwrStart_phase = 3 ∨ earlyWrite a = true) ∧ s.mayWrite hc a r (v &&& m) = false) :=
  ⟨⟨up, 0, 0x18000, 0, 0, by decide +kernel⟩,
    ⟨up.modDom Dm.net (fun _ => { st := .off }), 0, 0xBFFFC, 0, 0, regsRidge, Dm.net, by decide +kernel⟩,
    ⟨up.put pwrStart_phase 2, 0, 0xBFFFC, 0, 0, regsRidge, Dm.net, by decide +kernel⟩,
    ⟨up, 0, 0xBFFFC, 0, 0, regsRidge, Dm.net, by decide +kernel⟩,
    ⟨up, 7, 0xF0000, 0, 0, regsCompat, Dm.aon, by decide +kernel, by decide +kernel, by decide +kernel, by decide +kernel, (regAt 0xF0000).get (by decide +kernel) |>.1, (regAt 0xF0000).get (by decide +kernel) |>.2, by decide +kernel⟩,
    ⟨up, 7, 0xF0000, 0, 0, regsCompat, Dm.aon, by decide +kernel, by decide +kernel, by decide +kernel, by decide +kernel, (regAt 0xF0000).get (by decide +kernel) |>.1, (regAt 0xF0000).get (by decide +kernel) |>.2, by decide +kernel⟩⟩

/-- The hypotheses of each clause of SpiRowsComplete can be met. -/
theorem witness_SpiRowsComplete :
    (∃ (b : Byte) (s : State), s.hifAnswers = true) ∧
    (∃ (f : SpiFrame) (s : State), s.hifAnswers = true ∧ f.bytes.getD 0 0 = 1 ∧ 4 < f.bytes.length ∧ crc8 (f.bytes.take 4) = f.bytes.getD 4 0 ∧ 280 ≤ (s.get sysHifcfg_rdwait + 1) * 8 * f.periodNs ∧
    (
      let a := beNat ((f.bytes.drop 1).take 3)
      let r := s.hostRead 0 a
      (s.accessHeld 0 s.nextId a = false ∨ r.1 ≠ St.ok))) ∧
    (∃ (f : SpiFrame) (s : State), s.hifAnswers = true ∧ f.bytes.getD 0 0 = 1 ∧ 4 < f.bytes.length ∧ crc8 (f.bytes.take 4) = f.bytes.getD 4 0 ∧ 280 ≤ (s.get sysHifcfg_rdwait + 1) * 8 * f.periodNs ∧
    (
      let a := beNat ((f.bytes.drop 1).take 3)
      let r := s.hostRead 0 a
      s.accessHeld 0 s.nextId a = true ∧ r.1 = St.ok)) ∧
    (∃ (f : SpiFrame) (s : State), s.hifAnswers = true ∧ f.bytes.getD 0 0 = 2 ∧ 8 < f.bytes.length ∧ crc8 (f.bytes.take 8) = f.bytes.getD 8 0 ∧
    (
      let a := beNat ((f.bytes.drop 1).take 3)
      let v := word (beNat ((f.bytes.drop 4).take 4))
      s.accessWaits 0 s.nextId a = false)) ∧
    (∃ (f : SpiFrame) (s : State), s.hifAnswers = true ∧ f.bytes.getD 0 0 = 2 ∧ 8 < f.bytes.length ∧ crc8 (f.bytes.take 8) = f.bytes.getD 8 0 ∧
    (
      let a := beNat ((f.bytes.drop 1).take 3)
      let v := word (beNat ((f.bytes.drop 4).take 4))
      let r := s.hostWrite 0 a allOnes v
      s.accessWaits 0 s.nextId a = true ∧ r.1 = St.ok)) ∧
    (∃ (f : SpiFrame) (s : State),
      let p := 4 * ceilDiv (readHdr (f.bytes.drop 1)).len 4
      s.hifAnswers = true ∧ f.bytes.getD 0 0 = 3 ∧ 9 + p < f.bytes.length ∧ crc8 (f.bytes.take (9 + p)) = f.bytes.getD (9 + p) 0) ∧
    (∃ (f : SpiFrame) (s : State), s.hifAnswers = true ∧ f.bytes.getD 0 0 = 4 ∧ 4 < f.bytes.length ∧ crc8 (f.bytes.take 4) = f.bytes.getD 4 0 ∧ s.serves 0 = true ∧ (f.bytes.getD 1 0).toNat ≤ 1 ∧ (f.bytes.getD 2 0).toNat ≤ 32 ∧ 16 ≤ (f.bytes.getD 3 0).toNat ∧ (f.bytes.getD 3 0).toNat ≤ 32) ∧
    (∃ (f : SpiFrame) (s : State), s.hifAnswers = true ∧ f.bytes.getD 0 0 = 2 ∧ 8 < f.bytes.length ∧ crc8 (f.bytes.take 8) ≠ f.bytes.getD 8 0) :=
  ⟨⟨0, up, by decide +kernel⟩,
    ⟨{ bytes := withCrc [1, 0, 0, 0], periodNs := 100 }, up, by decide +kernel⟩,
    ⟨{ bytes := withCrc (1 :: beBytes 3 (chCfg_word 63 0).addr), periodNs := 100 }, { up.modHc 0 (fun h => { h with queue := [{ cmd := .chOff hd 0x8000000000000000 }] }) with nextId := 1 }, by decide +kernel⟩,
    ⟨{ bytes := withCrc [2, 0, 0, 0, 0, 0, 0, 0] }, up, by decide +kernel⟩,
    ⟨{ bytes := withCrc (2 :: beBytes 3 (chCfg_word 63 0).addr ++ [0, 0, 0, 0]) }, (up.modBank 7 (fun x => { x with linkUp := false })).setOwner 0 63 (some 0), by decide +kernel⟩,
    ⟨{ bytes := withCrc [3, 0, 0, 0, 0, 0, 0, 0, 0] }, up, by decide +kernel⟩,
    ⟨{ bytes := withCrc [4, 1, 32, 32] }, up, by decide +kernel⟩,
    ⟨{ bytes := [2] ++ List.replicate 32 0 }, up, by decide +kernel⟩⟩

/-- The hypotheses of each clause of TransportRowsComplete can be met. -/
theorem witness_TransportRowsComplete :
    (∃ (hc : Fin 8) (m : TransportMsg) (s : State), hc ≠ 0 ∧ s.closed hc.val = false ∧ s.bound hc.val = true ∧ s.serves hc.val = true ∧ s.isAuth hc.val = false ∧ m.kind = 0) ∧
    (∃ (hc : Fin 8) (m : TransportMsg) (s : State), hc ≠ 0 ∧ s.closed hc.val = false ∧ s.bound hc.val = true ∧ s.serves hc.val = true ∧ s.isAuth hc.val = false ∧ m.kind = 3 ∧ 3 ≤ m.bytes.length) ∧
    (∃ (hc : Fin 8) (m : TransportMsg) (s : State), hc ≠ 0 ∧ s.closed hc.val = false ∧ s.bound hc.val = true ∧ s.serves hc.val = true ∧ s.isAuth hc.val = true ∧
    (
      let tag := macOf (s.flowKey hc.val) (m.bytes.take (msgLen m.kind.toNat m.bytes)) m.counter
      (s.flowKey? hc.val).isSome = true ∧ (s.hc hc.val).rxCount < m.counter ∧ m.mac = tag ∧ m.kind = 0)) ∧
    (∃ (hc : Fin 8) (m : TransportMsg) (s : State), hc ≠ 0 ∧ s.closed hc.val = false ∧ s.bound hc.val = true ∧ s.serves hc.val = true ∧ s.isAuth hc.val = true ∧
    (
      let tag := macOf (s.flowKey hc.val) (m.bytes.take (msgLen m.kind.toNat m.bytes)) m.counter
      (s.flowKey? hc.val).isSome = true ∧ (s.hc hc.val).rxCount < m.counter ∧ m.mac = tag ∧ m.kind = 3 ∧ 3 ≤ m.bytes.length)) ∧
    (∃ (hc : Fin 8) (m : TransportMsg) (s : State), hc ≠ 0 ∧ s.closed hc.val = false ∧ s.bound hc.val = true ∧ s.serves hc.val = true ∧ s.isAuth hc.val = true ∧
    (
      let tag := macOf (s.flowKey hc.val) (m.bytes.take (msgLen m.kind.toNat m.bytes)) m.counter
      ((s.flowKey? hc.val).isNone = true ∨ m.counter ≤ (s.hc hc.val).rxCount ∨ m.mac ≠ tag) ∧ m.kind = 0)) ∧
    (∃ (hc : Fin 8) (m : TransportMsg) (s : State), hc ≠ 0 ∧ (s.closed hc.val = true ∨ s.bound hc.val = false ∨ s.serves hc.val = false) ∧ m.kind = 0) ∧
    (∃ (hc : Fin 8) (s : State), hc ≠ 0 ∧ s.closed hc.val = false ∧ s.bound hc.val = true ∧ s.asleepQuiet hc.val = false ∧ s.serves hc.val = true) ∧
    (∃ (hc : Fin 8) (s : State) (k next at_ : Nat) (bytes : List Byte), (s.hc hc.val).segs = some (k, next, bytes, at_) ∧ at_ + ms 50 < s.now) ∧
    (∃ (a : BitVec 7) (s : State), a.toNat = s.otp.sbAddr ∧ s.domOn Dm.sbi = false ∧ s.vsup ≠ .belowAon ∧ s.wakeOn 9 = false) ∧
    (∃ (a : BitVec 7) (s : State), a.toNat = s.otp.sbAddr ∧ s.domOn Dm.sbi = false ∧ s.vsup ≠ .belowAon ∧ s.wakeOn 9 = true) ∧
    (∃ (b : List Byte) (s : State), s.domOn Dm.sbi = true ∧ b.length = 3) ∧
    (∃ (b : List Byte) (s : State), s.domOn Dm.sbi = true ∧ b.length = 7 ∧ beNat (b.take 3) = pwrSbreq_req.addr) ∧
    (∃ (b : List Byte) (s : State), s.domOn Dm.sbi = true ∧ b.length = 7 ∧ beNat (b.take 3) ≠ pwrSbreq_req.addr) ∧
    (∃ (n : Nat) (s : State), s.domOn Dm.sbi = true) ∧
    (∃ (n : Nat) (s : State), s.domOn Dm.sbi = true ∧ s.sbPtr < 2 ^ 24) :=
  ⟨⟨7, { kind := 0, bytes := [] }, (up.put (hcBind_transport 7) 3), by decide +kernel⟩,
    ⟨7, { kind := 3, bytes := [0, 0, 0] }, (up.put (hcBind_transport 7) 3), by decide +kernel⟩,
    ⟨7, { kind := 0, bytes := [], counter := 1, mac := macOf (State.flowKey authUp 7) [] 1 }, authUp, by decide +kernel, by decide +kernel, by decide +kernel, by decide +kernel, by decide +kernel, by decide +kernel, by decide +kernel, rfl, by decide +kernel⟩,
    ⟨7, { kind := 3, bytes := [0, 0, 0], counter := 1, mac := macOf (State.flowKey authUp 7) [0, 0, 0] 1 }, authUp, by decide +kernel, by decide +kernel, by decide +kernel, by decide +kernel, by decide +kernel, by decide +kernel, by decide +kernel, rfl, by decide +kernel⟩,
    ⟨7, { kind := 0, bytes := [] }, authUp, by decide +kernel, by decide +kernel, by decide +kernel, by decide +kernel, by decide +kernel, .inr (.inl (by decide +kernel)), by decide +kernel⟩,
    ⟨7, { kind := 0, bytes := [] }, up, by decide +kernel⟩,
    ⟨7, (up.put (hcBind_transport 7) 3), by decide +kernel⟩,
    ⟨7, { up.modHc 7 (fun h => { h with segs := some (1, 1, [], 0) }) with now := ms 51 }, 1, 1, 0, [], by decide +kernel⟩,
    ⟨0x4A, (up.modDom Dm.sbi (fun _ => { st := .off })), by decide +kernel⟩,
    ⟨0x4A, (up.modDom Dm.sbi (fun _ => { st := .off })).put ⟨(pwrWakecfg_word 9 0).addr, 31, 31⟩ 1, by decide +kernel⟩,
    ⟨[0, 0, 0], up, by decide +kernel⟩,
    ⟨beBytes 3 pwrSbreq_req.addr ++ [0, 0, 0, 1], up, by decide +kernel⟩,
    ⟨List.replicate 7 0, up, by decide +kernel⟩,
    ⟨0, up, by decide +kernel⟩,
    ⟨0, up, by decide +kernel⟩⟩

/-- The hypotheses of each clause of ProtectionRowsComplete can be met. -/
theorem witness_ProtectionRowsComplete :
    (∃ (n : Fin 64) (s : State), s.conducts n.val = true) ∧
    (∃ (n : Fin 64) (i v : Half) (s : State), (s.ch n.val).drive ≠ .off ∧ s.domOn (Dm.bank (bankOf n.val)) = true) ∧
    (∃ (n : Fin 64) (i v : Half) (s : State), (s.ch n.val).drive ≠ .off ∧ s.domOn (Dm.bank (bankOf n.val)) = true ∧ ∃ a : Nat, (s.ch n.val).inrush = false ∧ (s.ch n.val).limAt = some a ∧ us 200 ≤ (s.ch n.val).limRun + (s.now - a)) ∧
    (∃ (n : Fin 64) (i v : Half) (s : State), (s.ch n.val).drive ≠ .off ∧ s.domOn (Dm.bank (bankOf n.val)) = true ∧ ∃ (seg : Fin 3) (a : Nat), chClass n.val = .H ∧ (s.ch n.val).segLow.getD seg.val none = some a ∧ a + ms 1 ≤ s.now) ∧
    (∃ (n : Fin 64) (func : Fin 5) (copyB : Bool) (i v : Half) (s : State), s.domOn (Dm.bank (bankOf n.val)) = true) ∧
    (∃ (n : Fin 64) (s : State), (s.ch n.val).inrush = true ∧ (s.ch n.val).inrushEnd ≤ s.now) ∧
    (∃ (n : Fin 64) (i v : Half) (s : State), s.domOn (Dm.bank (bankOf n.val)) = true ∧ (s.ch n.val).thetaAt + ms 1 ≤ s.now ∧
    (
      let t := s.modCh n.val (fun c => { c with sqSum := 0, sqCnt := 0, drove := decide (c.drive ≠ .off), thetaAt := s.now })
      let on : Prop := bits (s.cfgw n.val 4) 15 0 ≠ 0 ∧ s.flag (bankSense_curValid (bankOf n.val)) = true
      ¬ on)) ∧
    (∃ (n : Fin 64) (i v : Half) (s : State), s.domOn (Dm.bank (bankOf n.val)) = true ∧ (s.ch n.val).thetaAt + ms 1 ≤ s.now ∧
    (
      let t := s.modCh n.val (fun c => { c with sqSum := 0, sqCnt := 0, drove := decide (c.drive ≠ .off), thetaAt := s.now })
      let on : Prop := bits (s.cfgw n.val 4) 15 0 ≠ 0 ∧ s.flag (bankSense_curValid (bankOf n.val)) = true
      on ∧ s.thetaNext n.val < 1000000000)) ∧
    (∃ (n : Fin 64) (i v : Half) (s : State), s.domOn (Dm.bank (bankOf n.val)) = true ∧ (s.ch n.val).thetaAt + ms 1 ≤ s.now ∧
    (
      let t := s.modCh n.val (fun c => { c with sqSum := 0, sqCnt := 0, drove := decide (c.drive ≠ .off), thetaAt := s.now })
      let on : Prop := bits (s.cfgw n.val 4) 15 0 ≠ 0 ∧ s.flag (bankSense_curValid (bankOf n.val)) = true
      on ∧ 1000000000 ≤ s.thetaNext n.val)) ∧
    (∃ (n : Fin 64) (s : State), (s.ch n.val).testAt = none ∧ (s.ch n.val).offAt + ms 1 ≤ s.now ∧ ((s.ch n.val).testedAt = 0 ∨ (s.ch n.val).testedAt / sec 1 < s.now / sec 1) ∧ (s.ch n.val).drive = .off ∧ s.domOn (Dm.bank (bankOf n.val)) = true) ∧
    (∃ (n : Fin 64) (func : Fin 5) (copyB : Bool) (s : State) (a : Nat), (s.ch n.val).testAt = some a ∧ a + us 200 ≤ s.now) ∧
    (∃ (n : Fin 64) (s : State),
      let e := s.head n.val
      s.mayRestart e = true ∧ (∀ r ∈ s.line, r.src ≠ .restart e) ∧ (s.limpOnNow = true ∨ (s.bank (bankOf e)).ownLimp = true)) ∧
    (∃ (n : Fin 64) (s : State),
      let e := s.head n.val
      s.mayRestart e = true ∧ (∀ r ∈ s.line, r.src ≠ .restart e) ∧ s.limpOnNow = false ∧ (s.bank (bankOf e)).ownLimp = false) ∧
    (∃ (n : Fin 64) (s : State),
      let e := s.head n.val
      s.cooled e = true ∧ s.wanted e = false ∧ s.bridged e = false) ∧
    (∃ (b : Fin 8) (s : State), s.flag (bankTwarn_active b.val) = false ∧ 16 * (s.get (bankTwarn_level b.val) + 56) ≤ s.get (bankMeas_tcase b.val)) ∧
    (∃ (b : Fin 8) (s : State), s.flag (bankTwarn_active b.val) = true ∧ s.get (bankMeas_tcase b.val) ≤ 16 * (s.get (bankTwarn_level b.val) + 51)) :=
  ⟨⟨63, (chanOnAt 63), by decide +kernel⟩,
    ⟨63, 0, 0, (chanOnAt 63), by decide +kernel⟩,
    ⟨63, 0, 0, { upCh 63 (fun c => { c with drive := .on, limAt := some 0 }) with now := us 200 }, by decide +kernel, by decide +kernel, 0, by decide +kernel⟩,
    ⟨11, 0, 0, { upCh 11 (fun c => { c with drive := .on, segLow := [none, none, some 0] }) with now := ms 1 }, by decide +kernel, by decide +kernel, 2, 0, by decide +kernel⟩,
    ⟨63, 0, true, 0, 0, up, by decide +kernel⟩,
    ⟨63, upCh 63 (fun c => { c with inrush := true }), by decide +kernel⟩,
    ⟨63, 0, 0, upAt (ms 1), by decide +kernel⟩,
    ⟨63, 0, 0, (((upAt (ms 1)).put ⟨(chCfg_word 63 4).addr, 15, 0⟩ 100).put ⟨(chCfg_word 63 5).addr, 31, 16⟩ 1).put (bankSense_curValid 7) 1, by decide +kernel⟩,
    ⟨63, 0, 0, ((((upAt (ms 1)).modCh 63 (fun c => { c with drive := .on, theta := 2000000000 })).put ⟨(chCfg_word 63 4).addr, 15, 0⟩ 100).put ⟨(chCfg_word 63 5).addr, 31, 16⟩ 1).put (bankSense_curValid 7) 1, by decide +kernel⟩,
    ⟨63, upAt (ms 1), by decide +kernel⟩,
    ⟨63, 0, true, { upCh 63 (fun c => { c with testAt := some 0 }) with now := us 200 }, 0, by decide +kernel⟩,
    ⟨47, (upCh 47 (fun c => { c with cooling := true, cmdOn := true })).put pwrStart_limp 1, by decide +kernel⟩,
    ⟨47, upCh 47 (fun c => { c with cooling := true, cmdOn := true }), by decide +kernel⟩,
    ⟨47, upCh 47 (fun c => { c with cooling := true }), by decide +kernel⟩,
    ⟨7, up.put (bankMeas_tcase 7) 4095, by decide +kernel⟩,
    ⟨7, up.put (bankTwarn_active 7) 1, by decide +kernel⟩⟩

/-- The hypotheses of each clause of TripLatchesOrCools can be met. -/
theorem witness_TripLatchesOrCools :
    (∃ (s : State) (n cause kind i v more : Nat), n < 64 ∧ s.bridged n = false ∧ 1 ≤ cause ∧ cause ≤ 5 ∧ (∀ g ∈ s.grants, g.ch ≠ n) ∧ (s.ch n).edgeJob = none ∧ (∀ p : Pulse, (s.ch n).pulse = some p → p.job = none) ∧ (∀ p : Profile, (s.ch n).profile = some p → p.job = none)) ∧
    (∃ (s : State) (n cause kind i v more : Nat), n < 64 ∧ s.bridged n = false ∧ 1 ≤ cause ∧ cause ≤ 5 ∧ (∀ g ∈ s.grants, g.ch ≠ n) ∧ (s.ch n).edgeJob = none ∧ (∀ p : Pulse, (s.ch n).pulse = some p → p.job = none) ∧ (∀ p : Profile, (s.ch n).profile = some p → p.job = none) ∧
    (
      let t := s.tripCore n cause kind i v more
      (s.ch n).pulse = none)) ∧
    (∃ (s : State) (n cause kind i v more : Nat), n < 64 ∧ s.bridged n = false ∧ 1 ≤ cause ∧ cause ≤ 5 ∧ (∀ g ∈ s.grants, g.ch ≠ n) ∧ (s.ch n).edgeJob = none ∧ (∀ p : Pulse, (s.ch n).pulse = some p → p.job = none) ∧ (∀ p : Profile, (s.ch n).profile = some p → p.job = none) ∧
    (
      let t := s.tripCore n cause kind i v more
      (s.ch n).pulse.isSome = true)) ∧
    (∃ (s : State) (n cause kind i v more : Nat), n < 64 ∧ s.bridged n = false ∧ 1 ≤ cause ∧ cause ≤ 5 ∧ (∀ g ∈ s.grants, g.ch ≠ n) ∧ (s.ch n).edgeJob = none ∧ (∀ p : Pulse, (s.ch n).pulse = some p → p.job = none) ∧ (∀ p : Profile, (s.ch n).profile = some p → p.job = none) ∧
    (
      let t := s.tripCore n cause kind i v more
      ∃ m : Nat, m ≠ n)) ∧
    (∃ (s : State) (n cause kind i v more : Nat), n < 64 ∧ s.bridged n = false ∧ 1 ≤ cause ∧ cause ≤ 5 ∧ (∀ g ∈ s.grants, g.ch ≠ n) ∧ (s.ch n).edgeJob = none ∧ (∀ p : Pulse, (s.ch n).pulse = some p → p.job = none) ∧ (∀ p : Profile, (s.ch n).profile = some p → p.job = none) ∧
    (
      let t := s.tripCore n cause kind i v more
      let latch := decide (s.restartMax n = s.restartN n)
      latch = true)) ∧
    (∃ (s : State) (n cause kind i v more : Nat), n < 64 ∧ s.bridged n = false ∧ 1 ≤ cause ∧ cause ≤ 5 ∧ (∀ g ∈ s.grants, g.ch ≠ n) ∧ (s.ch n).edgeJob = none ∧ (∀ p : Pulse, (s.ch n).pulse = some p → p.job = none) ∧ (∀ p : Profile, (s.ch n).profile = some p → p.job = none) ∧
    (
      let t := s.tripCore n cause kind i v more
      let latch := decide (s.restartMax n = s.restartN n)
      latch = false)) :=
  ⟨⟨chanOnAt 47, 47, 5, 5, 100, 5, 0, by decide +kernel⟩,
    ⟨chanOnAt 47, 47, 5, 5, 100, 5, 0, by decide +kernel⟩,
    ⟨upCh 47 (fun c => { c with drive := .on, pulse := some { width := 20, job := none } }), 47, 5, 5, 100, 5, 0, by decide +kernel⟩,
    ⟨chanOnAt 47, 47, 5, 5, 100, 5, 0, by decide +kernel, by decide +kernel, by decide +kernel, by decide +kernel, by decide +kernel, by decide +kernel, by decide +kernel, by decide +kernel, 46, by decide +kernel⟩,
    ⟨(chanOnAt 47).put ⟨(chCfg_word 47 4).addr, 31, 24⟩ 0, 47, 5, 5, 100, 5, 0, by decide +kernel⟩,
    ⟨(chanOnAt 47).put ⟨(chCfg_word 47 4).addr, 31, 24⟩ 5, 47, 5, 5, 100, 5, 0, by decide +kernel⟩⟩

/-- The hypotheses of each clause of MeasurementRowsComplete can be met. -/
theorem witness_MeasurementRowsComplete :
    (∃ (n : Fin 64) (on : Bool) (delay : Half) (s : State), s.domOn (Dm.bank (bankOf n.val)) = true ∧
    (
      let p := s.put (if on = true then chDelay_ton n.val else chDelay_toff n.val) delay.toNat
      (delay = 0xFFFF ∨ s.reports (bankOf n.val) = false))) ∧
    (∃ (n : Fin 64) (on : Bool) (delay : Half) (s : State), s.domOn (Dm.bank (bankOf n.val)) = true ∧
    (
      let p := s.put (if on = true then chDelay_ton n.val else chDelay_toff n.val) delay.toNat
      delay ≠ 0xFFFF ∧ s.reports (bankOf n.val) = true)) ∧
    (∃ (n : Fin 64) (energy : Half) (r : Nat) (s : State), clampRep (chClass n.val) = some r ∧ energy.toNat ≤ r) ∧
    (∃ (n : Fin 64) (energy : Half) (r : Nat) (s : State), clampRep (chClass n.val) = some r ∧ r < energy.toNat) ∧
    (∃ (means : List Nat) (s : State), s.domOn Dm.sys = true) ∧
    (∃ (means : List Nat) (s : State), s.domOn Dm.sys = true ∧ ∃ b : Nat, b < 8 ∧ (s.bank b).curFail = false ∧ (s.bank b).auxFail = false ∧ s.domOn (Dm.bank b) = true) ∧
    (∃ (b slot : Fin 8) (code : BitVec 14) (on edge settling : Bool) (segs : List (BitVec 10)) (s : State), s.domOn (Dm.bank b.val) = true ∧ (s.bank b.val).curFail = false ∧ (s.bank b.val).slot = slot.val) ∧
    (∃ (b slot : Fin 8) (code : BitVec 14) (on edge settling : Bool) (segs : List (BitVec 10)) (s : State), s.domOn (Dm.bank b.val) = true ∧ (s.bank b.val).curFail = false ∧ (s.bank b.val).slot = slot.val ∧
    (
      let n := 8 * b.val + slot.val
      s.avg n = 0)) ∧
    (∃ (b slot : Fin 8) (code : BitVec 14) (on edge settling : Bool) (segs : List (BitVec 10)) (s : State), s.domOn (Dm.bank b.val) = true ∧ (s.bank b.val).curFail = false ∧ (s.bank b.val).slot = slot.val ∧
    (
      let n := 8 * b.val + slot.val
      ∃ m : Nat, m ≠ n)) ∧
    (∃ (b : Fin 8) (vout tch : List (BitVec 12)) (vbat tcase : BitVec 12) (s : State), s.domOn (Dm.bank b.val) = true ∧ (s.bank b.val).auxFail = false) ∧
    (∃ (b : Fin 8) (vout tch : List (BitVec 12)) (vbat tcase : BitVec 12) (s : State), s.domOn (Dm.bank b.val) = true ∧ (s.bank b.val).auxFail = false ∧ ∃ k : Nat, k < 8) ∧
    (∃ (n : Fin 64) (a : Nat) (s : State), s.onTested n.val = true ∧ (s.ch n.val).olLow = some a ∧ max a (max ((s.ch n.val).edgeAt + ms (bits (s.cfgw n.val 0) 7 0)) (s.olFree n.val)) + s.olFilt n.val ≤ s.now ∧ s.loadSeen n.val = false ∧ s.flag (chDiag_olonLive n.val) = false) ∧
    (∃ (n : Fin 64) (s : State), s.offTested n.val = true ∧ bits (s.cfgw n.val 0) 29 28 = 2 ∧ (∀ a : Nat, (s.ch n.val).olOpened = some a → a + ms 100 ≤ s.now)) ∧
    (∃ (n : Fin 64) (a : Nat) (s : State), s.offTested n.val = true ∧ s.flag (chDiag_oloffLive n.val) = false ∧ bits (s.cfgw n.val 0) 29 28 = 1 ∧ s.volSeen n.val = true ∧ (s.ch n.val).volAt = some a ∧ a + ms 1 ≤ s.now) ∧
    (∃ (n : Fin 64) (a : Nat) (s : State), s.offTested n.val = true ∧ s.flag (chDiag_oloffLive n.val) = false ∧ bits (s.cfgw n.val 0) 29 28 = 2 ∧ (s.ch n.val).olVol = true ∧ (s.ch n.val).olWindow = some a ∧ a + ms 1 ≤ s.now ∧ (s.ch n.val).olSeen = true) ∧
    (∃ (n : Fin 64) (a : Nat) (s : State), s.offTested n.val = true ∧ s.flag (chDiag_oloffLive n.val) = false ∧ bits (s.cfgw n.val 0) 29 28 = 2 ∧ (s.ch n.val).olVol = true ∧ (s.ch n.val).olWindow = some a ∧ a + ms 1 ≤ s.now ∧ (s.ch n.val).olSeen = false) ∧
    (∃ (n : Fin 64) (a : Nat) (s : State), s.olRuns (bankOf n.val) = true ∧ (s.ch n.val).drive = .off ∧ (s.ch n.val).stbAt = some a ∧ a + ms 1 ≤ s.now ∧ 600 ≤ centiVolts (s.get (chVt_vout n.val)) ∧ s.flag (chDiag_stbLive n.val) = false) :=
  ⟨⟨63, true, 0xFFFF, up, by decide +kernel⟩,
    ⟨63, true, 7, up.put (bankSense_curValid 7) 1, by decide +kernel⟩,
    ⟨3, 6000, 6000, up, by decide +kernel⟩,
    ⟨47, 601, 600, up, by decide +kernel⟩,
    ⟨[], up, by decide +kernel⟩,
    ⟨[], up, by decide +kernel, 7, by decide +kernel⟩,
    ⟨7, 7, 0, true, true, true, [], up.modBank 7 (fun b => { b with slot := 7 }), by decide +kernel⟩,
    ⟨7, 7, 0, true, true, true, [], up.modBank 7 (fun b => { b with slot := 7 }), by decide +kernel⟩,
    ⟨7, 7, 0, true, true, true, [], up.modBank 7 (fun b => { b with slot := 7 }), by decide +kernel, by decide +kernel, by decide +kernel, 62, by decide +kernel⟩,
    ⟨7, [], [], 0, 0, up, by decide +kernel⟩,
    ⟨7, [], [], 0, 0, up, by decide +kernel, by decide +kernel, 7, by decide +kernel⟩,
    ⟨47, 0, { (((upCh 47 (fun c => { c with drive := .on, cmdOn := true, olLow := some 0 })).put ⟨(chCfg_word 47 0).addr, 27, 27⟩ 1).put ⟨(chCfg_word 47 1).addr, 31, 16⟩ 100) with now := sec 70 }, by decide +kernel⟩,
    ⟨47, { ((up).put ⟨(chCfg_word 47 0).addr, 29, 28⟩ 2).put (chVt_vout 47) 2000 with now := sec 1 }, by decide +kernel⟩,
    ⟨47, 0, { ((up.modCh 47 (fun c => { c with volAt := some 0 })).put ⟨(chCfg_word 47 0).addr, 29, 28⟩ 1).put (chVt_vout 47) 1024 with now := sec 1 }, by decide +kernel⟩,
    ⟨47, 0, { ((up.modCh 47 (fun c => { c with olWindow := some 0, olVol := true, olSeen := true })).put ⟨(chCfg_word 47 0).addr, 29, 28⟩ 2).put (chVt_vout 47) 1024 with now := sec 1 }, by decide +kernel⟩,
    ⟨47, 0, { ((up.modCh 47 (fun c => { c with olWindow := some 0, olVol := true })).put ⟨(chCfg_word 47 0).addr, 29, 28⟩ 2).put (chVt_vout 47) 1024 with now := sec 1 }, by decide +kernel⟩,
    ⟨47, 0, ((upAt (sec 1)).modCh 47 (fun c => { c with stbAt := some 0 })).put (chVt_vout 47) 1024, by decide +kernel⟩⟩

/-- The hypotheses of each clause of DriveRowsComplete can be met. -/
theorem witness_DriveRowsComplete :
    (∃ (n : Fin 64) (s : State), (s.ch n.val).drive ≠ .off ∧ s.domOn (Dm.bank (bankOf n.val)) = true ∧ s.inPeriod n.val = 0) ∧
    (∃ (b : Fin 8) (p : Nat) (s : State), (s.bank b.val).newPeriod = some p ∧ s.frameEnds b.val = true) ∧
    (∃ (n : Fin 64) (width : Word) (p : Pulse) (a : Nat) (s : State), (s.ch n.val).pulse = some p ∧ p.startAt = some a ∧ a + us p.width ≤ s.now) ∧
    (∃ (n : Fin 64) (p : Profile) (s : State), (s.ch n.val).profile = some p ∧ p.code = 1 ∧ p.phase = .ramp ∧ (s.ch n.val).drive ≠ .off ∧ p.startAt + ms (setField p.set 1 31 16) ≤ s.now) ∧
    (∃ (n : Fin 64) (latency : Half) (p : Profile) (s : State), (s.ch n.val).profile = some p ∧ p.code = 2 ∧ p.phase = .peak ∧ p.arrival = none ∧ p.det.found = true ∧ s.flag (bankSense_curValid (bankOf n.val)) = true ∧
    (
      let l := p.latencyOf latency.toNat
      let t := (s.modCh n.val (fun c => { c with profile := some { p with arrival := some l, arrivalAt := s.now } })).put
        (bankArrival_last (bankOf n.val) (n.val % 8)) l
      t.reports (bankOf n.val) = false)) ∧
    (∃ (n : Fin 64) (latency : Half) (p : Profile) (s : State), (s.ch n.val).profile = some p ∧ p.code = 2 ∧ p.phase = .peak ∧ p.arrival = none ∧ p.det.found = true ∧ s.flag (bankSense_curValid (bankOf n.val)) = true ∧
    (
      let l := p.latencyOf latency.toNat
      let t := (s.modCh n.val (fun c => { c with profile := some { p with arrival := some l, arrivalAt := s.now } })).put
        (bankArrival_last (bankOf n.val) (n.val % 8)) l
      t.reports (bankOf n.val) = true)) ∧
    (∃ (n : Fin 64) (p : Profile) (s : State), (s.ch n.val).profile = some p ∧ p.code = 2 ∧ p.phase = .peak ∧ (s.ch n.val).drive ≠ .off ∧ ∃ l : Nat, p.arrival = some l ∧ (p.arrivalAt + us (100 * setField p.set 4 31 16) ≤ s.now ∨ p.startAt + us (100 * setField p.set 1 31 16) ≤ s.now)) ∧
    (∃ (n : Fin 64) (p : Profile) (s : State), (s.ch n.val).profile = some p ∧ p.code = 2 ∧ p.phase = .peak ∧ (s.ch n.val).drive ≠ .off ∧ p.arrival = none ∧ p.startAt + us (100 * setField p.set 1 31 16) ≤ s.now) :=
  ⟨⟨63, (chanOnAt 63), by decide +kernel⟩,
    ⟨7, 5, { up.modBank 7 (fun x => { x with newPeriod := some 5 }) with now := 8 * up.get (bankPwmbase_period 7) }, by decide +kernel⟩,
    ⟨47, 20, { width := 20, job := none, startAt := some 0 }, 0, { upCh 47 (fun c => { c with pulse := some { width := 20, job := none, startAt := some 0 } }) with now := us 20 }, by decide +kernel⟩,
    ⟨47, { code := 1, set := mkRec 8 [], phase := .ramp, startAt := 0 }, (upCh 47 (fun c => { c with profile := some { code := 1, set := mkRec 8 [], phase := .ramp, startAt := 0 }, drive := .on })), by decide +kernel⟩,
    ⟨47, 0, { code := 2, set := mkRec 8 [], phase := .peak, startAt := 0, det := { found := true } }, ((upCh 47 (fun c => { c with profile := some { code := 2, set := mkRec 8 [], phase := .peak, startAt := 0, det := { found := true } }, drive := .on })).put (bankSense_curValid 5) 1).modBank 5 (fun b => { b with linkUp := false }), by decide +kernel⟩,
    ⟨47, 9, { code := 2, set := mkRec 8 [], phase := .peak, startAt := 0, det := { found := true } }, (upCh 47 (fun c => { c with profile := some { code := 2, set := mkRec 8 [], phase := .peak, startAt := 0, det := { found := true } }, drive := .on })).put (bankSense_curValid 5) 1, by decide +kernel⟩,
    ⟨47, { code := 2, set := mkRec 8 [], phase := .peak, startAt := 0, arrival := some 5 }, (upCh 47 (fun c => { c with profile := some { code := 2, set := mkRec 8 [], phase := .peak, startAt := 0, arrival := some 5 }, drive := .on })), by decide +kernel, by decide +kernel, by decide +kernel, by decide +kernel, 5, by decide +kernel⟩,
    ⟨47, { code := 2, set := mkRec 8 [], phase := .peak, startAt := 0 }, (upCh 47 (fun c => { c with profile := some { code := 2, set := mkRec 8 [], phase := .peak, startAt := 0 }, drive := .on })), by decide +kernel⟩⟩

/-- The hypotheses of each clause of MotorRowsComplete can be met. -/
theorem witness_MotorRowsComplete :
    (∃ (k : Fin 8) (filled : Bool) (ax : Nat) (s : State), s.bridged (48 + 2 * k.val) = true ∧ s.rippleAx k.val = some ax ∧ s.rippleDue k.val filled = true) ∧
    (∃ (k : Fin 8) (s : State), s.bridged (48 + 2 * k.val) = true ∧ (s.br k.val).reverseLeft = none ∧ s.uvCh (48 + 2 * k.val) = false ∧ s.motionDone k.val = true ∧ s.motionRuns k.val = true) ∧
    (∃ (k : Fin 8) (s : State), s.bridged (48 + 2 * k.val) = true ∧ (s.br k.val).reverseLeft = none ∧ s.uvCh (48 + 2 * k.val) = false ∧ s.motionDone k.val = true ∧ s.motionRuns k.val = false) ∧
    (∃ (k : Fin 8) (m : Move) (s : State), (s.br k.val).move = some m ∧ s.isOn (48 + 2 * k.val) = true ∧ (s.br k.val).ending = none ∧ (s.br k.val).mstate ≠ .pinch ∧ (if s.closing k.val = true then s.axOut m.axis ≤ signed 64 m.target else signed 64 m.target ≤ s.axOut m.axis) ∧ ¬ (setField m.set 0 31 24 = 4 ∧ s.closing k.val = true ∧ signed 64 m.target < ((setField m.set 1 15 0 : Nat) : Int))) ∧
    (∃ (k : Fin 8) (e : Nat) (s : State), (s.br k.val).brakeEnd = some e ∧ e ≤ s.now ∧ ((s.br k.val).reverseLeft = none ∨ (s.br k.val).move = none)) ∧
    (∃ (k : Fin 8) (e : Nat) (s : State), (s.br k.val).brakeEnd = some e ∧ e ≤ s.now ∧ ∃ m : Move, (s.br k.val).reverseLeft = some 0 ∧ (s.br k.val).move = some m) ∧
    (∃ (k : Fin 8) (e : Nat) (s : State), (s.br k.val).brakeEnd = some e ∧ e ≤ s.now ∧ ∃ (r : Nat) (m : Move), (s.br k.val).reverseLeft = some r ∧ r ≠ 0 ∧ (s.br k.val).move = some m) ∧
    (∃ (k : Fin 8) (s : State), s.bridged (48 + 2 * k.val) = true ∧ s.isOn (48 + 2 * k.val) = true ∧ s.stalled k.val = true ∧ ∃ m : Move, (s.br k.val).move = some m ∧ (s.br k.val).ending = none ∧
    (
      let zone := setField m.set 0 31 24 = 4 ∧ s.closing k.val = true ∧ (s.br k.val).mstate ≠ .pinch ∧
        ((s.br k.val).norm = false ∨ s.axOut m.axis < ((setField m.set 1 15 0 : Nat) : Int))
      zone)) ∧
    (∃ (k : Fin 8) (s : State), s.bridged (48 + 2 * k.val) = true ∧ s.isOn (48 + 2 * k.val) = true ∧ s.stalled k.val = true ∧ ∃ m : Move, (s.br k.val).move = some m ∧ (s.br k.val).ending = none ∧ setField m.set 0 31 24 = 6) ∧
    (∃ (k : Fin 8) (s : State), s.bridged (48 + 2 * k.val) = true ∧ s.isOn (48 + 2 * k.val) = true ∧ s.stalled k.val = true ∧ ∃ m : Move, (s.br k.val).move = some m ∧ (s.br k.val).ending = none ∧
    (
      let zone := setField m.set 0 31 24 = 4 ∧ s.closing k.val = true ∧ (s.br k.val).mstate ≠ .pinch ∧
        ((s.br k.val).norm = false ∨ s.axOut m.axis < ((setField m.set 1 15 0 : Nat) : Int))
      ¬ zone ∧ setField m.set 0 31 24 ≠ 6)) ∧
    (∃ (k : Fin 8) (s : State), s.bridged (48 + 2 * k.val) = true ∧ s.isOn (48 + 2 * k.val) = true ∧ s.stalled k.val = true ∧
    (
      let n := 48 + 2 * k.val
      ∃ p : Profile, (s.br k.val).move = none ∧ (s.ch n).profile = some p ∧ p.code = 5 ∧ p.startAt + ms (setField p.set 1 15 0) ≤ s.now)) ∧
    (∃ (k : Fin 8) (s : State), s.bridged (48 + 2 * k.val) = true ∧ s.isOn (48 + 2 * k.val) = true ∧ s.stalled k.val = true ∧
    (
      let n := 48 + 2 * k.val
      ∃ p : Profile, (s.br k.val).move = none ∧ (s.ch n).profile = some p ∧ p.code = 5 ∧ s.now < p.startAt + ms (setField p.set 1 15 0))) ∧
    (∃ (k : Fin 8) (s : State), s.bridged (48 + 2 * k.val) = true ∧ s.isOn (48 + 2 * k.val) = true ∧ s.stalled k.val = true ∧
    (
      let n := 48 + 2 * k.val
      ∃ p : Profile, (s.br k.val).move = none ∧ (s.ch n).profile = some p ∧ p.code = 3)) ∧
    (∃ (k : Fin 8) (p : Profile) (s : State), (s.ch (48 + 2 * k.val)).profile = some p ∧ p.code = 3 ∧ s.isOn (48 + 2 * k.val) = true ∧ p.parkAt = none) ∧
    (∃ (k : Fin 8) (p : Profile) (s : State), (s.ch (48 + 2 * k.val)).profile = some p ∧ p.code = 3 ∧ s.isOn (48 + 2 * k.val) = true ∧
    (
      let t := s.modBr k.val (fun b => { b with cycle := if b.parkSeen = true then b.sincePark else b.cycle, sincePark := 0, parkSeen := true })
      p.parkAt.isSome = true ∧ (7 < setField p.set 4 31 24 ∨ t.domOn Dm.crk = false))) ∧
    (∃ (k : Fin 8) (p : Profile) (s : State), (s.ch (48 + 2 * k.val)).profile = some p ∧ p.code = 3 ∧ s.isOn (48 + 2 * k.val) = true ∧
    (
      let t := s.modBr k.val (fun b => { b with cycle := if b.parkSeen = true then b.sincePark else b.cycle, sincePark := 0, parkSeen := true })
      p.parkAt.isSome = true ∧ setField p.set 4 31 24 ≤ 7 ∧ t.domOn Dm.crk = true)) ∧
    (∃ (k : Fin 8) (p : Profile) (s : State), (s.ch (48 + 2 * k.val)).profile = some p ∧ p.code = 3 ∧ s.isOn (48 + 2 * k.val) = true ∧ ∃ a : Nat, p.parkAt = some a ∧ a + ms (setField p.set 2 15 0) ≤ s.now) ∧
    (∃ (k : Fin 8) (m : Move) (a : Nat) (s : State), (s.br k.val).move = some m ∧ s.isOn (48 + 2 * k.val) = true ∧ (s.br k.val).ending = none ∧ (s.br k.val).reverseLeft = none ∧ s.pinchZone k.val m = true ∧ (s.br k.val).pinchAt = some a ∧ a + ms (setField m.set 2 15 8) ≤ s.now) ∧
    (∃ (k : Fin 8) (p : Profile) (s : State), (s.ch (48 + 2 * k.val)).profile = some p ∧ p.code = 5 ∧ s.isOn (48 + 2 * k.val) = true ∧ p.startAt + ms (setField p.set 1 31 16) ≤ s.now) ∧
    (∃ (b : Fin 8) (s : State), (s.bank b.val).pendingStore = true ∧ (∀ k : Nat, k < 8 → s.transient (8 * b.val + k) = false)) ∧
    (∃ (b : Fin 8) (s : State), s.line = [] ∧ ∃ t : State, exec (.ucodeCrc b) s = .next t ∧ ∃ k : Nat, k < 8) :=
  ⟨⟨7, false, 7, (((moving { axis := 7, target := 1000, duty := 5, set := mkRec 8 [(0, 31, 24, 3), (4, 31, 24, 7)], job := none } id).put ⟨(axCfg_word 7 0).addr, 29, 26⟩ 6).put ⟨(axCfg_word 7 0).addr, 23, 16⟩ 7).modBr 7 (fun b => { b with fEst := 20000 }), by decide +kernel⟩,
    ⟨7, { moving { axis := 7, target := 1000, duty := 5, set := mkRec 8 [(0, 31, 24, 3), (4, 31, 24, 7)], job := none } (fun b => { b with slowAt := some 0 }) with now := ms 20 }, by decide +kernel⟩,
    ⟨7, { (bridge7 []).modBr 7 (fun b => { b with slowAt := some 0 }) with now := ms 20 }, by decide +kernel⟩,
    ⟨7, { axis := 7, target := 0, duty := 5, set := mkRec 8 [(0, 31, 24, 4), (4, 31, 24, 7)], job := none }, moving { axis := 7, target := 0, duty := 5, set := mkRec 8 [(0, 31, 24, 4), (4, 31, 24, 7)], job := none } id, by decide +kernel⟩,
    ⟨7, 0, (bridge7 []).modBr 7 (fun b => { b with brakeEnd := some 0 }), by decide +kernel⟩,
    ⟨7, 0, moving { axis := 7, target := 0, duty := 5, set := mkRec 8 [(0, 31, 24, 4), (4, 31, 24, 7)], job := none } (fun b => { b with brakeEnd := some 0, reverseLeft := some 0 }), by decide +kernel, by decide +kernel, { axis := 7, target := 0, duty := 5, set := mkRec 8 [(0, 31, 24, 4), (4, 31, 24, 7)], job := none }, by decide +kernel⟩,
    ⟨7, 0, moving { axis := 7, target := 0, duty := 5, set := mkRec 8 [(0, 31, 24, 4), (4, 31, 24, 7)], job := none } (fun b => { b with brakeEnd := some 0, reverseLeft := some 16 }), by decide +kernel, by decide +kernel, 16, { axis := 7, target := 0, duty := 5, set := mkRec 8 [(0, 31, 24, 4), (4, 31, 24, 7)], job := none }, by decide +kernel⟩,
    ⟨7, moving { axis := 7, target := 0, duty := 5, set := mkRec 8 [(0, 31, 24, 4), (4, 31, 24, 7), (4, 23, 23, 1), (1, 31, 16, 100), (1, 15, 0, 4)], job := none } (fun b => { b with stallAt := some 0 }), by decide +kernel, by decide +kernel, by decide +kernel, { axis := 7, target := 0, duty := 5, set := mkRec 8 [(0, 31, 24, 4), (4, 31, 24, 7), (4, 23, 23, 1), (1, 31, 16, 100), (1, 15, 0, 4)], job := none }, by decide +kernel⟩,
    ⟨7, moving { axis := 7, target := 0, duty := 5, set := mkRec 8 [(0, 31, 24, 6), (4, 31, 24, 7)], job := none } (fun b => { b with stallAt := some 0 }), by decide +kernel, by decide +kernel, by decide +kernel, { axis := 7, target := 0, duty := 5, set := mkRec 8 [(0, 31, 24, 6), (4, 31, 24, 7)], job := none }, by decide +kernel⟩,
    ⟨7, moving { axis := 7, target := 0, duty := 5, set := mkRec 8 [(0, 31, 24, 4), (4, 31, 24, 7)], job := none } (fun b => { b with stallAt := some 0 }), by decide +kernel, by decide +kernel, by decide +kernel, { axis := 7, target := 0, duty := 5, set := mkRec 8 [(0, 31, 24, 4), (4, 31, 24, 7)], job := none }, by decide +kernel⟩,
    ⟨7, (profiled { code := 5, set := mkRec 8 [], phase := .motion, startAt := 0 }).modBr 7 (fun b => { b with stallAt := some 0 }), by decide +kernel, by decide +kernel, by decide +kernel, { code := 5, set := mkRec 8 [], phase := .motion, startAt := 0 }, by decide +kernel⟩,
    ⟨7, (profiled { code := 5, set := mkRec 8 [(1, 15, 0, 5)], phase := .motion, startAt := 0 }).modBr 7 (fun b => { b with stallAt := some 0 }), by decide +kernel, by decide +kernel, by decide +kernel, { code := 5, set := mkRec 8 [(1, 15, 0, 5)], phase := .motion, startAt := 0 }, by decide +kernel⟩,
    ⟨7, (profiled { code := 3, set := mkRec 8 [], phase := .motion, startAt := 0 }).modBr 7 (fun b => { b with stallAt := some 0 }), by decide +kernel, by decide +kernel, by decide +kernel, { code := 3, set := mkRec 8 [], phase := .motion, startAt := 0 }, by decide +kernel⟩,
    ⟨7, { code := 3, set := mkRec 8 [], phase := .motion, startAt := 0 }, profiled { code := 3, set := mkRec 8 [], phase := .motion, startAt := 0 }, by decide +kernel⟩,
    ⟨7, { code := 3, set := mkRec 8 [(4, 31, 24, 8)], phase := .park, startAt := 0, parkAt := some 0 }, profiled { code := 3, set := mkRec 8 [(4, 31, 24, 8)], phase := .park, startAt := 0, parkAt := some 0 }, by decide +kernel⟩,
    ⟨7, { code := 3, set := mkRec 8 [(4, 31, 24, 7)], phase := .park, startAt := 0, parkAt := some 0 }, profiled { code := 3, set := mkRec 8 [(4, 31, 24, 7)], phase := .park, startAt := 0, parkAt := some 0 }, by decide +kernel⟩,
    ⟨7, { code := 3, set := mkRec 8 [(4, 31, 24, 7)], phase := .park, startAt := 0, parkAt := some 0 }, profiled { code := 3, set := mkRec 8 [(4, 31, 24, 7)], phase := .park, startAt := 0, parkAt := some 0 }, by decide +kernel, by decide +kernel, by decide +kernel, 0, by decide +kernel⟩,
    ⟨7, { axis := 7, target := 0, duty := 5, set := mkRec 8 [(0, 31, 24, 4), (4, 31, 24, 7), (4, 23, 23, 1), (1, 31, 16, 100), (1, 15, 0, 4)], job := none }, 0, moving { axis := 7, target := 0, duty := 5, set := mkRec 8 [(0, 31, 24, 4), (4, 31, 24, 7), (4, 23, 23, 1), (1, 31, 16, 100), (1, 15, 0, 4)], job := none } (fun b => { b with pinchAt := some 0 }), by decide +kernel⟩,
    ⟨7, { code := 5, set := mkRec 8 [], phase := .motion, startAt := 0 }, profiled { code := 5, set := mkRec 8 [], phase := .motion, startAt := 0 }, by decide +kernel⟩,
    ⟨7, up.modBank 7 (fun x => { x with pendingStore := true }), by decide +kernel⟩,
    ⟨7, up, by decide +kernel, _, rfl, 7, by decide +kernel⟩⟩

/-- The hypotheses of each clause of GovernorRowsComplete can be met. -/
theorem witness_GovernorRowsComplete :
    (∃ (q : Nat) (r : Req) (d : Nat) (s : State), s.line.find? (fun x => x.id == q) = some r ∧ r.limit = some d ∧ d ≤ s.now) ∧
    (∃ (g : Fin 2) (s : State), s.domOn Dm.crk = true ∧ s.get (govDroop_level (s.freezeGroup g.val)) ≠ 0 ∧ (s.grp (s.freezeGroup g.val)).frozenLocal = false) ∧
    (∃ (g : Fin 2) (s : State), (s.grp (s.freezeGroup g.val)).frozenLocal = true) ∧
    (∃ s : State, s.domOn Dm.crk = true) ∧
    (∃ (g : Fin 2) (m : Fin 4) (s : State), s.domOn Dm.crk = true ∧ s.govShares g.val = true ∧ m.val ∈ s.othersOf g.val ∧ (s.grp g.val).lost.testBit m.val = false ∧ (s.isLinked m.val = false ∨ (∃ p ∈ (s.grp g.val).missed, p.1 = m.val ∧ 3 ≤ p.2))) ∧
    (∃ (g : Fin 2) (d : Nat) (s : State), (s.grp g.val).holdUntil = some d ∧ d ≤ s.now) ∧
    (∃ (g : Fin 2) (s : State), (s.grp g.val).fallback = true ∧ 3 ≤ (s.grp g.val).good) :=
  ⟨⟨9, { id := 9, src := .restart 47, parts := [(47, 100)], prio := 1, hc := none, at_ := 0, limit := some 0 }, 0, { up with line := [{ id := 9, src := .restart 47, parts := [(47, 100)], prio := 1, hc := none, at_ := 0, limit := some 0 }] }, by decide +kernel⟩,
    ⟨1, up.put (govDroop_level 1) 5, by decide +kernel⟩,
    ⟨1, up.modGrp 1 (fun x => { x with frozenLocal := true }), by decide +kernel⟩,
    ⟨up, by decide +kernel⟩,
    ⟨1, 3, (up.put (govMap_members 1) 15).put (govMap_boardfeed 1) 1, by decide +kernel⟩,
    ⟨1, 0, up.modGrp 1 (fun x => { x with holdUntil := some 0 }), by decide +kernel⟩,
    ⟨1, up.modGrp 1 (fun x => { x with fallback := true, good := 3 }), by decide +kernel⟩⟩

/-- The hypotheses of AllocationStaysWithinTheBudget can be met. -/
theorem witness_AllocationStaysWithinTheBudget :
    ∃ (bf : Nat) (ms : List (Exchange × Nat)), (ms.map (fun m => m.1.member)).Nodup ∧ (ms.map (fun m => m.1.share)).sum ≤ bf :=
  ⟨400, [({ member := 0, share := 100, used := 0, wWork := 5, wComfort := 0, frozen := false, aligned := true }, 80), ({ member := 3, share := 100, used := 0, wWork := 5, wComfort := 0, frozen := false, aligned := true }, 80)], by decide +kernel⟩

end Sys2Proof.Tests
end

section
/-! PROOFS. The debounce time of a code (spec/12, R257). -/

namespace Sys2Proof.Machine

/-- Code 2k is never 31, so the even codes need no bound on k. -/
theorem debTicks_even (k : Nat) : debTicks (2 * k) = us (2 ^ k) := by
  have hne : 2 * k ≠ 31 := by omega
  rw [debTicks, if_neg hne, if_pos (Nat.mul_mod_right 2 k), Nat.mul_div_cancel_left k two_pos, us, Nat.mul_comm]

/-- Stated doubled, as 1.5 × 2^k µs is not a whole number of µs for k = 0. -/
theorem two_mul_debTicks_odd {k : Nat} (hk : k ≠ 15) : 2 * debTicks (2 * k + 1) = 3 * us (2 ^ k) := by
  have hne : 2 * k + 1 ≠ 31 := by omega
  have hodd : (2 * k + 1) % 2 ≠ 0 := by omega
  have hhalf : (2 * k + 1) / 2 = k := by omega
  rw [debTicks, if_neg hne, if_neg hodd, hhalf, us]
  omega

/-- The last code breaks the pattern of the odd ones. -/
theorem debTicks_thirtyOne : debTicks 31 = us (2 ^ 16) := rfl

theorem us_le_us {m n : Nat} (h : m ≤ n) : us m ≤ us n := Nat.mul_le_mul_right 100 h

/-- The range of R257, by the parity of the code: an odd code below 31 lies between 2^k µs and 2^(k + 1) µs. -/
theorem debTicks_range {c : Nat} (hc : c ≤ 31) : us 1 ≤ debTicks c ∧ debTicks c ≤ us 65536 := by
  have hpos (k : Nat) : us 1 ≤ us (2 ^ k) := us_le_us Nat.one_le_two_pow
  have hle {k : Nat} (hk : k ≤ 15) : us (2 ^ k) ≤ us (2 ^ 15) := us_le_us (Nat.pow_le_pow_right two_pos hk)
  have htop : us 65536 = 2 * us (2 ^ 15) := rfl
  obtain ⟨k, rfl | rfl⟩ := Nat.even_or_odd' c
  · have := hpos k
    have := hle (k := k) (by omega)
    rw [debTicks_even]
    omega
  · obtain rfl | hk := eq_or_ne k 15
    · rw [debTicks_thirtyOne]
      exact ⟨hpos 16, le_rfl⟩
    · have := hpos k
      have := hle (k := k) (by omega)
      have := two_mul_debTicks_odd hk
      omega

/-- Source 2 is an FI pair: DEB of its terminal's record (R200, R257). -/
theorem pairDelay_fi (s : State) (n : Nat) (second : Bool) :
    s.pairDelay 2 n second = debTicks (s.fif (2 * n + b2n second) 30 26) := by
  rw [State.pairDelay, if_pos rfl]

/-- Source 3 is a SWIN pair: DEB of its terminal's record (R200, R257). -/
theorem pairDelay_swin (s : State) (n : Nat) (second : Bool) :
    s.pairDelay 3 n second = debTicks (s.swf (2 * n + b2n second) 17 13) := by
  rw [State.pairDelay, if_neg (by decide)]

/-- Settles O35: the even codes, the odd ones below 31 and code 31 each by its own equation, the range by the code's parity. -/
theorem debounceCodes : Obligations.DebounceCodes := by
  unfold Obligations.DebounceCodes
  exact ⟨fun k _ => debTicks_even k, fun k hk => two_mul_debTicks_odd (by omega), debTicks_thirtyOne,
    debTicks_even 0, debTicks_even 9, debTicks_even 10, fun _ hc => debTicks_range hc,
    fun s n second => ⟨pairDelay_fi s n second, pairDelay_swin s n second⟩⟩

end Sys2Proof.Machine
end

section
/-! PROOFS. What an event that is offered leaves in the registers (spec/16, R351, R355, R358). -/

namespace Sys2Proof.Machine

theorem State.get_lt (s : State) (f : Fld) : s.get f < 2 ^ (f.hi + 1 - f.lo) := Nat.mod_lt _ (Nat.two_pow_pos _)

theorem State.get_inc_ne (s : State) {f g : Fld} (h : g.addr ≠ f.addr) : (s.inc f).get g = s.get g := s.get_put_ne _ h

theorem State.get_incBy_ne (s : State) {f g : Fld} (n : Nat) (h : g.addr ≠ f.addr) : (s.incBy f n).get g = s.get g := s.get_put_ne _ h

/-- The addresses of the registers that count events and the pool's free cells: all that the event hub writes. -/
def hubWrites (a : Nat) : Prop := a = sysPoolstat_lowest.addr ∨ a = evtHub_hubdrop.addr ∨ ∃ n : Nat, a = (evtStat_lost n).addr

/-- LOST and MASKED of a context stand in one register. -/
theorem evtStat_masked_addr (n : Nat) : (evtStat_masked n).addr = (evtStat_lost n).addr := rfl

section
variable {f : Fld} (hf : ¬ hubWrites f.addr)
include hf

theorem ne_evtStat_of_not_hubWrites (n : Nat) : f.addr ≠ (evtStat_lost n).addr := fun h => hf (.inr (.inr ⟨n, h⟩))

theorem State.notePool_get (s : State) : s.notePool.get f = s.get f := by
  have hpool : f.addr ≠ sysPoolstat_lowest.addr := fun h => hf (.inl h)
  unfold State.notePool
  split
  · exact s.get_put_ne _ hpool
  · rfl

theorem State.dropEv_get (s : State) (n k : Nat) : (s.dropEv n k).get f = s.get f := by
  rw [State.dropEv, State.modHc_get, s.get_incBy_ne k (ne_evtStat_of_not_hubWrites hf n)]

theorem State.commitEv_get (s : State) (n : Nat) (e : EvRec) : (s.commitEv n e).get f = s.get f := by
  unfold State.commitEv
  dsimp only
  split
  · rw [State.modHc_get, s.get_inc_ne (ne_evtStat_of_not_hubWrites hf n)]
  · rw [State.notePool_get hf, State.modHc_get]

theorem State.selectEv_get (s : State) (n : Nat) (e : EvRec) : (s.selectEv n e).get f = s.get f := by
  unfold State.selectEv
  split
  · exact s.get_inc_ne (evtStat_masked_addr n ▸ ne_evtStat_of_not_hubWrites hf n)
  · exact s.commitEv_get hf n e

/-- By the event's fate: selected, kept in the backlog, or lost to a full one with SYS Off or not. -/
theorem State.offer_get (s : State) (dest : List Nat) (e : EvRec) : (s.offer dest e).get f = s.get f := by
  have hdrop : (s.inc evtHub_hubdrop).get f = s.get f := s.get_inc_ne fun h => hf (.inr (.inl h))
  unfold State.offer
  dsimp only
  split
  · exact forEach_keeps (State.get · f) _ _ (fun n u => u.selectEv_get hf n e) s
  · split
    · rfl
    · split
      · exact hdrop
      · exact (forEach_keeps (State.get · f) _ _ (fun n u => u.dropEv_get hf n 1) _).trans hdrop

theorem State.post_get (s : State) (dest : List Nat) (cls code src arg data : Nat) (cont : List Word) :
    (s.post dest cls code src arg data cont).get f = s.get f := s.offer_get hf dest _

theorem State.netLinkEvent_get (s : State) (p : Nat) (up plca : Bool) : (s.netLinkEvent p up plca).get f = s.get f :=
  s.post_get hf _ _ _ _ _ _ _

end

end Sys2Proof.Machine
end

section
/-! PROOFS. The state of a Ridge link (spec/14, R316, R317). -/

namespace Sys2Proof.Machine

@[simp] theorem State.stat_get (s : State) (p kind idx k : Nat) (f : Fld) : (s.stat p kind idx k).get f = s.get f := rfl
@[simp] theorem State.fault_get (s : State) (src kind detail : Nat) (f : Fld) : (s.fault src kind detail).get f = s.get f := rfl

theorem State.get_stepDue (s : State) (f : Fld) : ({ s with stepDue := true } : State).get f = s.get f := rfl
theorem State.get_stepDue_alignCount (s : State) (f : Fld) :
    ({ s with alignCount := 0, stepDue := true } : State).get f = s.get f := rfl

/-- An election writes one register, CRANK_TSYNC. -/
theorem State.elect_get (s : State) {f : Fld} (hf : f.addr ≠ crankTsync_master.addr) : s.elect.get f = s.get f := by
  have hput (u : State) (v : Nat) : (u.put crankTsync_master v).get f = u.get f := u.get_put_ne v hf
  have hboth (u : State) (v w : Nat) : ((u.put crankTsync_isMaster v).put crankTsync_aligned w).get f = u.get f := by
    rw [State.get_put_ne (f := crankTsync_aligned) _ w hf, State.get_put_ne (f := crankTsync_isMaster) u v hf]
  unfold State.elect
  dsimp only
  split
  · rw [hboth, hput]
  · split
    · rw [State.get_stepDue_alignCount, hboth, hput]
    · exact hput s _

/-- The hub's registers lie elsewhere in their pages than RDG_Ll_STAT, whatever the context's number. -/
theorem rdgStat_state_not_hubWrites (l : Nat) : ¬ hubWrites (rdgStat_state l).addr := by
  rintro (h | h | ⟨n, h⟩) <;> simp only [rdgStat_state, sysPoolstat_lowest, evtHub_hubdrop, evtStat_lost] at h <;> omega

/-- What follows the change of STATE where a link enters or leaves UP does not touch STATE. -/
theorem State.ridgeTo_get_state (s : State) (l st peer : Nat) (swapped : Bool) :
    (s.ridgeTo l st peer swapped).get (rdgStat_state l) = (st + 8 * (peer % 4) + 32 * b2n swapped) % 64 := by
  have hstored := s.get_put_self (rdgStat_state l) (st + 8 * (peer % 4) + 32 * b2n swapped) (Nat.zero_le _) (by decide : 5 ≤ 31)
  have hhub := rdgStat_state_not_hubWrites l
  have htsync : (rdgStat_state l).addr ≠ crankTsync_master.addr := by
    simp only [rdgStat_state, crankTsync_master]
    omega
  unfold State.ridgeTo
  dsimp only
  split
  · exact hstored
  · split
    · rw [State.get_stepDue, State.modNet_get, State.netLinkEvent_get hhub, State.post_get hhub]
      exact hstored
    · rw [State.elect_get _ htsync, State.fault_get, State.stat_get, State.modNet_get, State.netLinkEvent_get hhub,
        State.post_get hhub]
      exact hstored

theorem ridgeFields_lt {st : Nat} (hst : st < 4) (peer : BitVec 2) (swapped : Bool) : st + 8 * peer.toNat + 32 * b2n swapped < 64 := by
  have := peer.isLt
  have : b2n swapped ≤ 1 := by cases swapped <;> decide
  omega

/-- R317: LINK 0 or 1 reads STATE of RDG_Ll_STAT. -/
theorem State.takes_ridgeState_of_le {s : State} {h : Hdr} {l : Byte} (hr : s.runs h (.ridgeState h l) = true) (hl : l.toNat ≤ 1) :
    s.takes (.ridgeState h l) h s (s.get (rdgStat_state l.toNat)) := by
  refine State.takes_same hr rfl ?_
  rw [if_neg (Nat.not_lt.mpr hl), State.taken_get, St.ok]

/-- R317: no other LINK names a link. -/
theorem State.takes_ridgeState_of_lt {s : State} {h : Hdr} {l : Byte} (hr : s.runs h (.ridgeState h l) = true) (hl : 1 < l.toNat) :
    s.takes (.ridgeState h l) h s 0 [] St.badParam := by
  refine State.takes_same hr rfl ?_
  rw [if_pos hl, Ans.no]

theorem State.ridgeUp_iff {s : State} (hnet : s.domOn Dm.net = true) (l : Nat) :
    s.ridgeUp l = true ↔ s.get (rdgStat_state l) % 8 = 2 := by
  rw [State.ridgeUp, hnet, Bool.true_and, beq_iff_eq]

/-- Settles O29: the answer by LINK, the bits of STATE from what `ridgeTo` stores, and UP by its definition in a NET that is On. -/
theorem ridgeStateReadsTheLink : Obligations.RidgeStateReadsTheLink := by
  unfold Obligations.RidgeStateReadsTheLink
  refine ⟨fun s h l hr => ⟨fun hl => ⟨State.takes_ridgeState_of_le hr hl, s.get_lt _⟩, State.takes_ridgeState_of_lt hr⟩, ?_,
    fun l s hnet => State.ridgeUp_iff hnet l.val⟩
  intro l st peer swapped s hst
  rw [State.ridgeTo_get_state, Nat.mod_eq_of_lt peer.isLt, Nat.mod_eq_of_lt (ridgeFields_lt hst peer swapped)]

end Sys2Proof.Machine
end

section
/-! PROOFS. A step, the time it takes and what one-time memory holds after it (spec/03, R56; spec/18, R384; spec/19, R442). -/

namespace Sys2Proof.Machine

theorem Otp.burn_slots_length (a b : Otp) : (a.burn b).slots.length = a.slots.length := by
  rw [Otp.burn, List.length_map, List.length_zipIdx]

/-- R56: a programmed map slot keeps its content. -/
theorem Otp.burn_slot_programmed {a b : Otp} {k : Nat} {x : LimpSlot} (h : a.slots[k]? = some (some x)) :
    (a.burn b).slots[k]? = some (some x) := by
  rw [Otp.burn, List.getElem?_map, List.getElem?_zipIdx, h]
  rfl

theorem Otp.burn_revoked {a b : Otp} {k : Nat} (h : a.revoked.testBit k = true) : (a.burn b).revoked.testBit k = true := by
  rw [Otp.burn, Nat.testBit_or, h, Bool.true_or]

theorem Otp.burn_requireOwner {a b : Otp} (h : a.requireOwner = true) : (a.burn b).requireOwner = true := by
  rw [Otp.burn, h, Bool.true_or]

theorem Otp.leadsTo_burn (a b : Otp) : a.leadsTo (a.burn b) :=
  ⟨(a.burn_slots_length b).symm, fun _ _ => Otp.burn_slot_programmed, Nat.le_max_left _ _, rfl, Nat.le_max_left _ _,
    fun _ => Otp.burn_revoked, Otp.burn_requireOwner⟩

theorem Otp.leadsTo_trans {a b c : Otp} (hab : a.leadsTo b) (hbc : b.leadsTo c) : a.leadsTo c := by
  obtain ⟨hlen, hslot, hmade, hsb, hsvn, hrev, hown⟩ := hab
  obtain ⟨hlen', hslot', hmade', hsb', hsvn', hrev', hown'⟩ := hbc
  exact ⟨hlen.trans hlen', fun k x hx => hslot' k x (hslot k x hx), hmade.trans hmade', hsb.trans hsb', hsvn.trans hsvn',
    fun k hk => hrev' k (hrev k hk), fun ho => hown' (hown ho)⟩

theorem State.leadsTo_idle_otp (s : State) : s.otp.leadsTo s.idle.otp := Otp.leadsTo_burn _ _

theorem exec_leadsTo {c : Instr} {s t : State} {o : Otp} (ho : o.leadsTo s.otp) (h : exec c s = .next t) : o.leadsTo t.otp := by
  obtain ⟨u, hu, -, -, hotp⟩ := exec_frame c s
  obtain rfl : u = t := Host.Outcome.next.inj (hu.symm.trans h)
  obtain hkept | ⟨b, hburnt⟩ := hotp
  · rwa [hkept]
  · rw [hburnt]
    exact Otp.leadsTo_trans ho (Otp.leadsTo_burn _ _)

theorem step_nil {s : State} (h : s.pending = []) : step s = .next s.idle := by
  rw [step, h]

theorem step_cons {c : Instr} {rest : List Instr} {s : State} (h : s.pending = c :: rest) :
    step s = exec c { s with pending := rest } := by
  rw [step, h]

/-- Settles O3, by the two forms of a step: a tick burns into one-time memory, a command keeps it or burns into it. -/
theorem oneTimeMemoryOnlyGrows : Obligations.OneTimeMemoryOnlyGrows := by
  unfold Obligations.OneTimeMemoryOnlyGrows
  intro o s t ho hstep
  cases hq : s.pending with
  | nil =>
    obtain rfl := Host.Outcome.next.inj ((step_nil hq).symm.trans hstep)
    exact Otp.leadsTo_trans ho s.leadsTo_idle_otp
  | cons c rest => exact exec_leadsTo (s := { s with pending := rest }) ho ((step_cons hq).symm.trans hstep)

/-- Settles O2 by the frame that every command keeps. -/
theorem everyCommandRunsInNoTime : Obligations.EveryCommandRunsInNoTime := by
  unfold Obligations.EveryCommandRunsInNoTime
  intro c s
  obtain ⟨t, ht, hpending, hnow, -⟩ := exec_frame c s
  exact ⟨t, ht, hpending, hnow⟩

/-- Settles O1. -/
theorem stepRunsTheFrontCommand : Obligations.StepRunsTheFrontCommand := by
  unfold Obligations.StepRunsTheFrontCommand
  exact ⟨fun _ _ _ => step_cons rfl, fun s h => ⟨step_nil h, rfl, h, s.leadsTo_idle_otp⟩⟩

end Sys2Proof.Machine
end

section
/-! PROOFS. What a reading keeps where an event is offered: the hub writes registers of its own and host contexts. -/

namespace Sys2Proof.Machine

/-- The outcome of a command whose effect on a state is known. -/
theorem act_of_eq {f : State → State} {s u : State} (h : f s = u) : act f s = .next (s.keep u) := by rw [act_eq, h]

/-- A reading that looks neither at registers nor at host contexts, nor at the events that wait for SYS: the event hub and completions
do not change it. -/
structure HubBlind {α : Type} (g : State → α) : Prop where
  wr : ∀ (s : State) (a : Nat) (w : Word), g (s.wr a w) = g s
  hc : ∀ (s : State) (n : Nat) (f : HostCtx → HostCtx), g (s.modHc n f) = g s
  backlog : ∀ (s : State) (l : List (List Nat × EvRec)), g { s with backlog := l } = g s
  lostFor : ∀ (s : State) (l : Sparse Nat), g { s with lostFor := l } = g s

namespace HubBlind

variable {α : Type} {g : State → α} (hg : HubBlind g) (s : State)
include hg

theorem put (f : Fld) (v : Nat) : g (s.put f v) = g s := hg.wr _ _ _
theorem inc (f : Fld) : g (s.inc f) = g s := hg.wr _ _ _
theorem incBy (f : Fld) (n : Nat) : g (s.incBy f n) = g s := hg.wr _ _ _

theorem notePool : g s.notePool = g s := by
  unfold State.notePool
  split
  · exact hg.put _ _ _
  · rfl

theorem commitEv (n : Nat) (e : EvRec) : g (s.commitEv n e) = g s := by
  unfold State.commitEv
  dsimp only
  split
  · rw [hg.hc, hg.inc]
  · rw [hg.notePool, hg.hc]

theorem selectEv (n : Nat) (e : EvRec) : g (s.selectEv n e) = g s := by
  unfold State.selectEv
  split
  · exact hg.inc _ _
  · exact hg.commitEv _ _ _

theorem dropEv (n k : Nat) : g (s.dropEv n k) = g s := by rw [State.dropEv, hg.hc, hg.incBy]

/-- By the event's fate: selected, kept in the backlog, or lost to a full one with SYS Off or not. -/
theorem offer (dest : List Nat) (e : EvRec) : g (s.offer dest e) = g s := by
  unfold State.offer
  dsimp only
  split
  · exact forEach_keeps g _ _ (fun n u => hg.selectEv u n e) s
  · split
    · exact hg.backlog _ _
    · split
      · rw [hg.lostFor, hg.inc]
      · rw [forEach_keeps g _ _ (fun n u => hg.dropEv u n 1), hg.inc]

theorem post (dest : List Nat) (cls code src arg data : Nat) (cont : List Word) : g (s.post dest cls code src arg data cont) = g s :=
  hg.offer _ _ _

end HubBlind

theorem HubBlind.flash : HubBlind State.flash := ⟨fun _ _ _ => rfl, fun _ _ _ => rfl, fun _ _ => rfl, fun _ _ => rfl⟩
theorem HubBlind.keyArr : HubBlind State.keyArr := ⟨fun _ _ _ => rfl, fun _ _ _ => rfl, fun _ _ => rfl, fun _ _ => rfl⟩

end Sys2Proof.Machine
end

section
/-! PROOFS. Supplies, starts and SYS resets (spec/03). -/

namespace Sys2Proof.Machine

section
variable {α : Type} {g : State → α} (hg : HubBlind g) (himm : ∀ (s : State) (f : Imm → Imm), g (s.modImm f) = g s)
  (hdraw : ∀ (s : State) (n : Nat), g { s with freeCount := n } = g s) (s : State)
include hg himm

theorem State.parkNote_keeps : g s.parkNote = g s := by
  unfold State.parkNote
  dsimp only
  split
  · rfl
  · rw [State.immPost, hg.post, himm]

include hdraw

theorem State.parkRestart_keeps : g s.parkRestart = g s := by
  rw [State.parkRestart, State.parkNote_keeps hg himm, himm]
  exact hdraw _ _

theorem State.endRelease_keeps (reason : Nat) : g (s.endRelease reason) = g s := by
  unfold State.endRelease
  split
  · rw [State.parkRestart_keeps hg himm hdraw, himm, State.immPost, hg.post]
  · rfl

end

/-- The end of `powerDown`, in which SYS leaves its phase and the field outputs go off, writes registers and what was told of those outputs. -/
theorem State.phaseCleared_keeps {α : Type} {g : State → α} (hwr : ∀ (s : State) (a : Nat) (w : Word), g (s.wr a w) = g s)
    (htold : ∀ (s : State) (n : Nat), g { s with fqTold := n } = g s) (s : State) :
    g ((((s.put pwrStart_phase 0).put pwrStart_limp 0).put pwrCoast_active 0).put pwrCoast_bankCoast 0).fqClear = g s := by
  have hput (u : State) (f : Fld) (v : Nat) : g (u.put f v) = g u := hwr _ _ _
  unfold State.fqClear State.fqSync
  dsimp only
  rw [htold, hput, hput, hput, hput, hput, hput, hput]

/-- Without its supply SYS is down; what AON ends then, a debug array's release and what UWB had, is nothing of flash or the key array. -/
theorem State.powerDown_memories (s : State) : s.powerDown.sysUp = false ∧ s.powerDown.serving = false ∧
    s.powerDown.flash = s.flash ∧ s.powerDown.keyArr = s.keyArr := by
  unfold State.powerDown
  extract_lets u v base t0 t1 t2 t3
  have hloops {α : Type} (g : State → α) (hch : ∀ (x : State) (n : Nat) (f : Chan → Chan), g (x.modCh n f) = g x)
      (hbank : ∀ (x : State) (n : Nat) (f : Bank → Bank), g (x.modBank n f) = g x)
      (hdom : ∀ (x : State) (n : Nat) (f : Dom → Dom), g (x.modDom n f) = g x) : g t3 = g t0 :=
    (forEach_keeps g _ _ (fun _ x => hdom x _ _) t2).trans
      ((forEach_keeps g _ _ (fun _ x => hbank x _ _) t1).trans (forEach_keeps g _ _ (fun _ x => hch x _ _) t0))
  have hends {α : Type} (g : State → α) (hg : HubBlind g) (himm : ∀ (x : State) (f : Imm → Imm), g (x.modImm f) = g x)
      (hdraw : ∀ (x : State) (n : Nat), g { x with freeCount := n } = g x) : g v = g s :=
    calc g v = g u := by
          show g (ite _ _ _) = _
          split
          · rfl
          · unfold State.uwbGone
            exact himm _ _
      _ = g s := by
          show g (ite _ _ _) = _
          split
          · exact State.endRelease_keeps hg himm hdraw _ _
          · rfl
  clear_value t3
  refine ⟨?_, ?_, ?_, ?_⟩
  · rw [State.phaseCleared_keeps (g := State.sysUp) (fun _ _ _ => rfl) (fun _ _ => rfl), hloops State.sysUp (fun _ _ _ => rfl) (fun _ _ _ => rfl) (fun _ _ _ => rfl)]
  · rw [State.phaseCleared_keeps (g := State.serving) (fun _ _ _ => rfl) (fun _ _ => rfl), hloops State.serving (fun _ _ _ => rfl) (fun _ _ _ => rfl) (fun _ _ _ => rfl)]
  · rw [State.phaseCleared_keeps (g := State.flash) (fun _ _ _ => rfl) (fun _ _ => rfl),
      hloops State.flash (fun _ _ _ => rfl) (fun _ _ _ => rfl) (fun _ _ _ => rfl)]
    exact hends State.flash HubBlind.flash (fun _ _ => rfl) (fun _ _ => rfl)
  · rw [State.phaseCleared_keeps (g := State.keyArr) (fun _ _ _ => rfl) (fun _ _ => rfl),
      hloops State.keyArr (fun _ _ _ => rfl) (fun _ _ _ => rfl) (fun _ _ _ => rfl)]
    exact hends State.keyArr HubBlind.keyArr (fun _ _ => rfl) (fun _ _ => rfl)

/-- A group's fault is posted by each of its banks that is On. -/
theorem State.groupFault_eq (s : State) (g kind : Nat) : s.groupFault g kind =
    { s with inbox := s.inbox ++ ((banksOf g).filter (fun b => s.domOn (Dm.bank b))).map (fun b => faultMsg (0x40 + b) kind b) } := by
  rw [State.groupFault]
  generalize (banksOf g).filter (fun b => s.domOn (Dm.bank b)) = l
  induction l generalizing s with
  | nil => rw [forEach_nil, List.map_nil, List.append_nil]
  | cons b l ih => rw [forEach_cons, ih, State.fault_eq, List.map_cons, List.append_assoc, List.singleton_append]

/-- A reset of SYS where SYS is past its first start, or about to end it. -/
theorem State.sysReset_eq_sysDown {s : State} {cause : Nat} (hv : s.vsup = .valid) (hd : s.domOn Dm.sys = true)
    (hs : s.sysUp = true ∨ s.sysReturn = true ∨ 2 ≤ s.get pwrStart_phase) : s.sysReset cause = s.sysDown cause := by
  rw [State.sysReset, if_neg (by simp [hv]), if_neg, if_pos hd]
  rintro ⟨hup, hret, hph⟩
  simp [hup, hret] at hs
  omega

/-- Whether a start ends in VERONE is read from flash, one-time memory and the key arrays. -/
theorem State.toVerone_of_eq {s t : State} (hflash : t.flash = s.flash) (hotp : t.otp = s.otp) (hkey : t.keyArr = s.keyArr)
    (hdbg : t.dbgArr = s.dbgArr) : t.toVerone = s.toVerone := by
  simp only [State.toVerone, State.reasonOf, State.ownerKey, State.derived, State.parentOf, State.ka, hflash, hotp, hkey, hdbg]

/-- Domains that come On touch nothing but their own records and SAVE_DOM. -/
theorem State.comesOn_keeps {α : Type} {g : State → α} (hwr : ∀ (s : State) (a : Nat) (w : Word), g (s.wr a w) = g s)
    (hdom : ∀ (s : State) (n : Nat) (f : Dom → Dom), g (s.modDom n f) = g s) (s : State) (l : List Nat) :
    g (forEach l (fun d u => u.comesOn d) s) = g s :=
  forEach_keeps g l _ (fun d u => by rw [State.comesOn, State.put, hwr, hdom]) s

/-- Settles O6: each row's guard stands among the premises. -/
theorem supplyAndStartRowsComplete : Obligations.SupplyAndStartRowsComplete := by
  unfold Obligations.SupplyAndStartRowsComplete
  refine ⟨fun s h => ?_, fun s => ⟨fun h => ?_, fun h => ?_⟩, fun s h => ⟨?_, s.powerDown_memories⟩,
    fun s h => ?_, fun s => rfl, fun s => rfl, fun g s h => ?_, fun g s h => ?_, fun g s => rfl,
    fun g s hdeg huv => ?_, fun g s => ?_, fun b s d hd hnow hv hdom => ?_, fun s hph hret hup hrst hv hall => ?_,
    fun loads s hph hup hdom hcopy => ⟨fun h => ?_, fun h => ?_⟩, fun s d hd hnow hv => ?_, fun s h => ?_,
    fun s => rfl, fun s hv hdom hrst hs => ?_, fun ecc codes s hv hdom hup hret hrst hph => ?_⟩
  · exact show execVsupValid s = _ from act_of_eq (if_neg h)
  · exact show execVsupBelowAonHold s = _ from act_of_eq (by rw [if_pos h])
  · exact show execVsupBelowAonHold s = _ from (act_of_eq (by rw [if_neg h])).trans rfl
  · exact show execVsupDip s = _ from act_of_eq (if_pos h)
  · exact show execVsupOvervoltage s = _ from act_of_eq (if_pos h)
  · exact show execVbatUndervoltage g s = _ from act_of_eq (if_neg (by simp [h]))
  · exact show execVbatUvRecovery g s = _ from act_of_eq (if_pos h)
  · exact show execVbatDegradedEnd g s = _ from act_of_eq (if_pos ⟨hdeg, huv⟩)
  · exact show execVbatOvervoltage g s = _ from act_of_eq (s.groupFault_eq _ _)
  · refine show execLimpMapApply b s = _ from act_of_eq ?_
    simp only [hd]
    rw [if_neg (by simp [hv, hdom, hnow])]
  · refine show execBasicService s = _ from act_of_eq ((if_pos ⟨hph, hret, hup, hrst, hv, hall⟩).trans ?_)
    have hon {α : Type} (g : State → α) (hwr : ∀ (u : State) (a : Nat) (w : Word), g (u.wr a w) = g u)
        (hdom : ∀ (u : State) (n : Nat) (f : Dom → Dom), g (u.modDom n f) = g u) := State.comesOn_keeps hwr hdom s [Dm.hif, Dm.sys]
    have hflash := hon State.flash (fun _ _ _ => rfl) (fun _ _ _ => rfl)
    have hotp := hon State.otp (fun _ _ _ => rfl) (fun _ _ _ => rfl)
    have hkey := hon State.keyArr (fun _ _ _ => rfl) (fun _ _ _ => rfl)
    have hdbg := hon State.dbgArr (fun _ _ _ => rfl) (fun _ _ _ => rfl)
    simp only [State.toVerone_of_eq hflash hotp hkey hdbg, hflash]
  · exact show execFullService loads s = _ from act_of_eq (by rw [if_pos ⟨hph, hup, hdom, hcopy⟩, if_neg (by simp [h])])
  · exact show execFullService loads s = _ from act_of_eq (by rw [if_pos ⟨hph, hup, hdom, hcopy⟩, if_pos h])
  · refine show execDeviceResetStart s = _ from act_of_eq ?_
    simp only [hd]
    rw [if_pos ⟨hnow, hv⟩]
  · exact show execRstPin s = _ from act_of_eq (if_neg (by simp [h]))
  · have hreset (cause : Nat) : (if s.domOn Dm.sys = true ∧ s.rstLow = false then s.sysReset cause else s) = s.sysDown cause := by
      rw [if_pos ⟨hdom, hrst⟩, State.sysReset_eq_sysDown hv hdom hs]
    exact ⟨show execWatchdog s = _ from act_of_eq (hreset 4), show execLockstep s = _ from act_of_eq (hreset 5)⟩
  · exact show execResynchronisation ecc codes s = _ from act_of_eq (if_pos ⟨hv, hdom, hup, hret, hrst, hph⟩)

end Sys2Proof.Machine
end

section
/-! PROOFS. Coast hold and the links of the banks (spec/01, R7; spec/03, R54, R61, R63). -/

namespace Sys2Proof.Machine

/-- The outcome of a command whose effect leaves the queue, the time and one-time memory as they are. -/
theorem act_of_eq_same {f : State → State} {s u : State} (h : f s = u) (hp : u.pending = s.pending) (hn : u.now = s.now) (ho : u.otp = s.otp) :
    act f s = .next u := by
  rw [act_of_eq h, State.noHosts_keep hp hn ho]

/-- A loop of which no round changes the state. -/
theorem forEach_same {l : List Nat} {f : Nat → State → State} {s : State} (h : ∀ k ∈ l, f k s = s) : forEach l f s = s := by
  induction l with
  | nil => rfl
  | cons k l ih => rw [forEach_cons, h k List.mem_cons_self, ih fun m hm => h m (List.mem_cons_of_mem _ hm)]

/-- R54: only channels that follow a limp-home input act at its change. -/
theorem State.lhFollowers_none {s : State} {k : Nat} (h : ∀ n : Nat, n < 64 → (s.ch n).follow = none) : s.lhFollowers k = s := by
  refine forEach_same fun n hn => ?_
  rw [h n (List.mem_range.mp hn)]

/-- Settles O9: each row's guard stands among the premises. -/
theorem coastRowsComplete : Obligations.CoastRowsComplete := by
  unfold Obligations.CoastRowsComplete
  refine ⟨fun s a ha hend hcrk => ?_, fun b s hup hon => ?_, fun b s hup => ?_, fun b s a ha hend => ?_, fun k high s hne => ?_,
    fun k high s hne hnone => ?_⟩
  · refine show execCoastExpiry s = _ from act_of_eq ?_
    simp only [ha]
    rw [if_pos ⟨hend, hcrk⟩]
  · exact show execBankLinkLoss b s = _ from act_of_eq_same (if_neg (by simp [hup, hon])) rfl rfl rfl
  · refine show execBankLinkReturn b s = _ from act_of_eq ?_
    dsimp only
    rw [if_neg (by simp [hup])]
    cases hlimp : s.flag pwrStart_limp <;> simp
  · refine show execBankCoastExpiry b s = _ from act_of_eq ?_
    simp only [ha]
    rw [if_neg (by omega)]
  · exact show execLhInputChange k high s = _ from act_of_eq (if_neg hne)
  · exact show execLhInputChange k high s = _ from act_of_eq_same ((if_neg hne).trans (State.lhFollowers_none hnone)) rfl rfl rfl

end Sys2Proof.Machine
end

section
/-! PROOFS. What a gate refuses (spec/03, R50, R55; spec/04, R77, R78). -/

namespace Sys2Proof.Machine

/-- Programming what already stands adds nothing. -/
theorem Otp.burn_self (a : Otp) : a.burn a = a := by
  have hslots : (a.burn a).slots = a.slots := by
    refine List.ext_getElem? fun k => ?_
    rw [Otp.burn, List.getElem?_map, List.getElem?_zipIdx]
    rcases hk : a.slots[k]? with - | - | x <;> simp [hk]
  simp only [Otp.burn] at hslots ⊢
  simp only [hslots, max_self, Nat.or_self, Bool.or_self]

theorem State.keepBurn_eq_keep {s u : State} (h : u.otp = s.otp) : s.keepBurn u = s.keep u := by
  rw [State.keepBurn, h, Otp.burn_self, State.keep]

/-- Every opcode row runs by its dispatch. -/
theorem exec_dispatch {c : Instr} {h : Hdr} (hh : hdrOf c = some h) (s : State) :
    ∃ f : State → State, exec c s = act (fun x => x.dispatch h c f) s ∨ exec c s = actOtp (fun x => x.dispatch h c f) s := by
  cases c <;> cases hh
  case regWrite.refl | regModify.refl => exact ⟨_, .inr rfl⟩
  all_goals exact ⟨_, .inl rfl⟩

@[simp] theorem State.accepted_gate (s : State) (n : Nat) (i : Instr) (h : Hdr) (c : Instr) : (s.accepted n i).gate h c = s.gate h c := rfl

/-- A turn that a gate refuses: the command is taken and completes with the gate's status. -/
theorem State.dispatch_refuse {s : State} {h : Hdr} {c : Instr} {st : Byte} (hserves : s.serves h.hc.val = true)
    (hpick : (s.accepted h.hc.val c).pick h.hc.val [] (s.queueFor h.hc.val c) none = some c)
    (hturn : (s.accepted h.hc.val c).inTurn h.hc.val c = true) (hgate : s.gate h c = .refuse st) (f : State → State) :
    s.dispatch h c f = (s.taken h.hc.val c).complete h (opcOf c) st 0 := by
  simp [State.dispatch, hserves, hpick, hturn, hgate]

theorem State.serves_recording {s : State} {n : Nat} (h : s.serves n = true) : s.recording = true := by
  simp only [State.serves, Bool.and_eq_true] at h
  simp [State.recording, h]

/-- Two states that differ in the host contexts only are alike to what does not look at those. -/
theorem State.eq_of_noHosts {α : Type} (g : State → α) (hg : ∀ x : State, g x.noHosts = g x) {s t : State} (h : t.noHosts = s.noHosts) :
    g t = g s := by
  rw [← hg t, h, hg s]

/-- A command that exec completes on a state which differs from `s` in the host contexts only, with the same answers. -/
theorem State.takes_of_complete {s v : State} {c : Instr} {h : Hdr} {st : Byte} {r : Nat} {cont : List Word}
    (hx : exec c s = .next (s.keep (v.complete h (opcOf c) st r cont))) (hv : v.noHosts = s.noHosts)
    (ha : v.answers h.hc.val = s.answers h.hc.val) (hrec : s.recording = true) (hcl : s.closed h.hc.val = false) :
    s.takes c h s r cont st := by
  have hvrec : v.recording = true := (State.recording_of_noHosts hv).trans hrec
  have hvcl : v.closed h.hc.val = false := (State.closed_of_noHosts hv _).trans hcl
  have hu := (State.complete_noHosts v h (opcOf c) st r cont hvrec).trans hv
  have htime : v.time32 = s.time32 := State.eq_of_noHosts State.time32 (fun _ => rfl) hv
  refine ⟨v.complete h (opcOf c) st r cont, ?_, hu, ?_⟩
  · rw [hx, State.noHosts_keep (State.eq_of_noHosts State.pending (fun _ => rfl) hu) (State.eq_of_noHosts State.now (fun _ => rfl) hu)
      (State.eq_of_noHosts State.otp (fun _ => rfl) hu)]
  · show State.answers _ _ = _
    rw [State.complete_answers v h (opcOf c) st r cont _ hvrec hvcl, if_pos rfl, ha, State.complOf, htime, State.complOf]

/-- Settles O5: whichever opcode, exec is its dispatch, which does not come to the effect. -/
theorem gatesRefuseWithoutEffect : Obligations.GatesRefuseWithoutEffect := by
  unfold Obligations.GatesRefuseWithoutEffect
  intro s c h st hh hserves hcl hpick hturn hgate
  have hrec := State.serves_recording hserves
  have hotp : ((s.taken h.hc.val c).complete h (opcOf c) st 0).otp = s.otp :=
    State.eq_of_noHosts State.otp (fun _ => rfl) ((State.complete_noHosts _ h (opcOf c) st 0 [] ((State.taken_recording ..).trans hrec)).trans (State.taken_noHosts ..))
  refine State.takes_of_complete (v := s.taken h.hc.val c) ?_ (State.taken_noHosts ..) (State.taken_answers ..) hrec hcl
  obtain ⟨f, hf | hf⟩ := exec_dispatch hh s
  · rw [hf, act_of_eq (State.dispatch_refuse hserves hpick hturn hgate f)]
  · rw [hf, ← State.keepBurn_eq_keep hotp, ← State.dispatch_refuse hserves hpick hturn hgate f]
    rfl

end Sys2Proof.Machine
end

section
/-! PROOFS. The limp map that a start reads from one-time memory (spec/03, R47, R51). -/

namespace Sys2Proof.Machine

/-- A fold keeps whatever each of its steps keeps. -/
theorem foldl_keeps {α β : Type} (g : State → α) {f : State → β → State} (h : ∀ (u : State) (x : β), g (f u x) = g u) (l : List β) (s : State) :
    g (l.foldl f s) = g s := by
  induction l generalizing s with
  | nil => rfl
  | cons x l ih => rw [List.foldl_cons, ih, h]

section
variable {a : Nat} {l : List Nat} {addr : Nat → Nat} {w : Nat → Word} (hw : ∀ j ∈ l, w j = 0)
include hw

theorem State.rd_forEach_wr_zero_of_zero {s : State} (ha : s.rd a = 0) : (forEach l (fun j u => u.wr (addr j) (w j)) s).rd a = 0 := by
  induction l generalizing s with
  | nil => exact ha
  | cons k l ih =>
    rw [forEach_cons]
    refine ih (fun j hj => hw j (List.mem_cons_of_mem _ hj)) ?_
    by_cases hk : a = addr k
    · rw [hk, State.rd_wr_self, hw k List.mem_cons_self]
    · rw [State.rd_wr_ne _ _ hk, ha]

/-- A register that a loop of zeros names reads 0 after it. -/
theorem State.rd_forEach_wr_zero {j : Nat} (hj : j ∈ l) (s : State) : (forEach l (fun j u => u.wr (addr j) (w j)) s).rd (addr j) = 0 := by
  induction l generalizing s with
  | nil => cases hj
  | cons k l ih =>
    rw [forEach_cons]
    have hl : ∀ j ∈ l, w j = 0 := fun j hj => hw j (List.mem_cons_of_mem _ hj)
    obtain rfl | hj := List.mem_cons.mp hj
    · refine State.rd_forEach_wr_zero_of_zero hl ?_
      rw [State.rd_wr_self, hw j List.mem_cons_self]
    · exact ih hl hj _

end

theorem State.rd_coastTime (s : State) (n a : Nat) : ({ s with coastTime := n } : State).rd a = s.rd a := rfl

theorem State.limpSlot_eq_none {s : State} (h : ∀ x : LimpSlot, some x ∈ s.otp.slots → x.crcGood = false) : s.limpSlot = none := by
  rw [State.limpSlot, List.head?_eq_none_iff, List.reverse_eq_nil_iff, List.filterMap_eq_nil_iff]
  rintro ⟨x | x, k⟩ hp
  · rfl
  · have hx := h x (List.mem_of_getElem? (List.mem_zipIdx_iff_getElem?.mp hp))
    simp [hx]

/-- With no good slot, and in lifecycle state BLANK, every word of the map in force is 0. -/
theorem State.readMap_zero {s : State} (h : s.limpSlot = none ∨ s.otp.lc = 0) {j : Nat} (hj : j < 32) :
    s.readMap.rd (sysLimpmap_even j).addr = 0 := by
  have hmem := List.mem_range.mpr hj
  have hbase : (sysLimpmap_even j).addr ≠ sysLimpbase_base.addr := by simp only [sysLimpmap_even, sysLimpbase_base]; omega
  have hcoast : (sysLimpmap_even j).addr ≠ sysCoastcfg_coastTime.addr := by simp only [sysLimpmap_even, sysCoastcfg_coastTime]; omega
  have hstart : (sysLimpmap_even j).addr ≠ pwrStart_mapblank.addr := by simp only [sysLimpmap_even, pwrStart_mapblank]; omega
  unfold State.readMap
  split
  · next k x hslot =>
    have hlc : s.otp.lc = 0 := h.resolve_left (by simp [hslot])
    dsimp only
    rw [State.rd_coastTime, State.rd_put_ne _ _ _ hstart, State.rd_put_ne _ _ _ (show _ ≠ pwrStart_mapslot.addr from hstart), State.rd_put_ne _ _ _ hcoast,
      State.rd_put_ne _ _ _ hbase]
    exact State.rd_forEach_wr_zero (addr := fun j => (sysLimpmap_even j).addr) (fun i _ => if_pos hlc) hmem s
  · dsimp only
    rw [State.rd_coastTime, State.rd_put_ne _ _ _ hstart, State.rd_put_ne _ _ _ hcoast, State.rd_put_ne _ _ _ hbase]
    exact State.rd_forEach_wr_zero (addr := fun j => (sysLimpmap_even j).addr) (fun _ _ => rfl) hmem s

theorem State.readOtp_regs (s : State) : s.readOtp.regs = s.readMap.regs := by
  rw [State.readOtp]
  exact foldl_keeps State.regs (f := fun (t : State) (p : Option LimpSlot × Nat) => t.fault 0x83 0x1B p.2) (fun _ _ => rfl) _ _

theorem State.readOtp_rd (s : State) (a : Nat) : s.readOtp.rd a = s.readMap.rd a := by rw [State.rd, State.rd, s.readOtp_regs]

/-- An entry of 0 is OFF. -/
theorem State.limpOff_of_rd_zero {s : State} {n : Nat} (h : s.rd (sysLimpmap_even (n / 2)).addr = 0) :
    s.limpEntry n = 0 ∧ s.limpMode n = 0 ∧ s.limpOn n = false := by
  have hodd : s.rd (sysLimpmap_odd (n / 2)).addr = 0 := h
  have hentry : s.limpEntry n = 0 := by
    rw [State.limpEntry, State.get, State.get, h, hodd]
    simp [bits]
  have hmode : s.limpMode n = 0 := by simp [State.limpMode, hentry, bits]
  exact ⟨hentry, hmode, by simp [State.limpOn, hmode]⟩

theorem State.readOtp_off {s : State} (h : s.limpSlot = none ∨ s.otp.lc = 0) {n : Nat} (hn : n < 64) :
    s.readOtp.limpEntry n = 0 ∧ s.readOtp.limpMode n = 0 ∧ s.readOtp.limpOn n = false :=
  State.limpOff_of_rd_zero ((s.readOtp_rd _).trans (State.readMap_zero h (by omega)))

theorem State.readOtp_mapblank {s : State} (h : s.limpSlot = none) : s.readOtp.flag pwrStart_mapblank = true := by
  have hmap : s.readMap.get pwrStart_mapblank = 1 := by
    unfold State.readMap
    rw [h]
    dsimp only
    rw [State.get, State.rd_coastTime, ← State.get, State.get_put_self _ pwrStart_mapblank 1 (by decide) (by decide)]
    rfl
  rw [State.flag, State.get, s.readOtp_rd]
  exact beq_iff_eq.mpr hmap

theorem State.foldl_fault_inbox {α : Type} (src kind : Nat) (l : List (α × Nat)) (s : State) :
    (l.foldl (fun (t : State) p => t.fault src kind p.2) s).inbox = s.inbox ++ l.map (fun p => faultMsg src kind p.2) := by
  induction l generalizing s with
  | nil => exact (List.append_nil _).symm
  | cons p l ih => rw [List.foldl_cons, ih, State.fault_inbox, List.map_cons, List.append_assoc, List.singleton_append]

/-- Each programmed slot that fails its CRC posts. -/
theorem State.readOtp_posts {s : State} {k : Nat} {x : LimpSlot} (hk : s.otp.slots[k]? = some (some x)) (hx : x.crcGood = false) :
    faultMsg 0x83 0x1B k ∈ s.readOtp.inbox := by
  rw [State.readOtp, State.foldl_fault_inbox, List.mem_append]
  refine .inr (List.mem_map.mpr ⟨(some x, k), List.mem_filter.mpr ⟨List.mem_zipIdx_iff_getElem?.mpr hk, ?_⟩, rfl⟩)
  simp [hx]

/-- Settles O7. -/
theorem noGoodSlotMeansEveryEntryOff : Obligations.NoGoodSlotMeansEveryEntryOff := by
  unfold Obligations.NoGoodSlotMeansEveryEntryOff
  refine ⟨fun s => ⟨fun h => ?_, fun k x => State.readOtp_posts, fun hlc n => State.readOtp_off (.inr hlc)⟩,
    fun b s d hd hnow hv hdom hph => ?_⟩
  · have hslot := State.limpSlot_eq_none h
    exact ⟨fun n => State.readOtp_off (.inl hslot), State.readOtp_mapblank hslot⟩
  · have hcase : (if s.get pwrStart_phase = 0 then (s.readOtp.put pwrStart_phase 1).put pwrStart_limp 1 else s) =
        (s.readOtp.put pwrStart_phase 1).put pwrStart_limp 1 := if_pos hph
    have hphase : ((s.readOtp.put pwrStart_phase 1).put pwrStart_limp 1).get pwrStart_phase = 1 := by
      rw [State.get_put_disjoint _ pwrStart_limp pwrStart_phase 1 rfl (by decide) (by decide) (.inr (by decide)),
        State.get_put_self _ pwrStart_phase 1 (by decide) (by decide)]
      rfl
    refine show execLimpMapApply b s = _ from act_of_eq ?_
    simp only [hd, hcase, hphase]
    rw [if_neg (by simp [hv, hdom, hnow])]
    rfl

end Sys2Proof.Machine
end

section
/-! PROOFS. A SYS reset that begins Coast hold (spec/03, R57 to R60). -/

namespace Sys2Proof.Machine

/-- The bit of a reset's cause in PWR_RSTCAUSE. -/
def rstCause (cause : Nat) : Fld := ⟨pwrRstcause_powerOn.addr, cause, cause⟩

/-- What a SYS reset notes before anything else. -/
def State.resetNoted (s : State) (cause : Nat) : State := (s.unstage.put (rstCause cause) 1).inc pwrRstcause_sysStarts

/-- The state in which Coast hold begins by a SYS reset. -/
def State.coasts (s : State) (cause : Nat) : State :=
  ({ s.resetNoted cause with
    sysUp := false, serving := false, rdy := false, coastTime := s.get sysCoastcfg_coastTime, coastAt := some s.now
    sysStartTimes := (s.now :: s.sysStartTimes.filter (fun x => decide (s.now < x + sec 10))).take 3 } : State).put pwrCoast_active 1
      |>.put pwrCoast_expired 0

/-- R57, R60: no third start within 10 s, no Coast hold in force and a COAST_TIME. -/
theorem State.sysDown_eq_coasts {s : State} (cause : Nat) (hno : s.coastAt = none) (htime : s.get sysCoastcfg_coastTime ≠ 0)
    (hstorm : (s.sysStartTimes.filter (fun x => decide (s.now < x + sec 10))).length < 2) : s.sysDown cause = s.coasts cause := by
  have hcalm : ¬ decide (3 ≤ (s.now :: s.sysStartTimes.filter (fun x => decide (s.now < x + sec 10))).length) = true := by
    rw [decide_eq_true_eq, List.length_cons]
    omega
  have hnone : ¬ s.coastAt.isSome = true := by rw [hno]; decide
  have hnoted : ¬ ((s.unstage.put (rstCause cause) 1).inc pwrRstcause_sysStarts).coastAt.isSome = true := hnone
  unfold rstCause at hnoted
  unfold State.sysDown
  dsimp only
  rw [if_neg hcalm, if_neg hnoted, if_neg hnone, if_neg htime]
  rfl

theorem State.rd_coasts (s : State) (cause : Nat) {a : Nat} (ha : a ≠ pwrCoast_active.addr) : (s.coasts cause).rd a = (s.resetNoted cause).rd a := by
  rw [State.coasts, State.rd_put_ne _ pwrCoast_expired _ ha, State.rd_put_ne _ pwrCoast_active _ ha]
  rfl

theorem State.get_coasts_cause (s : State) {cause : Nat} (hc : cause ≤ 9) : (s.coasts cause).get (rstCause cause) = 1 := by
  have hne : (rstCause cause).addr ≠ pwrCoast_active.addr := by simp [rstCause, pwrRstcause_powerOn, pwrCoast_active]
  rw [State.get, s.rd_coasts cause hne, ← State.get, State.resetNoted, State.inc,
    State.get_put_disjoint _ pwrRstcause_sysStarts (rstCause cause) _ rfl (by decide) (by decide)
      (.inr (show cause < 16 by omega)),
    State.get_put_self _ (rstCause cause) 1 (Nat.le_succ _) (show cause ≤ 31 by omega)]
  simp [rstCause]

theorem State.flag_coasts_active (s : State) (cause : Nat) : (s.coasts cause).flag pwrCoast_active = true := by
  rw [State.flag, State.coasts, State.get_put_disjoint _ pwrCoast_expired pwrCoast_active _ rfl (by decide) (by decide) (.inr (by decide)),
    State.get_put_self _ pwrCoast_active 1 (by decide) (by decide)]
  rfl

/-- Settles O8: the reset is the state `coasts`, whose fields are read off. -/
theorem sysResetBeginsCoast : Obligations.SysResetBeginsCoast := by
  unfold Obligations.SysResetBeginsCoast
  intro s cause hno htime hstorm _ hc
  rw [State.sysDown_eq_coasts cause hno htime hstorm]
  exact ⟨rfl, rfl, s.flag_coasts_active cause, rfl, rfl, rfl, rfl, rfl, s.get_coasts_cause hc⟩

end Sys2Proof.Machine
end

section
/-! PROOFS. Which case a turn-on meets (spec/07, R161; spec/08, R174), the field outputs (spec/12), the masks of keys (spec/18, R389) and
what an epoch gives (spec/11, R246). -/

namespace Sys2Proof.Machine

/-! ### A turn-on -/

section
variable {s : State} {n : Nat}

theorem State.onCase_eq_turnCase (h : (s.ch n).follow = none ∨ (s.ch n).disabled = true) : s.onCase n = s.turnCase n := by
  rw [State.onCase, if_neg]
  rintro ⟨hd, hf⟩
  rcases h with h | h <;> simp [h] at hd hf

theorem State.turnCase_disabled (h : (s.ch n).disabled = true) : s.turnCase n = .refuse St.badState := by simp [State.turnCase, h]

section
variable (hd : (s.ch n).disabled = false)
include hd

theorem State.onCase_following (hf : (s.ch n).follow.isSome = true) : s.onCase n = .refuse St.badState := if_pos ⟨hd, hf⟩

theorem State.turnCase_latched (hl : (s.ch n).latched = true) : s.turnCase n = .refuse St.locked := by simp [State.turnCase, hd, hl]

section
variable (hl : (s.ch n).latched = false)
include hl

theorem State.turnCase_cooling (hc : (s.ch n).cooling = true) : s.turnCase n = .later := by simp [State.turnCase, hd, hl, hc]

variable (hc : (s.ch n).cooling = false)
include hc

theorem State.turnCase_driven (hon : (s.ch n).drive ≠ .off) : s.turnCase n = .already := by simp [State.turnCase, hd, hl, hc, hon]

variable (hoff : (s.ch n).drive = .off)
include hoff

theorem State.turnCase_uv (huv : s.uvCh n = true) : s.turnCase n = .later := by simp [State.turnCase, hd, hl, hc, hoff, huv]

variable (huv : s.uvCh n = false)
include huv

theorem State.turnCase_minOff (ht : (s.ch n).tripped = true) (hw : s.now < (s.ch n).coolEnd) : s.turnCase n = .later := by
  simp [State.turnCase, hd, hl, hc, hoff, huv, ht, hw]

theorem State.turnCase_cooled (ht : (s.ch n).tripped = false ∨ (s.ch n).coolEnd ≤ s.now) :
    s.turnCase n = if (s.pairOf n).any s.tooHot = true then .later else .ask := by
  have hw : ¬ ((s.ch n).tripped = true ∧ s.now < (s.ch n).coolEnd) := by
    rintro ⟨htr, hlt⟩
    rcases ht with ht | ht
    · simp [ht] at htr
    · omega
  simp only [State.turnCase, hd, hl, hc, hoff, huv, hw]
  simp

end
end
end

/-- Settles O12: a channel that follows nothing meets the cases of `turnCase` in their order. -/
theorem turnOnMeetsTheChannel : Obligations.TurnOnMeetsTheChannel := by
  unfold Obligations.TurnOnMeetsTheChannel
  intro s n
  refine ⟨fun hd => ?_, State.onCase_following, fun hd hf hl => ?_, fun hd hf hl => ?_⟩
  · rw [State.onCase_eq_turnCase (.inr hd), State.turnCase_disabled hd]
  · rw [State.onCase_eq_turnCase (.inl hf), State.turnCase_latched hd hl]
  · rw [State.onCase_eq_turnCase (.inl hf)]
    refine ⟨State.turnCase_cooling hd hl, State.turnCase_driven hd hl, State.turnCase_uv hd hl, State.turnCase_minOff hd hl,
      fun hc hoff huv ht => ?_⟩
    rw [State.turnCase_cooled hd hl hc hoff huv ht]
    exact ⟨fun hhot => if_pos hhot, fun hcool => if_neg (by simp [hcool])⟩

/-! ### Field outputs -/

/-- R265, R266: an output drives only while the barrier carries frames and field L+ is no undervoltage. -/
theorem State.fqOn_eq_false {s : State} (h : s.fieldLive = false ∨ s.flag fieldStat_lpUv = true) (k : Nat) : s.fqOn k = false := by
  have hlive : s.fqOn k = true → s.fieldLive = true ∧ s.flag fieldStat_lpUv = false := by
    simp only [State.fqOn, State.fieldLive, Bool.and_eq_true, Bool.not_eq_true']
    tauto
  by_contra hon
  obtain ⟨hl, hu⟩ := hlive (by simpa using hon)
  rcases h with h | h <;> simp_all

theorem State.get_fqSync_on (s : State) : s.fqSync.get fqState_on = listMask ((List.range 16).filter s.fqOn) % 2 ^ 16 :=
  ((s.put fqState_on (listMask ((List.range 16).filter s.fqOn))).get_put_ne _ (by decide : fqState_on.addr ≠ fqFault_limit.addr)).trans
    (s.get_put_self fqState_on _ (by decide) (by decide))

theorem maskList_two_pow {n k : Nat} (hk : k < n) : maskList n (2 ^ k) = [k] := by
  have hfilter : (List.range n).filter (fun m => (2 ^ k).testBit m) = (List.range n).filter (· == k) :=
    List.filter_congr fun m _ => by rw [Nat.testBit_two_pow, beq_eq_decide, decide_eq_decide, eq_comm]
  rw [maskList, hfilter, List.filter_beq, List.count_eq_one_of_mem List.nodup_range (List.mem_range.mpr hk), List.replicate_one]

/-- R269: a latched output refuses to go on. -/
theorem State.fieldOutBy_latched {s : State} {hc value k : Nat} (atomic : Bool) (hk : k < 16) (hown : s.owns hc 6 k = true)
    (hv : value.testBit k = true) (hl : (s.get fqLatch_latched).testBit k = true) : (s.fieldOutBy hc (2 ^ k) value atomic).2 = St.locked := by
  have hlocked : St.locked ≠ St.ok := by decide
  cases atomic <;> simp [State.fieldOutBy, maskList_two_pow hk, hown, hv, hl, hlocked]

/-- Settles O34. -/
theorem fieldOutputsAreHeldOff : Obligations.FieldOutputsAreHeldOff := by
  unfold Obligations.FieldOutputsAreHeldOff
  refine ⟨fun s h => ?_, ?_⟩
  · rw [State.get_fqSync_on, List.filter_eq_nil_iff.mpr fun k _ => by simp [State.fqOn_eq_false h k]]
    rfl
  · rintro s hc _ value k atomic hk rfl
    exact State.fieldOutBy_latched atomic hk

/-! ### Masks of keys -/

theorem xorB_masked {a b m : List Byte} (hm : m.length = a.length) : xorB (xorB a m) (xorB b m) = xorB a b := by
  induction a generalizing b m with
  | nil => simp [xorB]
  | cons x a ih =>
    obtain - | ⟨z, m⟩ := m
    · cases hm
    · obtain - | ⟨y, b⟩ := b
      · rfl
      · have hxy : (x ^^^ z) ^^^ (y ^^^ z) = x ^^^ y := by
          rw [BitVec.xor_comm y z, ← BitVec.xor_assoc, BitVec.xor_assoc x z z, BitVec.xor_self, BitVec.xor_zero]
        have := ih (b := b) (m := m) (Nat.succ.inj hm)
        simp only [xorB, List.zipWith_cons_cons] at this ⊢
        rw [this, hxy]

/-- R389: both shares take the same mask. -/
theorem Shares.remask_key (x : Shares) {m : List Byte} (hm : m.length = x.a.length) : (x.remask m).key = x.key := xorB_masked hm

/-- A loop that rebuilds a list, each element under a mask drawn for it, keeps what the mask does not change. -/
theorem foldl_rebuilt {α β : Type} (f : α → Nat → α) (g : α → β) (hg : ∀ (x : α) (k : Nat), g (f x k) = g x) (l l0 : List α) (k : Nat) :
    ((l.foldl (fun (p : List α × Nat) x => (p.1 ++ [f x p.2], p.2 + 1)) (l0, k)).1).map g = l0.map g ++ l.map g := by
  induction l generalizing l0 k with
  | nil => simp
  | cons x l ih => rw [List.foldl_cons, ih, List.map_append, List.map_singleton, hg, List.append_assoc, List.singleton_append, List.map_cons]

/-- Settles O43: the keys in use and the derived ones are each rebuilt under masks of their length. -/
theorem remaskingKeepsTheKeys : Obligations.RemaskingKeepsTheKeys := by
  unfold Obligations.RemaskingKeepsTheKeys
  intro s
  have hkey (x : Shares) (k : Nat) : (x.remask ((List.range x.a.length).map (Config.freeByte k))).key = x.key :=
    Shares.remask_key x (by rw [List.length_map, List.length_range])
  refine ⟨?_, ?_, rfl, rfl⟩
  · exact foldl_rebuilt (fun x k => (x.1, x.2.remask ((List.range x.2.a.length).map (Config.freeByte k)))) (fun p => (p.1, p.2.key))
      (fun x k => by rw [hkey]) s.ram [] s.freeCount
  · exact foldl_rebuilt (fun x k => { x with sh := x.sh.remask ((List.range x.sh.a.length).map (Config.freeByte k)) })
      (fun x => (x.name, x.sh.key)) (fun x k => by rw [hkey]) s.cache [] _

/-! ### What an epoch gives -/

section
variable {α : Type} (key : α → Nat)

/-- What a list gives to the elements of a key. -/
def given (ms : List α) (l : List Nat) (who : Nat) : Nat := (((ms.zip l).filter (fun p => key p.1 == who)).map (fun p => p.2)).sum

theorem given_cons (m : α) (ms : List α) (x : Nat) (l : List Nat) (who : Nat) :
    given key (m :: ms) (x :: l) who = (if key m = who then x else 0) + given key ms l who := by
  by_cases h : key m = who <;> simp [given, h]

theorem given_of_not_mem {ms : List α} {who : Nat} (h : who ∉ ms.map key) (l : List Nat) : given key ms l who = 0 := by
  have hnone : (ms.zip l).filter (fun p => key p.1 == who) = [] := by
    rw [List.filter_eq_nil_iff]
    rintro ⟨m, x⟩ hp heq
    exact h (List.mem_map.mpr ⟨m, (List.of_mem_zip hp).1, beq_iff_eq.mp heq⟩)
  rw [given, hnone, List.map_nil, List.sum_nil]

/-- What a list gives to distinct elements is together what it holds. -/
theorem sum_given {ms : List α} (hnd : (ms.map key).Nodup) {l : List Nat} (hlen : l.length = ms.length) :
    (ms.map (fun m => given key ms l (key m))).sum = l.sum := by
  induction ms generalizing l with
  | nil => rw [List.length_eq_zero_iff.mp hlen, List.map_nil]
  | cons m ms ih =>
    obtain - | ⟨x, l⟩ := l
    · cases hlen
    · rw [List.map_cons, List.nodup_cons] at hnd
      obtain ⟨hm, hnd⟩ := hnd
      have hrest : ms.map (fun m' => given key (m :: ms) (x :: l) (key m')) = ms.map (fun m' => given key ms l (key m')) := by
        refine List.map_congr_left fun m' hm' => ?_
        have hne : key m ≠ key m' := fun h => hm (h ▸ List.mem_map_of_mem hm')
        rw [given_cons, if_neg hne, Nat.zero_add]
      rw [List.map_cons, List.sum_cons, hrest, ih hnd (Nat.succ.inj hlen), given_cons, if_pos rfl, given_of_not_mem key hm, Nat.add_zero,
        List.sum_cons]

end

theorem sum_map_div_le (l : List Nat) (d : Nat) : (l.map (fun w => w / d)).sum ≤ l.sum / d := by
  induction l with
  | nil => exact Nat.zero_le _
  | cons w l ih =>
    rw [List.map_cons, List.sum_cons, List.sum_cons]
    exact (Nat.add_le_add_left ih _).trans Nat.div_add_div_le_add_div

/-- A pool given in proportion, each part rounded down, is not overdrawn. -/
theorem sum_proportion_le {α : Type} (pool : Nat) (f : α → Nat) (l : List α) :
    (l.map (fun x => pool * f x / (l.map f).sum)).sum ≤ pool := by
  have hmul : ((l.map f).map (fun w => pool * w)).sum = pool * (l.map f).sum := by
    rw [List.sum_map_mul_left, List.map_id']
  calc (l.map (fun x => pool * f x / (l.map f).sum)).sum
      = ((((l.map f).map (fun w => pool * w))).map (fun w => w / (l.map f).sum)).sum := by rw [List.map_map, List.map_map]; rfl
    _ ≤ ((l.map f).map (fun w => pool * w)).sum / (l.map f).sum := sum_map_div_le _ _
    _ ≤ pool := by rw [hmul]; exact Nat.div_le_of_le_mul (Nat.mul_comm _ _).le

theorem giveStage_length (pool : Nat) (wants : List Nat) : (giveStage pool wants).length = wants.length := by
  unfold giveStage
  split
  · rfl
  · exact List.length_map _

theorem sum_giveStage_le (pool : Nat) (wants : List Nat) : (giveStage pool wants).sum ≤ pool := by
  unfold giveStage
  split
  · assumption
  · simpa using sum_proportion_le pool id wants

/-- R246: what is left of the pool after the three stages, in proportion to FIXED. -/
theorem sum_lastStage_le {α : Type} (pool : Nat) (f : α → Nat) (l : List α) :
    (l.map (fun x => if (l.map f).sum = 0 then 0 else pool * f x / (l.map f).sum)).sum ≤ pool := by
  split
  · simp
  · exact sum_proportion_le pool f l

/-- R246: a member's allocation is its part of four lists, which together draw on what the shares leave of the budget. -/
theorem allocation_stages (bf : Nat) (ms : List (Exchange × Nat)) : ∃ g1 g2 g3 g4 : List Nat,
    (g1.length = ms.length ∧ g2.length = ms.length ∧ g3.length = ms.length ∧ g4.length = ms.length) ∧
    g1.sum + g2.sum + g3.sum + g4.sum ≤ bf - (ms.map (fun m => m.1.share)).sum ∧
    ∀ who : Nat, allocation bf ms who = given (fun m => m.1.member) ms g1 who + given (fun m => m.1.member) ms g2 who +
      given (fun m => m.1.member) ms g3 who + given (fun m => m.1.member) ms g4 who := by
  refine ⟨_, _, _, _, ⟨?_, ?_, ?_, ?_⟩, ?_, fun who => rfl⟩
  · rw [giveStage_length, List.length_map]
  · rw [giveStage_length, List.length_map]
  · rw [giveStage_length, List.length_map]
  · exact List.length_map _
  · have h1 := sum_giveStage_le (bf - (ms.map (fun m => m.1.share)).sum) (ms.map (fun m => m.1.wWork))
    generalize giveStage _ (ms.map (fun m => m.1.wWork)) = g1 at *
    have h2 := sum_giveStage_le (bf - (ms.map (fun m => m.1.share)).sum - g1.sum) (ms.map (fun m => m.1.wComfort))
    generalize giveStage _ (ms.map (fun m => m.1.wComfort)) = g2 at *
    have h3 := sum_giveStage_le (bf - (ms.map (fun m => m.1.share)).sum - g1.sum - g2.sum) (ms.map (fun m => m.2 - m.1.share))
    generalize giveStage _ (ms.map (fun m => m.2 - m.1.share)) = g3 at *
    have h4 := sum_lastStage_le (bf - (ms.map (fun m => m.1.share)).sum - g1.sum - g2.sum - g3.sum) (fun m => m.2) ms
    omega

/-- Settles O60: the four stages draw on one pool in turn, and each is given to distinct members. -/
theorem allocationStaysWithinTheBudget : Obligations.AllocationStaysWithinTheBudget := by
  unfold Obligations.AllocationStaysWithinTheBudget
  intro bf ms hnd hsum
  obtain ⟨g1, g2, g3, g4, ⟨hl1, hl2, hl3, hl4⟩, hpool, halloc⟩ := allocation_stages bf ms
  simp only [halloc, List.sum_map_add]
  rw [sum_given _ hnd hl1, sum_given _ hnd hl2, sum_given _ hnd hl3, sum_given _ hnd hl4]
  omega

end Sys2Proof.Machine
end

section
/-! PROOFS. Fields of registers read back (spec/00, R4), and accesses where they may not go (spec/01, R14, R17; spec/03, R50, R58). -/

namespace Sys2Proof.Machine

/-- Settles O50. -/
theorem fieldsReadBack : Obligations.FieldsReadBack := by
  unfold Obligations.FieldsReadBack
  intro s f g v hf hf32 hg hg32 hv
  refine ⟨?_, fun hd => s.get_put_other f g v (by omega) (by omega) (by tauto), fun hwf => s.wr_wf _ _ hwf⟩
  rw [s.get_put_self f v (by omega) (by omega), Nat.mod_eq_of_lt hv]

/-! ### The gate of a register access -/

section
variable {s : State} {a : Nat}

theorem State.regGate_noBlock (h : blockRegs a = none) (w : Bool) : s.regGate a w = (St.badParam, none) := by
  rw [State.regGate, h]

section
variable {l : List RegDesc} {d : Nat} (hl : blockRegs a = some l) (hd : domOfAddr a = some d)
include hl hd

theorem State.regGate_domOff (h : s.domOn d = false) (w : Bool) : s.regGate a w = (St.badState, none) := by
  simp only [State.regGate, hl, hd, h, true_or, if_true, ite_self]

theorem State.regGate_early (hph : s.get pwrStart_phase ≠ 3) (h : earlyWrite a = false) : s.regGate a true = (St.badState, none) := by
  simp only [State.regGate, hl, hd, hph, h, ne_eq, not_false_eq_true, and_self, if_true]

theorem State.regGate_open {w : Bool} (hw : w = true → s.get pwrStart_phase = 3 ∨ earlyWrite a = true) (hon : s.domOn d = true)
    (hsys : d = Dm.sys → s.sysUp = true) : s.regGate a w = (St.ok, findReg l a) := by
  have hearly : ¬ (w = true ∧ s.get pwrStart_phase ≠ 3 ∧ earlyWrite a = false) := by
    rintro ⟨hw', hph, he⟩
    rcases hw hw' with h | h
    · exact hph h
    · simp [he] at h
  have hup : ¬ (s.domOn d = false ∨ (d = Dm.sys ∧ s.sysUp = false)) := by
    rintro (h | ⟨h, hdown⟩)
    · simp [hon] at h
    · simp [hsys h] at hdown
  simp only [State.regGate, hl, hd]
  rw [if_neg hearly, if_neg hup]

end

theorem State.hostRead_gated {st : Byte} (h : s.regGate a false = (st, none)) (hc : Nat) : s.hostRead hc a = (st, 0, s) := by
  rw [State.hostRead, h]

theorem State.hostWrite_gated {st : Byte} (h : s.regGate a true = (st, none)) (hc : Nat) (m v : Word) : s.hostWrite hc a m v = (st, s) := by
  rw [State.hostWrite, h]

theorem State.hostRead_notOwner {x : RegDesc} {r : RegAt} {hc : Nat} (h : s.regGate a false = (St.ok, some (x, r)))
    (hr : s.mayRead hc a r = false) : s.hostRead hc a = (St.notOwner, 0, s) := by
  simp [State.hostRead, h, hr]

theorem State.hostWrite_notOwner {x : RegDesc} {r : RegAt} {hc : Nat} {m v : Word} (h : s.regGate a true = (St.ok, some (x, r)))
    (hw : s.mayWrite hc a r (v &&& m) = false) : s.hostWrite hc a m v = (St.notOwner, s) := by
  simp [State.hostWrite, h, hw]

end

/-- Settles O51: what the gate of the access answers, and what the owner's check does after it. -/
theorem refusedAccessesChangeNothing : Obligations.RefusedAccessesChangeNothing := by
  unfold Obligations.RefusedAccessesChangeNothing
  refine fun s hc a m v => ⟨fun hnone => ⟨?_, ?_⟩, fun l d hl hd => ⟨fun hoff => ⟨?_, ?_⟩, fun hph he => ?_, fun hon hsys =>
    ⟨fun hnone => ?_, fun x r hx hr => ?_, fun x r hx hph hw => ?_⟩⟩⟩
  · exact State.hostWrite_gated (State.regGate_noBlock hnone true) hc m v
  · exact State.hostRead_gated (State.regGate_noBlock hnone false) hc
  · exact State.hostRead_gated (State.regGate_domOff hl hd hoff false) hc
  · exact State.hostWrite_gated (State.regGate_domOff hl hd hoff true) hc m v
  · exact State.hostWrite_gated (State.regGate_early hl hd hph he) hc m v
  · exact State.hostRead_gated ((State.regGate_open hl hd (by simp) hon hsys).trans (by rw [hnone])) hc
  · exact State.hostRead_notOwner ((State.regGate_open hl hd (by simp) hon hsys).trans (by rw [hx])) hr
  · exact State.hostWrite_notOwner ((State.regGate_open hl hd (fun _ => hph) hon hsys).trans (by rw [hx])) hw

end Sys2Proof.Machine
end

section
/-! PROOFS. The frame that a CAN port offers (spec/13, R289). -/

namespace Sys2Proof.Machine

theorem firstArb_eq_none {l : List TxItem} : firstArb l = none ↔ l = [] := by
  cases l with
  | nil => simp [firstArb]
  | cons x l =>
    rw [firstArb]
    split
    · simp
    · split <;> simp

/-- The first of a list has no greater arbitration key than another. -/
theorem firstArb_spec {l : List TxItem} {x : TxItem} (h : firstArb l = some x) : x ∈ l ∧ ∀ y ∈ l, arbKey x.frame ≤ arbKey y.frame := by
  induction l generalizing x with
  | nil => cases h
  | cons z l ih =>
    rw [firstArb] at h
    split at h
    · next hnone =>
      obtain rfl := Option.some.inj h
      simp [firstArb_eq_none.mp hnone]
    · next y hy =>
      obtain ⟨hyl, hmin⟩ := ih hy
      obtain ⟨hlt, rfl⟩ | ⟨hle, rfl⟩ : (arbKey y.frame < arbKey z.frame ∧ y = x) ∨ (¬ arbKey y.frame < arbKey z.frame ∧ z = x) := by
        split at h <;> simp_all
      · exact ⟨List.mem_cons_of_mem _ hyl, List.forall_mem_cons.mpr ⟨hlt.le, hmin⟩⟩
      · exact ⟨List.mem_cons_self, List.forall_mem_cons.mpr ⟨le_rfl, fun w hw => (Nat.not_lt.mp hle).trans (hmin w hw)⟩⟩

/-- Of two offers the one from queue 1 goes first only with the lower key (log 20). -/
theorem State.txHead_cases {s : State} {n q : Nat} {x : TxItem} (h : s.txHead n = some (q, x)) :
    (q = 0 ∧ firstArb ((s.port n).q0.filter (fun y => y.held.isNone)) = some x) ∨
    (q = 1 ∧ (s.port n).q1.find? (fun y => y.held.isNone) = some x ∧
      ∀ z : TxItem, firstArb ((s.port n).q0.filter (fun y => y.held.isNone)) = some z → arbKey x.frame < arbKey z.frame) := by
  rw [State.txHead] at h
  split at h
  · cases h
  · next z hz hnone => cases h; exact .inl ⟨rfl, hz⟩
  · next y hnone hy => cases h; exact .inr ⟨rfl, hy, fun z hz => by simp [hnone] at hz⟩
  · next z y hz hy =>
    split at h
    · next hlt => cases h; exact .inr ⟨rfl, hy, fun z' hz' => by rwa [← Option.some.inj (hz.symm.trans hz')]⟩
    · cases h; exact .inl ⟨rfl, hz⟩

/-- Settles O25, by the queue that the offered frame comes from. -/
theorem portOffersTheBestFrame : Obligations.PortOffersTheBestFrame := by
  unfold Obligations.PortOffersTheBestFrame
  intro s n q x h
  have hoffered {y : TxItem} (hy : y ∈ (s.port n).q0) (hheld : y.held = none) : y ∈ (s.port n).q0.filter (fun y => y.held.isNone) :=
    List.mem_filter.mpr ⟨hy, by rw [hheld]; rfl⟩
  obtain ⟨rfl, hx⟩ | ⟨rfl, hx, hlt⟩ := State.txHead_cases h
  · obtain ⟨hmem, hmin⟩ := firstArb_spec hx
    obtain ⟨hq, hheld⟩ := List.mem_filter.mp hmem
    exact ⟨hq, Option.isNone_iff_eq_none.mp hheld, fun y hy hn => hmin y (hoffered hy hn), fun h01 => absurd h01 (by decide)⟩
  · have hless (y : TxItem) (hy : y ∈ (s.port n).q0) (hheld : y.held = none) : arbKey x.frame < arbKey y.frame := by
      rcases hz : firstArb ((s.port n).q0.filter (fun y => y.held.isNone)) with - | z
      · exact absurd (hoffered hy hheld) (by simp [firstArb_eq_none.mp hz])
      · exact (hlt z hz).trans_le ((firstArb_spec hz).2 y (hoffered hy hheld))
    exact ⟨List.mem_of_find?_eq_some hx, Option.isNone_iff_eq_none.mp (List.find?_some (p := fun y : TxItem => y.held.isNone) hx), fun y hy hn => (hless y hy hn).le,
      fun _ => ⟨hx, hless⟩⟩

end Sys2Proof.Machine
end

section
/-! PROOFS. A channel's duty and its turn-on edge (spec/07, R149, R150; spec/08, R170, R171). -/

namespace Sys2Proof.Machine

/-- Two fields of one register, whose places are known numbers. -/
theorem State.get_put_beside (s : State) (f g : Fld) (v : Nat) (ha : g.addr = f.addr)
    (hd : decide (f.lo ≤ f.hi + 1 ∧ f.hi ≤ 31 ∧ (f.hi < g.lo ∨ g.hi < f.lo)) = true) : (s.put f v).get g = s.get g := by
  obtain ⟨hlo, hhi, happart⟩ := of_decide_eq_true hd
  exact s.get_put_disjoint f g v ha hlo hhi happart

/-! ### CH_SET_DUTY -/

/-- The registers after CH_SET_DUTY. -/
def State.dutyStored (s : State) (n duty phase div pending : Nat) : State :=
  (((s.put (bankPwm_duty (n / 8) (n % 8)) duty).put (bankPwm_phase (n / 8) (n % 8)) phase).put (bankPwm_div (n / 8) (n % 8)) div).put
    (bankPwm_pending (n / 8) (n % 8)) pending

theorem State.setDuty_get (s : State) (n duty phase div : Nat) (f : Fld) :
    (s.setDuty n duty phase div).get f = (s.dutyStored n duty phase div (b2n (decide ((s.ch n).drive ≠ .off)))).get f :=
  State.modCh_get ..

section
variable (s : State) (n duty phase div pending : Nat)

theorem State.dutyStored_duty : (s.dutyStored n duty phase div pending).get (bankPwm_duty (n / 8) (n % 8)) = duty % 2 ^ 12 := by
  rw [State.dutyStored, State.get_put_beside _ (bankPwm_pending _ _) (bankPwm_duty _ _) _ rfl rfl,
    State.get_put_beside _ (bankPwm_div _ _) (bankPwm_duty _ _) _ rfl rfl,
    State.get_put_beside _ (bankPwm_phase _ _) (bankPwm_duty _ _) _ rfl rfl,
    State.get_put_self _ (bankPwm_duty _ _) _ (of_decide_eq_true rfl) (of_decide_eq_true rfl)]
  rfl

theorem State.dutyStored_phase : (s.dutyStored n duty phase div pending).get (bankPwm_phase (n / 8) (n % 8)) = phase % 2 ^ 8 := by
  rw [State.dutyStored, State.get_put_beside _ (bankPwm_pending _ _) (bankPwm_phase _ _) _ rfl rfl,
    State.get_put_beside _ (bankPwm_div _ _) (bankPwm_phase _ _) _ rfl rfl,
    State.get_put_self _ (bankPwm_phase _ _) _ (of_decide_eq_true rfl) (of_decide_eq_true rfl)]
  rfl

theorem State.dutyStored_div : (s.dutyStored n duty phase div pending).get (bankPwm_div (n / 8) (n % 8)) = div % 2 ^ 2 := by
  rw [State.dutyStored, State.get_put_beside _ (bankPwm_pending _ _) (bankPwm_div _ _) _ rfl rfl,
    State.get_put_self _ (bankPwm_div _ _) _ (of_decide_eq_true rfl) (of_decide_eq_true rfl)]
  rfl

theorem State.dutyStored_pending : (s.dutyStored n duty phase div pending).get (bankPwm_pending (n / 8) (n % 8)) = pending % 2 ^ 1 := by
  rw [State.dutyStored, State.get_put_self _ (bankPwm_pending _ _) _ (of_decide_eq_true rfl) (of_decide_eq_true rfl)]
  rfl

end

/-- Only the profile of the named channel may change beside the registers. -/
theorem State.setDuty_ch (s : State) (n duty phase div m : Nat) :
    ∃ p : Option Profile, (s.setDuty n duty phase div).ch m = { s.ch m with profile := p } := by
  unfold State.setDuty
  by_cases hm : m = n
  · subst hm
    exact ⟨_, by rw [State.ch_modCh_self, State.put_ch, State.put_ch, State.put_ch, State.put_ch]⟩
  · exact ⟨(s.ch m).profile, by rw [State.ch_modCh_ne _ _ hm, State.put_ch, State.put_ch, State.put_ch, State.put_ch]⟩

/-- Settles O17. -/
theorem setDutyStoresTheNextPeriod : Obligations.SetDutyStoresTheNextPeriod := by
  unfold Obligations.SetDutyStoresTheNextPeriod
  intro s n duty phase div _ hduty hphase hdiv
  refine ⟨?_, ?_, ?_, ?_, fun m => ?_⟩
  · rw [State.setDuty_get, State.dutyStored_duty]
    omega
  · rw [State.setDuty_get, State.dutyStored_phase]
    omega
  · rw [State.setDuty_get, State.dutyStored_div]
    omega
  · rw [State.setDuty_get, State.dutyStored_pending]
    by_cases h : (s.ch n).drive = .off <;> simp [h, b2n]
  · obtain ⟨p, hp⟩ := s.setDuty_ch n duty phase div m
    rw [hp]
    exact ⟨rfl, rfl, rfl, rfl⟩

/-! ### A turn-on edge -/

theorem State.applyPwm_inrushTime (s : State) (n : Nat) : (s.applyPwm n).inrushTime n = s.inrushTime n := by
  have hne : (chCfg_word n 3).addr ≠ (bankPwm_pending (n / 8) (n % 8)).addr := by
    simp only [chCfg_word, bankPwm_pending]
    omega
  rw [State.inrushTime, State.inrushTime, State.cfgw, State.cfgw, State.applyPwm, State.rd_put_ne _ _ _ hne]
  rfl

theorem State.applyPwm_ch_self (s : State) (n : Nat) : (s.applyPwm n).ch n = { s.ch n with
    duty := s.get (bankPwm_duty (n / 8) (n % 8)), phase := s.get (bankPwm_phase (n / 8) (n % 8)), div := s.get (bankPwm_div (n / 8) (n % 8)) } := by
  rw [State.applyPwm, State.put_ch, State.ch_modCh_self]

theorem State.applyPwm_ch_ne (s : State) {m n : Nat} (h : m ≠ n) : (s.applyPwm n).ch m = s.ch m := by
  rw [State.applyPwm, State.put_ch, State.ch_modCh_ne _ _ h]

theorem dutyDrive_ne_off (duty : Nat) : dutyDrive duty ≠ .off := by
  unfold dutyDrive
  split <;> decide

/-- R170: fully on at 0xFFF and at once, in PWM below and with the next period. -/
theorem dutyDrive_start (duty now next : Nat) : (if dutyDrive duty = .pwm then next else now) = if duty = 0xFFF then now else next := by
  unfold dutyDrive
  split <;> rfl

/-- Driving a channel that is off starts an edge. -/
theorem State.driveTo_edge {s : State} {n : Nat} {d : Drive} (hd : d ≠ .off) (hoff : (s.ch n).drive = .off) :
    s.driveTo n d = s.modCh n (fun c => { c.onEdge d (if d = .pwm then s.nextOn n else s.now) (s.inrushTime n) (decide (chClass n = .HB)) with
      edgeV := s.vbatCode (bankOf n) }) := by
  unfold State.driveTo State.modCh
  dsimp only
  rw [hoff, if_neg hd, if_neg hd, if_pos rfl]

/-- A turn-on outside a bridge: the stored duty is taken over and the channel driven at it. -/
theorem State.turnOn_eq {s : State} {n : Nat} (hb : s.bridged n = false) : s.turnOn n =
    ((s.applyPwm n).driveTo n (dutyDrive (s.get (bankPwm_duty (n / 8) (n % 8))))).modCh n (fun c => { c with cmdOn := true, lowSide := false }) := by
  rw [State.turnOn, if_neg (by simp [hb])]
  dsimp only
  rw [State.applyPwm_ch_self]
  rfl

section
variable {s : State} {n : Nat} (hb : s.bridged n = false) (hoff : (s.ch n).drive = .off)
include hb hoff

/-- What the turn-on edge of a channel does to the state. -/
theorem State.turnOn_edge : s.turnOn n = ((s.applyPwm n).modCh n (fun c => { c.onEdge (dutyDrive (s.get (bankPwm_duty (n / 8) (n % 8))))
    (if s.get (bankPwm_duty (n / 8) (n % 8)) = 0xFFF then s.now else (s.applyPwm n).nextOn n) (s.inrushTime n) (decide (chClass n = .HB)) with
      edgeV := (s.applyPwm n).vbatCode (bankOf n) })).modCh n (fun c => { c with cmdOn := true, lowSide := false }) := by
  have hoff' : ((s.applyPwm n).ch n).drive = .off := by rw [State.applyPwm_ch_self, hoff]
  have hnow : (s.applyPwm n).now = s.now := by rw [State.applyPwm, State.put_now, State.modCh_now]
  rw [State.turnOn_eq hb, State.driveTo_edge (dutyDrive_ne_off _) hoff', dutyDrive_start, s.applyPwm_inrushTime, hnow]

theorem State.turnOn_ch_self : (s.turnOn n).ch n = { ((s.applyPwm n).ch n).onEdge (dutyDrive (s.get (bankPwm_duty (n / 8) (n % 8))))
    (if s.get (bankPwm_duty (n / 8) (n % 8)) = 0xFFF then s.now else (s.applyPwm n).nextOn n) (s.inrushTime n) (decide (chClass n = .HB)) with
      edgeV := (s.applyPwm n).vbatCode (bankOf n), cmdOn := true, lowSide := false } := by
  rw [State.turnOn_edge hb hoff, State.ch_modCh_self, State.ch_modCh_self]

theorem State.turnOn_ch_ne {m : Nat} (h : m ≠ n) : (s.turnOn n).ch m = s.ch m := by
  rw [State.turnOn_edge hb hoff, State.ch_modCh_ne _ _ h, State.ch_modCh_ne _ _ h, State.applyPwm_ch_ne _ h]

theorem State.turnOn_grants : (s.turnOn n).grants = s.grants := by
  rw [State.turnOn_edge hb hoff, State.modCh_grants, State.modCh_grants, State.applyPwm, State.put_grants, State.modCh_grants]

theorem State.turnOn_bridges : (s.turnOn n).bridges = s.bridges := by
  rw [State.turnOn_edge hb hoff, State.modCh_bridges, State.modCh_bridges, State.applyPwm, State.put_bridges, State.modCh_bridges]

end

/-- Settles O18: the channel after the edge is that of `Chan.onEdge`. -/
theorem turnOnEdge : Obligations.TurnOnEdge := by
  unfold Obligations.TurnOnEdge
  intro s n hn hb hoff t c e w
  have hc := State.turnOn_ch_self hb hoff
  have hduty : ((s.applyPwm n).ch n).duty = s.get (bankPwm_duty (n / 8) (n % 8)) := by rw [State.applyPwm_ch_self]
  have hw : (if (((s.applyPwm n).ch n).cooling && ((s.applyPwm n).ch n).tripped) = true then ((s.applyPwm n).ch n).inrTime else s.inrushTime n) = w := by
    simp only [State.applyPwm_ch_self, Bool.and_eq_true]
    rfl
  have hend : c.inrushEnd = e + ms w := by rw [← hw]; exact congrArg Chan.inrushEnd hc
  have hinr : c.inrush = (decide (w ≠ 0) && !decide (chClass n = .HB)) := by rw [← hw]; exact congrArg Chan.inrush hc
  refine ⟨congrArg Chan.drive hc, (congrArg Chan.duty hc).trans hduty, congrArg Chan.cmdOn hc, congrArg Chan.edgeAt hc, hend, ?_,
    congrArg Chan.cooling hc, congrArg Chan.limiting hc, fun m => State.turnOn_ch_ne hb hoff, State.turnOn_grants hb hoff, State.turnOn_bridges hb hoff⟩
  rw [hinr, Bool.and_eq_true, Bool.not_eq_true', decide_eq_true_eq, decide_eq_false_iff_not]

end Sys2Proof.Machine
end

section
/-! PROOFS. What a trip does to a channel outside a bridge (spec/07, R158 to R160). -/

namespace Sys2Proof.Machine

/-! ### Updates of one channel -/

/-- `t` is `s` with channel `n` changed at most. -/
structure ChanOnly (n : Nat) (s t : State) : Prop where
  rest : t = { s with chans := t.chans }
  ne : ∀ m : Nat, m ≠ n → t.ch m = s.ch m

namespace ChanOnly

variable {n : Nat} {s t u : State}

theorem refl (n : Nat) (s : State) : ChanOnly n s s := ⟨rfl, fun _ _ => rfl⟩

theorem trans (hst : ChanOnly n s t) (htu : ChanOnly n t u) : ChanOnly n s u :=
  ⟨by rw [htu.rest, hst.rest], fun m hm => (htu.ne m hm).trans (hst.ne m hm)⟩

theorem modCh (n : Nat) (s : State) (f : Chan → Chan) : ChanOnly n s (s.modCh n f) := ⟨rfl, fun _ hm => State.ch_modCh_ne _ _ hm⟩

/-- A reading that does not look at the channels. -/
theorem eq (h : ChanOnly n s t) {α : Type} (g : State → α) (hg : ∀ (x : State) (c : Sparse Chan), g { x with chans := c } = g x) : g t = g s := by
  rw [h.rest, hg]

theorem bridged (h : ChanOnly n s t) (k : Nat) : t.bridged k = s.bridged k := h.eq (fun x => x.bridged k) fun _ _ => rfl

theorem pairOf (h : ChanOnly n s t) (k : Nat) : t.pairOf k = s.pairOf k := by rw [State.pairOf, State.pairOf, h.bridged]

end ChanOnly

theorem State.pairOf_alone {s : State} {n : Nat} (hb : s.bridged n = false) : s.pairOf n = [n] := by rw [State.pairOf, hb]; rfl

theorem State.head_alone {s : State} {n : Nat} (hb : s.bridged n = false) : s.head n = n := by rw [State.head, hb]; rfl

/-! ### The output goes off -/

/-- A channel whose output has gone off. -/
def Chan.wentOff (c : Chan) (now : Nat) (v : Int) : Chan :=
  if c.drive = .off then c
  else { c.afresh with drive := .off, offAt := now, inrush := false, edgeV := v, restarts := c.restarts.filter (fun t => decide (t ≤ now)) }

theorem State.outOff_alone {s : State} {n : Nat} (hb : s.bridged n = false) :
    s.outOff n = s.modCh n (fun c => c.wentOff s.now (s.vbatCode (bankOf n))) := by
  rw [State.outOff, if_neg (by simp [hb]), State.driveTo]
  dsimp only
  congr 1
  funext c
  by_cases hoff : c.drive = .off
  · simp [Chan.wentOff, hoff]
  · simp [Chan.wentOff, hoff, Ne.symm hoff]

/-! ### What runs on the channel ends -/

/-- A channel whose work a trip has ended: a pulse takes its command with it, and a latch its profile (R160). -/
def Chan.workEnded (c : Chan) (latch : Bool) : Chan :=
  { c with
    pulse := none, profile := if latch then none else c.profile
    cmdOn := c.cmdOn && c.pulse.isNone, lowSide := c.lowSide && c.pulse.isNone }

theorem Chan.set_pulse_none {c : Chan} (h : c.pulse = none) : { c with pulse := none } = c := by
  rw [← h]

section
variable {s : State} {n : Nat}

theorem State.endPulse_jobless (h : ∀ p : Pulse, (s.ch n).pulse = some p → p.job = none) (w : Nat) (st : Byte) :
    ChanOnly n s (s.endPulse n w st) ∧ (s.endPulse n w st).ch n = { s.ch n with pulse := none } := by
  unfold State.endPulse
  rcases hp : (s.ch n).pulse with - | p
  · exact ⟨ChanOnly.refl n s, (Chan.set_pulse_none hp).symm⟩
  · simp only [h p hp]
    exact ⟨ChanOnly.modCh n s _, State.ch_modCh_self ..⟩

theorem State.cutPulse_jobless (h : ∀ p : Pulse, (s.ch n).pulse = some p → p.job = none) (st : Byte) : s.cutPulse n st = s.endPulse n 0 st := by
  unfold State.cutPulse
  split
  · next hp => cases h _ hp
  · rfl

theorem State.profileDone_jobless (h : ∀ p : Profile, (s.ch n).profile = some p → p.job = none) (code : Nat) : s.profileDone n code = s := by
  unfold State.profileDone
  split
  · next hp => cases h _ hp
  · rfl

theorem State.clearCmd_alone (hb : s.bridged n = false) : s.clearCmd n = s.modCh n (fun x => { x with cmdOn := false, lowSide := false }) := by
  rw [State.clearCmd, State.pairOf_alone hb]
  rfl

theorem State.tripWork_jobless (hb : s.bridged n = false) (hpulse : ∀ p : Pulse, (s.ch n).pulse = some p → p.job = none)
    (hprof : ∀ p : Profile, (s.ch n).profile = some p → p.job = none) (latch : Bool) :
    ChanOnly n s (s.tripWork n latch) ∧ (s.tripWork n latch).ch n = (s.ch n).workEnded latch := by
  obtain ⟨honly, hch⟩ := State.endPulse_jobless hpulse 0 0
  have hcut : (s.cutPulse n).profileDone n 3 = s.endPulse n 0 := by
    rw [State.cutPulse_jobless hpulse, State.profileDone_jobless]
    rw [hch]
    exact hprof
  have hb' : (s.endPulse n 0).bridged n = false := (honly.bridged n).trans hb
  unfold State.tripWork
  simp only [State.pairOf_alone hb, hb, List.foldl_cons, List.foldl_nil, List.any_cons, List.any_nil, Bool.or_false, Bool.false_and, hcut]
  generalize s.endPulse n 0 = t at *
  cases hp : (s.ch n).pulse <;> cases latch <;>
    simp [hp, Chan.workEnded, hch, State.clearCmd_alone hb', honly.trans (ChanOnly.modCh ..), honly, honly.trans ((ChanOnly.modCh ..).trans (ChanOnly.modCh ..))]

end

/-! ### A trip -/

/-- The registers that a trip writes: current and voltage at the trip, its time, and the counters. -/
def State.tripNoted (s : State) (n cause i v : Nat) : State :=
  let t := ((s.put (chTrip_iTrip n) i).put (chTrip_voutTrip n) v).put (chTriptime_time n) s.devTime
  let t := (t.inc (bankProtstat_trips (bankOf n))).inc (if cause = 1 then chTripcnt_shorts n else chTripcnt_other n)
  if cause = 5 then t.inc (chI2t_trips n) else t

/-- A channel with a trip's marks. -/
def Chan.tripMarked (c : Chan) (cause coolEnd : Nat) (latch waits : Bool) : Chan :=
  { c with
    cause := cause, tripped := true, coolEnd := coolEnd, limiting := false
    latched := latch, cooling := !latch && waits, testOk := c.testOk && cause != 7 }

/-- A channel's record after a restart trip. -/
def Chan.afterTrip (c : Chan) (now : Nat) (v : Int) (cause coolEnd : Nat) (latch : Bool) : Chan :=
  let d := ({ c.wentOff now v with cooling := false } : Chan).workEnded latch
  d.tripMarked cause coolEnd latch (d.cmdOn || d.lowSide)

/-- `t` is `s` with registers changed at most. -/
def RegsOnly (s t : State) : Prop := t = { s with regs := t.regs }

namespace RegsOnly

theorem put (s : State) (f : Fld) (v : Nat) : RegsOnly s (s.put f v) := rfl
theorem inc (s : State) (f : Fld) : RegsOnly s (s.inc f) := rfl

variable {s t u : State}

theorem trans (hst : RegsOnly s t) (htu : RegsOnly t u) : RegsOnly s u := by
  rw [RegsOnly, htu, hst]

/-- A reading that does not look at the registers. -/
theorem eq (h : RegsOnly s t) {α : Type} (g : State → α) (hg : ∀ (x : State) (r : Sparse Word), g { x with regs := r } = g x) : g t = g s := by
  rw [h, hg]

end RegsOnly

section
variable (s : State) (n cause i v : Nat)

theorem State.regsOnly_tripNoted : RegsOnly s (s.tripNoted n cause i v) := by
  have hcount : RegsOnly s ((((s.put (chTrip_iTrip n) i).put (chTrip_voutTrip n) v).put (chTriptime_time n) s.devTime).inc
      (bankProtstat_trips (bankOf n))) :=
    (((RegsOnly.put s _ _).trans (RegsOnly.put _ _ _)).trans (RegsOnly.put _ _ _)).trans (RegsOnly.inc _ _)
  unfold State.tripNoted
  dsimp only
  split
  · exact (hcount.trans (RegsOnly.inc _ _)).trans (RegsOnly.inc _ _)
  · exact hcount.trans (RegsOnly.inc _ _)

theorem State.rd_inc_ne (f : Fld) {b : Nat} (h : b ≠ f.addr) : (s.inc f).rd b = s.rd b := s.rd_put_ne _ _ h

/-- The registers of a trip, by address. -/
def tripWrites (n a : Nat) : Prop :=
  a = (chTrip_iTrip n).addr ∨ a = (chTriptime_time n).addr ∨ a = (bankProtstat_trips (bankOf n)).addr ∨ a = (chTripcnt_other n).addr ∨
    a = (chI2t_trips n).addr

theorem State.tripNoted_rd {a : Nat} (ha : ¬ tripWrites n a) : (s.tripNoted n cause i v).rd a = s.rd a := by
  simp only [tripWrites, not_or] at ha
  obtain ⟨htrip, htime, hbank, hcnt, hi2t⟩ := ha
  have hcnt' : a ≠ (if cause = 1 then chTripcnt_shorts n else chTripcnt_other n).addr := by split <;> exact hcnt
  have hrest (u : State) : (((((u.put (chTrip_iTrip n) i).put (chTrip_voutTrip n) v).put (chTriptime_time n) s.devTime).inc
      (bankProtstat_trips (bankOf n))).inc (if cause = 1 then chTripcnt_shorts n else chTripcnt_other n)).rd a = u.rd a := by
    rw [State.rd_inc_ne _ _ hcnt', State.rd_inc_ne _ _ hbank, State.rd_put_ne _ _ _ htime,
      State.rd_put_ne _ (chTrip_voutTrip n) _ htrip, State.rd_put_ne _ _ _ htrip]
  unfold State.tripNoted
  dsimp only
  split
  · rw [State.rd_inc_ne _ _ hi2t, hrest]
  · exact hrest s

theorem State.tripNoted_bridged (k : Nat) : (s.tripNoted n cause i v).bridged k = s.bridged k := by
  rw [State.bridged, State.bridged, State.tripNoted_rd]
  simp only [tripWrites, chTrip_iTrip, chTriptime_time, bankProtstat_trips, chTripcnt_other, chI2t_trips, bankOf]
  omega

/-- The current and the voltage at the trip stand in their own register. -/
theorem State.tripNoted_get (g : Fld) (hg : g.addr = (chTrip_iTrip n).addr) :
    (s.tripNoted n cause i v).get g = ((s.put (chTrip_iTrip n) i).put (chTrip_voutTrip n) v).get g := by
  have htime : g.addr ≠ (chTriptime_time n).addr := by rw [hg]; simp only [chTrip_iTrip, chTriptime_time]; omega
  have hbank : g.addr ≠ (bankProtstat_trips (bankOf n)).addr := by rw [hg]; simp only [chTrip_iTrip, bankProtstat_trips, bankOf]; omega
  have hcnt : g.addr ≠ (if cause = 1 then chTripcnt_shorts n else chTripcnt_other n).addr := by
    rw [hg]; split <;> (simp only [chTrip_iTrip, chTripcnt_shorts, chTripcnt_other]; omega)
  have hi2t : g.addr ≠ (chI2t_trips n).addr := by rw [hg]; simp only [chTrip_iTrip, chI2t_trips]; omega
  unfold State.tripNoted
  dsimp only
  split
  · rw [State.get_inc_ne _ hi2t, State.get_inc_ne _ hcnt, State.get_inc_ne _ hbank, State.get_put_ne _ _ htime]
  · rw [State.get_inc_ne _ hcnt, State.get_inc_ne _ hbank, State.get_put_ne _ _ htime]

theorem State.tripNoted_iTrip : (s.tripNoted n cause i v).get (chTrip_iTrip n) = i % 65536 := by
  rw [State.tripNoted_get s n cause i v (chTrip_iTrip n) rfl, State.get_put_beside _ (chTrip_voutTrip n) (chTrip_iTrip n) _ rfl rfl,
    State.get_put_self _ (chTrip_iTrip n) _ (of_decide_eq_true rfl) (of_decide_eq_true rfl)]
  rfl

theorem State.tripNoted_voutTrip : (s.tripNoted n cause i v).get (chTrip_voutTrip n) = v % 65536 := by
  rw [State.tripNoted_get s n cause i v (chTrip_voutTrip n) rfl,
    State.get_put_self _ (chTrip_voutTrip n) _ (of_decide_eq_true rfl) (of_decide_eq_true rfl)]
  rfl

end

theorem State.releaseCh_none {s : State} {n : Nat} (hb : s.bridged n = false) (hgrant : ∀ g ∈ s.grants, g.ch ≠ n) : s.releaseCh n = s := by
  rw [State.releaseCh, State.release, if_neg]
  simp only [State.pairOf_alone hb, List.mem_singleton, List.any_eq_true, decide_eq_true_eq, not_exists, not_and]
  exact hgrant

theorem State.wanted_alone {s : State} {n : Nat} (hb : s.bridged n = false) : s.wanted n = ((s.ch n).cmdOn || (s.ch n).lowSide) := by
  simp [State.wanted, State.pairOf_alone hb]

theorem State.loseEdge_none {s : State} {n : Nat} (hb : s.bridged n = false) (hjob : (s.ch n).edgeJob = none) (st : Option Byte) :
    s.loseEdge n st = s := by
  rw [State.loseEdge, State.head_alone hb, hjob]

theorem Chan.wentOff_pulse (c : Chan) (now : Nat) (v : Int) : (c.wentOff now v).pulse = c.pulse := by unfold Chan.wentOff; split <;> rfl
theorem Chan.wentOff_profile (c : Chan) (now : Nat) (v : Int) : (c.wentOff now v).profile = c.profile := by unfold Chan.wentOff; split <;> rfl

/-- What a trip leaves of a channel, before its marks and reports. -/
def State.tripEnded (s : State) (n cause i v : Nat) (latch : Bool) : State :=
  (((s.tripNoted n cause i v).outOff n).modCh n (fun x => { x with cooling := false })).tripWork n latch

section
variable {s : State} {n cause : Nat} (kind i v more : Nat) (hb : s.bridged n = false) 
include hb

theorem State.tripEnded_alone (hpulse : ∀ p : Pulse, (s.ch n).pulse = some p → p.job = none)
    (hprof : ∀ p : Profile, (s.ch n).profile = some p → p.job = none) (latch : Bool) :
    ChanOnly n (s.tripNoted n cause i v) (s.tripEnded n cause i v latch) ∧ (s.tripEnded n cause i v latch).ch n =
      ({ (s.ch n).wentOff s.now ((s.tripNoted n cause i v).vbatCode (bankOf n)) with cooling := false } : Chan).workEnded latch := by
  have hregs := s.regsOnly_tripNoted n cause i v
  have hb0 : (s.tripNoted n cause i v).bridged n = false := (s.tripNoted_bridged n cause i v n).trans hb
  have hch0 : (s.tripNoted n cause i v).ch n = s.ch n := hregs.eq (fun x => x.ch n) (fun _ _ => rfl)
  have hnow : (s.tripNoted n cause i v).now = s.now := hregs.eq State.now (fun _ _ => rfl)
  unfold State.tripEnded
  generalize s.tripNoted n cause i v = t at *
  have honly : ChanOnly n t ((t.outOff n).modCh n (fun x => { x with cooling := false })) := by
    rw [State.outOff_alone hb0]
    exact (ChanOnly.modCh ..).trans (ChanOnly.modCh ..)
  have hch : ((t.outOff n).modCh n (fun x => { x with cooling := false })).ch n =
      { (s.ch n).wentOff s.now (t.vbatCode (bankOf n)) with cooling := false } := by
    rw [State.outOff_alone hb0, State.ch_modCh_self, State.ch_modCh_self, hch0, hnow]
  obtain ⟨hwork, hchWork⟩ := State.tripWork_jobless ((honly.bridged n).trans hb0) (by rw [hch]; simpa only [Chan.wentOff_pulse] using hpulse)
    (by rw [hch]; simpa only [Chan.wentOff_profile] using hprof) latch
  exact ⟨honly.trans hwork, by rw [hchWork, hch]⟩

theorem State.tripCore_counted (hc : cause ≤ 5) (hjob : (s.ch n).edgeJob = none) :
    s.tripCore n cause kind i v more =
      let latch := decide (s.restartMax n = s.restartN n)
      let t := s.tripEnded n cause i v latch
      let t := t.modCh n (fun x => x.tripMarked cause (s.now + ms (8 * 2 ^ min (s.restartN n) 7)) latch ((t.ch n).cooling || t.wanted n))
      let t := (if latch then t.unask n else t).chFault n kind more
      (if latch then t.chFault n 0x07 else t).releaseCh n := by
  unfold State.tripCore State.tripEnded State.tripNoted Chan.tripMarked
  simp only [State.loseEdge_none hb hjob, State.head_alone hb, State.pairOf_alone hb, decide_eq_true hc, Bool.not_true, Bool.false_or,
    Bool.true_and, List.foldl_cons, List.foldl_nil]

/-- What a trip reports. -/
def tripReports (n kind more : Nat) (latch : Bool) : List Word := faultMsg n kind (n + more) :: if latch = true then [faultMsg n 0x07 n] else []

omit hb in
theorem State.reports_of_trip (u : State) (latch : Bool) :
    (let t := (if latch = true then u.unask n else u).chFault n kind more
     if latch = true then t.chFault n 0x07 else t) =
      { u with line := (if latch = true then u.unask n else u).line, inbox := u.inbox ++ tripReports n kind more latch } := by
  cases latch
  · rfl
  · simp [State.chFault, State.fault_eq, tripReports, State.unask]

/-- A trip by a restart cause, without a job on the channel and without a grant: its registers and its record, and the reports. -/
theorem State.tripCore_alone (hc : cause ≤ 5) (hgrant : ∀ g ∈ s.grants, g.ch ≠ n) (hjob : (s.ch n).edgeJob = none)
    (hpulse : ∀ p : Pulse, (s.ch n).pulse = some p → p.job = none) (hprof : ∀ p : Profile, (s.ch n).profile = some p → p.job = none) :
    let latch := decide (s.restartMax n = s.restartN n)
    let noted := s.tripNoted n cause i v
    ∃ u : State, ChanOnly n noted u ∧
      u.ch n = (s.ch n).afterTrip s.now (noted.vbatCode (bankOf n)) cause (s.now + ms (8 * 2 ^ min (s.restartN n) 7)) latch ∧
      s.tripCore n cause kind i v more =
        { u with line := (if latch = true then u.unask n else u).line, inbox := u.inbox ++ tripReports n kind more latch } := by
  intro latch noted
  obtain ⟨honly, hch⟩ := State.tripEnded_alone (cause := cause) i v hb hpulse hprof latch
  have hb' := (honly.bridged n).trans ((s.tripNoted_bridged n cause i v n).trans hb)
  have hwanted := State.wanted_alone hb'
  have hcool : ((s.tripEnded n cause i v latch).ch n).cooling = false := congrArg Chan.cooling hch
  have hgrants : (s.tripEnded n cause i v latch).grants = s.grants :=
    (honly.eq State.grants (fun _ _ => rfl)).trans ((s.regsOnly_tripNoted n cause i v).eq State.grants (fun _ _ => rfl))
  rw [State.tripCore_counted kind i v more hb hc hjob]
  refine ⟨(s.tripEnded n cause i v latch).modCh n (fun x => x.tripMarked cause (s.now + ms (8 * 2 ^ min (s.restartN n) 7)) latch
    (((s.tripEnded n cause i v latch).ch n).cooling || (s.tripEnded n cause i v latch).wanted n)), honly.trans (ChanOnly.modCh ..), ?_, ?_⟩
  · rw [State.ch_modCh_self, hwanted, hcool, hch]
    rfl
  · refine Eq.trans (congrArg (fun x => State.releaseCh x n) (State.reports_of_trip kind more _ latch)) (State.releaseCh_none ?_ ?_)
    · exact hb'
    · exact fun g hg => hgrant g (hgrants ▸ hg)

end

section
variable (c : Chan) (now : Nat) (v : Int) (cause coolEnd : Nat) (latch : Bool)

theorem Chan.wentOff_drive : (c.wentOff now v).drive = .off := by
  unfold Chan.wentOff
  split
  · assumption
  · rfl

theorem Chan.wentOff_cmdOn : (c.wentOff now v).cmdOn = c.cmdOn := by unfold Chan.wentOff; split <;> rfl
theorem Chan.wentOff_lowSide : (c.wentOff now v).lowSide = c.lowSide := by unfold Chan.wentOff; split <;> rfl
theorem Chan.wentOff_theta : (c.wentOff now v).theta = c.theta := by unfold Chan.wentOff; split <;> rfl

theorem Chan.afterTrip_drive : (c.afterTrip now v cause coolEnd latch).drive = .off := Chan.wentOff_drive c now v
theorem Chan.afterTrip_theta : (c.afterTrip now v cause coolEnd latch).theta = c.theta := Chan.wentOff_theta c now v

theorem Chan.afterTrip_cmdOn : (c.afterTrip now v cause coolEnd latch).cmdOn = (c.cmdOn && c.pulse.isNone) := by
  rw [← Chan.wentOff_cmdOn c now v, ← Chan.wentOff_pulse c now v]
  rfl

theorem Chan.afterTrip_cooling : (c.afterTrip now v cause coolEnd latch).cooling = (!latch && ((c.cmdOn || c.lowSide) && c.pulse.isNone)) := by
  rw [← Chan.wentOff_cmdOn c now v, ← Chan.wentOff_lowSide c now v, ← Chan.wentOff_pulse c now v, Bool.and_or_distrib_right]
  rfl

end

/-- A withdrawn restart stands in the line no more. -/
theorem State.unask_line_ne (s : State) {n : Nat} (hb : s.bridged n = false) : ∀ r ∈ (s.unask n).line, r.src ≠ .restart n ∧ r.src ≠ .uv n := by
  intro r hr
  simp only [State.unask, State.pairOf_alone hb, List.mem_singleton, List.mem_filter] at hr
  constructor <;> (intro hsrc; simp [hsrc] at hr)

/-- Settles O55. -/
theorem tripLatchesOrCools : Obligations.TripLatchesOrCools := by
  unfold Obligations.TripLatchesOrCools
  intro s n cause kind i v more hn hb hc1 hc5 hgrant hjob hpulse hprof t c latch
  obtain ⟨u, honly, hch, heq⟩ := State.tripCore_alone kind i v more hb hc5 hgrant hjob hpulse hprof
  have hregs := s.regsOnly_tripNoted n cause i v
  have hb' := (honly.bridged n).trans ((s.tripNoted_bridged n cause i v n).trans hb)
  have hget (f : Fld) : t.get f = (s.tripNoted n cause i v).get f :=
    (congrArg (fun x : State => x.get f) heq).trans (honly.eq (fun x => x.get f) (fun _ _ => rfl))
  have hinbox : u.inbox = s.inbox := (honly.eq State.inbox (fun _ _ => rfl)).trans (hregs.eq State.inbox (fun _ _ => rfl))
  have hline : u.line = s.line := (honly.eq State.line (fun _ _ => rfl)).trans (hregs.eq State.line (fun _ _ => rfl))
  have hc : c = (s.ch n).afterTrip s.now ((s.tripNoted n cause i v).vbatCode (bankOf n)) cause (s.now + ms (8 * 2 ^ min (s.restartN n) 7)) latch :=
    Eq.trans (congrArg (fun x : State => x.ch n) heq) hch
  have htline : t.line = (if latch = true then u.unask n else u).line := (congrArg State.line heq).trans rfl
  refine ⟨?_, ?_, ?_, ?_, ?_, ?_, ?_, ?_, ?_, ?_, ?_, ?_, ?_, ?_, ?_, ?_⟩
  · rw [hc, Chan.afterTrip_drive]
  · rw [hc]; rfl
  · rw [hc]; rfl
  · rw [hc]; rfl
  · rw [hc]; rfl
  · intro hnone
    rw [hc, Chan.afterTrip_cmdOn, Chan.afterTrip_cooling]
    simp [hnone]
  · intro hsome
    rw [hc, Chan.afterTrip_cmdOn, Chan.afterTrip_cooling]
    simp [← Option.not_isSome, hsome]
  · rw [hc, Chan.afterTrip_theta]
  · rw [List.append_assoc, ← hinbox]
    exact congrArg State.inbox heq
  · rw [hget, State.tripNoted_iTrip]
  · rw [hget, State.tripNoted_voutTrip]
  · intro m hm
    exact (congrArg (fun x : State => x.ch m) heq).trans ((honly.ne m hm).trans (hregs.eq (fun x => x.ch m) (fun _ _ => rfl)))
  · intro hl r hr
    rw [htline, if_pos hl] at hr
    exact u.unask_line_ne hb' r hr
  · intro hl
    rw [htline, hl, ← hline]
    rfl
  · exact (congrArg State.grants heq).trans ((honly.eq State.grants (fun _ _ => rfl)).trans (hregs.eq State.grants (fun _ _ => rfl)))
  · exact (congrArg State.bridges heq).trans ((honly.eq State.bridges (fun _ _ => rfl)).trans (hregs.eq State.bridges (fun _ _ => rfl)))

end Sys2Proof.Machine
end

section
/-! PROOFS. Scree's log: how a report merges into an entry or adds one (spec/17, R367, R379). -/

namespace Sys2Proof.Machine

theorem HubBlind.log : HubBlind State.log := ⟨fun _ _ _ => rfl, fun _ _ _ => rfl, fun _ _ => rfl, fun _ _ => rfl⟩

theorem State.faultEvent_log (s : State) (e : FEntry) (code : Nat) (unlogged : Bool) : (s.faultEvent e code unlogged).log = s.log := by
  unfold State.faultEvent
  split
  · rfl
  · exact HubBlind.log.post s _ _ _ _ _ _ _

theorem State.beginTest_log (s : State) (n : Nat) : (s.beginTest n).log = s.log := by
  unfold State.beginTest
  split <;> rfl

/-! ### A report of a fault that is logged -/

theorem State.entryOf_some {s : State} {m : Word} {e : FEntry} (h : s.entryOf m = some e) : e ∈ s.log ∧ e.msg = m := by
  have hp := List.find?_some h
  simp only [Bool.and_eq_true, beq_iff_eq] at hp
  exact ⟨List.mem_of_find?_eq_some h, hp.1⟩

theorem State.mem_setEntry_of_ne {s : State} {e x : FEntry} (hx : x ∈ s.log) (hne : x.slot ≠ e.slot) : x ∈ (s.setEntry e).log :=
  List.mem_map.mpr ⟨x, hx, by rw [if_neg (by simpa using hne)]⟩

theorem State.mem_setEntry_self {s : State} {e x : FEntry} (hx : x ∈ s.log) (heq : x.slot = e.slot) : e ∈ (s.setEntry e).log :=
  List.mem_map.mpr ⟨x, hx, by rw [if_pos (by simpa using heq)]⟩

/-- An entry with one more report. -/
def State.reported (s : State) (e : FEntry) : FEntry :=
  let t := s.inc screeCnt_reports
  { e with occ := satInc 255 e.occ, lastAt := t.now, last := t.time32, again := e.again || e.nextOn.any (fun on => decide (t.now ≤ on + us 100)) }

theorem State.accept_logged {s : State} {m : Word} {e : FEntry} (h : s.entryOf m = some e) :
    s.accept m = (s.inc screeCnt_reports).setEntry (s.reported e) := by
  have h' : (s.inc screeCnt_reports).entryOf m = some e := h
  unfold State.accept
  simp only [h']
  rfl

/-! ### The first report of a fault -/

/-- A number below a bound that a shorter list does not take. -/
theorem exists_free_slot {l : List FEntry} {b : Nat} (h : l.length < b) : ∃ k ∈ List.range b, l.any (fun e => e.slot == k) = false := by
  by_contra hfull
  push Not at hfull
  have hsub : List.range b ⊆ l.map FEntry.slot := by
    intro k hk
    obtain ⟨e, he, hslot⟩ := List.any_eq_true.mp (Bool.eq_true_of_not_eq_false (hfull k hk))
    exact List.mem_map.mpr ⟨e, he, by simpa using hslot⟩
  have := (List.nodup_range.subperm hsub).length_le
  simp only [List.length_range, List.length_map] at this
  omega

theorem State.freeEntry_inc (s : State) (f : Fld) : (s.inc f).freeEntry = s.freeEntry := by
  unfold State.freeEntry
  rw [State.inc_log]

theorem State.freeEntry_of_room {s : State} (h : s.log.length < 512) : ∃ n : Nat, s.freeEntry = some n ∧ ∀ x ∈ s.log, x.slot ≠ n := by
  obtain ⟨k, hk, hfree⟩ := exists_free_slot h
  rcases hfind : (List.range 512).find? (fun k => !s.log.any (fun e => e.slot == k)) with - | n
  · have := List.find?_eq_none.mp hfind k hk
    simp [hfree] at this
  · refine ⟨n, by unfold State.freeEntry; simp only [hfind], fun x hx heq => ?_⟩
    have := List.find?_some hfind
    simp only [Bool.not_eq_true', List.any_eq_false, beq_iff_eq] at this
    exact this x hx heq

theorem State.accept_first_log {s : State} {m : Word} {n : Nat} (hnew : s.entryOf m = none) (hfree : s.freeEntry = some n)
    (hslot : ∀ x ∈ s.log, x.slot ≠ n) (hr : (((s.inc screeCnt_reports).inc (screeSum_entries (kindOf m))).newEntry m n).reaction ≠ 3) :
    (s.accept m).log = s.log ++ [((s.inc screeCnt_reports).inc (screeSum_entries (kindOf m))).newEntry m n] := by
  have hnew' : (s.inc screeCnt_reports).entryOf m = none := hnew
  have hfree' : ((s.inc screeCnt_reports).inc (screeSum_entries (kindOf m))).freeEntry = some n := by rw [State.freeEntry_inc, State.freeEntry_inc, hfree]
  have hkeep : s.log.filter (fun x => x.slot != n) = s.log := List.filter_eq_self.mpr fun x hx => by simpa using hslot x hx
  unfold State.accept
  simp only [hnew', hfree', if_neg hr]
  split <;> simp only [State.beginTest_log, State.faultEvent_log, State.inc_log, hkeep]

theorem State.counted_reaction (s : State) (m : Word) :
    ((s.inc screeCnt_reports).inc (screeSum_entries (kindOf m))).get (screeKind_reaction (kindOf m)) = s.get (screeKind_reaction (kindOf m)) := by
  have hk : kindOf m < 64 := Nat.mod_lt _ (by decide)
  rw [State.get_inc_ne, State.get_inc_ne]
  · simp only [screeKind_reaction, screeCnt_reports]; omega
  · simp only [screeKind_reaction, screeSum_entries]; omega

/-- Settles O38. -/
theorem reportsMergeIntoOneEntry : Obligations.ReportsMergeIntoOneEntry := by
  unfold Obligations.ReportsMergeIntoOneEntry
  refine fun s m => ⟨fun e he => ?_, fun hnew hr hroom => ?_⟩
  · obtain ⟨hmem, hmsg⟩ := State.entryOf_some he
    rw [State.accept_logged he]
    exact ⟨List.length_map _, fun x hx hne => State.mem_setEntry_of_ne hx hne, s.reported e, State.mem_setEntry_self hmem rfl, rfl, hmsg, rfl, rfl⟩
  · obtain ⟨n, hfree, hslot⟩ := State.freeEntry_of_room hroom
    have hr' : (((s.inc screeCnt_reports).inc (screeSum_entries (kindOf m))).newEntry m n).reaction ≠ 3 := by
      simp only [State.newEntry, State.counted_reaction]
      omega
    refine ⟨by rw [hfree]; rfl, _, State.accept_first_log hnew hfree hslot hr', rfl, hslot, fun hret => ?_, fun hret => ⟨?_, ?_⟩⟩
    · simp [State.newEntry, hret]
    · have h3 : s.get (screeKind_reaction (kindOf m)) ≠ 3 := by omega
      simp [State.newEntry, hret, State.counted_reaction, h3]
    · simp [State.newEntry, hret]

end Sys2Proof.Machine
end

section
/-! PROOFS. The images that run: what reaches flash, and what a confirmation does (spec/19, R423 to R442). -/

namespace Sys2Proof.Machine

/-! ### What leaves flash as it is -/

section
variable (s : State)

@[simp] theorem State.post_flash (dest : List Nat) (cls code src arg data : Nat) (cont : List Word) :
    (s.post dest cls code src arg data cont).flash = s.flash := HubBlind.flash.post s _ _ _ _ _ _ _

@[simp] theorem State.complete_flash (h : Hdr) (opc : Nat) (st : Byte) (r : Nat) (cont : List Word) (resync : Bool) (time : Option Word)
    (slot : Option Nat) : (s.complete h opc st r cont resync time slot).flash = s.flash := by
  unfold State.complete
  dsimp only
  split
  · exact State.eq_of_noHosts State.flash (fun _ => rfl) (s.pushCompl_noHosts h _)
  · rfl

@[simp] theorem State.udsSend_flash (b : List Byte) : (s.udsSend b).flash = s.flash := by
  unfold State.udsSend
  split <;> rfl

@[simp] theorem State.udsAnswer_flash (ok : List Byte) (since : Nat) (st : Byte) : (s.udsAnswer ok since st).flash = s.flash := by
  have huds (t : State) (x : Uds) : ({ t with uds := x } : State).flash = t.flash := rfl
  unfold State.udsAnswer
  refine (huds _ _).trans ((State.udsSend_flash ..).trans ?_)
  split
  · exact s.udsSend_flash _
  · rfl

@[simp] theorem State.endJob_flash (n : Nat) (st : Byte) (r : Nat) (cont : List Word) (time : Option Word) :
    (s.endJob n st r cont time).flash = s.flash := by
  unfold State.endJob
  split
  · rfl
  · refine (foldl_keeps (g := State.flash) (fun u h => u.complete_flash ..) _ _).trans ?_
    split
    · exact State.udsAnswer_flash ..
    · exact State.complete_flash ..

@[simp] theorem State.settleDom_flash (n : Nat) : (s.settleDom n).flash = s.flash := by
  unfold State.settleDom
  split
  · rfl
  · split
    · split <;> exact State.endJob_flash ..
    · rfl

@[simp] theorem State.domOut_flash (d : Nat) (p : Job → Bool) (ok : Bool) : (s.domOut d p ok).flash = s.flash := by
  unfold State.domOut
  refine foldl_keeps State.flash (fun u n => ?_) _ _
  exact State.settleDom_flash ..

@[simp] theorem State.dropDom_flash (d : Nat) : (s.dropDom d).flash = s.flash := by
  unfold State.dropDom
  rw [State.domOut_flash]
  split <;> rfl

@[simp] theorem State.askDom_flash (d : Nat) : (s.askDom d).flash = s.flash := by
  unfold State.askDom
  dsimp only
  split
  · rfl
  · split
    · rfl
    · split <;> simp
  · split <;> rfl

@[simp] theorem State.askOn_flash (d : Nat) : (s.askOn d).flash = s.flash := by
  unfold State.askOn State.kickExits
  rw [forEach_keeps State.flash _ _ (fun k u => by split <;> rfl), forEach_keeps State.flash _ _ (fun k u => u.askDom_flash k)]

/-- Whatever a command's dispatch comes to, flash changes by its effect at most. -/
theorem State.dispatch_running {g : Flash → Area × Area} (h : Hdr) (i : Instr) (f : State → State)
    (hf : ∀ u : State, g (f u).flash = g u.flash) : g (s.dispatch h i f).flash = g s.flash := by
  unfold State.dispatch
  dsimp only
  split
  · split
    · split
      · rw [hf, State.taken_flash]
      · rw [State.complete_flash, State.taken_flash]
      · rw [forEach_keeps State.flash _ _ (fun d u => u.askOn_flash d)]
        rfl
    · rfl
  · rfl

@[simp] theorem State.addJob_flash (h : Hdr) (i : Instr) (wait : Nat) : (s.addJob h i wait).2.flash = s.flash := rfl

/-! ### Keys and the immobiliser -/

@[simp] theorem State.fault_flash (src kind detail : Nat) : (s.fault src kind detail).flash = s.flash := rfl
@[simp] theorem State.modImm_flash (f : Imm → Imm) : (s.modImm f).flash = s.flash := rfl
@[simp] theorem State.modKa_flash (f : KeyArray → KeyArray) : (s.modKa f).flash = s.flash := by
  unfold State.modKa
  split <;> rfl
@[simp] theorem State.modKeySlot_flash (n : Nat) (f : KeySlot → KeySlot) : (s.modKeySlot n f).flash = s.flash := s.modKa_flash _
@[simp] theorem State.erase_flash (k : Nat) : (s.erase k).flash = s.flash := by
  unfold State.erase
  dsimp only
  split <;> rfl
@[simp] theorem State.eraseKeys_flash (l : List Nat) : (s.eraseKeys l).flash = s.flash := by
  exact forEach_keeps State.flash _ _ (fun k u => u.erase_flash _) s
@[simp] theorem State.eraseKey_flash (r : Nat) : (s.eraseKey r).flash = s.flash := s.eraseKeys_flash _
@[simp] theorem State.derive_flash (d : DKey) : (s.derive d).2.flash = s.flash := by
  unfold State.derive
  split
  · rfl
  · split <;> rfl
@[simp] theorem State.useArray_flash : s.useArray.flash = s.flash := s.derive_flash _
@[simp] theorem State.loadKey_flash (n : Nat) (key : List Byte) : (s.loadKey n key).flash = s.flash := rfl
@[simp] theorem State.loadKeys_flash : s.loadKeys.flash = s.flash := by
  unfold State.loadKeys
  dsimp only
  split <;> split <;> (simp -failIfUnchanged only [State.loadKey_flash]; rw [forEach_keeps State.flash _ _ (fun k u => by split <;> rfl)])
@[simp] theorem State.keyPost_flash (code src arg data : Nat) (slot : Option Nat) : (s.keyPost code src arg data slot).flash = s.flash :=
  s.post_flash _ _ _ _ _ _ _
@[simp] theorem State.updPost_flash (code src arg data : Nat) (dest : List Nat) : (s.updPost code src arg data dest).flash = s.flash :=
  s.post_flash _ _ _ _ _ _ _
@[simp] theorem State.endRelease_flash (reason : Nat) : (s.endRelease reason).flash = s.flash :=
  State.endRelease_keeps HubBlind.flash (fun _ _ => rfl) (fun _ _ => rfl) s reason
@[simp] theorem State.immCheck_flash : s.immCheck.flash = s.flash := by
  unfold State.immCheck
  dsimp only
  split
  · rfl
  · split
    · rfl
    · exact State.endRelease_flash ..
@[simp] theorem State.uncache_flash (p : DKey → Bool) : (s.uncache p).flash = s.flash := rfl
@[simp] theorem State.freshReset_flash : s.freshReset.flash = s.flash :=
  (State.modKa_flash ..).trans (State.eraseKey_flash ..)
@[simp] theorem State.keyBegin_flash (j : Job) (slot : Nat) : (s.keyBegin j slot).flash = s.flash := by
  unfold State.keyBegin
  split
  · exact State.modKeySlot_flash ..
  · exact State.endJob_flash ..
@[simp] theorem State.kickFlash_flash : s.kickFlash.flash = s.flash := by
  unfold State.kickFlash
  split
  · split
    · exact State.keyBegin_flash ..
    · rfl
  · rfl

@[simp] theorem State.keyStep_flash (w : KeyWrite) : (s.keyStep w).flash = s.flash := by
  unfold State.keyStep
  dsimp only
  split
  · split
    · refine (State.endJob_flash ..).trans ((State.useArray_flash _).trans (State.modKeySlot_flash ..))
    · exact (State.modKeySlot_flash ..).trans ((State.useArray_flash _).trans (State.modKeySlot_flash ..))
  · refine (State.endJob_flash ..).trans ((State.keyPost_flash ..).trans ?_)
    split
    · simp only [State.freshReset_flash, State.loadKey_flash, State.uncache_flash, State.modKeySlot_flash]
    · simp only [State.loadKey_flash, State.uncache_flash, State.modKeySlot_flash]
  · exact State.modKeySlot_flash ..
@[simp] theorem State.writeRoot_flash (owner : Bool) (key : List Byte) : (s.writeRoot owner key).flash = s.flash := by
  unfold State.writeRoot
  simp only [State.keyPost_flash, State.loadKey_flash, State.uncache_flash, State.eraseKeys_flash, State.useArray_flash, State.modKa_flash]
@[simp] theorem State.setTok_flash (k : Nat) (x : Option Tok) : (s.setTok k x).flash = s.flash := by
  have h : (((s.modKa (fun a => a.setTok k x)).useArray).modTok k (fun _ => {})).flash = s.flash :=
    (State.useArray_flash _).trans (State.modKa_flash ..)
  unfold State.setTok
  dsimp only
  split
  · exact (State.endRelease_flash ..).trans h
  · exact h
@[simp] theorem State.setLifecycle_flash (lc : Nat) (debug : Bool) : (s.setLifecycle lc debug).flash = s.flash := by
  have hdbg (t : State) (x : Option KeyArray) : ({ t with dbgArr := x } : State).flash = t.flash := rfl
  have harr (t : State) (x : KeyArray) : ({ t with keyArr := x } : State).flash = t.flash := rfl
  have hcache (t : State) (x : List CacheKey) : ({ t with cache := x } : State).flash = t.flash := rfl
  unfold State.setLifecycle
  extract_lets was o begun ended erased returned debugged loaded
  have hended : ended.flash = s.flash := by
    refine (State.endRelease_flash ..).trans ?_
    split
    · exact State.endJob_flash ..
    · rfl
  have hreturned : returned.flash = ended.flash := by
    unfold returned
    split
    · exact (harr _ _).trans (State.eraseKeys_flash ..)
    · rfl
  have hdebugged : debugged.flash = returned.flash := by
    unfold debugged
    split
    · rfl
    · exact hdbg _ _
  have hloaded : loaded.flash = debugged.flash := by
    unfold loaded
    split
    · exact (State.modImm_flash _ _).trans ((State.loadKeys_flash _).trans (hcache _ _))
    · rfl
  rw [State.immCheck_flash, State.keyPost_flash, hloaded, hdebugged, hreturned, hended]

/-! ### Downloads and a confirmation -/

/-- The images that run. -/
def Flash.running (f : Flash) : Area × Area := (f.active, f.cfgActive)

theorem State.rejectStaging_running (r : Nat) : (s.rejectStaging r).flash.running = s.flash.running := by
  unfold State.rejectStaging
  exact (congrArg Flash.running (State.updPost_flash ..)).trans rfl

theorem State.updEnd_running (hc : Nat) : (s.updEnd hc).1.flash.running = s.flash.running := by
  unfold State.updEnd
  extract_lets t a r
  by_cases hr : r = 0
  · rw [if_pos hr]
    exact (congrArg Flash.running (State.updPost_flash ..)).trans rfl
  · rw [if_neg hr]
    exact t.rejectStaging_running r

theorem State.cfgEnd_running (hc : Nat) : (s.cfgEnd hc).1.flash.running = s.flash.running := by
  unfold State.cfgEnd
  extract_lets t a st
  by_cases hst : st = St.ok
  · rw [if_pos hst]
    exact (congrArg Flash.running (State.updPost_flash ..)).trans rfl
  · rw [if_neg hst]
    exact (congrArg Flash.running (State.updPost_flash ..)).trans rfl

theorem State.eraseStaging_flash (config : Bool) (a b : Nat) : (s.eraseStaging config a b).flash = s.flash :=
  forEach_keeps State.flash _ _ (fun _ u => u.erase_flash _) s

theorem State.dataDone_running (config : Bool) (data : List Byte) : (s.dataDone config data).1.flash.running = s.flash.running := by
  have hfw (t : State) (f : Flash → Flash) (l : Option StageLock) (hf : ∀ x : Flash, (f x).running = x.running) :
      ({ t.modFlash f with cfgLock := l } : State).flash.running = t.flash.running := hf _
  have hcfg (t : State) (f : Flash → Flash) (l : Option StageLock) (hf : ∀ x : Flash, (f x).running = x.running) :
      ({ t.modFlash f with fwLock := l } : State).flash.running = t.flash.running := hf _
  unfold State.dataDone
  dsimp only
  split
  · exact (hfw _ _ _ (fun _ => rfl)).trans (congrArg Flash.running (s.eraseStaging_flash ..))
  · exact (hcfg _ _ _ (fun _ => rfl)).trans (congrArg Flash.running (s.eraseStaging_flash ..))

theorem State.confirm_flash : ∃ repair : Bool,
    s.confirm.flash = { s.flash.unstage.trialOver with repair := repair } := by
  unfold State.confirm
  extract_lets a otp o hc unstaged t u
  have hu : u.flash = s.flash.unstage.trialOver := (State.updPost_flash ..).trans rfl
  split
  · exact ⟨true, congrArg (fun f : Flash => { f with repair := true }) hu⟩
  · exact ⟨s.flash.unstage.trialOver.repair, hu⟩

theorem State.updTake_running (hc size : Nat) : (s.updTake hc size).1.flash.running = s.flash.running := by
  unfold State.updTake
  dsimp only
  split <;> rfl

theorem State.updBegin_running (hc size : Nat) : (s.updBegin hc size).1.flash.running = s.flash.running := by
  unfold State.updBegin
  split
  · rfl
  split
  · rfl
  split
  · rfl
  split
  · split
    · rfl
    · exact s.updTake_running _ _
  · exact s.updTake_running _ _

theorem State.cfgBegin_running (hc size : Nat) : (s.cfgBegin hc size).1.flash.running = s.flash.running := by
  unfold State.cfgBegin
  dsimp only
  split
  · rfl
  split
  · rfl
  split
  · split
    · rfl
    · split <;> rfl
  · split
    · rfl
    · split <;> rfl

theorem State.updCancel_running (hc : Nat) : (s.updCancel hc).1.flash.running = s.flash.running := by
  unfold State.updCancel
  dsimp only
  split
  · split
    · rfl
    · split <;> rfl
  · split
    · rfl
    · split <;> rfl

theorem State.confirm_running : s.confirm.flash.running = s.flash.running := by
  obtain ⟨r, hr⟩ := s.confirm_flash
  rw [hr]
  rfl

/-- The end of a write changes flash, as its command says, beside the images that run. -/
theorem State.written_running (j : Job) : (s.written j).1.flash.running = s.flash.running := by
  unfold State.written
  dsimp only
  split
  · exact congrArg Flash.running ((State.writeRoot_flash ..).trans (State.eraseKey_flash ..))
  · split
    · exact congrArg Flash.running (State.setLifecycle_flash ..)
    · rfl
  · exact congrArg Flash.running ((State.setTok_flash ..).trans (State.eraseKey_flash ..))
  · exact congrArg Flash.running ((State.setTok_flash ..).trans (State.eraseKey_flash ..))
  · split <;> rfl
  · split
    · exact s.dataDone_running _ _
    · rfl
  · split
    · exact s.dataDone_running _ _
    · rfl
  · split
    · exact s.updEnd_running _
    · rfl
  · split
    · exact s.cfgEnd_running _
    · rfl
  · split
    · exact s.confirm_running
    · rfl
  · rfl

/-- An opcode of class I whose answer leaves the images that run. -/
theorem State.runI_running (h : Hdr) (i : Instr) (f : State → Ans) (hf : ∀ u : State, (f u).s.flash.running = u.flash.running) :
    (s.runI h i f).flash.running = s.flash.running :=
  s.dispatch_running h i _ fun u => (congrArg Flash.running (State.complete_flash ..)).trans (hf u)

/-- An opcode that begins a write, or is refused, whose checks change nothing. -/
theorem State.runP_running (h : Hdr) (i : Instr) (f : State → State × Option (Byte × Nat)) (hf : ∀ u : State, (f u).1 = u) :
    (s.runP h i f).flash.running = s.flash.running := by
  refine s.dispatch_running h i _ fun u => ?_
  have hu := hf u
  generalize f u = p at hu
  obtain ⟨v, - | ⟨st, r⟩⟩ := p
  · exact (congrArg Flash.running (State.addJob_flash ..)).trans (congrArg (fun x : State => x.flash.running) hu)
  · exact (congrArg Flash.running (State.complete_flash ..)).trans (congrArg (fun x : State => x.flash.running) hu)

end

theorem act_running {f : State → State} {s t : State} (h : act f s = .next t) (hf : (f s).flash.running = s.flash.running) :
    t.flash.running = s.flash.running := by
  cases h
  exact hf

/-- The update group, opcode by opcode. -/
theorem exec_update_running {s t : State} {c : Instr} (hlo : 0x60 ≤ opcOf c) (hhi : opcOf c ≤ 0x69) (h : exec c s = .next t) :
    t.flash.running = s.flash.running := by
  cases c <;> simp only [opcOf] at hlo hhi
  case updateBegin => exact act_running (show execUpdateBegin _ _ s = _ from h) (State.runI_running _ _ _ _ fun u => u.updBegin_running _ _)
  case updateStatus => exact act_running (show execUpdateStatus _ s = _ from h) (State.runI_running _ _ _ _ fun u => rfl)
  case updateCancel => exact act_running (show execUpdateCancel _ s = _ from h) (State.runI_running _ _ _ _ fun u => u.updCancel_running _)
  case configBegin => exact act_running (show execConfigBegin _ _ s = _ from h) (State.runI_running _ _ _ _ fun u => u.cfgBegin_running _ _)
  case updateData =>
    refine act_running (show execUpdateData _ _ _ s = _ from h) (State.runP_running _ _ _ _ fun u => ?_)
    split
    · rfl
    · split <;> rfl
  case configData =>
    refine act_running (show execConfigData _ _ _ s = _ from h) (State.runP_running _ _ _ _ fun u => ?_)
    split
    · rfl
    · split <;> rfl
  case updateEnd =>
    refine act_running (show execUpdateEnd _ s = _ from h) (State.runP_running _ _ _ _ fun u => ?_)
    split <;> rfl
  case configEnd =>
    refine act_running (show execConfigEnd _ s = _ from h) (State.runP_running _ _ _ _ fun u => ?_)
    split <;> rfl
  case updateConfirm =>
    refine act_running (show execUpdateConfirm _ s = _ from h) (State.runP_running _ _ _ _ fun u => ?_)
    split <;> rfl
  all_goals omega

theorem exec_flashWrite_running {s t : State} (h : exec .flashWriteComplete s = .next t) : t.flash.running = s.flash.running := by
  have hend (f : State → State) (hf : (f s).flash.running = s.flash.running) (hx : actOtp f s = .next t) : t.flash.running = s.flash.running := by
    cases hx
    exact hf
  refine hend _ ?_ (show execFlashWriteComplete s = _ from h)
  split
  · rfl
  split
  · rw [State.kickFlash_flash, State.keyStep_flash, State.eraseKey_flash]
  · exact (congrArg Flash.running ((State.kickFlash_flash _).trans (State.endJob_flash ..))).trans (s.written_running _)
  · rfl

theorem HubBlind.otp : HubBlind State.otp := ⟨fun _ _ _ => rfl, fun _ _ _ => rfl, fun _ _ => rfl, fun _ _ => rfl⟩

theorem State.confirm_otp (s : State) :
    s.confirm.otp = { s.otp with svnMin := max s.otp.svnMin s.flash.active.svn, revoked := s.otp.revoked ||| s.flash.active.revoke } := by
  unfold State.confirm
  extract_lets a otp o hc unstaged t u
  have hu : u.otp = t.otp := HubBlind.otp.post _ _ _ _ _ _ _ _
  split <;> exact hu

/-- Settles O46. -/
theorem downloadsLeaveTheImagesAlone : Obligations.DownloadsLeaveTheImagesAlone := by
  unfold Obligations.DownloadsLeaveTheImagesAlone
  refine ⟨fun s t c hc h => ?_, fun s => ?_⟩
  · have hrun : t.flash.running = s.flash.running := by
      rcases hc with ⟨hlo, hhi⟩ | rfl
      · exact exec_update_running hlo hhi h
      · exact exec_flashWrite_running h
    exact Prod.ext_iff.mp hrun
  · obtain ⟨r, hflash⟩ := s.confirm_flash
    rw [hflash, s.confirm_otp]
    refine ⟨rfl, rfl, rfl, rfl, fun k hk => ?_⟩
    simp [hk]

end Sys2Proof.Machine
end

section
/-! PROOFS. The state right after reset, and the fault pin (spec/03; spec/17, R376). -/

namespace Sys2Proof.Machine

theorem State.reset_domOn : ∀ d : Nat, d < 24 → (State.reset.domOn d = true ↔ d = Dm.aon ∨ d = Dm.crk ∨ ∃ b : Nat, b < 8 ∧ d = Dm.bank b) := by
  decide +kernel

theorem State.reset_rd (a : Nat) : State.reset.rd a = word (regDefault a) := rfl

/-- Settles O4. -/
theorem resetState : Obligations.ResetState := by
  unfold Obligations.ResetState
  refine ⟨rfl, State.reset_rd, State.reset_domOn, rfl, rfl, ?_, fun n => ⟨rfl, rfl, rfl, rfl⟩, fun n => ⟨rfl, rfl⟩, rfl, rfl, rfl, rfl, ?_, ?_, ?_⟩
  · decide +kernel
  · exact ⟨rfl, fun _ _ h => h, le_refl _, rfl, le_refl _, fun _ h => h, fun h => h⟩
  · decide +kernel
  · decide +kernel

/-- Settles O39. -/
theorem faultPinFollowsTheLog : Obligations.FaultPinFollowsTheLog := by
  unfold Obligations.FaultPinFollowsTheLog
  intro s
  have hiff : s.fltN = true ↔ ∃ e ∈ s.log, e.st ≠ .cleared ∧ s.get (screeKind_pin (kindOf e.msg)) = 1 := by
    simp [State.fltN, State.flag]
  refine ⟨hiff, fun hall => ?_⟩
  rw [← Bool.not_eq_true, hiff]
  rintro ⟨e, he, hne, -⟩
  exact hne (hall e he)

end Sys2Proof.Machine
end

section
/-! PROOFS. Effects that do not look at the host contexts: they do the same where a command has been taken (spec/04, R77, R78). -/

namespace Sys2Proof.Machine

/-- `s` with the host contexts of `o`, what was sent, and the names that commands get. -/
def State.hosted (s o : State) : State :=
  { s with hcs := o.hcs, sent := o.sent, nextId := o.nextId, issuing := o.issuing, turnHc := o.turnHc }

theorem State.eq_hosted_of_noHosts {s t : State} (h : t.noHosts = s.noHosts) : t = s.hosted t :=
  calc t = t.noHosts.hosted t := rfl
    _ = s.noHosts.hosted t := by rw [h]
    _ = s.hosted t := rfl

theorem State.taken_eq_hosted (s : State) (n : Nat) (c : Instr) : s.taken n c = s.hosted (s.taken n c) :=
  State.eq_hosted_of_noHosts (s.taken_noHosts n c)

theorem State.hosted_noHosts (s o : State) : (s.hosted o).noHosts = s.noHosts := rfl
theorem State.hosted_answers (s o : State) (n : Nat) : (s.hosted o).answers n = o.answers n := rfl

section
variable (s o : State)

@[simp] theorem State.hosted_get (f : Fld) : (s.hosted o).get f = s.get f := rfl
@[simp] theorem State.hosted_flag (f : Fld) : (s.hosted o).flag f = s.flag f := rfl
@[simp] theorem State.hosted_rd (a : Nat) : (s.hosted o).rd a = s.rd a := rfl
@[simp] theorem State.hosted_domOn (d : Nat) : (s.hosted o).domOn d = s.domOn d := rfl
@[simp] theorem State.hosted_put (f : Fld) (v : Nat) : (s.hosted o).put f v = (s.put f v).hosted o := rfl
@[simp] theorem State.hosted_wr (a : Nat) (w : Word) : (s.hosted o).wr a w = (s.wr a w).hosted o := rfl
@[simp] theorem State.hosted_drawNat : (s.hosted o).drawNat = (s.drawNat.1, s.drawNat.2.hosted o) := rfl
@[simp] theorem State.hosted_modNet (p : Nat) (f : NetPort → NetPort) : (s.hosted o).modNet p f = (s.modNet p f).hosted o := rfl
@[simp] theorem State.hosted_stat (p kind idx k : Nat) : (s.hosted o).stat p kind idx k = (s.stat p kind idx k).hosted o := rfl

end

/-- A command of class I whose effect does not look at the host contexts. -/
theorem State.takes_of_hosted {s u : State} {h : Hdr} {c : Instr} {f : State → Ans} {st : Byte} {r : Nat} {cont : List Word}
    (hr : s.runs h c = true) (hx : exec c s = act (fun x => x.runI h c f) s)
    (hf : ∀ o : State, s.taken h.hc.val c = s.hosted o → f (s.taken h.hc.val c) = { s := u.hosted o, status := st, result := r, cont := cont })
    (hu : s.calm u h.hc.val) : s.takes c h u r cont st :=
  State.takes_of_runI hr hx (hf (s.taken h.hc.val c) (s.taken_eq_hosted ..)) rfl (State.taken_answers ..) hu

theorem State.does_of_runI {s u : State} {h : Hdr} {c : Instr} {f : State → Ans} {st : Byte} {r : Nat} {cont : List Word}
    (hr : s.runs h c = true) (hx : exec c s = act (fun x => x.runI h c f) s)
    (hf : f (s.taken h.hc.val c) = { s := u, status := st, result := r, cont := cont }) : s.does c h u r cont st := by
  rw [State.does, hx, act_of_eq (State.runI_turn (State.runs_turn hr) f), hf]

/-- Two calm effects in turn. -/
theorem State.calm_trans {s t u : State} {n : Nat} (hst : s.calm t n) (htu : t.calm u n) : s.calm u n := by
  obtain ⟨hp, hn, ho, hd, hs, hm, hc⟩ := hst
  obtain ⟨hp', hn', ho', hd', hs', hm', hc'⟩ := htu
  exact ⟨hp'.trans hp, hn'.trans hn, ho'.trans ho, hd'.trans hd, hs'.trans hs, hm'.trans hm, hc'.trans hc⟩

/-- What changes neither registers nor what recording a completion needs. -/
theorem State.calm_drawNat (s : State) (n : Nat) : s.calm s.drawNat.2 n := ⟨rfl, rfl, rfl, rfl, rfl, rfl, rfl⟩

end Sys2Proof.Machine
end

section
/-! PROOFS. The commands that report (spec/04, R80, R86; spec/09 to spec/18). -/

namespace Sys2Proof.Machine

theorem State.hosted_fqLimits (s o : State) : (s.hosted o).fqLimits = s.fqLimits.hosted o := by
  unfold State.fqLimits
  by_cases h : s.get fqState_on = 0 <;> simp [h]

theorem State.hosted_noteT1s (s o : State) (p : Nat) : (s.hosted o).noteT1s p = (s.noteT1s p).hosted o := by
  have hup : (s.hosted o).netUp p = s.netUp p := rfl
  have hword : (s.hosted o).portWord p 0 = s.portWord p 0 := rfl
  unfold State.noteT1s
  simp only [hup, hword, State.hosted_drawNat, State.hosted_flag]
  split
  · split <;> rfl
  · rfl

/-- ANALOG_READ's and NET_STATS' counters come from the free draws. -/
theorem State.calm_noteT1s (s : State) (p n : Nat) : s.calm (s.noteT1s p) n := by
  unfold State.noteT1s
  split
  · dsimp only
    split <;> exact ⟨rfl, rfl, rfl, rfl, rfl, rfl, rfl⟩
  · exact s.calm_refl n

theorem State.calm_fqLimits (s : State) (n : Nat) : s.calm s.fqLimits n := by
  unfold State.fqLimits
  split
  · exact s.calm_put _ _ _ (by simp only [hcState_closed, fqFault_limit]; omega)
  · exact State.calm_trans (s.calm_drawNat n) (s.drawNat.2.calm_put _ _ _ (by simp only [hcState_closed, fqFault_limit]; omega))

section
variable {s : State} {h : Hdr}

theorem State.takes_fieldRead (hr : s.runs h (.fieldRead h) = true) :
    s.takes (.fieldRead h) h s.fqLimits (s.fiState + s.fqLimits.fqFlags * 0x10000) := by
  refine State.takes_of_hosted hr rfl (fun o ht => ?_) (s.calm_fqLimits _)
  have hflags (u o : State) : (u.hosted o).fqFlags = u.fqFlags := rfl
  rw [ht, State.hosted_fqLimits, hflags]
  rfl

theorem State.takes_netStats {p k : Byte} {ws : List Nat} (hr : s.runs h (.netStats h p k) = true)
    (hws : (s.noteT1s p.toNat).netStatWords p.toNat k.toNat = some ws) :
    s.takes (.netStats h p k) h (s.noteT1s p.toNat) 0 (ws.map word ++ List.replicate ((4 - ws.length % 4) % 4) 0) := by
  refine State.takes_of_hosted hr rfl (fun o ht => ?_) (s.calm_noteT1s _ _)
  have hwords (u o : State) (p k : Nat) : (u.hosted o).netStatWords p k = u.netStatWords p k := rfl
  dsimp only
  rw [ht, State.hosted_noteT1s, hwords, hws]
  rfl

theorem State.takes_analogRead {n : Byte} (hr : s.runs h (.analogRead h n) = true) (hn : n.toNat < 40 ∨ (64 ≤ n.toNat ∧ n.toNat < 68)) :
    s.takes (.analogRead h n) h (s.drawNat.2.put (ana_code (if n.toNat < 40 then n.toNat else n.toNat - 24)) (s.drawNat.1 % 1024))
      (s.drawNat.1 % 1024) := by
  refine State.takes_of_hosted hr rfl (fun o ht => ?_) (State.calm_trans (s.calm_drawNat _) (s.drawNat.2.calm_put _ _ _ ?_))
  · dsimp only
    rw [if_pos hn, ht, State.hosted_drawNat]
    rfl
  · simp only [hcState_closed, ana_code]
    split <;> omega

/-- BARRIER answers how many packets stood before it, as its place in the queue says. -/
theorem State.takes_barrier {k : Nat} (hr : s.runs h (.barrier h) = true)
    (hk : ((s.queueFor h.hc.val (.barrier h)).find? (fun e => e.cmd == Instr.barrier h)).map (fun e => e.ahead) = some k) :
    s.takes (.barrier h) h s k := by
  have hx : exec (.barrier h) s = act (fun x => x.runI h (.barrier h) (fun t => { s := t, result := k })) s := by
    have hahead : (match (s.hc h.hc.val).queue.find? (fun e => e.cmd == Instr.barrier h) with
        | some e => e.ahead
        | none => s.aheadNow h.hc.val) = k := by
      rcases hfind : (s.hc h.hc.val).queue.find? (fun e => e.cmd == Instr.barrier h) with - | e
      · have hany : (s.hc h.hc.val).queue.any (fun e => e.cmd == Instr.barrier h) = false := by
          simpa only [List.any_eq_false, Bool.not_eq_true] using List.find?_eq_none.mp hfind
        rw [State.queueFor, hany, if_neg Bool.false_ne_true, List.find?_append, hfind] at hk
        simpa [hfind, State.entry] using hk
      · have hany : (s.hc h.hc.val).queue.any (fun e => e.cmd == Instr.barrier h) = true :=
          
          List.any_eq_true.mpr ⟨e, List.mem_of_find?_eq_some hfind, List.find?_some (p := fun e : QEntry => e.cmd == Instr.barrier h) hfind⟩
        rw [State.queueFor, hany, if_pos rfl, hfind] at hk
        simpa [hfind] using hk
    rw [← hahead]
    rfl
  exact State.takes_same hr hx rfl

end

/-- Settles O10. -/
theorem reportsComplete : Obligations.ReportsComplete := by
  unfold Obligations.ReportsComplete
  refine ⟨fun s h hr => State.takes_same hr rfl rfl, fun s h k hr hk => State.takes_barrier hr hk, fun s h hr => State.takes_same hr rfl ?_,
    fun s h hr => State.takes_same hr rfl ?_, fun s h hr => State.takes_same hr rfl ?_, fun s h hr => State.takes_same hr rfl ?_,
    fun s h hr => State.takes_same hr rfl ?_, fun s h hr => State.takes_same hr rfl ?_, fun s h hr => State.takes_fieldRead hr,
    fun s h ch hr hch => State.takes_same hr rfl (if_neg (Nat.not_lt.mpr hch)), fun s h a hr ha => State.takes_same hr rfl ?_,
    fun s h n hr hn hslot => State.takes_same hr rfl ?_, fun s h n x hr hn hslot => State.takes_same hr rfl ?_,
    fun s h ch hr hch => State.takes_same hr rfl ?_,
    fun s h p k ws hr hws => State.takes_netStats hr hws, fun s h i c hr hlo hhi => State.takes_same hr rfl ?_, fun s h n hr hn => State.takes_analogRead hr hn⟩
  · simp only [State.taken_get, St.ok]
  · simp only [State.taken_get, State.taken_flash, State.taken_otp, State.taken_dbgArr, St.ok]
  · rfl
  · simp only [State.taken_devTime, St.ok]
  · rfl
  · simp only [State.taken_get, St.ok]
  · rw [if_neg (Nat.not_lt.mpr ha)]
    simp only [State.taken_devTime, St.ok]
    rfl
  · have hs : (s.taken h.hc.val (.spkRead h n)).slot n.toNat = none := hslot
    simp only [if_neg (Nat.not_lt.mpr hn), hs, St.ok]
  · have hs : (s.taken h.hc.val (.spkRead h n)).slot n.toNat = some x := hslot
    simp only [if_neg (Nat.not_lt.mpr hn), hs, St.ok]
  · simp only [if_neg (Nat.not_lt.mpr hch), State.taken_rd, St.ok]
  · have hc : ¬ (c = 0 ∨ 15 < c.toNat) := by
      rintro (rfl | hc)
      · exact absurd hlo (by decide)
      · omega
    simp only [if_neg hc, State.taken_log, St.ok]

end Sys2Proof.Machine
end

section
/-! PROOFS. The System commands that act (spec/03, R55 to R58; spec/04, R87 to R89; spec/05). -/

namespace Sys2Proof.Machine

/-- A command of an opcode whose effect is its whole dispatch. -/
theorem exec_of_dispatch {s : State} {h : Hdr} {c : Instr} {f : State → State} (hr : s.runs h c = true)
    (hx : exec c s = act (fun x => x.dispatch h c f) s) : exec c s = .next (s.keep (f (s.taken h.hc.val c))) :=
  hx.trans (act_of_eq (State.dispatch_turn (State.runs_turn hr) f))

/-- A class P command that changes nothing where its checks pass begins. -/
theorem State.begins_same {s : State} {h : Hdr} {c : Instr} {f : State → State × Option (Byte × Nat)} (hr : s.runs h c = true)
    (hx : exec c s = act (fun x => x.runP h c f) s) (hf : f (s.taken h.hc.val c) = (s.taken h.hc.val c, none)) : s.begins c h s := by
  obtain ⟨t, j, hex, hjobs, hcmd, hhdr, hwait, hab, hrest, hans⟩ :=
    State.begins_of_runP hr hx hf (State.taken_pending ..) (State.taken_now ..) (State.taken_otp ..) (State.taken_answers ..)
  rw [State.taken_jobs] at hjobs hrest
  exact ⟨t, j, hex, hjobs, hcmd, hhdr, hwait, hab, hrest.trans (State.taken_noHosts ..), hans⟩

section
variable {s : State} {h : Hdr}

theorem State.runs_recording {c : Instr} (hr : s.runs h c = true) : s.recording = true := State.turn_recording (State.runs_turn hr)

theorem State.taken_limpRelease {c : Instr} (hown : s.sysHolder h.hc.val = true) (hph : s.get pwrStart_phase = 2 ∨ s.get pwrStart_phase = 3)
    (hheld : s.limpHeld = false) : (s.taken h.hc.val c).limpRelease h.hc.val =
      (if s.flag pwrStart_limp = true then (s.taken h.hc.val c).limpEnd else s.taken h.hc.val c, St.ok) := by
  have hown' : (s.taken h.hc.val c).sysHolder h.hc.val = true := hown
  have hheld' : (s.taken h.hc.val c).limpHeld = false := hheld
  have hph' : ¬ (s.get pwrStart_phase ≠ 2 ∧ s.get pwrStart_phase ≠ 3) := by omega
  unfold State.limpRelease
  simp only [hown', hheld', State.taken_get, State.taken_flag, if_neg hph', Bool.true_eq_false, Bool.false_eq_true, if_false]
  cases s.flag pwrStart_limp <;> simp

theorem State.begins_limpMapProgram {es : List Half} {bases coast : Half} (hr : s.runs h (.limpMapProgram h es bases coast) = true)
    (hok : limpMapOk es coast = true) (hhc : h.hc = 0) (hlc : s.otp.lc = 1 ∨ s.otp.lc = 3) (hfree : s.otp.freeSlot.isSome = true) :
    s.begins (.limpMapProgram h es bases coast) h s := by
  have hhc' : h.hc.val = 0 := congrArg Fin.val hhc
  have hlc' : ¬ (s.otp.lc ≠ 1 ∧ s.otp.lc ≠ 3) := by omega
  refine State.begins_same hr rfl ?_
  simp only [hok, hhc', State.taken_otp, if_neg hlc', ← Option.not_isSome, hfree, State.yes]
  rfl

end

theorem hcQuota_not_hubWrites {n item : Nat} (hitem : item ≤ 7) : ¬ hubWrites (hcQuota_value n item).addr := by
  rintro (h | h | ⟨m, h⟩) <;> simp only [hcQuota_value, sysPoolstat_lowest, evtHub_hubdrop, evtStat_lost] at h <;> omega

theorem State.quota_recheckQuota (s : State) (setting : Option Nat) (n m : Nat) {item : Nat} (hitem : item ≤ 7) :
    (s.recheckQuota setting n).quota m item = s.quota m item := by
  have hput (b : Bool) : (s.putB (hcState_overQuota n) b).quota m item = s.quota m item :=
    State.get_put_ne _ _ (by simp only [hcQuota_value, hcState_overQuota]; omega)
  unfold State.recheckQuota
  dsimp only
  split
  · exact (State.post_get (hcQuota_not_hubWrites hitem) ..).trans (hput false)
  split
  · exact (State.post_get (hcQuota_not_hubWrites hitem) ..).trans (hput true)
  · rfl

/-- QUOTA_SET by the holder of SYS of a value in its item's range (R110). -/
def State.quotaStored (s : State) (n item value : Nat) : State :=
  let t := (s.refill n).put (hcQuota_value n item) value
  if item = 5 then t.modHc n (fun h => { h with deficit := value * 1000 - min (s.quota n 5 * 1000 - h.deficit) (value * 1000) }) else t

section
variable {s : State} {by_ n item value : Nat} (hown : s.sysHolder by_ = true) (hn : n ≤ 7) (hitem : item ≤ 7)
  (hlo : (quotaRange item).1 ≤ value) (hhi : value ≤ (quotaRange item).2)
include hown hn hitem hlo hhi

theorem State.quotaSet_ok : s.quotaSet by_ n item value = ((s.quotaStored n item value).recheckQuota (some item) n, St.ok, s.quotaUse n item) := by
  have hrange : ¬ (7 < n ∨ 7 < item ∨ value < (quotaRange item).1 ∨ (quotaRange item).2 < value) := by omega
  unfold State.quotaSet
  dsimp only
  rw [if_neg hrange, if_neg (by simp [hown])]
  rfl

theorem State.quotaSet_quota : (s.quotaSet by_ n item value).1.quota n item = value := by
  have hsmall : value < 2 ^ 13 := by
    have : (quotaRange item).2 ≤ 6016 := by unfold quotaRange; split <;> decide
    omega
  have hput (u : State) : (u.put (hcQuota_value n item) value).quota n item = value :=
    (State.get_put_self u (hcQuota_value n item) value (Nat.zero_le _) (of_decide_eq_true rfl)).trans (Nat.mod_eq_of_lt hsmall)
  rw [State.quotaSet_ok hown hn hitem hlo hhi]
  refine (State.quota_recheckQuota _ _ _ _ hitem).trans ?_
  unfold State.quotaStored
  dsimp only
  split
  · exact hput _
  · exact hput _

end

section
variable {s : State} {h : Hdr} {kind : Byte} {first count : Half} {dest : Byte}

theorem State.does_ownGrant (hr : s.runs h (.ownGrant h kind first count dest) = true)
    (hres : resRange kind.toNat first.toNat count.toNat = true) (hdest : dest.toNat ≤ 7) (hkind : kind ≠ 2)
    (hcl : s.closed dest.toNat = false) (hbound : s.bound dest.toNat = true) :
    let r := (s.taken h.hc.val (.ownGrant h kind first count dest)).hand h.hc.val kind.toNat first.toNat count.toNat (some dest.toNat) true
    s.does (.ownGrant h kind first count dest) h r.1 r.2.2 [] r.2.1 := by
  have hcl' : (s.taken h.hc.val (.ownGrant h kind first count dest)).closed dest.toNat = false := hcl
  have hbound' : (s.taken h.hc.val (.ownGrant h kind first count dest)).bound dest.toNat = true := hbound
  refine State.does_of_runI hr rfl ?_
  rw [if_neg (by simp [hres, hdest]), if_neg hkind, if_neg (by simp [hcl', hbound'])]

theorem State.does_ownRelease (hr : s.runs h (.ownRelease h kind first count) = true)
    (hres : resRange kind.toNat first.toNat count.toNat = true) (hkind : kind ≠ 2) :
    let r := (s.taken h.hc.val (.ownRelease h kind first count)).hand h.hc.val kind.toNat first.toNat count.toNat
      (if kind = 4 ∨ kind = 5 then none else some 0) false
    s.does (.ownRelease h kind first count) h r.1 r.2.2 [] r.2.1 := by
  refine State.does_of_runI hr rfl ?_
  simp only [hres, if_neg hkind, Bool.true_eq_false, if_false]

theorem State.does_ownGrant_slots (hr : s.runs h (.ownGrant h 2 first count dest) = true) (hres : resRange 2 first.toNat count.toNat = true) :
    let r := (s.taken h.hc.val (.ownGrant h 2 first count dest)).handSlots h.hc.val first.toNat count.toNat
    s.does (.ownGrant h 2 first count dest) h r.1 r.2.2 [] r.2.1 := by
  have hres' : ¬ (resRange (2 : Byte).toNat first.toNat count.toNat = false ∨ ((2 : Byte) ≠ 2 ∧ 7 < dest.toNat)) := by
    rintro (hc | ⟨hc, -⟩)
    · exact Bool.false_ne_true (hc.symm.trans hres)
    · exact hc rfl
  refine State.does_of_runI hr rfl ?_
  rw [if_neg hres', if_pos rfl]

theorem State.does_ownRelease_slots (hr : s.runs h (.ownRelease h 2 first count) = true) (hres : resRange 2 first.toNat count.toNat = true) :
    let r := (s.taken h.hc.val (.ownRelease h 2 first count)).handSlots h.hc.val first.toNat count.toNat
    s.does (.ownRelease h 2 first count) h r.1 r.2.2 [] r.2.1 := by
  have hres' : ¬ resRange (2 : Byte).toNat first.toNat count.toNat = false := fun hc => Bool.false_ne_true (hc.symm.trans hres)
  refine State.does_of_runI hr rfl ?_
  rw [if_neg hres', if_pos rfl]

theorem State.does_quotaSet {hc item : Byte} {value : Word} (hr : s.runs h (.quotaSet h hc item value) = true) {u : State} {k : Nat}
    (hset : (s.taken h.hc.val (.quotaSet h hc item value)).quotaSet h.hc.val hc.toNat item.toNat value.toNat = (u, St.ok, k)) :
    s.does (.quotaSet h hc item value) h u k := by
  refine State.does_of_runI hr rfl ?_
  rw [hset]

theorem State.does_hcClose {hc : Byte} (hr : s.runs h (.hcClose h hc) = true) (hown : s.sysHolder h.hc.val = true) (hlo : 1 ≤ hc.toNat)
    (hhi : hc.toNat ≤ 7) (hne : hc.toNat ≠ h.hc.val) :
    (s.closed hc.toNat = false → s.does (.hcClose h hc) h ((s.taken h.hc.val (.hcClose h hc)).closeHc hc.toNat).1
      ((s.taken h.hc.val (.hcClose h hc)).closeHc hc.toNat).2) ∧
    (s.closed hc.toNat = true → s.takes (.hcClose h hc) h s) := by
  have hown' : ¬ (s.taken h.hc.val (.hcClose h hc)).sysHolder h.hc.val = false := by
    rw [Bool.not_eq_false]
    exact hown
  have hrange : ¬ (hc.toNat = 0 ∨ 7 < hc.toNat ∨ hc.toNat = h.hc.val) := by omega
  refine ⟨fun hcl => State.does_of_runI hr rfl ?_, fun hcl => State.takes_same hr rfl ?_⟩
  · have hcl' : ¬ (s.taken h.hc.val (.hcClose h hc)).closed hc.toNat = true := by
      rw [Bool.not_eq_true]
      exact hcl
    rw [if_neg hrange, if_neg hown', if_neg hcl']
    generalize State.closeHc _ _ = p
    obtain ⟨u, k⟩ := p
    rfl
  · have hcl' : (s.taken h.hc.val (.hcClose h hc)).closed hc.toNat = true := hcl
    rw [if_neg hrange, if_neg hown', if_pos hcl']
    rfl

theorem State.taken_bad (s : State) (n : Nat) (c : Instr) : ((s.taken n c).hc n).bad = (s.hc n).bad := by
  have hset (u : State) (q : List QEntry) : ((u.setQueue n q).hc n).bad = (u.hc n).bad := by
    rw [State.setQueue, State.hc_modHc_self]
  exact (hset _ _).trans (hset s _)

/-- An ABORT that finds none of its TAG (R89). -/
theorem State.abortBy_none {tag : Half} (hjobs : s.jobs = [])
    (hq : ∀ e ∈ (s.hc h.hc.val).queue, ∀ x : Hdr, hdrOf e.cmd = some x → x.tag ≠ tag) (hbad : ∀ b ∈ (s.hc h.hc.val).bad, b.hdr.tag ≠ tag) :
    s.abortBy h tag = s.abortLost h := by
  have hbad' : (s.hc h.hc.val).bad.find? (fun b => b.hdr.tag == tag) = none :=
    List.find?_eq_none.mpr fun b hb => by simpa using hbad b hb
  unfold State.abortBy
  extract_lets n has q j queued other
  have hqueue : q = none := by
    refine List.find?_eq_none.mpr fun e he => ?_
    unfold has
    split
    · next x hx => simpa using hq e he x hx
    · exact Bool.false_ne_true
  have hjob : j = none := by
    unfold j
    rw [hjobs]
    rfl
  have hother : other = (s.nextId, s.abortLost h) := by
    unfold other
    rw [hqueue, hjob]
  rw [show (s.hc n).bad.find? (fun b => b.hdr.tag == tag) = none from hbad', hother]

end

/-- Settles O11. -/
theorem systemCommandsComplete : Obligations.SystemCommandsComplete := by
  unfold Obligations.SystemCommandsComplete
  refine ⟨fun s h hr hown hph hheld => ⟨fun hl => ?_, fun hl => ?_⟩, fun s h es bases coast hr hok hhc hlc hfree => ?_, fun s h hr => ?_,
    ?_, ?_, ?_, ?_, ?_, ?_, fun s h tag hr => ?_, fun s h tag hr hjobs hq hbad => ?_⟩
  · refine State.does_of_runI hr rfl ?_
    rw [State.taken_limpRelease hown hph hheld, if_pos hl]
  · refine State.takes_same hr rfl ?_
    rw [State.taken_limpRelease hown hph hheld, if_neg (by simp [hl])]
  · exact State.begins_limpMapProgram hr hok hhc hlc hfree
  · exact exec_of_dispatch hr rfl
  · intro s h hr u
    refine ⟨exec_of_dispatch hr rfl, ?_⟩
    have hrec : (s.taken h.hc.val (.sysReset h 1)).recording = true := (State.taken_recording ..).trans (State.runs_recording hr)
    exact State.eq_of_noHosts State.now (fun _ => rfl) ((State.complete_noHosts _ _ _ _ _ _ hrec).trans (State.taken_noHosts ..))
  · intro s h kind first count dest c r hr hres hdest hkind hcl hbound
    exact State.does_ownGrant hr hres hdest hkind hcl hbound
  · intro s h kind first count c r hr hres hkind
    exact State.does_ownRelease hr hres hkind
  · intro s h first count dest hdest hres r 
    exact ⟨fun hr => State.does_ownGrant_slots hr hres, fun hr => State.does_ownRelease_slots hr hres⟩
  · intro s h hc item value c r hr hown hhc hitem hlo hhi
    have hown' : (s.taken h.hc.val c).sysHolder h.hc.val = true := hown
    refine ⟨?_, State.quotaSet_quota hown' hhc hitem hlo hhi⟩
    have hset := State.quotaSet_ok hown' hhc hitem hlo hhi
    rw [show r = _ from hset]
    exact State.does_quotaSet hr hset
  · intro s h hc c r hr hown hlo hhi hne
    exact State.does_hcClose hr hown hlo hhi hne
  · exact exec_of_dispatch hr rfl
  · refine State.takes_of_complete (v := s.taken h.hc.val (.abort h tag)) ?_ (State.taken_noHosts ..) (State.taken_answers ..)
      (State.runs_recording hr) (State.runs_closed hr)
    have hlost := State.abortBy_none ((State.taken_jobs ..).trans hjobs) hq (fun b hb => hbad b (State.taken_bad s h.hc.val _ ▸ hb))
    exact (exec_of_dispatch hr rfl).trans (congrArg (fun x => Host.Outcome.next (s.keep x)) hlost)

end Sys2Proof.Machine
end

section
/-! PROOFS. CH_ON and the commands over a mask of channels (spec/04, R84; spec/07, R161; spec/08, R174). -/

namespace Sys2Proof.Machine

theorem exec_of_dispatch_eq {s u : State} {h : Hdr} {c : Instr} {f : State → State} (hr : s.runs h c = true)
    (hx : exec c s = act (fun x => x.dispatch h c f) s) (hf : f (s.taken h.hc.val c) = u) : exec c s = .next (s.keep u) := by
  rw [exec_of_dispatch hr hx, hf]

/-- A command of an opcode whose effect is its whole dispatch, where that changes nothing and completes. -/
theorem State.takes_of_dispatch {s : State} {h : Hdr} {c : Instr} {f : State → State} {st : Byte} {r : Nat} {cont : List Word}
    (hr : s.runs h c = true) (hx : exec c s = act (fun x => x.dispatch h c f) s)
    (hf : f (s.taken h.hc.val c) = (s.taken h.hc.val c).complete h (opcOf c) st r cont) : s.takes c h s r cont st :=
  State.takes_of_complete (v := s.taken h.hc.val c) (exec_of_dispatch_eq hr hx hf) (State.taken_noHosts ..) (State.taken_answers ..)
    (State.runs_recording hr) (State.runs_closed hr)

/-! ### One channel of a CH_ON -/

theorem State.commitLater_ch_self (s : State) (n : Nat) :
    ((s.commitLater n).ch n).cmdOn = true ∧ ((s.commitLater n).ch n).drive = (s.ch n).drive := by
  unfold State.commitLater State.pairOf
  cases hb : s.bridged n
  · simp [State.ch_modCh_self]
  · have hn : n = n / 2 * 2 ∨ n = n / 2 * 2 + 1 := by omega
    simp only [if_true, List.foldl_cons, List.foldl_nil]
    generalize n / 2 * 2 = k at hn
    rcases hn with rfl | rfl
    · rw [State.ch_modCh_ne _ _ (by omega), State.ch_modCh_self]
      simp
    · rw [State.ch_modCh_self, State.ch_modCh_ne _ _ (by omega)]
      simp

section
variable {s : State} {h : Hdr} {id n : Nat}

theorem State.chOnOne_notOwned (hown : s.owns h.hc.val 0 n = false) : s.chOnOne h id n = s.jobFail id n St.notOwner := by
  rw [State.chOnOne, if_pos (by simp [hown])]

/-- One channel that the context owns, by its case. -/
theorem State.chOnOne_owned (hown : s.owns h.hc.val 0 n = true) :
    (∀ st : Byte, s.onCase n = .refuse st → s.chOnOne h id n = s.jobFail id n st) ∧
    (s.onCase n = .later → s.chOnOne h id n = ((s.dropActs n).commitLater n).jobSkip id n) ∧
    (s.onCase n = .already → s.chOnOne h id n = if s.isOn n = true then ((s.dropActs n).stayOn n).jobSkip id n else ((s.dropActs n).stayOn n).jobDone id n) ∧
    (s.onCase n = .ask → s.chOnOne h id n = s.request (.job id) [(n, s.budgetI n)] (s.chPrio n) (some h.hc.val) (some (s.chDefer n))) := by
  have hown' : ¬ ¬ s.owns h.hc.val 0 n = true := not_not.mpr hown
  unfold State.chOnOne
  rw [if_neg hown']
  refine ⟨fun st hc => ?_, fun hc => ?_, fun hc => ?_, fun hc => ?_⟩ <;> rw [hc]

/-- A turn-on of a channel that drives already sets its command alone. -/
theorem State.stayOn_dropActs (hon : s.isOn n = true) : (s.dropActs n).stayOn n = (s.dropActs n).modCh n (fun c => { c with cmdOn := true }) :=
  if_pos (show (s.dropActs n).isOn n = true from hon)

/-! ### CH_ON with ATOMIC -/

theorem maskList_ne_nil {m : Nat} (hm : m < 2 ^ 64) (h : m ≠ 0) : maskList 64 m ≠ [] := by
  obtain ⟨k, hk⟩ := Nat.exists_testBit_of_ne_zero h
  have hk64 : k < 64 := by
    by_contra hge
    have := Nat.testBit_lt_two_pow (lt_of_lt_of_le hm (Nat.pow_le_pow_right (by decide) (Nat.not_lt.mp hge)))
    exact Bool.false_ne_true (this.symm.trans hk)
  exact List.ne_nil_of_mem (List.mem_filter.mpr ⟨List.mem_range.mpr hk64, hk⟩)

theorem State.chOnRefusal_none (hown : s.owns h.hc.val 0 n = true) (hcase : ∀ st : Byte, s.onCase n ≠ .refuse st) : s.chOnRefusal h n = none := by
  unfold State.chOnRefusal
  rw [if_neg (not_not.mpr hown)]
  split
  · next st hst => exact absurd hst (hcase st)
  · rfl

/-- ATOMIC, where no channel is refused: one request for those that need budget, or a commitment of all at once. -/
theorem State.chOnAtomic_accepted {mask : Dword} (hnone : ∀ n ∈ maskList 64 mask.toNat, s.chOnRefusal h n = none) :
    s.chOnAtomic h mask =
      let cs := maskList 64 mask.toNat
      let asks := cs.filter (fun n => s.onCase n == .ask)
      let u := s.addJob h (.chOn h mask) (listMask asks)
      if asks = [] then (forEach cs (fun n u => u.commitNow n) u.2).settle u.1
      else u.2.request (.job u.1) (asks.map (fun n => (n, s.budgetI n))) ((asks.map s.chPrio).foldl min 2) (some h.hc.val)
        (some ((asks.map s.chDefer).foldl min 255)) true := by
  have hfind : (maskList 64 mask.toNat).findSome? (fun n => s.chOnRefusal h n) = none := List.findSome?_eq_none_iff.mpr hnone
  unfold State.chOnAtomic
  simp only [hfind]

end

section
variable {s : State} {h : Hdr} {mask : Dword}

theorem exec_chOn_plain (hr : s.runs h (.chOn h mask) = true) (hat : h.atomic = false) :
    let u := (s.taken h.hc.val (.chOn h mask)).addJob h (.chOn h mask) mask.toNat
    exec (.chOn h mask) s = .next (s.keep (if mask = 0 then u.2.settle u.1 else forEach (maskList 64 mask.toNat) (fun n v => v.chOnOne h u.1 n) u.2)) := by
  refine exec_of_dispatch_eq hr rfl ?_
  rw [if_neg (by simp [hat])]

theorem exec_chOn_atomic (hr : s.runs h (.chOn h mask) = true) (hat : h.atomic = true) :
    exec (.chOn h mask) s = .next (s.keep ((s.taken h.hc.val (.chOn h mask)).chOnAtomic h mask)) :=
  exec_of_dispatch_eq hr rfl (if_pos hat)

/-- Every named channel asks. -/
theorem exec_chOn_asked (hr : s.runs h (.chOn h mask) = true) (hat : h.atomic = true) (hm : mask ≠ 0)
    (hall : ∀ n ∈ maskList 64 mask.toNat, s.owns h.hc.val 0 n = true ∧ (s.taken h.hc.val (.chOn h mask)).onCase n = .ask) :
    let t := s.taken h.hc.val (.chOn h mask)
    let cs := maskList 64 mask.toNat
    let u := t.addJob h (.chOn h mask) (listMask cs)
    exec (.chOn h mask) s = .next (s.keep (u.2.request (.job u.1) (cs.map (fun n => (n, s.budgetI n)))
      ((cs.map t.chPrio).foldl min 2) (some h.hc.val) (some ((cs.map t.chDefer).foldl min 255)) true)) := by
  intro t cs u
  have hne : cs ≠ [] := maskList_ne_nil mask.isLt fun h0 => hm (BitVec.eq_of_toNat_eq h0)
  have hasks : cs.filter (fun n => t.onCase n == .ask) = cs := List.filter_eq_self.mpr fun n hn => by simp [t, (hall n hn).2]
  have hnone (n : Nat) (hn : n ∈ cs) : t.chOnRefusal h n = none :=
    State.chOnRefusal_none (s := t) (hall n hn).1 fun st => by simp [t, (hall n hn).2]
  refine (exec_chOn_atomic hr hat).trans (congrArg (fun x => Host.Outcome.next (s.keep x)) ((State.chOnAtomic_accepted hnone).trans ?_))
  dsimp only
  rw [hasks, if_neg hne]
  rfl

/-- No named channel asks. -/
theorem exec_chOn_committed (hr : s.runs h (.chOn h mask) = true) (hat : h.atomic = true)
    (hall : ∀ n ∈ maskList 64 mask.toNat, s.owns h.hc.val 0 n = true ∧
      ((s.taken h.hc.val (.chOn h mask)).onCase n = .already ∨ (s.taken h.hc.val (.chOn h mask)).onCase n = .later)) :
    let u := (s.taken h.hc.val (.chOn h mask)).addJob h (.chOn h mask) 0
    exec (.chOn h mask) s = .next (s.keep ((forEach (maskList 64 mask.toNat) (fun n v => v.commitNow n) u.2).settle u.1)) := by
  intro u
  have hasks : (maskList 64 mask.toNat).filter (fun n => (s.taken h.hc.val (.chOn h mask)).onCase n == .ask) = [] :=
    List.filter_eq_nil_iff.mpr fun n hn => by rcases (hall n hn).2 with hc | hc <;> simp [hc]
  have hnone (n : Nat) (hn : n ∈ maskList 64 mask.toNat) : (s.taken h.hc.val (.chOn h mask)).chOnRefusal h n = none :=
    State.chOnRefusal_none (s := s.taken h.hc.val (.chOn h mask)) (hall n hn).1 fun st => by rcases (hall n hn).2 with hc | hc <;> simp [hc]
  refine (exec_chOn_atomic hr hat).trans (congrArg (fun x => Host.Outcome.next (s.keep x)) ((State.chOnAtomic_accepted hnone).trans ?_))
  dsimp only
  rw [hasks, if_pos rfl]
  rfl

end

/-- Settles O13. -/
theorem chOnCompletes : Obligations.ChOnCompletes := by
  unfold Obligations.ChOnCompletes
  refine ⟨?_, ?_, ?_, ?_, fun s h id n => ⟨State.chOnOne_notOwned, fun hown => ?_⟩⟩
  · intro s h mask c u hr hat hm
    exact (exec_chOn_plain hr hat).trans (by rw [if_neg hm])
  · intro s h hr u hat
    exact (exec_chOn_plain hr hat).trans (by rw [if_pos rfl]; rfl)
  · intro s h mask c cs u hr hat hm hall
    exact exec_chOn_asked hr hat hm hall
  · intro s h mask c u hr hat hall
    exact exec_chOn_committed hr hat hall
  · obtain ⟨hrefuse, hlater, halready, hask⟩ := State.chOnOne_owned (id := id) hown
    refine ⟨hrefuse, fun hc => ⟨hlater hc, s.commitLater_ch_self n⟩, fun hc hon => ?_, fun hc hon => ?_, hask⟩
    · rw [halready hc, if_pos hon, State.stayOn_dropActs hon]
    · rw [halready hc, if_neg (by simp [hon])]

/-! ### Commands over a mask -/

/-- Settles O14. -/
theorem maskCommandsComplete : Obligations.MaskCommandsComplete := by
  unfold Obligations.MaskCommandsComplete
  refine ⟨?_, ?_, ?_, ?_⟩
  · intro s h mask c t on r hr hok
    have hnone : (if h.atomic = true then (maskList 64 mask.toNat).findSome? (fun n => t.chOffRefusal h n) else none) = none := by
      split
      · next hat => exact List.findSome?_eq_none_iff.mpr (hok.resolve_left (by simp [hat]))
      · rfl
    refine State.does_of_runI hr rfl ?_
    rw [hnone]
    simp only [State.taken_ch]
    rfl
  · intro s h mask st c hr hat hfind
    refine State.takes_same hr rfl ?_
    rw [if_pos hat, hfind]
  · intro s h mask c t held r hr
    refine State.does_of_runI hr rfl ?_
    simp only [State.taken_ch]
    rfl
  · intro s h mask c t was r hr
    refine State.does_of_runI hr rfl ?_
    simp only [State.taken_ch]
    rfl

end Sys2Proof.Machine
end

section
/-! PROOFS. The commands that set up a channel, a bank or a bridge, and those that time an output (spec/06 to spec/08). -/

namespace Sys2Proof.Machine

/-- The registers of the host contexts end below 0x18000. -/
theorem State.calm_put_above (s : State) (f : Fld) (v : Nat) {n : Nat} (hn : n < 8) (hf : 0x18000 ≤ f.addr) : s.calm (s.put f v) n :=
  s.calm_put f v n (by simp only [hcState_closed]; omega)

theorem State.calm_modCh (s : State) (n k : Nat) (f : Chan → Chan) : s.calm (s.modCh k f) n := ⟨rfl, rfl, rfl, rfl, rfl, rfl, rfl⟩
theorem State.calm_modBank (s : State) (n k : Nat) (f : Bank → Bank) : s.calm (s.modBank k f) n := ⟨rfl, rfl, rfl, rfl, rfl, rfl, rfl⟩

theorem State.hosted_modCh (s o : State) (k : Nat) (f : Chan → Chan) : (s.hosted o).modCh k f = (s.modCh k f).hosted o := rfl
theorem State.hosted_modBank (s o : State) (k : Nat) (f : Bank → Bank) : (s.hosted o).modBank k f = (s.modBank k f).hosted o := rfl
theorem State.hosted_ch (s o : State) (k : Nat) : (s.hosted o).ch k = s.ch k := rfl

theorem State.hosted_setDuty (s o : State) (n duty phase div : Nat) : (s.hosted o).setDuty n duty phase div = (s.setDuty n duty phase div).hosted o := by
  unfold State.setDuty
  dsimp only
  rw [State.hosted_put, State.hosted_put, State.hosted_put, State.hosted_put, State.hosted_modCh, State.hosted_ch]

theorem State.calm_setDuty (s : State) (k duty phase div : Nat) {n : Nat} (hn : n < 8) : s.calm (s.setDuty k duty phase div) n := by
  unfold State.setDuty
  refine State.calm_trans (State.calm_trans (State.calm_trans (State.calm_trans (s.calm_put_above _ _ hn ?_) (State.calm_put_above _ _ _ hn ?_))
    (State.calm_put_above _ _ _ hn ?_)) (State.calm_put_above _ _ _ hn ?_)) (State.calm_modCh ..)
  all_goals simp only [bankPwm_duty, bankPwm_phase, bankPwm_div, bankPwm_pending]; omega

theorem State.hosted_setBase (s o : State) (b p : Nat) : (s.hosted o).setBase b p = (s.setBase b p).hosted o := by
  unfold State.setBase
  rw [State.hosted_modBank, State.hosted_put]

theorem State.calm_setBase (s : State) (b p : Nat) {n : Nat} (hn : n < 8) : s.calm (s.setBase b p) n :=
  State.calm_trans (s.calm_modBank ..) (State.calm_put_above _ _ _ hn (by simp only [bankPwmbase_pending]; omega))

section
variable {s : State} {h : Hdr} {ch : Byte}

theorem State.takes_chSetDuty {base phase : Byte} {duty : Half} (hr : s.runs h (.chSetDuty h ch base duty phase) = true) (hch : ch.toNat ≤ 63)
    (hbase : base.toNat ≤ 3) (hduty : duty.toNat ≤ 0xFFF) (hown : s.owns h.hc.val 0 ch.toNat = true) (hdis : (s.ch ch.toNat).disabled = false) :
    s.takes (.chSetDuty h ch base duty phase) h (s.setDuty ch.toNat duty.toNat phase.toNat base.toNat) := by
  refine State.takes_of_hosted hr rfl (fun o ht => ?_) (s.calm_setDuty _ _ _ _ h.hc.isLt)
  rw [if_neg (by omega), State.taken_owns, if_neg (not_not.mpr hown), State.taken_ch, if_neg (by simp [hdis]), ht,
    State.hosted_setDuty]
  rfl

theorem State.does_chConfig {record : List Word} (hr : s.runs h (.chConfig h ch record) = true) (hch : ch.toNat ≤ 63) (hlen : record.length = 8)
    (hfields : onlyFields chFields record = true) :
    let t := s.taken h.hc.val (.chConfig h ch record)
    let ws := t.mirrorBridge ch.toNat record
    chRecOk (chClass ch.toNat) (s.get (govBudget_budget (t.govOf ch.toNat))) ws = true → s.owns h.hc.val 0 ch.toNat = true →
    setField ws 0 31 31 = 0 ∨ t.safeHeld ch.toNat = false →
    chClass ch.toNat ≠ .HB ∨ (setField ws 0 30 30 == 1) = s.bridged ch.toNat ∨ t.pairOff ch.toNat = true →
    s.does (.chConfig h ch record) h (t.chCommit ch.toNat ws) := by
  intro t ws hrec hown hsafe hpair
  have hsafe' : ¬ (setField ws 0 31 31 = 1 ∧ t.safeHeld ch.toNat = true) := by
    rintro ⟨h1, h2⟩
    rcases hsafe with h0 | h0 <;> simp_all
  have hpair' : ¬ (chClass ch.toNat = .HB ∧ (setField ws 0 30 30 == 1) ≠ t.bridged ch.toNat ∧ t.pairOff ch.toNat = false) := by
    rintro ⟨h1, h2, h3⟩
    rcases hpair with h0 | h0 | h0
    · exact h0 h1
    · exact h2 h0
    · simp [h0] at h3
  have hchk : ¬ (63 < ch.toNat ∨ record.length ≠ 8 ∨ onlyFields chFields record = false ∨
      chRecOk (chClass ch.toNat) (t.get (govBudget_budget (t.govOf ch.toNat))) ws = false) := by
    rintro (h0 | h0 | h0 | h0)
    · omega
    · exact h0 hlen
    · simp [hfields] at h0
    · exact Bool.false_ne_true (h0.symm.trans hrec)
  refine State.does_of_runI hr rfl ?_
  rw [if_neg hchk, State.taken_owns, if_neg (not_not.mpr hown), if_neg hsafe', if_neg hpair']
  rfl

theorem State.chFollowLh_reaches {lhsel inv : Byte} (hr : s.runs h (.chFollowLh h ch lhsel inv) = true) (hch : ch.toNat ≤ 63) (hinv : inv.toNat ≤ 1)
    (hb : s.bridged ch.toNat = false ∨ ch.toNat % 2 = 0) (hown : s.owns h.hc.val 0 ch.toNat = true) :
    let t := s.taken h.hc.val (.chFollowLh h ch lhsel inv)
    (lhsel.toNat ≤ 3 → s.does (.chFollowLh h ch lhsel inv) h (t.startFollow ch.toNat lhsel.toNat (inv = 1))) ∧
    (lhsel = 0xFF → (s.ch ch.toNat).follow.isSome = true → s.does (.chFollowLh h ch lhsel inv) h (t.endFollow ch.toNat)) ∧
    (lhsel = 0xFF → (s.ch ch.toNat).follow = none → s.takes (.chFollowLh h ch lhsel inv) h s) := by
  intro t
  have hchk (hsel : lhsel.toNat ≤ 3 ∨ lhsel = 0xFF) :
      ¬ (63 < ch.toNat ∨ (3 < lhsel.toNat ∧ lhsel ≠ 0xFF) ∨ 1 < inv.toNat ∨ (t.bridged ch.toNat = true ∧ ch.toNat % 2 = 1)) := by
    rintro (h0 | ⟨h0, h1⟩ | h0 | ⟨h0, h1⟩)
    · omega
    · rcases hsel with hsel | hsel
      · omega
      · exact h1 hsel
    · omega
    · rcases hb with hb | hb
      · exact Bool.false_ne_true (hb.symm.trans h0)
      · omega
  refine ⟨fun hsel => ?_, fun hsel hf => ?_, fun hsel hf => ?_⟩
  · have hne : lhsel ≠ 0xFF := by
      rintro rfl
      exact absurd hsel (by decide)
    refine State.does_of_runI hr rfl ?_
    rw [if_neg (hchk (.inl hsel)), State.taken_owns, if_neg (not_not.mpr hown), if_neg hne]
    rfl
  · refine State.does_of_runI hr rfl ?_
    rw [if_neg (hchk (.inr hsel)), State.taken_owns, if_neg (not_not.mpr hown), if_pos hsel, State.taken_ch, if_pos hf]
    rfl
  · refine State.takes_same hr rfl ?_
    rw [if_neg (hchk (.inr hsel)), State.taken_owns, if_neg (not_not.mpr hown), if_pos hsel, State.taken_ch, if_neg (by simp [hf])]
    rfl

theorem State.takes_bankBase {bank : Byte} {freq : Half} (hr : s.runs h (.bankBase h bank freq) = true) (hbank : bank.toNat ≤ 7)
    (hlo : 25 ≤ freq.toNat) (hhi : freq.toNat ≤ 25000) (hown : ∀ k : Nat, k < 8 → s.owns h.hc.val 0 (8 * bank.toNat + k) = true) :
    let p := (rnear 100000000 (freq.toNat : Int)).toNat
    s.takes (.bankBase h bank freq) h (s.setBase bank.toNat p) (rnear 100000000 (p : Int)).toNat := by
  intro p
  have hall : ¬ (List.range 8).all (fun k => s.owns h.hc.val 0 (8 * bank.toNat + k)) = false := by
    rw [Bool.not_eq_false, List.all_eq_true]
    exact fun k hk => hown k (List.mem_range.mp hk)
  refine State.takes_of_hosted hr rfl (fun o ht => ?_) (s.calm_setBase _ _ h.hc.isLt)
  simp only [State.taken_owns]
  rw [if_neg (by omega), if_neg hall, ht, State.hosted_setBase]
  rfl

theorem State.does_motorStop {bridge mode : Byte} (hr : s.runs h (.motorStop h bridge mode) = true) (hbr : bridge.toNat ≤ 7) (hmode : mode.toNat ≤ 1)
    (hown : s.owns h.hc.val 0 (48 + 2 * bridge.toNat) = true) (hown' : s.owns h.hc.val 0 (48 + 2 * bridge.toNat + 1) = true)
    (hb : s.bridged (48 + 2 * bridge.toNat) = true) :
    s.does (.motorStop h bridge mode) h ((s.taken h.hc.val (.motorStop h bridge mode)).stopMotor bridge.toNat 2 (mode = 1)) := by
  refine State.does_of_runI hr rfl ?_
  simp only [State.taken_owns, State.taken_bridged]
  rw [if_neg (by omega), if_neg (not_not.mpr ⟨hown, hown'⟩), if_neg (by simp [hb])]
  rfl

end

/-- Settles O15. -/
theorem channelSettingsComplete : Obligations.ChannelSettingsComplete := by
  unfold Obligations.ChannelSettingsComplete
  refine ⟨?_, ?_, ?_, ?_, ?_⟩
  · intro s h ch base duty phase c hr hch hbase hduty hown hdis
    exact State.takes_chSetDuty hr hch hbase hduty hown hdis
  · intro s h ch record c t n ws hr hch hlen hfields hrec hown hsafe hpair
    exact State.does_chConfig hr hch hlen hfields hrec hown hsafe hpair
  · intro s h ch lhsel inv c t hr hch hinv hb hown
    exact State.chFollowLh_reaches hr hch hinv hb hown
  · intro s h bank freq c p hr hbank hlo hhi hown
    exact State.takes_bankBase hr hbank hlo hhi hown
  · intro s h bridge mode c n hr hbr hmode hown hown' hb
    exact State.does_motorStop hr hbr hmode hown hown' hb

/-! ### Pulses, profiles and motors -/

/-- A command of an opcode whose effect is its whole dispatch and completes. -/
theorem State.does_of_dispatch {s u : State} {h : Hdr} {c : Instr} {f : State → State} {st : Byte} {r : Nat} {cont : List Word}
    (hr : s.runs h c = true) (hx : exec c s = act (fun x => x.dispatch h c f) s)
    (hf : f (s.taken h.hc.val c) = u.complete h (opcOf c) st r cont) : s.does c h u r cont st :=
  exec_of_dispatch_eq hr hx hf

section
variable {s : State} {h : Hdr} {ch : Byte}

theorem State.chPulse_cases {width : Word} (hr : s.runs h (.chPulse h ch width) = true) (hch : ch.toNat ≤ 63) (hlo : 20 ≤ width.toNat)
    (hhi : width.toNat ≤ 60000000) (hown : s.owns h.hc.val 0 ch.toNat = true) :
    let t := s.taken h.hc.val (.chPulse h ch width)
    let u := t.addJob h (.chPulse h ch width)
    (t.onCase ch.toNat = .ask → exec (.chPulse h ch width) s = .next (s.keep
      (u.2.request (.job u.1) [(ch.toNat, s.budgetI ch.toNat)] (s.chPrio ch.toNat) (some h.hc.val) (some (s.chDefer ch.toNat))))) ∧
    (t.onCase ch.toNat = .later → s.does (.chPulse h ch width) h ((t.dropActs ch.toNat).storePulse ch.toNat width.toNat)) ∧
    (t.onCase ch.toNat = .already → s.takes (.chPulse h ch width) h s 0 [] St.badState) := by
  intro t u
  have hchk : ¬ (63 < ch.toNat ∨ width.toNat < 20 ∨ 60000000 < width.toNat) := by omega
  have hown' : ¬ ¬ t.owns h.hc.val 0 ch.toNat = true := not_not.mpr hown
  refine ⟨fun hc => exec_of_dispatch_eq hr rfl ?_, fun hc => State.does_of_dispatch hr rfl ?_, fun hc => State.takes_of_dispatch hr rfl ?_⟩
  all_goals
    rw [if_neg hchk, if_neg hown', show (s.taken h.hc.val (.chPulse h ch width)).onCase ch.toNat = _ from hc]
    rfl

theorem State.chStartProfile_cases {profile : Byte} {k : Half} (hr : s.runs h (.chStartProfile h ch profile k) = true) (hch : ch.toNat ≤ 63) :
    let t := s.taken h.hc.val (.chStartProfile h ch profile k)
    let n := ch.toNat
    let set := s.pset n k.toNat
    let u := t.addJob h (.chStartProfile h ch profile k)
    t.profileCheck n profile.toNat k.toNat = none → s.owns h.hc.val 0 n = true →
    (t.onCase n = .later → s.does (.chStartProfile h ch profile k) h ((t.dropActs n).storeProfile n profile.toNat set)) ∧
    (t.parkedSet profile.toNat set = true → t.onCase n = .ask ∨ t.onCase n = .already →
      s.does (.chStartProfile h ch profile k) h ((t.dropActs n).parkNow n).reexamine) ∧
    (t.parkedSet profile.toNat set = false → t.onCase n = .already →
      exec (.chStartProfile h ch profile k) s = .next (s.keep (((u.2.dropActs n).preempt n).startProfile n profile.toNat set (some u.1) false))) ∧
    (t.parkedSet profile.toNat set = false → t.onCase n = .ask →
      exec (.chStartProfile h ch profile k) s = .next (s.keep (u.2.request (.job u.1) [(n, s.budgetI n)] (s.chPrio n) (some h.hc.val) (some (s.chDefer n))))) := by
  intro t n set u hprof hown
  have hchk : ¬ 63 < ch.toNat := by omega
  have hprof' : s.profileCheck ch.toNat profile.toNat k.toNat = none := (State.taken_profileCheck ..).symm.trans hprof
  have hown' : s.owns h.hc.val 0 ch.toNat = true := hown
  have hcase (c : OnCase) (hc : t.onCase n = c) : s.onCase ch.toNat = c := (State.taken_onCase ..).symm.trans hc
  have hpark (b : Bool) (hp : t.parkedSet profile.toNat set = b) : s.parkedSet profile.toNat (s.pset ch.toNat k.toNat) = b :=
    (State.taken_parkedSet ..).symm.trans hp
  refine ⟨fun hc => State.does_of_dispatch hr rfl ?_, fun hp hc => State.does_of_dispatch hr rfl ?_, fun hp hc => exec_of_dispatch_eq hr rfl ?_,
    fun hp hc => exec_of_dispatch_eq hr rfl ?_⟩
  · simp only [if_neg hchk, State.taken_profileCheck, hprof', State.taken_owns, hown', State.taken_onCase, hcase _ hc, State.taken_pset]
    rfl
  · rcases hc with hc | hc
    · simp only [if_neg hchk, State.taken_profileCheck, hprof', State.taken_owns, hown', State.taken_onCase, hcase _ hc, State.taken_pset,
        State.taken_parkedSet, hpark _ hp]
      rfl
    · simp only [if_neg hchk, State.taken_profileCheck, hprof', State.taken_owns, hown', State.taken_onCase, hcase _ hc, State.taken_pset,
        State.taken_parkedSet, hpark _ hp]
      rfl
  · simp only [if_neg hchk, State.taken_profileCheck, hprof', State.taken_owns, hown', State.taken_onCase, hcase _ hc, State.taken_pset,
      State.taken_parkedSet, hpark _ hp]
    rfl
  · simp only [if_neg hchk, State.taken_profileCheck, hprof', State.taken_owns, hown', State.taken_onCase, hcase _ hc, State.taken_pset,
      State.taken_parkedSet, hpark _ hp, State.taken_budgetI, State.taken_chPrio, State.taken_chDefer]
    rw [if_neg Bool.false_ne_true, if_neg (by decide)]
    rfl

theorem State.motorTarget_cases {bridge axis : Byte} {duty : Half} {target : Dword} (hr : s.runs h (.motorTarget h bridge axis duty target) = true)
    (hbr : bridge.toNat ≤ 7) (hax : axis.toNat ≤ 7) (hduty : duty.toNat ≤ 0xFFF) :
    let t := s.taken h.hc.val (.motorTarget h bridge axis duty target)
    let k := bridge.toNat
    let n := 48 + 2 * k
    let u := t.addJob h (.motorTarget h bridge axis duty target)
    motorSetFor (s.pset n 0) axis.toNat = true → s.owns h.hc.val 0 n = true → s.owns h.hc.val 0 (n + 1) = true → s.bridged n = true →
    (s.bank (bankOf n)).storeOk = true →
    (t.onCase n = .later → s.does (.motorTarget h bridge axis duty target) h
      ((t.dropActs n).storeMove k (t.moveOf k axis.toNat duty.toNat target.toNat none)) (unsigned 32 (t.axOut axis.toNat))) ∧
    (t.onCase n = .ask ∨ t.onCase n = .already → t.isOn n = false →
      exec (.motorTarget h bridge axis duty target) s = .next (s.keep
        (u.2.request (.job u.1) [(n, s.budgetI n)] (s.chPrio n) (some h.hc.val) (some (s.chDefer n))))) ∧
    (t.onCase n = .already → t.isOn n = true →
      exec (.motorTarget h bridge axis duty target) s = .next (s.keep
        (((u.2.dropActs n).preempt n).startMove k (t.moveOf k axis.toNat duty.toNat target.toNat (some u.1))).reexamine)) := by
  intro t k n u hset hown hown' hb hstore
  have hchk : ¬ (7 < bridge.toNat ∨ 7 < axis.toNat ∨ 0xFFF < duty.toNat ∨ motorSetFor (s.pset n 0) axis.toNat = false) := by
    rintro (h0 | h0 | h0 | h0)
    · omega
    · omega
    · omega
    · exact Bool.false_ne_true (h0.symm.trans hset)
  have hstore' : ¬ (s.bridged n = false ∨ (s.bank (bankOf n)).storeOk = false) := by simp [hb, hstore]
  have hcase (c : OnCase) (hc : t.onCase n = c) : s.onCase n = c := (State.taken_onCase ..).symm.trans hc
  have hon (b : Bool) (hi : t.isOn n = b) : s.isOn n = b := (State.taken_isOn ..).symm.trans hi
  refine ⟨fun hc => State.does_of_dispatch hr rfl ?_, fun hc hi => exec_of_dispatch_eq hr rfl ?_, fun hc hi => exec_of_dispatch_eq hr rfl ?_⟩
  · simp only [State.taken_pset, State.taken_owns, State.taken_bridged, State.taken_bank, State.taken_onCase]
    rw [if_neg hchk, if_neg (not_not.mpr ⟨hown, hown'⟩), if_neg hstore', hcase _ hc]
    rfl
  · simp only [State.taken_pset, State.taken_owns, State.taken_bridged, State.taken_bank, State.taken_onCase, State.taken_isOn]
    rcases hc with hc | hc
    · rw [if_neg hchk, if_neg (not_not.mpr ⟨hown, hown'⟩), if_neg hstore', hcase _ hc]
      dsimp only
      rw [if_neg (by rw [hon _ hi]; decide)]
      rfl
    · rw [if_neg hchk, if_neg (not_not.mpr ⟨hown, hown'⟩), if_neg hstore', hcase _ hc]
      dsimp only
      rw [if_neg (by rw [hon _ hi]; decide)]
      rfl
  · simp only [State.taken_pset, State.taken_owns, State.taken_bridged, State.taken_bank, State.taken_onCase, State.taken_isOn]
    rw [if_neg hchk, if_neg (not_not.mpr ⟨hown, hown'⟩), if_neg hstore', hcase _ hc]
    dsimp only
    rw [if_pos (hon _ hi)]

end

/-- Settles O16. -/
theorem timedOutputsComplete : Obligations.TimedOutputsComplete := by
  unfold Obligations.TimedOutputsComplete
  refine ⟨?_, ?_, ?_⟩
  · intro s h ch width c t n u hr hch hlo hhi hown
    exact State.chPulse_cases hr hch hlo hhi hown
  · intro s h ch profile k c t n set u hr hch hprof hown
    exact State.chStartProfile_cases hr hch hprof hown
  · intro s h bridge axis duty target c t k n u hr hbr hax hduty hset hown hown' hb hstore
    exact State.motorTarget_cases hr hbr hax hduty hset hown hown' hb hstore

end Sys2Proof.Machine
end

section
/-! PROOFS. The axis commands and the axis events (spec/09). -/

namespace Sys2Proof.Machine

section
variable {s : State} {h : Hdr} {axis : Byte}

theorem State.does_axisConfig {record : List Word} (hr : s.runs h (.axisConfig h axis record) = true) (ha : axis.toNat ≤ 7) (hlen : record.length = 8)
    (hok : axRecOk record = true) (hown : s.owns h.hc.val 1 axis.toNat = true) :
    s.does (.axisConfig h axis record) h ((s.taken h.hc.val (.axisConfig h axis record)).axCommit axis.toNat record) := by
  refine State.does_of_runI hr rfl ?_
  rw [if_neg (by simp [hlen, hok, ha]), State.taken_owns, if_neg (not_not.mpr hown)]
  rfl

theorem State.does_axisWrite {pos : Dword} (hr : s.runs h (.axisWrite h axis pos) = true) (ha : axis.toNat ≤ 7) (hown : s.owns h.hc.val 1 axis.toNat = true) :
    let t := s.taken h.hc.val (.axisWrite h axis pos)
    (s.axSource axis.toNat = 8 → s.does (.axisWrite h axis pos) h
      ((t.modAx axis.toNat (fun a => { a with saturated := false })).axMeasure axis.toNat (t.axInv axis.toNat pos.toInt * 65536) s.devTime)) ∧
    (s.axSource axis.toNat ≠ 8 → s.does (.axisWrite h axis pos) h (t.axPreset axis.toNat pos.toInt 1)) := by
  refine ⟨fun hsrc => State.does_of_runI hr rfl ?_, fun hsrc => State.does_of_runI hr rfl ?_⟩
  · rw [if_neg (by omega), State.taken_owns, if_neg (not_not.mpr hown), State.taken_axSource, if_pos hsrc, State.taken_devTime]
    rfl
  · rw [if_neg (by omega), State.taken_owns, if_neg (not_not.mpr hown), State.taken_axSource, if_neg hsrc]
    rfl

theorem State.takes_axisPublish {enable : Byte} (hr : s.runs h (.axisPublish h axis enable) = true) (ha : axis.toNat ≤ 7) (he : enable.toNat ≤ 1)
    (hown : s.owns h.hc.val 1 axis.toNat = true) :
    s.takes (.axisPublish h axis enable) h (s.put ⟨crankPublish_axes.addr, axis.toNat, axis.toNat⟩ enable.toNat) := by
  refine State.takes_of_hosted hr rfl (fun o ht => ?_) (s.calm_put_above _ _ h.hc.isLt (by simp only [crankPublish_axes]; omega))
  rw [if_neg (by omega), State.taken_owns, if_neg (not_not.mpr hown), ht, State.hosted_put]
  rfl

/-- A loop of register writes does not look at the host contexts, and is calm where none of them is there. -/
theorem State.hosted_forEach_wr (l : List Nat) (addr : Nat → Nat) (val : Nat → Word) (s o : State) :
    forEach l (fun k u => u.wr (addr k) (val k)) (s.hosted o) = (forEach l (fun k u => u.wr (addr k) (val k)) s).hosted o := by
  induction l generalizing s with
  | nil => rfl
  | cons k l ih => rw [forEach_cons, forEach_cons, State.hosted_wr, ih]

theorem State.calm_wr_above (s : State) {a : Nat} (w : Word) {n : Nat} (hn : n < 8) (ha : 0x18000 ≤ a) : s.calm (s.wr a w) n := by
  refine ⟨rfl, rfl, rfl, rfl, rfl, rfl, ?_⟩
  rw [State.closed, State.closed, State.flag, State.flag, State.get, State.get, State.rd_wr_ne]
  simp only [hcState_closed]
  omega

theorem State.calm_forEach_wr (l : List Nat) (addr : Nat → Nat) (val : Nat → Word) {n : Nat} (hn : n < 8) (ha : ∀ k : Nat, 0x18000 ≤ addr k) (s : State) :
    s.calm (forEach l (fun k u => u.wr (addr k) (val k)) s) n := by
  induction l generalizing s with
  | nil => exact s.calm_refl n
  | cons k l ih => exact State.calm_trans (s.calm_wr_above _ hn (ha k)) (ih _)

theorem State.takes_leadSet {ch : Byte} {table : List Word} (hr : s.runs h (.leadSet h ch table) = true) (hch : ch.toNat ≤ 63)
    (hlen : table.length = 8) (hok : leadRecOk table = true) (hown : s.owns h.hc.val 0 ch.toNat = true) :
    s.takes (.leadSet h ch table) h (forEach (List.range 8) (fun k u => u.wr (spkLead_word ch.toNat k).addr (table.getD k 0)) s) := by
  refine State.takes_of_hosted hr rfl (fun o ht => ?_) (State.calm_forEach_wr _ _ _ h.hc.isLt (fun k => by simp only [spkLead_word]; omega) s)
  rw [if_neg (by simp [hlen, hok, hch]), State.taken_owns, if_neg (not_not.mpr hown), ht, State.hosted_forEach_wr]
  rfl

end

/-! ### Events -/

theorem State.modAx_congr {s : State} {n : Nat} {f g : Axis → Axis} (h : f (s.ax n) = g (s.ax n)) : s.modAx n f = s.modAx n g := by
  rw [State.modAx, State.modAx, h]

section
variable {s : State} {n : Fin 8} {a b : Bool}

/-- An edge of an axis that hears edges: where a filter runs it only starts the filter's wait. -/
theorem exec_encoderCount (hcrk : s.domOn Dm.crk = true) (hedge : axIsEdge (s.axSource n.val) = true) (hfield : s.axSource n.val ≠ 2 ∨ s.fieldLive = true)
    (hcont : s.axSource n.val ≠ 3 ∨ (s.swinCont (2 * s.axf n.val 0 23 16) = true ∧ s.swinCont (2 * s.axf n.val 0 23 16 + 1) = true)) :
    exec (.encoderCount n a b) s = .next (s.keep (if s.axFilt n.val = 0 then
        s.axEdge n.val a b (s.devTime - (if s.axSource n.val = 1 then 0 else s.pairDelay (s.axSource n.val) (s.axf n.val 0 23 16) ((s.ax n.val).a == a)))
      else (s.axSettle n.val).modAx n.val (fun x => { x with edgeA := filtEdge s.devTime x.a a x.edgeA, edgeB := filtEdge s.devTime x.b b x.edgeB }))) := by
  have hlive : (s.axSource n.val == 2 && !s.fieldLive) = false := by
    rcases hfield with hf | hf <;> simp [hf]
  have hcont' : ¬ (s.axSource n.val = 3 ∧ ¬ (s.swinCont (2 * s.axf n.val 0 23 16) = true ∧ s.swinCont (2 * s.axf n.val 0 23 16 + 1) = true)) := by
    tauto
  refine show execEncoderCount n a b s = _ from act_of_eq ?_
  dsimp only
  rw [hcrk, hedge, hlive, if_neg (by decide), if_neg hcont']

/-- A legal step counts. -/
theorem State.axEdge_counts {up : Bool} {tm : Nat} :
    let inv (k : Nat) : Bool := s.axSource n.val == 2 && s.fif (2 * s.axf n.val 0 23 16 + k) 25 25 == 1
    edgeDecode (s.axf n.val 0 25 24) ((s.ax n.val).a != inv 0) ((s.ax n.val).b != inv 1) (a != inv 0) (b != inv 1) = (some up, false) →
    s.axEdge n.val a b tm = (s.modAx n.val (fun x => { x with a := a, b := b })).axCount n.val (up != (s.axf n.val 0 15 15 == 1)) tm := by
  intro inv hdec
  unfold State.axEdge
  dsimp only
  rw [show edgeDecode _ _ _ _ _ = _ from hdec]

/-- An illegal step is counted as one, and the sixteenth within a second is a fault. -/
theorem State.axEdge_illegal {tm : Nat} :
    let inv (k : Nat) : Bool := s.axSource n.val == 2 && s.fif (2 * s.axf n.val 0 23 16 + k) 25 25 == 1
    edgeDecode (s.axf n.val 0 25 24) ((s.ax n.val).a != inv 0) ((s.ax n.val).b != inv 1) (a != inv 0) (b != inv 1) = (none, true) →
    let l := s.devTime :: (s.ax n.val).qerrs.filter (fun e => decide (s.devTime < e + sec 1))
    let t := (s.modAx n.val (fun x => { x with a := a, b := b })).inc (axDiag_qerr n.val)
    s.axEdge n.val a b tm = if 16 ≤ l.length then (t.modAx n.val (fun x => { x with qerrs := [] })).fault (0x58 + n.val) 0x20 n.val
      else t.modAx n.val (fun x => { x with qerrs := l }) := by
  intro inv hdec l t
  unfold State.axEdge
  dsimp only
  rw [show edgeDecode _ _ _ _ _ = _ from hdec]

end

/-- Settles O19. -/
theorem crankRowsComplete : Obligations.CrankRowsComplete := by
  unfold Obligations.CrankRowsComplete
  refine ⟨?_, ?_, ?_, ?_, ?_, ?_, ?_, fun n s hcrk hedge hdue hst => ?_, fun n s hcrk hmsg hdue hne1 hne2 => ⟨fun hx => ?_, fun hx => ?_⟩,
    fun n s hcrk hst hdue => ?_⟩
  · intro s h axis record c hr ha hlen hok hown
    exact State.does_axisConfig hr ha hlen hok hown
  · intro s h axis pos c t hr ha hown
    exact State.does_axisWrite hr ha hown
  · intro s h axis enable c hr ha he hown
    exact State.takes_axisPublish hr ha he hown
  · intro s h ch table c hr hch hlen hok hown
    exact State.takes_leadSet hr hch hlen hok hown
  · intro n a b up s hcrk hedge hfield hcont hfilt inv hdec
    rw [exec_encoderCount hcrk hedge hfield hcont, if_pos hfilt, State.axEdge_counts hdec]
  · intro n a b s hcrk hedge hfield hcont hfilt t
    rw [exec_encoderCount hcrk hedge hfield hcont, if_neg hfilt]
    exact congrArg (fun x => Host.Outcome.next (s.keep x)) (State.modAx_congr rfl)
  · intro n a b s hcrk hedge hfield hcont hfilt inv hdec l t
    rw [exec_encoderCount hcrk hedge hfield hcont, if_pos hfilt, State.axEdge_illegal hdec]
    exact ⟨fun hl => by rw [if_neg (Nat.not_le.mpr hl)], fun hl => by rw [if_pos hl]⟩
  · exact show execStandstill n s = _ from act_of_eq (if_pos ⟨hcrk, hedge, hdue, hst⟩)
  · exact show execCrankSource n s = _ from act_of_eq ((if_pos ⟨hcrk, hmsg, hdue, hne1, hne2⟩).trans (if_pos hx))
  · exact show execCrankSource n s = _ from act_of_eq ((if_pos ⟨hcrk, hmsg, hdue, hne1, hne2⟩).trans (if_neg hx))
  · exact show execExtrapolationEnd n s = _ from act_of_eq (if_pos ⟨hcrk, hst, hdue⟩)

end Sys2Proof.Machine
end

section
/-! PROOFS. SPK_ARM and its checks, SPK_CANCEL, and the Sprocket events (spec/10). -/

namespace Sys2Proof.Machine

/-! ### The checks of SPK_ARM -/

section
variable {s : State} {hc n : Nat} {ws : List Word}

theorem State.armRefusal_malformed (h : 4095 < n ∨ ws.length ≠ 8 ∨ s.slotRecOk ws = false) : s.armRefusal hc n ws = some St.badParam := if_pos h

section
variable (h : ¬ (4095 < n ∨ ws.length ≠ 8 ∨ s.slotRecOk ws = false))
include h

theorem State.armRefusal_taken {y : Slot} (hs : s.slot n = some y) :
    s.armRefusal hc n ws = some (if y.owner = hc then St.badState else St.notOwner) := by
  unfold State.armRefusal
  rw [if_neg h, hs]
  dsimp only
  split <;> rfl

variable (hs : s.slot n = none)
include hs

/-- The checks of a well-formed record for a free slot. -/
theorem State.armRefusal_free : s.armRefusal hc n ws =
    if s.actionOwned hc (mkSlot hc 0 ws) = false then some St.notOwner
    else if s.quota hc 1 < s.countClaimed hc 2 + 1 ∨ s.flag (hcState_overQuota hc) = true then some St.overQuota
    else if (mkSlot hc 0 ws).power = true ∧ (s.flag pwrStart_limp = true ∨ (mkSlot hc 0 ws).chans.any (fun c => (s.ch c).disabled) = true) then
      some St.badState
    else none := by
  unfold State.armRefusal
  rw [if_neg h, hs]

variable (hown : s.actionOwned hc (mkSlot hc 0 ws) = true)
include hown

theorem State.armRefusal_overQuota (hq : s.quota hc 1 ≤ s.countClaimed hc 2) : s.armRefusal hc n ws = some St.overQuota := by
  rw [State.armRefusal_free h hs, if_neg (by simp [hown]), if_pos (.inl (Nat.lt_succ_of_le hq))]

variable (hq : s.countClaimed hc 2 < s.quota hc 1) (hover : s.flag (hcState_overQuota hc) = false)
include hq hover

/-- With room in its quota only a power action is refused. -/
theorem State.armRefusal_withinQuota : s.armRefusal hc n ws =
    if (mkSlot hc 0 ws).power = true ∧ (s.flag pwrStart_limp = true ∨ (mkSlot hc 0 ws).chans.any (fun c => (s.ch c).disabled) = true) then
      some St.badState
    else none := by
  have hroom : ¬ (s.quota hc 1 < s.countClaimed hc 2 + 1 ∨ s.flag (hcState_overQuota hc) = true) := by
    rintro (h0 | h0)
    · omega
    · exact Bool.false_ne_true (hover.symm.trans h0)
  rw [State.armRefusal_free h hs, if_neg (by simp [hown]), if_neg hroom]

end
end

/-- Settles O22. -/
theorem spkArmRefusals : Obligations.SpkArmRefusals := by
  unfold Obligations.SpkArmRefusals
  intro s hc n ws x bad
  refine ⟨State.armRefusal_malformed, fun hok => ⟨fun y => State.armRefusal_taken hok, fun hs => ⟨fun hown => ?_, fun hown =>
    ⟨State.armRefusal_overQuota hok hs hown, fun hq hover => ⟨fun hp hl => ?_, fun hp hd => ?_, fun hp hl hd => ?_, fun hp => ?_⟩⟩⟩⟩⟩
  · rw [State.armRefusal_free hok hs, if_pos hown]
  · rw [State.armRefusal_withinQuota hok hs hown hq hover, if_pos ⟨hp, .inl hl⟩]
  · rw [State.armRefusal_withinQuota hok hs hown hq hover, if_pos ⟨hp, .inr hd⟩]
  · rw [State.armRefusal_withinQuota hok hs hown hq hover, if_neg]
    rintro ⟨-, h0 | h0⟩
    · exact Bool.false_ne_true (hl.symm.trans h0)
    · exact Bool.false_ne_true (hd.symm.trans h0)
  · rw [State.armRefusal_withinQuota hok hs hown hq hover, if_neg]
    exact fun h0 => Bool.false_ne_true (hp.symm.trans h0.1)

/-! ### Commands and events -/

/-- Settles O21. -/
theorem sprocketRowsComplete : Obligations.SprocketRowsComplete := by
  unfold Obligations.SprocketRowsComplete
  refine ⟨?_, ?_, ?_, ?_, ?_⟩
  · intro s h slot record c t u hr harm
    refine exec_of_dispatch_eq hr rfl ?_
    dsimp only
    rw [show (s.taken h.hc.val c).armRefusal h.hc.val slot.toNat record = none from harm]
  · intro s h first count c t mine hr
    refine State.does_of_runI hr rfl ?_
    simp only [State.taken_armed, State.taken_slot]
    rfl
  · intro s hcrk htick t
    have hrun : ¬ (s.domOn Dm.crk = false ∨ s.now < s.tickAt + us 1) := by
      rintro (h0 | h0)
      · exact Bool.false_ne_true (h0.symm.trans hcrk)
      · omega
    exact show execTrackerTick s = _ from act_of_eq (if_neg hrun)
  · intro n s x r at_ hslot hdue hcrk hnext hrate
    refine show execSprocketFire n s = _ from act_of_eq ?_
    simp only [hslot, hdue]
    rw [if_pos ⟨hcrk, hnext, hrate⟩]
  · intro n s x g hslot hgrant hst hdue hg
    refine show execSpkGrantReturn n s = _ from act_of_eq ?_
    simp only [hslot, hgrant]
    rw [if_pos ⟨hst, by rw [hdue]; rfl, hg⟩]

end Sys2Proof.Machine
end

section
/-! PROOFS. The CAN commands (spec/13). -/

namespace Sys2Proof.Machine

section
variable (s o : State)

theorem State.hosted_setPair (k : Nat) (p : Pair) : (s.hosted o).setPair k p = (s.setPair k p).hosted o := rfl
theorem State.hosted_setRxq (n q : Nat) (l : List RxEntry) : (s.hosted o).setRxq n q l = (s.setRxq n q l).hosted o := rfl
theorem State.hosted_modPort (n : Nat) (f : CanPort → CanPort) : (s.hosted o).modPort n f = (s.modPort n f).hosted o := rfl

theorem State.hosted_pullRx (n q hc : Nat) (e : RxEntry) : (s.hosted o).pullRx n q hc e = (s.pullRx n q hc e).hosted o := by
  have hrxq : (s.hosted o).rxq n q = s.rxq n q := rfl
  unfold State.pullRx
  rw [hrxq, State.hosted_modPort]

theorem State.calm_setPair (k m : Nat) (p : Pair) : s.calm (s.setPair k p) m := ⟨rfl, rfl, rfl, rfl, rfl, rfl, rfl⟩
theorem State.calm_setRxq (n q m : Nat) (l : List RxEntry) : s.calm (s.setRxq n q l) m := ⟨rfl, rfl, rfl, rfl, rfl, rfl, rfl⟩
theorem State.calm_modPort (n m : Nat) (f : CanPort → CanPort) : s.calm (s.modPort n f) m := ⟨rfl, rfl, rfl, rfl, rfl, rfl, rfl⟩
theorem State.calm_pullRx (n q hc m : Nat) (e : RxEntry) : s.calm (s.pullRx n q hc e) m := s.calm_modPort ..

end

section
variable {s : State} {h : Hdr} {port : Byte}

theorem State.does_canConfig {record : List Word} (hr : s.runs h (.canConfig h port record) = true) (hport : port.toNat ≤ 5)
    (hlen : record.length = 8) (hfields : onlyFields canFields record = true) (hok : canRecOk record = true)
    (hown : s.owns h.hc.val 3 port.toNat = true) (hst : s.get (canState_state port.toNat) ≠ 0) :
    let u := forEach (List.range 8) (fun k v => v.wr (canCfg_word port.toNat k).addr (record.getD k 0)) (s.taken h.hc.val (.canConfig h port record))
    s.does (.canConfig h port record) h (u.canErr port.toNat 0 0 (if u.get (canState_errstate port.toNat) = 2 then 2 else 0)) := by
  refine State.does_of_runI hr rfl ?_
  rw [if_neg (by simp [hlen, hfields, hok, hport]), State.taken_owns, if_neg (not_not.mpr hown), State.taken_get, if_neg hst]
  rfl

/-- CAN_STATE: at once, or, where a frame is on the air, when it has ended. -/
theorem State.canState_reaches {state : Byte} (hr : s.runs h (.canState h port state) = true) (hport : port.toNat ≤ 5) (hst : state.toNat ≤ 3)
    (hown : s.owns h.hc.val 3 port.toNat = true) :
    let t := s.taken h.hc.val (.canState h port state)
    let u := t.canGoTo port.toNat state.toNat
    let v := (t.disableTx port.toNat).addJob h (.canState h port state)
    (state = 0 ∨ ((t.disableTx port.toNat).port port.toNat).onAir = none → s.does (.canState h port state) h u (u.canSt port.toNat)) ∧
    (state ≠ 0 → ((t.disableTx port.toNat).port port.toNat).onAir.isSome = true →
      exec (.canState h port state) s = .next (s.keep (v.2.modPort port.toNat (fun p => { p with stop := some (state.toNat, some v.1) })))) := by
  intro t u v
  have hchk : ¬ (5 < port.toNat ∨ 3 < state.toNat) := by omega
  refine ⟨fun hnow => State.does_of_dispatch hr rfl ?_, fun hne hair => exec_of_dispatch_eq hr rfl ?_⟩
  · have hgo : ¬ (state ≠ 0 ∧ ((if state ≠ 0 then t.disableTx port.toNat else t).port port.toNat).onAir.isSome = true) := by
      rintro ⟨hne, hair⟩
      rw [if_pos hne] at hair
      rcases hnow with h0 | h0
      · exact hne h0
      · simp [h0] at hair
    dsimp only
    rw [if_neg hchk, State.taken_owns, if_neg (not_not.mpr hown), if_neg hgo]
  · have hgo : state ≠ 0 ∧ ((if state ≠ 0 then t.disableTx port.toNat else t).port port.toNat).onAir.isSome = true := by
      rw [if_pos hne]
      exact ⟨hne, hair⟩
    dsimp only
    rw [if_neg hchk, State.taken_owns, if_neg (not_not.mpr hown), if_pos hgo, if_pos hne]

theorem exec_canTx {txq : Byte} {frame : List Byte} (hr : s.runs h (.canTx h port txq frame) = true) (hport : port.toNat ≤ 5) (hq : txq.toNat ≤ 1)
    (hok : txOk frame = true) (hown : s.owns h.hc.val 3 port.toNat = true) (hall : s.canAllows port.toNat (txFrame frame).fmt = true)
    (hst : s.canSt port.toNat = 0) :
    let u := (s.taken h.hc.val (.canTx h port txq frame)).addJob h (.canTx h port txq frame)
    exec (.canTx h port txq frame) s = .next (s.keep (u.2.enqTx port.toNat txq.toNat (txFrame frame) (.cmd u.1))) := by
  refine exec_of_dispatch_eq hr rfl ?_
  dsimp only
  rw [if_neg (by simp [hok, hport, hq]), State.taken_owns, if_neg (not_not.mpr hown), State.taken_canAllows, State.taken_canSt,
    if_neg (by simp [hall, hst])]

/-- CAN_FILTER, by the pair's owner and by whether QUEUE frees the pair. -/
theorem State.canFilter_reaches {pair : Half} {queue : Byte} {mask pattern : Word} (hr : s.runs h (.canFilter h pair port queue mask pattern) = true)
    (hk : pair.toNat ≤ 1023) (hport : port.toNat ≤ 5) :
    let c := Instr.canFilter h pair port queue mask pattern
    let t := s.taken h.hc.val c
    let k := pair.toNat
    (queue.toNat ≤ 1 → s.owner 4 k = some h.hc.val → s.takes c h (s.setPair k ⟨port.toNat, queue.toNat, mask, pattern⟩)) ∧
    (queue.toNat ≤ 1 → s.owner 4 k = none → s.countClaimed h.hc.val 4 < s.quota h.hc.val 6 → s.flag (hcState_overQuota h.hc.val) = false →
      s.does c h ((t.setPair k ⟨port.toNat, queue.toNat, mask, pattern⟩).setOwner 4 k (some h.hc.val))) ∧
    (queue = 0xFF → s.owner 4 k = some h.hc.val → s.does c h (((t.setPair k {}).setOwner 4 k none).recheckQuota none h.hc.val)) ∧
    (queue = 0xFF → s.owner 4 k = none → s.takes c h s) := by
  intro c t k
  have hchk (hq : queue.toNat ≤ 1 ∨ queue = 0xFF) : ¬ (1023 < k ∨ 5 < port.toNat ∨ (1 < queue.toNat ∧ queue ≠ 0xFF)) := by
    rintro (h0 | h0 | ⟨h0, h1⟩)
    · omega
    · omega
    · rcases hq with hq | hq
      · omega
      · exact h1 hq
  have hne (hq : queue.toNat ≤ 1) : queue ≠ 0xFF := by
    rintro rfl
    exact absurd hq (by decide)
  refine ⟨fun hq ho => State.takes_of_hosted hr rfl (fun o ht => ?_) (s.calm_setPair ..), fun hq ho hroom hover => State.does_of_runI hr rfl ?_,
    fun hq ho => State.does_of_runI hr rfl ?_, fun hq ho => State.takes_same hr rfl ?_⟩
  · rw [if_neg (hchk (.inl hq)), State.taken_owner, ho]
    dsimp only
    rw [if_neg (not_not.mpr rfl), if_neg (hne hq), ht, State.hosted_setPair]
    rfl
  · have hroom' : ¬ (s.quota h.hc.val 6 < s.countClaimed h.hc.val 4 + 1 ∨ s.flag (hcState_overQuota h.hc.val) = true) := by
      rw [hover]
      simp only [Bool.false_eq_true, or_false]
      omega
    rw [if_neg (hchk (.inl hq)), State.taken_owner, ho]
    dsimp only
    rw [if_neg (hne hq), State.taken_quota, State.taken_countClaimed, State.taken_flag, if_neg hroom']
    rfl
  · rw [if_neg (hchk (.inr hq)), State.taken_owner, ho]
    dsimp only
    rw [if_neg (not_not.mpr rfl), if_pos hq]
    rfl
  · rw [if_neg (hchk (.inr hq)), State.taken_owner, ho]
    dsimp only
    rw [if_pos hq]
    rfl

theorem State.canRxPull_takes {queue : Byte} (hr : s.runs h (.canRxPull h port queue) = true) (hport : port.toNat ≤ 5) (hq : queue.toNat ≤ 1) :
    let after := (s.rxq port.toNat queue.toNat).filter (fun e => e.owner == h.hc.val && !e.pulled)
    (after = [] → s.takes (.canRxPull h port queue) h s) ∧
    (∀ (e : RxEntry) (rest : List RxEntry), after = e :: rest →
      s.takes (.canRxPull h port queue) h (s.pullRx port.toNat queue.toNat h.hc.val e)
        (0x8000000 + b2n e.drop * 0x4000000 + e.pair % 1024 * 0x10000 + satTo 65535 rest.length)
        (e.words.take 60 ++ List.replicate ((4 - (e.words.take 60).length % 4) % 4) 0)) := by
  intro after
  have hchk : ¬ (5 < port.toNat ∨ 1 < queue.toNat) := by omega
  refine ⟨fun hnil => State.takes_same hr rfl ?_, fun e rest hcons => State.takes_of_hosted hr rfl (fun o ht => ?_) (s.calm_pullRx ..)⟩
  · simp only [State.taken_rxq]
    rw [if_neg hchk, show List.filter _ _ = _ from hnil]
    rfl
  · simp only [State.taken_rxq]
    rw [if_neg hchk, show List.filter _ _ = _ from hcons, ht]
    simp only [State.hosted_pullRx]
    rfl

theorem State.canRxAck_takes {queue : Byte} {count : Half} (hr : s.runs h (.canRxAck h port queue count) = true) (hport : port.toNat ≤ 5)
    (hq : queue.toNat ≤ 1) :
    let n := port.toNat
    let q := queue.toNat
    (count = 0 → s.takes (.canRxAck h port queue count) h
      (s.setRxq n q ((s.rxq n q).map (fun e => if e.owner == h.hc.val then { e with pulled := false } else e)))) ∧
    (count ≠ 0 → s.takes (.canRxAck h port queue count) h (s.setRxq n q (ackFirst h.hc.val count.toNat (s.rxq n q)).1)
      (ackFirst h.hc.val count.toNat (s.rxq n q)).2) := by
  intro n q
  have hchk : ¬ (5 < port.toNat ∨ 1 < queue.toNat) := by omega
  refine ⟨fun h0 => State.takes_of_hosted hr rfl (fun o ht => ?_) (s.calm_setRxq ..), fun h0 => State.takes_of_hosted hr rfl (fun o ht => ?_) (s.calm_setRxq ..)⟩
  · simp only [State.taken_rxq]
    rw [if_neg hchk, if_pos h0, ht, State.hosted_setRxq]
    rfl
  · simp only [State.taken_rxq]
    rw [if_neg hchk, if_neg h0]
    conv_lhs => rw [ht]
    generalize ackFirst _ _ _ = p
    obtain ⟨l, m⟩ := p
    dsimp only
    rw [State.hosted_setRxq]
    rfl

end

/-- Settles O23. -/
theorem canCommandsComplete : Obligations.CanCommandsComplete := by
  unfold Obligations.CanCommandsComplete
  refine ⟨?_, ?_, ?_, ?_, ?_, ?_⟩
  · intro s h port record c u hr hport hlen hfields hok hown hst
    exact State.does_canConfig hr hport hlen hfields hok hown hst
  · intro s h port state c t u v hr hport hst hown
    exact State.canState_reaches hr hport hst hown
  · intro s h port txq frame c u hr hport hq hok hown hall hst
    exact exec_canTx hr hport hq hok hown hall hst
  · intro s h pair port queue mask pattern c t k hr hk hport
    exact State.canFilter_reaches hr hk hport
  · intro s h port queue c after hr hport hq
    exact State.canRxPull_takes hr hport hq
  · intro s h port queue count c n q hr hport hq
    exact State.canRxAck_takes hr hport hq

end Sys2Proof.Machine
end

section
/-! PROOFS. The CAN events (spec/13). -/

namespace Sys2Proof.Machine

/-! ### Errors on the bus -/

/-- A counter of frame errors stands apart from CANn_STATE. -/
theorem canState_addr_ne_canErrcnt (f : Fld) (n m : Nat) (hf : f.addr = (canState_rec n).addr) : f.addr ≠ (canErrcnt_errframes m).addr := by
  rw [hf]
  simp only [canState_rec, canErrcnt_errframes]
  omega

theorem State.canSt_countError (s : State) (n : Nat) : (s.inc (canErrcnt_errframes n)).canSt n = s.canSt n := by
  have hiso : (s.inc (canErrcnt_errframes n)).isolated (0x48 + n) = s.isolated (0x48 + n) := rfl
  rw [State.canSt, State.canSt, hiso, State.get_inc_ne _ (canState_addr_ne_canErrcnt (canState_state n) n n rfl)]

section
variable {s : State} {n : Nat} (hhears : s.canHears n = true) (more : Nat)
include hhears

theorem State.canRxError_stopped (hst : s.canSt n ≠ 0) : s.canRxError n more = s.inc (canErrcnt_errframes n) := by
  unfold State.canRxError
  dsimp only
  rw [if_neg (by simp [hhears]), State.canSt_countError, if_pos hst]

theorem State.canRxError_started (hst : s.canSt n = 0) : s.canRxError n more =
    (s.inc (canErrcnt_errframes n)).canErr n (s.get (canState_tec n)) (s.get (canState_rec n) + 1 + 8 * more)
      (errOf (s.get (canState_tec n)) (s.get (canState_rec n) + 1 + 8 * more)) := by
  unfold State.canRxError
  dsimp only
  rw [if_neg (by simp [hhears]), State.canSt_countError, if_neg (not_not.mpr hst),
    State.get_inc_ne _ (canState_addr_ne_canErrcnt (canState_rec n) n n rfl), State.get_inc_ne _ (canState_addr_ne_canErrcnt (canState_tec n) n n rfl)]

end

section
variable {p : Fin 6} {age delay q : Nat} {x : TxItem} {s : State}

theorem exec_canFrameReceived {f : CanFrame} (hhears : s.canHears p.val = true) : exec (.canFrameReceived p f age) s = .next (s.keep
    (if s.canAllows p.val f.fmt = false then if s.canf p.val 0 26 26 = 1 then s else s.canRxError p.val 0 else s.canFrameIn p.val f age)) :=
  show execCanFrameReceived p f age s = _ from act_of_eq (if_neg (by simp [hhears]))

theorem exec_canTxComplete (hends : s.canEnds p.val = true) (hwire : s.onWire p.val = some (q, x)) : exec (.canTxComplete p age delay) s = .next (s.keep
    (if s.tdcOn p.val x.frame = true ∧ 127 < delay then (s.canTxError p.val q x (some ⟨.bit, .control, false⟩) 0 age delay).attemptOver p.val
      else (s.canTxDone p.val q x age delay).attemptOver p.val)) := by
  refine show execCanTxComplete p age delay s = _ from act_of_eq ?_
  dsimp only
  rw [if_neg (by simp [hends]), hwire]

/-- An error while the port's own frame is on the bus. -/
theorem exec_canBusError_own (hends : s.canEnds p.val = true) (hwire : s.onWire p.val = some (q, x)) (more : Nat) :
    exec (.canBusError p .lost more age delay) s = .next (s.keep ((s.canTxError p.val q x none more age delay).attemptOver p.val)) ∧
    ∀ e : CanFault, exec (.canBusError p (.own e) more age delay) s =
      .next (s.keep ((s.canTxError p.val q x (some e) more age delay).attemptOver p.val)) := by
  refine ⟨show execCanBusError p .lost more age delay s = _ from act_of_eq ?_,
    fun e => show execCanBusError p (.own e) more age delay s = _ from act_of_eq ?_⟩
  · dsimp only
    rw [if_neg (by simp [hends]), hwire]
  · dsimp only
    rw [if_neg (by simp [hends]), hwire]

theorem exec_canBusError_received {e : CanFault} {more : Nat} (hair : (s.port p.val).onAir = none) :
    exec (.canBusError p (.received e) more age delay) s = .next (s.keep (s.canRxError p.val more)) := by
  refine show execCanBusError p (.received e) more age delay s = _ from act_of_eq ?_
  dsimp only
  rw [hair, if_neg (by simp)]

end

/-! ### Back-off -/

/-- A frame whose back-off has ended is free. -/
def TxItem.freed (now : Nat) (x : TxItem) : TxItem :=
  match x.held with
  | some e => if e ≤ now then { x with held := none } else x
  | none => x

theorem TxItem.freed_held (now : Nat) (x : TxItem) : (x.freed now).held.all (fun e => decide (now < e)) = true := by
  unfold TxItem.freed
  rcases hx : x.held with - | e
  · simp [hx]
  · by_cases he : e ≤ now
    · simp [he]
    · simp [he, hx]
      omega

theorem State.backoffOver_eq (s : State) (n : Nat) :
    let t := s.modPort n (fun p => { p with q0 := p.q0.map (TxItem.freed s.now), q1 := p.q1.map (TxItem.freed s.now) })
    s.backoffOver n = t.putB (canState_backoff n) (t.anyHeld n) := rfl

theorem State.backoffOver_waits (s : State) (n : Nat) :
    (((s.backoffOver n).port n).q0 ++ ((s.backoffOver n).port n).q1).all (fun x => x.held.all (fun e => decide (s.now < e))) = true := by
  have hport : (s.backoffOver n).port n =
      { s.port n with q0 := (s.port n).q0.map (TxItem.freed s.now), q1 := (s.port n).q1.map (TxItem.freed s.now) } := by
    rw [State.backoffOver_eq]
    dsimp only
    rw [State.putB_port, State.port_modPort_self]
  rw [hport]
  simp [List.all_append, List.all_map, TxItem.freed_held, Function.comp_def]

theorem State.backoffOver_flag (s : State) (n : Nat) : (s.backoffOver n).flag (canState_backoff n) = (s.backoffOver n).anyHeld n := by
  have hflag (t : State) (b : Bool) : (t.putB (canState_backoff n) b).flag (canState_backoff n) = b := by
    rw [State.flag, State.putB, State.get_put_self _ (canState_backoff n) _ (of_decide_eq_true rfl) (of_decide_eq_true rfl)]
    cases b <;> rfl
  have hheld (t : State) (b : Bool) : (t.putB (canState_backoff n) b).anyHeld n = t.anyHeld n := rfl
  rw [State.backoffOver_eq]
  rw [hflag, hheld]

/-- Settles O24. -/
theorem canEventsComplete : Obligations.CanEventsComplete := by
  unfold Obligations.CanEventsComplete
  refine ⟨fun p f age s hhears => ⟨fun hall => ?_, fun hall hx => ?_, fun hall hx => ?_⟩,
    fun p age delay q x s hends hwire => ⟨fun htdc => ?_, fun htdc hd => ?_, fun more => (exec_canBusError_own hends hwire more).1,
      fun e more => (exec_canBusError_own hends hwire more).2 e⟩, ?_, fun p s => ⟨?_, ?_, s.backoffOver_flag p.val⟩, fun k x s hflow hnet hopen hat_ => ?_,
    fun p s hdom hst herr hrec hcf hbo => ?_, fun p s hdom hst herr hrec hbo => ?_, fun p s htm hwant hat_ => ?_, fun p m s hwant htm => ?_⟩
  · rw [exec_canFrameReceived hhears, if_neg (by simp [hall])]
  · exact show execCanFrameReceived p f age s = _ from
      act_of_eq_same ((if_neg (by simp [hhears])).trans ((if_pos hall).trans (if_pos hx))) rfl rfl rfl
  · rw [exec_canFrameReceived hhears, if_pos hall, if_neg (by simp [hx])]
  · rw [exec_canTxComplete hends hwire, if_neg]
    rintro ⟨h1, h2⟩
    rcases htdc with h0 | h0
    · exact Bool.false_ne_true (h0.symm.trans h1)
    · omega
  · rw [exec_canTxComplete hends hwire, if_pos ⟨htdc, hd⟩]
  · intro p e more age delay s hair hhears r
    exact ⟨exec_canBusError_received hair, State.canRxError_stopped hhears more, State.canRxError_started hhears more⟩
  · exact show execBackoffEnd p s = _ from act_of_eq_same rfl rfl rfl rfl
  · exact s.backoffOver_waits p.val
  · refine show execAcfMaxWait k s = _ from act_of_eq ?_
    simp only [hflow]
    exact if_pos ⟨hnet, hopen, hat_⟩
  · exact show execBusoffRecoveryStart p s = _ from act_of_eq (if_pos ⟨hdom, hst, herr, hrec, hcf, hbo⟩)
  · exact show execBusoffRecovered p s = _ from act_of_eq (if_pos ⟨hdom, hst, herr, hrec, hbo⟩)
  · exact show execTimeMasterSync p s = _ from act_of_eq (if_pos ⟨htm, hwant, hat_⟩)
  · refine show execTimeMasterRoleChange p m s = _ from act_of_eq ((if_pos ⟨hwant, htm⟩).trans ?_)
    rfl

end Sys2Proof.Machine
end

section
/-! PROOFS. Sleep agreement and the wake-up frame detector of a port (spec/15, R335, R339 to R341). -/

namespace Sys2Proof.Machine

/-! ### False wakes -/

/-- A false wake as the port's counters hold it. -/
def State.falseCounted (s : State) (n : Nat) : State := (s.inc (pwrFw_total n)).inc (pwrFw_consec n)

/-- What the action of a false wake sets, `fa` by its setting. -/
def State.falseActed (s : State) (n fa : Nat) : State :=
  let t := s.put (pwrFw_consec n) 0
  if fa = 1 then t.put (pwrFw_tight n) 1
  else if fa = 2 then (t.put (pwrFw_susp n) 1).modPort n (fun p => { p with suspEnd := t.now + sec (60 * 2 ^ t.wkf (0x10 + n) 0 27 24) })
  else t

section
variable (s : State) {n : Nat} (hn : n < 6)

include hn

theorem State.falseCounted_wkf (k hi lo : Nat) (hk : k < 4) : (s.falseCounted n).wkf (0x10 + n) k hi lo = s.wkf (0x10 + n) k hi lo := by
  have haddr (f : Fld) (hf : f.addr = (pwrFw_consec n).addr) : (pwrWakecfg_word (0x10 + n) k).addr ≠ f.addr := by
    rw [hf]
    simp only [pwrWakecfg_word, pwrFw_consec]
    omega
  rw [State.wkf, State.wkf, State.falseCounted, State.rd_inc_ne _ (pwrFw_consec n) (haddr _ rfl), State.rd_inc_ne _ (pwrFw_total n) (haddr _ rfl)]

theorem State.falseWake_counted (h : s.wkf (0x10 + n) 3 7 4 = 0 ∨ (s.falseCounted n).get (pwrFw_consec n) < s.wkf (0x10 + n) 3 7 4) :
    s.falseWake n = s.falseCounted n := by
  rw [← s.falseCounted_wkf hn 3 7 4 (by decide)] at h
  exact if_pos h

theorem State.falseWake_acted (h0 : s.wkf (0x10 + n) 3 7 4 ≠ 0) (h : s.wkf (0x10 + n) 3 7 4 ≤ (s.falseCounted n).get (pwrFw_consec n)) :
    let t := (s.falseCounted n).falseActed n (s.wkf (0x10 + n) 3 3 2)
    s.falseWake n = (t.post ([0] ++ t.ownerList 3 n) 20 0x02 n (s.wkf (0x10 + n) 3 3 2) 0).fault (0x48 + n) 0x2A n := by
  have hnot : ¬ ((s.falseCounted n).wkf (0x10 + n) 3 7 4 = 0 ∨ (s.falseCounted n).get (pwrFw_consec n) < (s.falseCounted n).wkf (0x10 + n) 3 7 4) := by
    rw [s.falseCounted_wkf hn 3 7 4 (by decide)]
    omega
  rw [← s.falseCounted_wkf hn 3 3 2 (by decide)]
  exact if_neg hnot

end

section
variable (s : State) {n : Nat} (fa : Nat)

theorem pwrFw_not_hubWrites (hn : n < 6) (f : Fld) (hf : f.addr = (pwrFw_consec n).addr) : ¬ hubWrites f.addr := by
  rw [hf]
  rintro (h | h | ⟨m, h⟩) <;> simp only [pwrFw_consec, sysPoolstat_lowest, evtHub_hubdrop, evtStat_lost] at h <;> omega

theorem State.falseActed_consec : (s.falseActed n fa).get (pwrFw_consec n) = 0 := by
  have hput : (s.put (pwrFw_consec n) 0).get (pwrFw_consec n) = 0 :=
    State.get_put_self s (pwrFw_consec n) 0 (of_decide_eq_true rfl) (of_decide_eq_true rfl)
  unfold State.falseActed
  dsimp only
  split
  · rw [State.get_put_beside _ (pwrFw_tight n) (pwrFw_consec n) _ rfl rfl, hput]
  split
  · rw [State.modPort_get, State.get_put_beside _ (pwrFw_susp n) (pwrFw_consec n) _ rfl rfl, hput]
  · exact hput

theorem State.falseActed_tight : (s.falseActed n 1).flag (pwrFw_tight n) = true := by
  unfold State.falseActed
  rw [if_pos rfl, State.flag, State.get_put_self _ (pwrFw_tight n) _ (of_decide_eq_true rfl) (of_decide_eq_true rfl)]
  rfl

theorem State.falseActed_susp : (s.falseActed n 2).flag (pwrFw_susp n) = true := by
  unfold State.falseActed
  rw [if_neg (by decide), if_pos rfl, State.flag, State.modPort_get, State.get_put_self _ (pwrFw_susp n) _ (of_decide_eq_true rfl) (of_decide_eq_true rfl)]
  rfl

theorem State.falseActed_inbox : (s.falseActed n fa).inbox = s.inbox := by
  unfold State.falseActed
  dsimp only
  split
  · rw [State.put_inbox, State.put_inbox]
  split
  · rw [State.modPort_inbox, State.put_inbox, State.put_inbox]
  · exact State.put_inbox ..

theorem HubBlind.inbox : HubBlind State.inbox := ⟨fun _ _ _ => rfl, fun _ _ _ => rfl, fun _ _ => rfl, fun _ _ => rfl⟩

end

/-- Settles O26. -/
theorem sleepAgreementComplete : Obligations.SleepAgreementComplete := by
  unfold Obligations.SleepAgreementComplete
  refine ⟨fun p s hruns hst hat_ => ?_, fun p s hruns hwaits hst hready hat_ => ?_, fun p s hst hwaits hat_ => ?_, fun p f s hdet hmatch => ?_,
    fun p s hdet => ?_, ?_, fun p s hsusp hend => ?_⟩
  · exact show execNmPeriod p s = _ from act_of_eq (if_pos ⟨hruns, hst, hat_⟩)
  · exact show execNmAgreement p s = _ from act_of_eq (if_pos ⟨hruns, hwaits, hst, hready, hat_⟩)
  · exact show execWaitBusSleepEnd p s = _ from act_of_eq (if_pos ⟨hst, hwaits, hat_⟩)
  · exact show execCanWakeFrame p f s = _ from act_of_eq (if_pos ⟨hdet, hmatch⟩)
  · exact show execFrameErrorWake p s = _ from act_of_eq (if_pos hdet)
  · intro p s a hfw hat_ t u
    have hdue : ¬ s.now < a + ms 200 := Nat.not_lt.mpr hat_
    have hwkf (hi lo : Nat) : t.wkf (0x10 + p.val) 3 hi lo = s.wkf (0x10 + p.val) 3 hi lo := rfl
    refine ⟨fun hgood => ?_, fun hgood => ?_, fun hbelow => State.falseWake_counted t p.isLt hbelow, fun h0 hthr => ?_⟩
    · refine show execFalseWakeCheck p s = _ from act_of_eq_same ?_ (State.put_pending ..) (State.put_now ..) (State.put_otp ..)
      simp only [hfw]
      rw [if_neg hdue, if_pos hgood]
    · refine show execFalseWakeCheck p s = _ from act_of_eq ?_
      simp only [hfw]
      rw [if_neg hdue, if_neg (by simp [hgood])]
    · have hacts := State.falseWake_acted t p.isLt h0 hthr
      have hget (f : Fld) (hf : f.addr = (pwrFw_consec p.val).addr) :
          (t.falseWake p.val).get f = ((t.falseCounted p.val).falseActed p.val (s.wkf (0x10 + p.val) 3 3 2)).get f := by
        rw [hacts]
        exact State.post_get (pwrFw_not_hubWrites p.isLt f hf) ..
      refine ⟨?_, ?_, fun hfa => ?_, fun hfa => ?_⟩
      · rw [hget _ rfl, State.falseActed_consec]
      · rw [hacts, State.fault_inbox]
        have hpost := HubBlind.inbox.post ((t.falseCounted p.val).falseActed p.val (t.wkf (0x10 + p.val) 3 3 2))
        rw [hpost, State.falseActed_inbox, State.falseCounted, State.inc_inbox, State.inc_inbox]
        rfl
      · rw [State.flag, hget (pwrFw_tight p.val) rfl, hfa]
        exact State.falseActed_tight _
      · rw [State.flag, hget (pwrFw_susp p.val) rfl, hfa]
        exact State.falseActed_susp _
  · exact show execWakeSuspendEnd p s = _ from act_of_eq_same (if_pos ⟨hsusp, hend⟩) (State.put_pending ..) (State.put_now ..) (State.put_otp ..)

end Sys2Proof.Machine
end

section
/-! PROOFS. The network commands, the Ethernet events and gPTP (spec/14). -/

namespace Sys2Proof.Machine

/-! ### FLOW_ADD -/

/-- The flow that FLOW_ADD writes. -/
def ownFlow (record : List Word) (now : Nat) : Flow := { rec_ := record, learned := false, hitAt := now }

section
variable {s : State} {h : Hdr} {flow : Half} {record : List Word} (hr : s.runs h (.flowAdd h flow record) = true) (hok : flowRecOk record = true)
  (hin : s.ownsPorts h.hc.val ((ownFlow record s.now).fld 0 13 0) = true) (hout : s.ownsPorts h.hc.val ((ownFlow record s.now).fld 1 13 0) = true)
  (hnew : s.findFlow (fun y => !y.learned && y.key == (ownFlow record s.now).key) = none)
include hr hok hin hout hnew

/-- FLOW_ADD into a context that it names and may take. -/
theorem State.does_flowAdd_at (hk : flow.toNat < 512)
    (hfree : (s.flow flow.toNat = none ∨ ∃ y : Flow, s.flow flow.toNat = some y ∧ y.learned = true) ∧
        s.countClaimed h.hc.val 5 < s.quota h.hc.val 7 ∧ s.flag (hcState_overQuota h.hc.val) = false ∨
      ∃ y : Flow, s.flow flow.toNat = some y ∧ y.learned = false ∧ s.owns h.hc.val 5 flow.toNat = true) :
    let t := (s.taken h.hc.val (.flowAdd h flow record)).dropLearned (ownFlow record s.now).key
    s.does (.flowAdd h flow record) h (((t.freeFlow flow.toNat).setFlow flow.toNat (some (ownFlow record s.now))).setOwner 5 flow.toNat (some h.hc.val)).leftFree
      flow.toNat := by
  intro t
  have hrange : ¬ 511 < flow.toNat := by omega
  have hroom' (hroom : s.countClaimed h.hc.val 5 < s.quota h.hc.val 7) (hover : s.flag (hcState_overQuota h.hc.val) = false) :
      ¬ (s.quota h.hc.val 7 < s.countClaimed h.hc.val 5 + 1 ∨ s.flag (hcState_overQuota h.hc.val) = true) := by
    rw [hover, Bool.false_eq_true, or_false]
    omega
  unfold ownFlow at *
  refine State.does_of_runI hr rfl ?_
  rcases hfree with ⟨hflow | ⟨y, hflow, hl⟩, hroom, hover⟩ | ⟨y, hflow, hl, hown⟩
  · simp only [State.taken_now, State.taken_flow, State.taken_ownsPorts, State.taken_findFlow, State.taken_quota,
      State.taken_countClaimed, State.taken_flag, if_pos hk, hflow, hok, hrange, hin, hout, hnew]
    rw [if_neg (by simp), if_neg (by simp), if_neg (by simp), if_neg (fun h0 => hroom' hroom hover h0.2)]
    rfl
  · simp only [State.taken_now, State.taken_flow, State.taken_ownsPorts, State.taken_findFlow, State.taken_owns, State.taken_quota,
      State.taken_countClaimed, State.taken_flag, if_pos hk, hflow, hok, hrange, hin, hout, hnew, hl]
    rw [if_neg (by simp), if_neg (by simp), if_neg (by simp), if_neg (fun h0 => hroom' hroom hover h0.2)]
    rfl
  · simp only [State.taken_now, State.taken_flow, State.taken_ownsPorts, State.taken_findFlow, State.taken_owns, State.taken_quota,
      State.taken_countClaimed, State.taken_flag, if_pos hk, hflow, hok, hrange, hin, hout, hnew, hl, hown]
    rw [if_neg (by simp), if_neg (by simp), if_neg (by simp), if_neg (by simp)]
    rfl

/-- FLOW_ADD that lets the block choose the context. -/
theorem State.does_flowAdd_placed {n : Nat} (hk : flow.toNat = 0xFFFF) (hroom : s.countClaimed h.hc.val 5 < s.quota h.hc.val 7)
    (hover : s.flag (hcState_overQuota h.hc.val) = false) :
    ((s.taken h.hc.val (.flowAdd h flow record)).dropLearned (ownFlow record s.now).key).placeCtx.1 = some n →
    s.does (.flowAdd h flow record) h
      (((((s.taken h.hc.val (.flowAdd h flow record)).dropLearned (ownFlow record s.now).key).placeCtx.2.setFlow n
        (some (ownFlow record s.now))).setOwner 5 n (some h.hc.val)).leftFree) n := by
  intro hplace
  have hroom' : ¬ (s.quota h.hc.val 7 < s.countClaimed h.hc.val 5 + 1 ∨ s.flag (hcState_overQuota h.hc.val) = true) := by
    rw [hover, Bool.false_eq_true, or_false]
    omega
  have hlt : ¬ flow.toNat < 512 := by omega
  have hown : ({ rec_ := record, learned := false, hitAt := s.now } : Flow) = ownFlow record s.now := rfl
  refine State.does_of_runI hr rfl ?_
  simp only [State.taken_now, hown, State.taken_ownsPorts, State.taken_findFlow, State.taken_quota,
    State.taken_countClaimed, State.taken_flag, if_neg hlt, hok, hin, hout, hnew]
  rw [if_neg (by simp [hk]), if_neg (by simp), if_neg (by simp)]
  refine (if_neg (fun h0 => hroom' h0.2)).trans ?_
  rw [hplace]
  rfl

end

/-! ### Other network commands -/

theorem State.does_flowRemove {s : State} {h : Hdr} {flow : Half} (hr : s.runs h (.flowRemove h flow) = true) (hk : flow.toNat ≤ 511)
    (hown : s.owns h.hc.val 5 flow.toNat = true) :
    s.does (.flowRemove h flow) h (((s.taken h.hc.val (.flowRemove h flow)).freeFlow flow.toNat).leftFree.recheckQuota none h.hc.val) := by
  refine State.does_of_runI hr rfl ?_
  rw [if_neg (by omega), State.taken_owns, if_neg (not_not.mpr hown)]
  rfl

theorem State.does_ethConfig {s : State} {h : Hdr} {port : Byte} {record : List Word} (hr : s.runs h (.ethConfig h port record) = true)
    (hp : port.toNat ≤ 5) (hlen : record.length = 8) (hfields : onlyFields portFields record = true) (hok : portRecOk port.toNat record = true)
    (hslave : setField record 3 30 30 = 0 ∨ s.otherSlave port.toNat = false) (hown : s.owns h.hc.val 0x0C port.toNat = true) :
    s.does (.ethConfig h port record) h ((s.taken h.hc.val (.ethConfig h port record)).putPortRec port.toNat record) := by
  have hchk : ¬ (5 < port.toNat ∨ record.length ≠ 8 ∨ onlyFields portFields record = false ∨ portRecOk port.toNat record = false ∨
      (setField record 3 30 30 = 1 ∧ s.otherSlave port.toNat = true)) := by
    rcases hslave with h0 | h0 <;> simp [hlen, hfields, hok, h0, hp]
  refine State.does_of_runI hr rfl ?_
  simp only [State.taken_otherSlave]
  rw [if_neg hchk, State.taken_owns, if_neg (not_not.mpr hown)]
  rfl

/-! ### Frames that age -/

theorem State.ageOut_fwd (s : State) (p : Nat) : ∀ f ∈ (s.ageOut p).fwd, f.copies ≠ [] ∧
    ∀ c ∈ f.copies, c.port = p → s.now < c.since + ms (bits (s.portWord p 2) 15 0) := by
  intro f hf
  have hdrop (u : State) : (u.ageDrop p).fwd = u.fwd := by
    rw [State.ageDrop, State.inc_fwd]
    rfl
  unfold State.ageOut at hf
  dsimp only at hf
  rw [forEach_keeps State.fwd _ _ (fun _ u => hdrop u)] at hf
  obtain ⟨hmem, hne⟩ := List.mem_filter.mp hf
  obtain ⟨g, -, rfl⟩ := List.mem_map.mp hmem
  refine ⟨by simpa using hne, fun c hc hport => ?_⟩
  have hold := (List.mem_filter.mp hc).2
  simpa [hport] using hold

/-! ### Links -/

theorem phyStat_not_hubWrites {p : Nat} (hp : p < 4) {f : Fld} (hf : f.addr = (phyStat_link p).addr) : ¬ hubWrites f.addr := by
  rw [hf]
  rintro (h | h | ⟨m, h⟩) <;> simp only [phyStat_link, sysPoolstat_lowest, evtHub_hubdrop, evtStat_lost] at h <;> omega

theorem State.noteT1s_get (s : State) (p : Nat) (f : Fld) : (s.noteT1s p).get f = s.get f := by
  unfold State.noteT1s
  split
  · dsimp only
    split <;> rfl
  · rfl

theorem State.putB_flag_self (f : Fld) {s : State} {b : Bool} (hf : decide (f.lo ≤ f.hi ∧ f.hi ≤ 31) = true) : (s.putB f b).flag f = b := by
  obtain ⟨hlo, hhi⟩ := of_decide_eq_true hf
  rw [State.flag, State.putB, State.get_put_self _ _ _ (Nat.le_succ_of_le hlo) hhi]
  have hone : 1 % 2 ^ (f.hi + 1 - f.lo) = 1 := Nat.mod_eq_of_lt (Nat.one_lt_two_pow (by omega))
  cases b <;> simp [b2n, hone]

theorem State.plcaTo_flags (s : State) (p : Nat) (ok : Bool) :
    (s.plcaTo p ok).flag (phyStat_link p) = s.flag (phyStat_link p) ∧ (s.plcaTo p ok).flag (phyStat_plcaOk p) = ok := by
  unfold State.plcaTo
  by_cases h : s.flag (phyStat_plcaOk p) = ok
  · rw [if_pos h]
    exact ⟨rfl, h⟩
  · rw [if_neg h]
    have hstat (u : State) (f : Fld) : (u.stat p 2 2).flag f = u.flag f := rfl
    rw [hstat, hstat, State.putB_flag_self (phyStat_plcaOk p) rfl, State.flag, State.flag, State.putB,
      State.get_put_beside _ (phyStat_plcaOk p) (phyStat_link p) _ rfl rfl]
    exact ⟨rfl, rfl⟩

theorem State.netLinkTo_flags (s : State) {p : Nat} (hp : p < 4) (up plca : Bool) :
    (s.netLinkTo p up plca).flag (phyStat_link p) = up ∧ (s.netLinkTo p up plca).flag (phyStat_plcaOk p) = plca := by
  have hevent (u : State) (f : Fld) (hf : f.addr = (phyStat_link p).addr) : (u.netLinkEvent p up plca).flag f = u.flag f := by
    rw [State.flag, State.flag, State.netLinkEvent_get (phyStat_not_hubWrites hp hf)]
  have hquality (u : State) (q r : Nat) : ((u.put (phyStat_sqi p) q).put (phyStat_role p) r).flag (phyStat_link p) = u.flag (phyStat_link p) ∧
      ((u.put (phyStat_sqi p) q).put (phyStat_role p) r).flag (phyStat_plcaOk p) = u.flag (phyStat_plcaOk p) := by
    constructor
    · rw [State.flag, State.flag, State.get_put_beside _ (phyStat_role p) (phyStat_link p) _ rfl rfl,
        State.get_put_beside _ (phyStat_sqi p) (phyStat_link p) _ rfl rfl]
    · rw [State.flag, State.flag, State.get_put_beside _ (phyStat_role p) (phyStat_plcaOk p) _ rfl rfl,
        State.get_put_beside _ (phyStat_sqi p) (phyStat_plcaOk p) _ rfl rfl]
  obtain ⟨hlink, hplca⟩ := State.plcaTo_flags ((s.noteT1s p).putB (phyStat_link p) up) p plca
  rw [State.putB_flag_self (phyStat_link p) rfl] at hlink
  unfold State.netLinkTo
  generalize State.plcaTo _ p plca = t at *
  have hbeacon (f : Fld) : (if plca = true then t.modNet p (fun n => { n with beaconAt := s.now }) else t).flag f = t.flag f := by
    split <;> rfl
  dsimp only
  split
  · rw [hevent _ (phyStat_link p) rfl, hevent _ (phyStat_plcaOk p) rfl, (hquality _ _ _).1, (hquality _ _ _).2]
    exact ⟨(hbeacon _).trans hlink, (hbeacon _).trans hplca⟩
  · rw [hevent _ (phyStat_link p) rfl, hevent _ (phyStat_plcaOk p) rfl, hbeacon, hbeacon]
    exact ⟨hlink, hplca⟩

/-- Settles O27. -/
theorem networkRowsComplete : Obligations.NetworkRowsComplete := by
  unfold Obligations.NetworkRowsComplete
  refine ⟨?_, ?_, ?_, fun p f s => ?_, fun p s => ⟨?_, s.ageOut_fwd p.val⟩, fun p s h2 hen hb hok hbe => ?_, ?_, fun p o r d s hslave hup => ?_, fun s hslave => ?_,
    fun p s hslave hat_ => ?_⟩
  · intro s h flow record c hc k x t hr hok hin hout hnew
    refine ⟨fun hk hl hroom hover => ?_, fun y hk hflow hl hown => ?_, fun n hk hroom hover hplace => ?_⟩
    · refine State.does_flowAdd_at hr hok hin hout hnew hk (.inl ⟨?_, hroom, hover⟩)
      rcases hflow : s.flow flow.toNat with - | y
      · exact .inl rfl
      · exact .inr ⟨y, rfl, by simpa [k, hflow] using hl⟩
    · exact State.does_flowAdd_at hr hok hin hout hnew hk (.inr ⟨y, hflow, hl, hown⟩)
    · exact State.does_flowAdd_placed hr hok hin hout hnew hk hroom hover hplace
  · intro s h flow c hr hk hown
    exact State.does_flowRemove hr hk hown
  · intro s h port record c p hr hp hlen hfields hok hslave hown
    exact State.does_ethConfig hr hp hlen hfields hok hslave hown
  · exact show execEthFrameReceived p f s = _ from act_of_eq rfl
  · exact show execEgressAge p s = _ from act_of_eq rfl
  · exact show execPlcaBeaconLoss p s = _ from act_of_eq (if_pos ⟨h2, hen, hb, hok, hbe⟩)
  · intro p plca s hdom runs
    refine ⟨fun hen hiso hdown => ⟨?_, State.netLinkTo_flags s p.isLt true runs⟩, fun hup => ⟨?_, State.netLinkTo_flags s p.isLt false false⟩⟩
    · refine show execNetLink p true plca s = _ from act_of_eq ?_
      dsimp only
      rw [hdom, hen, hiso, hdown, if_neg (by simp)]
      simp only [runs, Bool.and_true, Bool.not_false]
    · refine show execNetLink p false plca s = _ from act_of_eq ?_
      dsimp only
      rw [hdom, hup, if_neg (by simp)]
      simp only [Bool.false_and, Bool.and_false]
  · refine show execGptpSyncReceived o r d s = _ from act_of_eq ?_
    simp only [hslave]
    exact if_neg (by simp [hup])
  · refine show execGptpSyncLoss s = _ from act_of_eq ?_
    simp only [hslave]
  · refine show execGptpSyncLoss s = _ from act_of_eq ?_
    simp only [hslave]
    exact if_pos hat_

end Sys2Proof.Machine
end

section
/-! PROOFS. The Ridge events (spec/14, R314 to R316). -/

namespace Sys2Proof.Machine

section
variable {l : Fin 2} {s : State}

theorem exec_ridgeFrameReceived {bytes : List Byte} (hup : s.ridgeUp l.val = true) :
    exec (.ridgeFrameReceived l bytes) s = .next (s.keep
      (if ridgeGood bytes = false then
        ((s.inc (rdgErr_crc l.val)).stat (4 + l.val) 2 1).modNet (4 + l.val) (fun n => { n with crcAt := (s.now :: n.crcAt).take 16 })
      else match ridgeParse bytes with
        | none => s
        | some f =>
          if 3 ≤ f.hops then s.ridgeHeard l.val f
          else if f.src.toNat = (s.ridgeHeard l.val f).ownNumber then (s.ridgeHeard l.val f).ownFrame l.val f
          else (s.ridgeHeard l.val f).ridgeIn l.val f)) :=
  show execRidgeFrameReceived l bytes s = _ from act_of_eq (if_neg (by simp [hup]))

theorem State.ridgeHeard_ownNumber (f : RidgeFrame) : (s.ridgeHeard l.val f).ownNumber = s.ownNumber := rfl

theorem exec_timeExchange {master : BitVec 2} {offset : Int} {delay : Nat} (hup : s.ridgeUp l.val = true) (hcrk : s.domOn Dm.crk = true) :
    let t := s.timeHeard l.val master.toNat delay
    exec (.timeExchange l master offset delay) s = .next (s.keep
      (if t.get crankTsync_master = t.ownNumber ∨ t.timeLink (t.get crankTsync_master) ≠ some l.val then t else t.timeOffset offset)) :=
  show execTimeExchange l master offset delay s = _ from act_of_eq (if_neg (by simp [hup, hcrk]))

/-- A training attempt that is due. -/
theorem exec_ridgeTraining {came : List Bool} {peer : TrainFrame} {acked swapped : Bool} (hnet : s.domOn Dm.net = true)
    (hen : bitOf (s.portWord (4 + l.val) 0) 31 = true) (hst : s.get (rdgStat_state l.val) % 8 ≠ 2) (hiso : s.isolated (0x54 + l.val) = false)
    (hdue : (s.net (4 + l.val)).lastTrain = 0 ∨
      (s.net (4 + l.val)).lastTrain + (if s.get (rdgStat_state l.val) % 8 = 3 then sec 1 else ms 10) ≤ s.now) :
    let t := (((s.modNet (4 + l.val) (fun n => { n with lastTrain := s.now })).inc (rdgErr_retrain l.val)).stat (4 + l.val) 2 2).sendTrain l.val
      (threeGood 0 came)
    let u := t.ridgeTo l.val 2 peer.cluster.toNat swapped
    exec (.ridgeTraining l came peer acked swapped) s = .next (s.keep
      (if came.contains true = false then t.ridgeDrop l.val 1
      else if peer.version ≠ Config.ridgeVersion then (t.ridgeTo l.val 1 peer.cluster.toNat swapped).fault (0x54 + l.val) 0x2C l.val
      else if threeGood 0 came = false ∨ acked = false then t.ridgeTo l.val 1 peer.cluster.toNat swapped
      else if peer.cluster.toNat = s.ownNumber then
        (t.ridgeTo l.val 3 peer.cluster.toNat swapped).fault (0x54 + l.val) 0x2D (l.val + 16 * peer.cluster.toNat)
      else forEach ([0, 1].filter u.govShares) (fun g v =>
        v.ridgeSend l.val { ftype := 0x4, src := BitVec.ofNat 2 v.ownNumber, payload := v.govCfgMsg g }) u)) := by
  refine show execRidgeTraining l came peer acked swapped s = _ from act_of_eq ?_
  dsimp only
  rw [if_neg]
  rintro (h | h | h | h | h)
  · exact Bool.false_ne_true (h.symm.trans hnet)
  · exact Bool.false_ne_true (h.symm.trans hen)
  · exact hst h
  · exact Bool.false_ne_true (hiso.symm.trans h)
  · exact h hdue

theorem State.elect_inbox (s : State) : s.elect.inbox = s.inbox := by
  unfold State.elect
  dsimp only
  split
  · rfl
  · split <;> rfl

/-- A link that leaves UP reports it. -/
theorem State.ridgeDrop_inbox (hup : s.get (rdgStat_state l.val) % 8 = 2) :
    (s.ridgeDrop l.val 1).inbox = s.inbox ++ [faultMsg (0x54 + l.val) 0x2B l.val] := by
  have hwas : (s.get (rdgStat_state l.val) % 8 == 2) = true := by simp [hup]
  have hpost (u : State) (st : Nat) :
      ((u.post [0] 19 0x01 l.val st 0).netLinkEvent (4 + l.val) (1 == 2) false).inbox = u.inbox :=
    (HubBlind.inbox.post _ _ _ _ _ _ _ _).trans (HubBlind.inbox.post _ _ _ _ _ _ _ _)
  unfold State.ridgeDrop State.ridgeTo
  dsimp only
  rw [hwas, if_neg (by decide), if_neg (by decide), State.elect_inbox, State.fault_inbox, State.stat,
    State.modNet_inbox, State.modNet_inbox, hpost, State.put_inbox]

end

/-- Settles O28. -/
theorem ridgeEventsComplete : Obligations.RidgeEventsComplete := by
  unfold Obligations.RidgeEventsComplete
  refine ⟨fun l bytes s hup => ⟨fun hbad => ?_, fun hgood hnone => ?_, ?_⟩, ?_, fun s hcrk hm hat_ => ?_, ?_, fun l s hup hdead => ⟨?_, ?_⟩,
    fun s hcrk => ?_, fun s hcrk => ?_⟩
  · rw [exec_ridgeFrameReceived hup, if_pos hbad]
  · rw [exec_ridgeFrameReceived hup, if_neg (by simp [hgood]), hnone, State.noHosts_keep rfl rfl rfl]
  · intro f hgood hsome t
    have hrun := exec_ridgeFrameReceived (bytes := bytes) hup
    rw [if_neg (by simp [hgood]), hsome] at hrun
    dsimp only at hrun
    rw [State.ridgeHeard_ownNumber] at hrun
    refine ⟨fun hhops hsrc => ?_, fun hhops hsrc hown => ?_, fun h => ?_⟩
    · rw [hrun, if_neg (by omega), if_neg hsrc]
    · rw [hrun, if_neg (by omega), if_pos hsrc]
      exact congrArg (fun x => Host.Outcome.next (s.keep x)) (if_pos hown)
    · rw [hrun]
      by_cases hhops : 3 ≤ f.hops
      · rw [if_pos hhops]
      · obtain ⟨hsrc, hown⟩ := h.resolve_left hhops
        rw [if_neg hhops, if_pos hsrc]
        exact congrArg (fun x => Host.Outcome.next (s.keep x)) (if_neg (show ¬ t.axisOwn l.val f = true by simp [hown]))
  · intro l master offset delay s hup hcrk t
    refine ⟨fun h => ?_, fun hne hlink => ?_⟩
    · rw [exec_timeExchange hup hcrk, if_pos h]
    · rw [exec_timeExchange hup hcrk, if_neg (by rintro (h | h); exacts [hne h, h hlink])]
  · exact show execAlignmentLoss s = _ from act_of_eq (if_pos ⟨hcrk, hm, hat_⟩)
  · intro l came peer acked swapped s hnet hen hst hiso hdue t
    have hrun := exec_ridgeTraining (came := came) (peer := peer) (acked := acked) (swapped := swapped) hnet hen hst hiso hdue
    dsimp only at hrun
    refine ⟨fun hall => ?_, fun hsome => ?_⟩
    · have hno : came.contains true = false := by
        rw [List.contains_eq_mem, decide_eq_false_iff_not]
        exact fun h => Bool.false_ne_true (hall true h).symm
      rw [hrun, if_pos hno]
    · have hyes : ¬ came.contains true = false := by simpa using hsome
      refine ⟨fun hv => ?_, fun hv hor => ?_, fun hv hgood hack hp => ?_, fun hv hgood hack hp => ⟨?_, ?_⟩⟩
      · rw [hrun, if_neg hyes, if_pos hv]
      · rw [hrun, if_neg hyes, if_neg (not_not.mpr hv), if_pos hor]
      · rw [hrun, if_neg hyes, if_neg (not_not.mpr hv), if_neg (by simp [hgood, hack]), if_pos hp]
      · rw [hrun, if_neg hyes, if_neg (not_not.mpr hv), if_neg (by simp [hgood, hack]), if_neg hp]
      · rw [State.ridgeTo_get_state]
        omega
  · exact show execRidgeDown l s = _ from act_of_eq (if_pos ⟨hup, hdead⟩)
  · have hst : s.get (rdgStat_state l.val) % 8 = 2 := by
      simp only [State.ridgeUp, Bool.and_eq_true, beq_iff_eq] at hup
      exact hup.2
    rw [State.modNet_inbox, State.ridgeDrop_inbox hst]
    exact List.mem_append_right _ (List.mem_singleton_self _)
  · exact show execFaultSummaryBroadcast s = _ from act_of_eq (if_pos hcrk)
  · exact show execAxisBroadcast s = _ from act_of_eq (if_pos hcrk)

end Sys2Proof.Machine
end

section
/-! PROOFS. DOMAIN_SET, WAKE_CONFIG and NM_CONFIG, the ends of domain transitions and the wake timer (spec/15). -/

namespace Sys2Proof.Machine

/-! ### DOMAIN_SET -/

section
variable {s : State} {h : Hdr} {mask : Word} {state : Byte} (hr : s.runs h (.domainSet h mask state) = true) (heven : mask.toNat % 2 = 0)
  (hlt : mask.toNat < 2 ^ 24) (hown : ∀ d ∈ maskList 24 mask.toNat, s.owns h.hc.val 9 d = true)
include hr heven hlt hown

/-- What DOMAIN_SET does where its domains are the context's to set. -/
theorem exec_domainSet (hst : state.toNat ≤ 2) :
    let t := s.taken h.hc.val (.domainSet h mask state)
    let ds := maskList 24 mask.toNat
    let g := domTarget state.toNat
    ¬ (g ≠ .on ∧ (t.neededOutside mask.toNat = true ∨
      (t.flag pwrStart_limp = true ∧ ds.any (fun d => decide (14 ≤ d) && decide (d < 22)) = true))) →
    let u := t.addJob h (.domainSet h mask state) (if g = .on then listMask (ds.filter (fun d => !t.domOn d))
      else listMask (ds.filter (fun d => (t.dom d).st != g || (t.dom d).going.isSome)))
    exec (.domainSet h mask state) s = .next (s.keep ((if g = .on then forEach ds (fun d v => v.askOn d) u.2
      else (forEach ds (fun d v => v.askSleep d g) u.2).kickEntries.levelWakes).settleDom u.1)) := by
  intro t ds g hfree u
  have hall : ¬ ds.all (fun d => t.owns h.hc.val 9 d) = false := by
    rw [Bool.not_eq_false, List.all_eq_true]
    exact hown
  refine exec_of_dispatch_eq hr rfl ?_
  dsimp only
  rw [if_neg (by omega), if_neg hall, if_neg hfree]

theorem exec_domainSet_on (hst : state = 0) :
    let t := s.taken h.hc.val (.domainSet h mask state)
    let ds := maskList 24 mask.toNat
    let u := t.addJob h (.domainSet h mask state) (listMask (ds.filter (fun d => !s.domOn d)))
    exec (.domainSet h mask state) s = .next (s.keep ((forEach ds (fun d v => v.askOn d) u.2).settleDom u.1)) := by
  have hg : domTarget state.toNat = .on := by rw [hst]; rfl
  intro t ds u
  have hrun := exec_domainSet hr heven hlt hown (by rw [hst]; decide) (fun h0 => h0.1 hg)
  dsimp only at hrun
  rw [if_pos hg, if_pos hg] at hrun
  simpa only [State.taken_domOn] using hrun

theorem exec_domainSet_sleep (hst : state = 1 ∨ state = 2) :
    let t := s.taken h.hc.val (.domainSet h mask state)
    let ds := maskList 24 mask.toNat
    let g := domTarget state.toNat
    t.neededOutside mask.toNat = false → (s.flag pwrStart_limp = false ∨ ∀ d ∈ ds, ¬ (14 ≤ d ∧ d < 22)) →
    let u := t.addJob h (.domainSet h mask state) (listMask (ds.filter (fun d => (s.dom d).st != g || (s.dom d).going.isSome)))
    exec (.domainSet h mask state) s =
      .next (s.keep ((((forEach ds (fun d v => v.askSleep d g) u.2).kickEntries).levelWakes).settleDom u.1)) := by
  intro t ds g hneed hlimp u
  have hg : domTarget state.toNat ≠ .on := by
    rcases hst with rfl | rfl <;> decide
  have hfree : ¬ (domTarget state.toNat ≠ .on ∧ (t.neededOutside mask.toNat = true ∨
      (t.flag pwrStart_limp = true ∧ ds.any (fun d => decide (14 ≤ d) && decide (d < 22)) = true))) := by
    rintro ⟨-, h0 | ⟨h0, h1⟩⟩
    · exact Bool.false_ne_true (hneed.symm.trans h0)
    · rcases hlimp with hl | hl
      · exact Bool.false_ne_true (hl.symm.trans h0)
      · obtain ⟨d, hd, hin⟩ := List.any_eq_true.mp h1
        exact hl d hd (by simpa using hin)
  have hrun := exec_domainSet hr heven hlt hown (by rcases hst with rfl | rfl <;> decide) hfree
  dsimp only at hrun
  rw [if_neg hg, if_neg hg] at hrun
  simpa only [State.taken_dom] using hrun

end

/-! ### WAKE_CONFIG and NM_CONFIG -/

theorem State.does_wakeConfig {s : State} {h : Hdr} {source : Byte} {record : List Word} (hr : s.runs h (.wakeConfig h source record) = true)
    (hsrc : wakeSrc source.toNat = true) (hlen : record.length = 4) (hok : wakeRecOk source.toNat record = true) (hown : s.owns h.hc.val 0x0A 1 = true)
    (hport : source.toNat < 0x10 ∨ s.owns h.hc.val 3 (source.toNat - 0x10) = true)
    (hfast : source.toNat < 0x10 ∨ setField record 0 31 31 = 0 ∨ s.canFast (source.toNat - 0x10) = true) :
    s.does (.wakeConfig h source record) h ((s.taken h.hc.val (.wakeConfig h source record)).wakeCommit source.toNat record) := by
  have hfast' : ¬ (0x10 ≤ source.toNat ∧ setField record 0 31 31 = 1 ∧ s.canFast (source.toNat - 0x10) = false) := by
    rintro ⟨h0, h1, h2⟩
    rcases hfast with hf | hf | hf
    · omega
    · omega
    · exact Bool.false_ne_true (h2.symm.trans hf)
  refine State.does_of_runI hr rfl ?_
  simp only [State.taken_owns, State.taken_canFast]
  rw [if_neg (by simp [hsrc, hlen, hok]), if_neg (not_not.mpr ⟨hown, hport⟩), if_neg hfast']
  rfl

theorem State.takes_nmConfig {s : State} {h : Hdr} {port : Byte} {record : List Word} (hr : s.runs h (.nmConfig h port record) = true)
    (hport : port.toNat ≤ 5) (hlen : record.length = 4) (hok : nmRecOk record = true) (hown : s.owns h.hc.val 3 port.toNat = true)
    (hsl : (s.taken h.hc.val (.nmConfig h port record)).canSleeping port.toNat = false) :
    s.takes (.nmConfig h port record) h ((forEach (List.range 4) (fun k v => v.wr (pwrNm_word port.toNat k).addr (record.getD k 0)) s).modPort port.toNat
      (fun p => { p with nmSt := 0, nmAt := s.now, nmSentReady := false })) := by
  have hcalm := State.calm_forEach_wr (List.range 4) (fun k => (pwrNm_word port.toNat k).addr) (fun k => record.getD k 0) h.hc.isLt
    (fun k => by simp only [pwrNm_word]; omega) s
  refine State.takes_of_hosted hr rfl (fun o ht => ?_) (State.calm_trans hcalm (State.calm_modPort ..))
  have hnow (u : State) : (forEach (List.range 4) (fun k v => v.wr (pwrNm_word port.toNat k).addr (record.getD k 0)) u).now = u.now :=
    forEach_keeps State.now (List.range 4) (fun k v => v.wr (pwrNm_word port.toNat k).addr (record.getD k 0)) (fun _ _ => rfl) u
  rw [if_neg (by simp [hlen, hok, hport]), State.taken_owns, if_neg (not_not.mpr hown), if_neg (by simp [hsl]), ht]
  dsimp only
  rw [hnow, State.hosted_forEach_wr, State.hosted_modPort]
  rfl

/-- Settles O31. -/
theorem powerRowsComplete : Obligations.PowerRowsComplete := by
  unfold Obligations.PowerRowsComplete
  refine ⟨?_, ?_, ?_, ?_, ?_, fun s e htimer hdue => ?_⟩
  · intro s h mask state c t ds hr heven hlt hown
    exact ⟨fun hst => exec_domainSet_on hr heven hlt hown hst, fun hst hneed hlimp => exec_domainSet_sleep hr heven hlt hown hst hneed hlimp⟩
  · intro s h source record c n hr hsrc hlen hok hown hport hfast
    exact State.does_wakeConfig hr hsrc hlen hok hown hport hfast
  · intro s h port record c n hr hport hlen hok hown hsl
    exact State.takes_nmConfig hr hport hlen hok hown hsl
  · intro d s t hbegun hgoing hsome
    exact show execDomainEntryComplete d s = _ from act_of_eq (if_pos ⟨hbegun, hgoing, hsome⟩)
  · intro d ecc load s t hgoing hbegun hsys
    exact show execDomainExitComplete d ecc load s = _ from act_of_eq (if_pos ⟨hgoing, hbegun, hsys⟩)
  · refine show execWakeTimerExpiry s = _ from act_of_eq ?_
    simp only [htimer]
    exact if_pos hdue

end Sys2Proof.Machine
end

section
/-! PROOFS. The field bank's events (spec/12). -/

namespace Sys2Proof.Machine

theorem testBit_listMask (l : List Nat) (k : Nat) : (listMask l).testBit k = decide (k ∈ l) := by
  have hfold (m : Nat) : (l.foldl (fun m k => m ||| 2 ^ k) m).testBit k = (m.testBit k || decide (k ∈ l)) := by
    induction l generalizing m with
    | nil => simp
    | cons j l ih => rw [List.foldl_cons, ih, Nat.testBit_or, Nat.testBit_two_pow]; simp [Bool.or_assoc, eq_comm]
  rw [listMask, hfold, Nat.zero_testBit, Bool.false_or]

/-! ### An output that trips -/

section
variable (s : State) (k : Nat)

/-- The two fields that follow the outputs' state are set. -/
def State.fqShown (s : State) : State :=
  let on := listMask ((List.range 16).filter s.fqOn)
  (s.put fqState_on on).put fqFault_limit (s.get fqFault_limit &&& on)

theorem State.fqSync_get (f : Fld) : s.fqSync.get f = s.fqShown.get f := rfl

theorem State.fqSync_get_ne {f : Fld} (hon : f.addr ≠ fqState_on.addr) (hlim : f.addr ≠ fqFault_limit.addr) : s.fqSync.get f = s.get f :=
  (s.fqSync_get f).trans ((State.get_put_ne _ _ hlim).trans (State.get_put_ne _ _ hon))

theorem State.fqSync_thermal : s.fqSync.get fqFault_thermal = s.get fqFault_thermal :=
  (s.fqSync_get _).trans ((State.get_put_beside _ fqFault_limit fqFault_thermal _ rfl (of_decide_eq_true rfl)).trans
    (State.get_put_ne _ _ (by decide : fqFault_thermal.addr ≠ fqState_on.addr)))

/-- An output's overtemperature flag is set, before the output latches. -/
def State.fqHot (s : State) (k : Nat) : State := s.put fqFault_thermal (s.get fqFault_thermal ||| 2 ^ k)

theorem State.fqHot_thermal (hk : k < 16) : ((s.fqHot k).get fqFault_thermal).testBit k = true := by
  have hget : (s.fqHot k).get fqFault_thermal = (s.get fqFault_thermal ||| 2 ^ k) % 2 ^ 16 :=
    s.get_put_self fqFault_thermal _ (of_decide_eq_true rfl) (of_decide_eq_true rfl)
  rw [hget, Nat.testBit_mod_two_pow, Nat.testBit_or, Nat.testBit_two_pow_self]
  simp [hk]

/-- A tripped output latches where its RETRY is 0. -/
def State.fqLatched (s : State) (k : Nat) : State :=
  if bits (s.rd (fqCfg_word k).addr).toNat 27 27 = 0 then (s.fqHot k).put fqLatch_latched ((s.fqHot k).get fqLatch_latched ||| 2 ^ k) else s.fqHot k

theorem State.fqTrip_eq : s.fqTrip k = (s.fqLatched k).fqSync.fault (0x60 + k) 0x27 k := rfl

variable {k}

theorem State.fqLatched_thermal (hk : k < 16) : ((s.fqLatched k).get fqFault_thermal).testBit k = true := by
  unfold State.fqLatched
  split
  · rw [State.get_put_ne _ _ (by decide : fqFault_thermal.addr ≠ fqLatch_latched.addr)]
    exact s.fqHot_thermal k hk
  · exact s.fqHot_thermal k hk

theorem State.fqLatched_latch (hk : k < 16) (hretry : bits (s.rd (fqCfg_word k).addr).toNat 27 27 = 0) :
    ((s.fqLatched k).get fqLatch_latched).testBit k = true := by
  have hget : ((s.fqHot k).put fqLatch_latched ((s.fqHot k).get fqLatch_latched ||| 2 ^ k)).get fqLatch_latched =
      ((s.fqHot k).get fqLatch_latched ||| 2 ^ k) % 2 ^ 16 := State.get_put_self _ fqLatch_latched _ (of_decide_eq_true rfl) (of_decide_eq_true rfl)
  rw [State.fqLatched, if_pos hretry, hget, Nat.testBit_mod_two_pow, Nat.testBit_or, Nat.testBit_two_pow_self]
  simp [hk]

theorem State.fqLatched_inbox : (s.fqLatched k).inbox = s.inbox := by
  unfold State.fqLatched
  split <;> rfl

theorem State.fqSync_hot_off (hhot : (s.get fqFault_thermal).testBit k = true) : (s.fqSync.get fqState_on).testBit k = false := by
  have hoff : s.fqOn k = false := by simp [State.fqOn, hhot]
  rw [State.get_fqSync_on, Nat.testBit_mod_two_pow, testBit_listMask]
  simp [hoff]

end

/-- Settles O33. -/
theorem fieldEventsComplete : Obligations.FieldEventsComplete := by
  unfold Obligations.FieldEventsComplete
  refine ⟨fun k s hon => ⟨fun htold => ?_, ?_, ?_, ?_, ?_, fun hretry => ?_⟩, fun k s hlatch => ?_, fun rejected s hlive => ?_, fun s hdom hpower => ?_,
    fun fi rejected s hdom hlive => ?_, fun s hdom huv => ?_, fun s hdom => ⟨?_, ?_⟩, fun s hv => ?_⟩
  · exact show execFqOverload k s = _ from act_of_eq (if_pos ⟨hon, htold⟩)
  · exact show execFqThermal k s = _ from act_of_eq (if_pos hon)
  · rw [State.fqTrip_eq, State.fault_get, State.fqSync_thermal]
    exact s.fqLatched_thermal k.isLt
  · rw [State.fqTrip_eq, State.fault_get]
    exact State.fqSync_hot_off _ (s.fqLatched_thermal k.isLt)
  · rw [State.fqTrip_eq, State.fault_inbox]
    exact congrArg (· ++ _) s.fqLatched_inbox
  · rw [State.fqTrip_eq, State.fault_get, State.fqSync_get_ne _ (by decide) (by decide)]
    exact s.fqLatched_latch k.isLt hretry
  · exact show execFqCooled k s = _ from act_of_eq (if_neg (by simp [hlatch]))
  · exact show execFieldLink rejected s = _ from act_of_eq (if_pos hlive)
  · exact show execFieldPower s = _ from act_of_eq (if_pos ⟨hdom, hpower⟩)
  · exact show execFieldLinkReturn fi rejected s = _ from act_of_eq (if_pos ⟨hdom, hlive⟩)
  · exact show execFieldLpUv s = _ from act_of_eq (if_pos ⟨hdom, huv⟩)
  · exact show execFieldLpRecovery s = _ from act_of_eq (if_pos hdom)
  · exact show execFieldLpOv s = _ from act_of_eq (if_pos hdom)
  · exact show execV5outOverload s = _ from act_of_eq (if_pos hv)

end Sys2Proof.Machine
end

section
/-! PROOFS. Event delivery (spec/16). -/

namespace Sys2Proof.Machine

/-- Settles O36. -/
theorem eventDeliveryComplete : Obligations.EventDeliveryComplete := by
  unfold Obligations.EventDeliveryComplete
  refine ⟨?_, ?_, ?_, fun hc cls s hup hsys => ?_⟩
  · intro s h cls enable count wake time c hr hok
    exact State.does_of_runI hr rfl (if_pos hok)
  · intro s h disable c t hr hd
    exact State.does_of_runI hr rfl (if_neg (by omega))
  · intro s h c t
    exact ⟨fun hr => State.does_of_runI hr rfl ((if_neg (by decide)).trans rfl), fun hr => State.does_of_runI hr rfl ((if_neg (by decide)).trans rfl)⟩
  · exact show execEventRelease hc cls s = _ from act_of_eq (if_pos ⟨hup, hsys⟩)

end Sys2Proof.Machine
end

section
/-! PROOFS. The fault commands and Scree's steps (spec/17). -/

namespace Sys2Proof.Machine

/-! ### A reaction timer's expiry goes first -/

theorem State.expireFirst_due {s : State} {m : Word} {e : FEntry} {d : Nat} (he : s.entryOf m = some e) (hd : e.timer = some d) (hdue : d ≤ s.now) :
    s.expireFirst m = s.escalate e := by
  unfold State.expireFirst
  simp only [he]
  exact if_pos (by simp [hd, hdue])

theorem State.expireFirst_waits {s : State} {m : Word} (hwait : ∀ (e : FEntry) (d : Nat), s.entryOf m = some e → e.timer = some d → s.now < d) :
    s.expireFirst m = s := by
  unfold State.expireFirst
  split
  next e he =>
    refine if_neg fun hdue => ?_
    obtain ⟨d, hd, hle⟩ := (Option.any_eq_true ..).mp hdue
    exact absurd (hwait e d he hd) (Nat.not_lt.mpr (of_decide_eq_true hle))
  next => rfl

/-- With no timer due the expiry that goes first changes nothing, Scree's domain On or not. -/
theorem State.expired_waits {s : State} {m : Word}
    (hwait : ∀ (e : FEntry) (d : Nat), s.entryOf m = some e → e.timer = some d → s.domOn Dm.crk = true → s.now < d) :
    (if s.domOn Dm.crk then s.expireFirst m else s) = s := by
  split
  next hcrk => exact State.expireFirst_waits fun e d he hd => hwait e d he hd hcrk
  next => rfl

/-! ### FAULT_HANDLED -/

section
variable {s : State} {h : Hdr} {m : Word} (hr : s.runs h (.faultHandled h m) = true)

/-- The answer of FAULT_HANDLED once timers that are due have expired. -/
def State.handledAns (t : State) (h : Hdr) (m : Word) : Ans :=
  if ¬ (t.sysHolder h.hc.val = true ∨ h.hc.val ∈ t.srcOwners (srcOf m)) then .no t St.notOwner
  else match t.entryOf m with
  | none => .no t St.badParam
  | some e =>
    if e.timer.isSome then { s := t.setEntry { e with timer := none, st := .handled, reactEnd := some t.now, last := t.time32 } }
    else if e.escalated then .no t St.badState
    else { s := t }

theorem exec_faultHandled : exec (.faultHandled h m) s =
    act (fun s => s.runI h (.faultHandled h m) (fun t => (if t.domOn Dm.crk then t.expireFirst m else t).handledAns h m)) s := rfl

theorem State.taken_unexpired (hwait : ∀ (e : FEntry) (d : Nat), s.entryOf m = some e → e.timer = some d → s.domOn Dm.crk = true → s.now < d) :
    let t := s.taken h.hc.val (.faultHandled h m)
    (if t.domOn Dm.crk then t.expireFirst m else t) = t :=
  State.expired_waits (by simpa only [State.taken_entryOf, State.taken_domOn, State.taken_now] using hwait)

include hr

theorem State.takes_faultHandled {e : FEntry} (he : s.entryOf m = some e)
    (hwait : ∀ d : Nat, e.timer = some d → s.domOn Dm.crk = true → s.now < d)
    (hmine : s.sysHolder h.hc.val = true ∨ h.hc.val ∈ s.srcOwners (srcOf m)) :
    (e.timer.isSome = true → s.takes (.faultHandled h m) h (s.setEntry { e with timer := none, st := .handled, reactEnd := some s.now, last := s.time32 })) ∧
    (e.timer = none → e.escalated = false → s.takes (.faultHandled h m) h s) ∧
    (e.timer = none → e.escalated = true → s.takes (.faultHandled h m) h s 0 [] St.badState) := by
  have hexp := State.taken_unexpired (s := s) (h := h) (m := m) fun e' d he' hd => by
    obtain rfl := Option.some.inj (he'.symm.trans he)
    exact hwait d hd
  have hans : (s.taken h.hc.val (.faultHandled h m)).handledAns h m =
      if e.timer.isSome then
        { s := (s.taken h.hc.val (.faultHandled h m)).setEntry { e with timer := none, st := .handled, reactEnd := some s.now, last := s.time32 } }
      else if e.escalated then .no (s.taken h.hc.val (.faultHandled h m)) St.badState
      else { s := s.taken h.hc.val (.faultHandled h m) } := by
    unfold State.handledAns
    simp only [State.taken_sysHolder, State.taken_srcOwners, State.taken_entryOf, he, State.taken_now, State.taken_time32]
    exact if_neg (not_not.mpr hmine)
  refine ⟨fun htimer => ?_, fun htimer hesc => ?_, fun htimer hesc => ?_⟩
  · refine State.takes_of_hosted hr exec_faultHandled (fun o ht => ?_) ⟨rfl, rfl, rfl, rfl, rfl, rfl, rfl⟩
    rw [hexp, hans, if_pos htimer, ht]
    rfl
  · refine State.takes_same hr exec_faultHandled ?_
    rw [hexp, hans, htimer, hesc]
    rfl
  · refine State.takes_same hr exec_faultHandled ?_
    rw [hexp, hans, htimer, hesc]
    rfl

theorem State.takes_faultHandled_refused
    (hwait : ∀ (e : FEntry) (d : Nat), s.entryOf m = some e → e.timer = some d → s.domOn Dm.crk = true → s.now < d) :
    (s.sysHolder h.hc.val = false → h.hc.val ∉ s.srcOwners (srcOf m) → s.takes (.faultHandled h m) h s 0 [] St.notOwner) ∧
    (s.sysHolder h.hc.val = true ∨ h.hc.val ∈ s.srcOwners (srcOf m) → s.entryOf m = none → s.takes (.faultHandled h m) h s 0 [] St.badParam) := by
  have hexp := State.taken_unexpired (s := s) (h := h) (m := m) hwait
  refine ⟨fun hsys hsrc => State.takes_same hr exec_faultHandled ?_, fun hmine hnone => State.takes_same hr exec_faultHandled ?_⟩
  · rw [hexp, State.handledAns, State.taken_sysHolder, State.taken_srcOwners]
    exact if_pos (by simp [hsys, hsrc])
  · rw [hexp, State.handledAns, State.taken_sysHolder, State.taken_srcOwners, if_neg (not_not.mpr hmine)]
    simp only [State.taken_entryOf, hnone]
    rfl

theorem State.does_faultHandled_late {e e' : FEntry} {d : Nat} (he : s.entryOf m = some e) (hcrk : s.domOn Dm.crk = true)
    (hd : e.timer = some d) (hdue : d ≤ s.now) :
    let u := (s.taken h.hc.val (.faultHandled h m)).escalate e
    u.entryOf m = some e' → e'.timer = none → e'.escalated = true → u.sysHolder h.hc.val = true ∨ h.hc.val ∈ u.srcOwners (srcOf m) →
    s.does (.faultHandled h m) h u 0 [] St.badState := by
  intro u he' htimer hesc hmine
  refine State.does_of_runI hr exec_faultHandled ?_
  have hexp : (s.taken h.hc.val (.faultHandled h m)).expireFirst m = u :=
    State.expireFirst_due ((State.taken_entryOf ..).trans he) hd (hdue.trans_eq (State.taken_now ..).symm)
  rw [if_pos ((State.taken_domOn ..).trans hcrk), hexp, State.handledAns, if_neg (not_not.mpr hmine)]
  simp only [he', htimer, hesc]
  rfl

end

/-! ### FAULT_CLEAR and FAULT_REACTION -/

theorem State.takes_faultReaction {s : State} {h : Hdr} {kind reaction action : Byte} {time quiet : Half}
    (hr : s.runs h (.faultReaction h kind reaction action time quiet) = true) (hkind : kind.toNat ∈ faultKinds)
    (hok : reactionOk kind.toNat reaction.toNat action.toNat time.toNat = true) (hlo : 1 ≤ quiet.toNat) (hhi : quiet.toNat ≤ 60000)
    (hsys : s.sysHolder h.hc.val = true) :
    s.takes (.faultReaction h kind reaction action time quiet) h
      ((((s.put (screeKind_reaction kind.toNat) reaction.toNat).put (screeKind_action kind.toNat) action.toNat).put (screeKind_time kind.toNat) time.toNat).put
        (screeQuiet_quiet kind.toNat) quiet.toNat) := by
  refine State.takes_of_hosted hr rfl (fun o ht => ?_) ?_
  · rw [if_neg (by simp [hkind, hok, within, hlo, hhi]), State.taken_sysHolder, if_neg (not_not.mpr hsys), ht,
      State.hosted_put, State.hosted_put, State.hosted_put, State.hosted_put]
    rfl
  · refine State.calm_trans (State.calm_trans (State.calm_trans (s.calm_put_above _ _ h.hc.isLt ?_) (State.calm_put_above _ _ _ h.hc.isLt ?_))
      (State.calm_put_above _ _ _ h.hc.isLt ?_)) (State.calm_put_above _ _ _ h.hc.isLt ?_)
    all_goals simp only [screeKind_reaction, screeKind_action, screeKind_time, screeQuiet_quiet]; omega

section
variable {s : State} {h : Hdr} {kind : Byte} {src : Half} (hr : s.runs h (.faultClear h kind src) = true)
  (hkind : kind = 0xFF ∨ kind.toNat ∈ faultKinds) (hsrc : src = 0xFFFF ∨ srcValid src.toNat = true)
include hr hkind hsrc

theorem State.does_faultClear :
    let v := s.taken h.hc.val (.faultClear h kind src)
    let t := if v.domOn Dm.crk then (v.log.filter v.quietDue).foldl (fun (u : State) e => u.quiet e) v else v
    let hit := t.log.filter (fun e => e.st != .cleared && e.st != .retest && e.timer.isNone && (kind.toNat == 0xFF || kindOf e.msg == kind.toNat) &&
      (src.toNat == 0xFFFF || srcOf e.msg == src.toNat) && (s.sysHolder h.hc.val || decide (h.hc.val ∈ t.srcOwners (srcOf e.msg))))
    let u := hit.foldl (fun (v : State) e => v.clearEntry e) t
    s.does (.faultClear h kind src) h
      (if s.sysHolder h.hc.val then forEach (if kind.toNat = 0xFF then faultKinds else [kind.toNat]) (fun j v => v.put (screeKind_recov j) 0) u else u)
      hit.length := by
  intro v t hit u
  refine State.does_of_runI hr rfl ?_
  dsimp only
  rw [if_neg]
  · simp only [State.taken_sysHolder]
    rfl
  · rintro (⟨h1, h2⟩ | ⟨h1, h2⟩)
    · rcases hkind with rfl | hk
      · exact h1 rfl
      · exact h2 hk
    · rcases hsrc with rfl | hc
      · exact h1 rfl
      · exact Bool.false_ne_true (h2.symm.trans hc)

end

/-! ### Scree's steps -/

theorem State.underTest_of_entry {s : State} {m : Word} {e : FEntry} (he : s.entryOf m = some e) (hcls : e.cls = .none) : s.underTest m = some e := by
  unfold State.underTest
  simp only [he]
  exact if_pos hcls

theorem State.entryOf_uncleared {s : State} {m : Word} {e : FEntry} (he : s.entryOf m = some e) : e.msg = m ∧ e.st ≠ .cleared := by
  have hp := List.find?_some he
  simpa using hp

theorem exec_retestComplete {m : Word} {transient result : Bool} {e : FEntry} {s : State} (hcrk : s.domOn Dm.crk = true)
    (he : (s.expireFirst m).underTest m = some e) (hsays : (s.expireFirst m).retestSays e m transient = some result) :
    exec (.retestComplete m transient) s = .next (s.keep ((s.expireFirst m).retested e m result)) := by
  refine show execRetestComplete m transient s = _ from act_of_eq ?_
  rw [if_neg (by simp [hcrk])]
  simp only [he, hsays]

theorem exec_quietPoint {m : Word} {e : FEntry} {r : Nat} {s : State} (hcrk : s.domOn Dm.crk = true) (he : s.entryOf m = some e)
    (hr : e.reactEnd = some r) (hlatch : e.st ≠ .latched) (hdue : max e.lastAt r + ms (10 * s.get (screeQuiet_quiet (kindOf m))) ≤ s.now) :
    exec (.quietPoint m) s = .next (s.keep (s.quiet e)) := by
  obtain ⟨hmsg, hclr⟩ := State.entryOf_uncleared he
  refine show execQuietPoint m s = _ from act_of_eq ?_
  simp only [he]
  exact if_pos ⟨hcrk, by simp [State.quietDue, hclr, hlatch, hr, hmsg, hdue]⟩

/-- Settles O37. -/
theorem faultRowsComplete : Obligations.FaultRowsComplete := by
  unfold Obligations.FaultRowsComplete
  refine ⟨?_, ?_, ?_, ?_, ?_, fun m s hcrk hkind hsrc => ?_, fun m transient result e s hcrk he hcls hwait hsays => ?_,
    fun m transient result e e' d s hcrk he hd hdue he' hsays => ?_, fun m e d s hcrk he hd hdue => ?_,
    fun m e r s hcrk he hr hlatch hdue => ⟨fun hlt => ?_, fun hle => ?_⟩, fun s hup hsys hat => ?_⟩
  · intro s h m e c hr he hwait hmine
    exact State.takes_faultHandled hr he hwait hmine
  · intro s h m c hr hwait
    exact State.takes_faultHandled_refused hr hwait
  · intro s h m e e' d c u hr he hcrk hd hdue
    exact State.does_faultHandled_late hr he hcrk hd hdue
  · intro s h kind src c v t hit hr hkind hsrc
    have hdoes := State.does_faultClear hr hkind hsrc
    refine ⟨fun hno => ?_, fun hyes => ?_⟩
    · have hnot : ¬ s.sysHolder h.hc.val = true := by simp [hno]
      dsimp only at hdoes
      rwa [if_neg hnot] at hdoes
    · dsimp only at hdoes
      rwa [if_pos hyes] at hdoes
  · intro s h kind reaction action time quiet c k hr hkind hok hlo hhi hsys
    exact State.takes_faultReaction hr hkind hok hlo hhi hsys
  · exact show execFaultReport m s = _ from act_of_eq (if_pos ⟨hcrk, hkind, hsrc⟩)
  · have hexp : s.expireFirst m = s := State.expireFirst_waits fun e' d he' hd => by
      obtain rfl := Option.some.inj (he'.symm.trans he)
      exact hwait d hd
    have hrun := exec_retestComplete (m := m) (transient := transient) (result := result) (e := e) hcrk
      (by rw [hexp]; exact State.underTest_of_entry he hcls) (by rw [hexp]; exact hsays)
    rwa [hexp] at hrun
  · have hexp := State.expireFirst_due he hd hdue
    have hrun := exec_retestComplete (m := m) (transient := transient) (result := result) (e := e') hcrk
      (by rw [hexp]; exact he') (by rw [hexp]; exact hsays)
    rwa [hexp] at hrun
  · refine show execReactionTimerExpiry m s = _ from act_of_eq ?_
    rw [if_neg (by simp [hcrk])]
    exact State.expireFirst_due he hd hdue
  · rw [exec_quietPoint hcrk he hr hlatch hdue, State.quiet, (State.entryOf_uncleared he).1]
    dsimp only
    rw [if_pos hlt]
  · rw [exec_quietPoint hcrk he hr hlatch hdue, State.quiet, (State.entryOf_uncleared he).1]
    dsimp only
    rw [if_neg (Nat.not_lt.mpr hle)]
  · exact show execFaultSummaryWrite s = _ from act_of_eq (if_pos ⟨hup, hsys, hat⟩)

end Sys2Proof.Machine
end

section
/-! PROOFS. The commands of keys and of the immobiliser (spec/18). -/

namespace Sys2Proof.Machine

/-! ### Commands that begin or complete at once -/

section
variable {s u : State} {h : Hdr} {c : Instr} {f : State → State × Option (Byte × Nat)} (hr : s.runs h c = true)
  (hx : exec c s = act (fun x => x.runP h c f) s)
include hr hx

theorem exec_of_runP_begins (hf : f (s.taken h.hc.val c) = (u, none)) : exec c s = .next (s.keep (u.addJob h c).2) :=
  exec_of_dispatch_eq hr hx (by rw [hf])

theorem exec_of_runP_completes {st : Byte} {r : Nat} (hf : f (s.taken h.hc.val c) = (u, some (st, r))) :
    exec c s = .next (s.keep (u.complete h (opcOf c) st r)) :=
  exec_of_dispatch_eq hr hx (by rw [hf])

/-- A command whose proof decides whether it begins or completes. -/
theorem exec_of_runP_proved {p : Prop} [Decidable p] {st : Byte} (hf : f (s.taken h.hc.val c) = if p then u.yes else u.no st) :
    exec c s = .next (s.keep (if p then (u.addJob h c).2 else u.complete h (opcOf c) st 0)) := by
  split
  next hp => exact exec_of_runP_begins hr hx (hf.trans (if_pos hp))
  next hp => exact exec_of_runP_completes hr hx (hf.trans (if_neg hp))

end

/-! ### Root keys, the lifecycle and tokens -/

section
variable {s : State} {h : Hdr}

theorem State.begins_keyRootWrite {root : Byte} {key : List Byte} (hr : s.runs h (.keyRootWrite h root key) = true) (hroot : root.toNat ≤ 1)
    (hlen : key.length = 32) (hhc : h.hc = 0) (hlc : s.otp.lc = 1) : s.begins (.keyRootWrite h root key) h s := by
  refine State.begins_same hr rfl ?_
  rw [if_neg (by omega), if_neg (not_not.mpr hhc), State.taken_otp, if_neg (not_not.mpr hlc)]
  rfl

theorem State.begins_lifecycleSet {state : Byte} {auth : List Byte} {lc : Nat} {debug : Bool} (hr : s.runs h (.lifecycleSet h state auth) = true)
    (hhc : h.hc = 0) (hto : s.transitionTo state = some (lc, debug, false)) (hmade : s.otp.made < 30) (hauth : auth = List.replicate 16 0) :
    s.begins (.lifecycleSet h state auth) h s := by
  refine State.begins_same hr rfl ?_
  rw [if_neg (not_not.mpr hhc)]
  simp only [State.taken_transitionTo, hto, State.taken_otp]
  exact (if_neg (by omega)).trans (if_pos hauth)

theorem exec_lifecycleSet_keyed {state : Byte} {auth key : List Byte} {lc : Nat} {debug : Bool} (hr : s.runs h (.lifecycleSet h state auth) = true)
    (hhc : h.hc = 0) (hto : s.transitionTo state = some (lc, debug, true)) (hmade : s.otp.made < 30) :
    let c := Instr.lifecycleSet h state auth
    let u := (s.taken h.hc.val c).derive .lifecycle
    u.1 = some key → exec c s = .next (s.keep (if auth = Config.aesCmac key (authText state.toNat s.otp.made) then (u.2.addJob h c).2
      else u.2.complete h (opcOf c) St.authFail 0)) := by
  intro c u hkey
  refine exec_of_runP_proved (u := u.2) hr rfl ?_
  rw [if_neg (not_not.mpr hhc)]
  simp only [State.taken_transitionTo, hto, State.taken_otp]
  rw [if_neg (by omega), if_pos trivial]
  simp only [show ((s.taken h.hc.val (.lifecycleSet h state auth)).derive .lifecycle).1 = some key from hkey]
  rfl

theorem exec_immEnroll {token : Byte} {record kt : List Byte} {x : Tok} (hr : s.runs h (.immEnroll h token record) = true) (hk : token.toNat ≤ 7)
    (hlen : record.length = 48) (hx : tokOf token.toNat (wordsOf record) = some x)
    (hfree : s.enrolled.any (fun p => p.1 != token.toNat && p.2.id == x.id) = false) (hown : s.owns h.hc.val 0x0B 0 = true) (hlive : s.immLive = true)
    (hnone : s.ka.tok token.toNat = none) :
    let c := Instr.immEnroll h token record
    let u := (s.taken h.hc.val c).derive (.token (s.immf 1 31 26) x.id)
    u.1 = some kt → exec c s = .next (s.keep
      (if (record.drop 16).take 16 = Config.aesCmac kt (ascii "GZEN" ++ beBytes 8 x.id.toNat ++ beBytes 4 x.treply) then (u.2.addJob h c).2
        else u.2.complete h (opcOf c) St.authFail 0)) := by
  intro c u hkey
  refine exec_of_runP_proved (u := u.2) hr rfl ?_
  dsimp only
  rw [if_neg (by omega)]
  simp only [hx, State.taken_enrolled, State.taken_owns, State.taken_immLive, State.taken_ka, State.taken_immf, hnone]
  rw [if_neg (by simp [hfree]), if_neg (not_not.mpr hown), if_neg (by simp [hlive]), if_neg (by simp)]
  simp only [show ((s.taken h.hc.val (.immEnroll h token record)).derive (.token (s.immf 1 31 26) x.id)).1 = some kt from hkey]
  rfl

theorem State.begins_immRevoke {token : Byte} (hr : s.runs h (.immRevoke h token) = true) (hk : token.toNat ≤ 7) (hown : s.owns h.hc.val 0x0B 0 = true)
    (hlive : s.immLive = true) (hsome : (s.ka.tok token.toNat).isSome = true) : s.begins (.immRevoke h token) h s := by
  refine State.begins_same hr rfl ?_
  simp only [State.taken_owns, State.taken_immLive, State.taken_ka]
  rw [if_neg (by omega), if_neg (not_not.mpr hown), if_neg (by simp [hlive]), if_neg (by simpa using Option.isSome_iff_ne_none.mp hsome)]
  rfl

/-! ### Working keys -/

variable {slot : Byte}

theorem exec_keyCommit {x : Staged} (hr : s.runs h (.keyCommit h slot) = true) (hn : slot.toNat ≤ 63) (hown : s.owns h.hc.val 8 slot.toNat = true)
    (hlive : s.slotLive slot.toNat = true) (hx : s.stagedOf slot.toNat = some x) (hver : x.verified = true) :
    exec (.keyCommit h slot) s = .next (s.keep ((s.taken h.hc.val (.keyCommit h slot)).addJob h (.keyCommit h slot)).2.kickFlash) := by
  refine exec_of_dispatch_eq hr rfl ?_
  simp only [State.taken_owns, State.taken_slotLive, State.taken_stagedOf, hx]
  rw [if_neg (by omega), if_neg (not_not.mpr hown), if_neg (by simp [hlive]), if_neg (by simp [hver])]

theorem State.does_keyStage {wrapped kek : List Byte} (hr : s.runs h (.keyStage h slot wrapped) = true) (hn : slot.toNat ≤ 63)
    (hlen : wrapped.length = 48) (hown : s.owns h.hc.val 8 slot.toNat = true) (hlive : s.slotLive slot.toNat = true) :
    let c := Instr.keyStage h slot wrapped
    let u := (s.taken h.hc.val c).derive (.kek slot.toNat)
    let a := u.2.stageBy slot.toNat (Config.aesUnwrap kek wrapped)
    u.1 = some kek → s.does c h a.s 0 [] a.status := by
  intro c u a hkey
  have hplain : a = { s := a.s, status := a.status } := by
    show u.2.stageBy _ _ = { s := (u.2.stageBy _ _).s, status := (u.2.stageBy _ _).status }
    generalize Config.aesUnwrap kek wrapped = o
    unfold State.stageBy
    split
    · rfl
    · dsimp only
      split
      · rfl
      · split <;> rfl
  refine State.does_of_runI hr rfl (Eq.trans ?_ hplain)
  simp only [State.taken_owns, State.taken_slotLive]
  rw [if_neg (by omega), if_neg (not_not.mpr hown), if_neg (by simp [hlive])]
  simp only [show ((s.taken h.hc.val c).derive (.kek slot.toNat)).1 = some kek from hkey]
  rfl

theorem State.takes_keyVerify {nonce : List Byte} {x : Staged} (hr : s.runs h (.keyVerify h slot nonce) = true) (hn : slot.toNat ≤ 63)
    (hlen : nonce.length = 16) (hown : s.owns h.hc.val 8 slot.toNat = true) (hlive : s.slotLive slot.toNat = true) (hx : s.stagedOf slot.toNat = some x) :
    s.takes (.keyVerify h slot nonce) h { s with staged := s.staged.map (fun y => if y.slot = slot.toNat then { y with verified := true } else y) } 0
      (wordsOf (Config.aesCmac x.key (ascii "GZKV" ++ nonce ++ beBytes 1 slot.toNat ++ beBytes 4 x.version))) := by
  refine State.takes_of_hosted hr rfl (fun o ht => ?_) ⟨rfl, rfl, rfl, rfl, rfl, rfl, rfl⟩
  simp only [State.taken_owns, State.taken_slotLive, State.taken_stagedOf, hx]
  rw [if_neg (by omega), if_neg (not_not.mpr hown), if_neg (by simp [hlive]), ht]
  rfl

theorem State.takes_keyChallenge {nonce key : List Byte} (hr : s.runs h (.keyChallenge h slot nonce) = true) (hn : slot.toNat ≤ 63)
    (hlen : nonce.length = 16) (hlive : s.slotLive slot.toNat = true) (hkey : s.useKey slot.toNat 1 = some key) :
    let l := s.challenges.filter (fun x => decide (s.now < x + sec 1))
    (l.length < 20 → s.takes (.keyChallenge h slot nonce) h { s with challenges := s.now :: l } 0
      (wordsOf (Config.aesCmac key (ascii "GZCH" ++ nonce ++ devId)))) ∧
    (20 ≤ l.length → s.takes (.keyChallenge h slot nonce) h s 0 [] St.busy) := by
  intro l
  refine ⟨fun hfew => State.takes_of_hosted hr rfl (fun o ht => ?_) ⟨rfl, rfl, rfl, rfl, rfl, rfl, rfl⟩, fun hmany => State.takes_same hr rfl ?_⟩
  · simp only [State.taken_slotLive, State.taken_useKey, State.taken_challenges, State.taken_now, hkey]
    rw [if_neg (by omega), if_neg (by simp [hlive]), if_neg (Nat.not_le.mpr hfew), ht]
    rfl
  · simp only [State.taken_slotLive, State.taken_useKey, State.taken_challenges, State.taken_now, hkey]
    rw [if_neg (by omega), if_neg (by simp [hlive])]
    exact if_pos hmany

end

/-- Settles O40. -/
theorem keyCommandsComplete : Obligations.KeyCommandsComplete := by
  unfold Obligations.KeyCommandsComplete
  refine ⟨fun s h root key hr hroot hlen hhc hlc => State.begins_keyRootWrite hr hroot hlen hhc hlc,
    fun s h state auth lc debug hr hhc hto hmade hauth => State.begins_lifecycleSet hr hhc hto hmade hauth, ?_, ?_,
    fun s h token hr hk hown hlive hsome => State.begins_immRevoke hr hk hown hlive hsome, ?_, ?_, fun u n => rfl, ?_, ?_, ?_⟩
  · intro s h state auth key lc debug c u hr hhc hto hmade hkey
    exact exec_lifecycleSet_keyed hr hhc hto hmade hkey
  · intro s h token record kt x c u hr hk hlen hx hfree hown hlive hnone hkey
    exact exec_immEnroll hr hk hlen hx hfree hown hlive hnone hkey
  · intro s h slot x c hr hn hown hlive hx hver
    exact exec_keyCommit hr hn hown hlive hx hver
  · intro s h slot wrapped kek c n u a hr hn hlen hown hlive hkey
    exact State.does_keyStage hr hn hlen hown hlive hkey
  · intro u n b x hx l
    constructor
    · intro hfew
      unfold State.stageBy
      simp only [hx]
      exact if_neg (Nat.not_le.mpr hfew)
    · intro hmany
      unfold State.stageBy
      simp only [hx]
      exact if_pos hmany
  · intro s h slot nonce x c n hr hn hlen hown hlive hx
    exact State.takes_keyVerify hr hn hlen hown hlive hx
  · intro s h slot nonce key c l hr hn hlen hlive hkey
    exact State.takes_keyChallenge hr hn hlen hlive hkey

end Sys2Proof.Machine
end

section
/-! PROOFS. The random source, the re-masking and the immobiliser's events (spec/18). -/

namespace Sys2Proof.Machine

section
variable {s : State}

theorem exec_rngHealthTest_pass (hup : s.sysUp = true) (hsys : s.domOn Dm.sys = true)
    (hdue : s.rngAt = none ∨ ∃ t : Nat, s.rngAt = some t ∧ t + sec 1 ≤ s.now) :
    exec (.rngHealthTest true) s = .next (({ s with rngAt := some s.now } : State).put keyStat_rngOk 1) := by
  refine show execRngHealthTest true s = _ from act_of_eq_same ?_ (State.put_pending ..) (State.put_now ..) (State.put_otp ..)
  rw [if_neg (by simp [hup, hsys]), if_pos rfl]
  refine if_pos ?_
  rcases hdue with hnone | ⟨t, ht, hle⟩
  · rw [hnone]
  · rw [ht]
    exact decide_eq_true hle

theorem exec_pollStart (hserves : s.immServes = true) (hretry : s.imm.retryAt = none)
    (hdue : ∀ t : Nat, s.imm.lastAt = some t → t + ms (s.immf 1 19 10) ≤ s.now) : exec .pollStart s = .next (s.keep s.startPoll) := by
  refine show execPollStart s = _ from act_of_eq (if_pos ⟨hserves, hretry, ?_⟩)
  split
  next => rfl
  next t ht => exact decide_eq_true (hdue t ht)

theorem exec_parkedPoll {answers : List PollAnswer} (hparks : s.parks = true) (hcode : s.parkCode = 1 ∨ s.parkCode = 2)
    (hretry : ∀ e : Nat, s.imm.retryAt = some e → e ≤ s.now)
    (hpoll : s.imm.retryAt = none → ms (if s.parkCode = 1 then 1000 else 4000) * 1000 ≤ (s.now - s.imm.parkPoll) * s.imm.parkRate) :
    exec (.parkedPoll answers) s = .next (s.keep (s.parkedPoll answers)) := by
  have hper : (match s.parkCode with | 1 => 1000 | 2 => 4000 | _ => 0) = if s.parkCode = 1 then 1000 else 4000 := by
    rcases hcode with h | h <;> rw [h] <;> rfl
  have hpos : (if s.parkCode = 1 then 1000 else 4000) ≠ 0 := by split <;> decide
  refine show execParkedPoll answers s = _ from act_of_eq (if_neg ?_)
  rintro (h | h | h)
  · exact Bool.false_ne_true (h.symm.trans hparks)
  · exact hpos (hper.symm.trans h)
  · split at h
    next e he => exact of_decide_eq_false h (hretry e he)
    next hnone => exact of_decide_eq_false h ((congrArg (fun per => ms per * 1000) hper).trans_le (hpoll hnone))

end

/-- Settles O42. -/
theorem keyAndImmobiliserEventsComplete : Obligations.KeyAndImmobiliserEventsComplete := by
  unfold Obligations.KeyAndImmobiliserEventsComplete
  refine ⟨fun s hup hsys hrng hat => ?_, fun s hup hsys hdue => exec_rngHealthTest_pass hup hsys hdue, fun s hup hsys => ?_,
    fun s hserves hretry hdue => exec_pollStart hserves hretry hdue, fun s e hretry hle hserves => ?_, fun answers p s hp hstart hpolls => ?_,
    fun s hrel hframe hup hsys => ?_, fun answers s hparks hcode hretry hpoll => exec_parkedPoll hparks hcode hretry hpoll, fun s hparks => ?_⟩
  · exact show execRemask s = _ from act_of_eq (if_pos ⟨hup, hsys, hrng, hat⟩)
  · refine show execRngHealthTest false s = _ from act_of_eq ?_
    exact (if_neg (by simp [hup, hsys])).trans (if_neg Bool.false_ne_true)
  · refine show execPollRetry s = _ from act_of_eq ?_
    simp only [hretry]
    exact if_pos ⟨hserves, hle⟩
  · refine show execPollDecision answers s = _ from act_of_eq ?_
    simp only [hp]
    exact if_neg (by simp [hpolls, hstart])
  · exact show execReleaseFrame s = _ from act_of_eq (if_neg (by simp [hrel, hframe, hup, hsys]))
  · exact show execParkMode s = _ from act_of_eq (if_pos hparks)

end Sys2Proof.Machine
end

section
/-! PROOFS. The update commands (spec/19). -/

namespace Sys2Proof.Machine

/-! ### BEGIN -/

section
variable (s : State) (hc size : Nat)

/-- A context takes the staging lock; it goes on where its download stopped, or starts one. -/
theorem State.updTake_eq :
    s.updTake hc size =
      if s.flash.fwState = 1 ∧ s.flash.fwSize = size ∧ s.flash.fwHc = hc then ({ s with fwLock := some { hc := hc } }, St.ok, s.flash.fwNext)
      else (({ s with fwLock := some { hc := hc } } : State).modFlash (fun f =>
        { f with staging := .bytes [], fwState := 1, fwSize := size, fwNext := 0, fwHc := hc }), St.ok, 0) := rfl

theorem State.updTake_status : (s.updTake hc size).2.1 = St.ok := by
  rw [State.updTake_eq]
  split <;> rfl

theorem State.hosted_updTake (o : State) : (s.hosted o).updTake hc size = ((s.updTake hc size).1.hosted o, (s.updTake hc size).2) := by
  rw [State.updTake_eq, State.updTake_eq s, show (s.hosted o).flash = s.flash from rfl]
  split <;> rfl

theorem State.calm_updTake (n : Nat) : s.calm (s.updTake hc size).1 n := by
  rw [State.updTake_eq]
  split <;> exact ⟨rfl, rfl, rfl, rfl, rfl, rfl, rfl⟩

variable {s hc size}

theorem State.updBegin_passed (hlo : 1 ≤ size) (hhi : size ≤ 2097152) (hmay : s.mayBegin hc = true) (htrial : s.onTrial = false) :
    s.updBegin hc size = match s.fwLock with
      | some l => if l.hc ≠ hc then (s, St.busy, l.hc) else s.updTake hc size
      | none => s.updTake hc size :=
  (if_neg (by omega)).trans ((if_neg (by simp [hmay])).trans (if_neg (by simp [htrial])))

theorem State.updBegin_free (hlo : 1 ≤ size) (hhi : size ≤ 2097152) (hmay : s.mayBegin hc = true) (htrial : s.onTrial = false)
    (hlock : s.fwLock.all (fun l => l.hc == hc) = true) : s.updBegin hc size = s.updTake hc size := by
  rw [State.updBegin_passed hlo hhi hmay htrial]
  split
  next l hl =>
    rw [hl] at hlock
    exact if_neg (not_not.mpr (beq_iff_eq.mp hlock))
  next => rfl

theorem State.updBegin_locked {l : StageLock} (hlo : 1 ≤ size) (hhi : size ≤ 2097152) (hmay : s.mayBegin hc = true) (htrial : s.onTrial = false)
    (hl : s.fwLock = some l) (hne : l.hc ≠ hc) : s.updBegin hc size = (s, St.busy, l.hc) := by
  rw [State.updBegin_passed hlo hhi hmay htrial, hl]
  exact if_pos hne

theorem State.cfgBegin_free (hlo : 1 ≤ size) (hhi : size ≤ 262144) (hmay : s.mayBegin hc = true) (hlock : s.cfgLock.all (fun l => l.hc == hc) = true) :
    s.cfgBegin hc size =
      if s.flash.cfgStage = 1 ∧ s.flash.cfgSize = size ∧ s.flash.cfgHc = hc then ({ s with cfgLock := some { hc := hc } }, St.ok, s.flash.cfgNext)
      else (({ s with cfgLock := some { hc := hc } } : State).modFlash (fun f =>
        { f with cfgStaging := .bytes [], cfgStage := 1, cfgSize := size, cfgNext := 0, cfgHc := hc }), St.ok, 0) := by
  have hfree : ¬ (match s.cfgLock with | some l => l.hc != hc | none => false) = true := by
    split
    next l hl =>
      rw [hl] at hlock
      simpa using hlock
    next => exact Bool.false_ne_true
  rw [State.cfgBegin, if_neg (by omega), if_neg (by simp [hmay])]
  exact if_neg hfree

end

section
variable {s : State} {h : Hdr} {size : Word}

theorem exec_updateBegin : exec (.updateBegin h size) s = act (fun s => s.runI h (.updateBegin h size) (fun t =>
    { s := (t.updBegin h.hc.val size.toNat).1, status := (t.updBegin h.hc.val size.toNat).2.1,
      result := (t.updBegin h.hc.val size.toNat).2.2 })) s := rfl

section
variable (hr : s.runs h (.updateBegin h size) = true)
include hr

theorem State.takes_updateBegin (hlo : 1 ≤ size.toNat) (hhi : size.toNat ≤ 2097152) (hmay : s.mayBegin h.hc.val = true) (htrial : s.onTrial = false)
    (hlock : s.fwLock.all (fun l => l.hc == h.hc.val) = true) :
    s.takes (.updateBegin h size) h (s.updTake h.hc.val size.toNat).1 ((s.taken h.hc.val (.updateBegin h size)).updTake h.hc.val size.toNat).2.2 := by
  refine State.takes_of_hosted hr exec_updateBegin (fun o ht => ?_) (s.calm_updTake ..)
  have hfree : (s.taken h.hc.val (.updateBegin h size)).updBegin h.hc.val size.toNat = (s.taken h.hc.val (.updateBegin h size)).updTake h.hc.val size.toNat :=
    State.updBegin_free hlo hhi ((State.taken_mayBegin ..).trans hmay) ((State.taken_onTrial ..).trans htrial)
      ((congrArg (Option.all _) (State.taken_fwLock ..)).trans hlock)
  rw [hfree, State.updTake_status, ht, State.hosted_updTake]

theorem State.takes_updateBegin_busy {l : StageLock} (hlo : 1 ≤ size.toNat) (hhi : size.toNat ≤ 2097152) (hmay : s.mayBegin h.hc.val = true)
    (htrial : s.onTrial = false) (hl : s.fwLock = some l) (hne : l.hc ≠ h.hc.val) : s.takes (.updateBegin h size) h s l.hc [] St.busy := by
  refine State.takes_same hr exec_updateBegin ?_
  rw [State.updBegin_locked hlo hhi ((State.taken_mayBegin ..).trans hmay) ((State.taken_onTrial ..).trans htrial) ((State.taken_fwLock ..).trans hl) hne]

theorem State.takes_updateBegin_size (hsize : size.toNat = 0 ∨ 2097152 < size.toNat) : s.takes (.updateBegin h size) h s 0 [] St.badParam := by
  refine State.takes_same hr exec_updateBegin ?_
  rw [State.updBegin, if_pos hsize]

theorem State.takes_updateBegin_source (hlo : 1 ≤ size.toNat) (hhi : size.toNat ≤ 2097152) (hmay : s.mayBegin h.hc.val = false) :
    s.takes (.updateBegin h size) h s 0 [] St.notOwner := by
  refine State.takes_same hr exec_updateBegin ?_
  rw [State.updBegin, if_neg (by omega), State.taken_mayBegin, if_pos hmay]

end

theorem exec_configBegin : exec (.configBegin h size) s = act (fun s => s.runI h (.configBegin h size) (fun t =>
    { s := (t.cfgBegin h.hc.val size.toNat).1, status := (t.cfgBegin h.hc.val size.toNat).2.1,
      result := (t.cfgBegin h.hc.val size.toNat).2.2 })) s := rfl

theorem State.takes_configBegin (hr : s.runs h (.configBegin h size) = true) (hlo : 1 ≤ size.toNat) (hhi : size.toNat ≤ 262144)
    (hmay : s.mayBegin h.hc.val = true) (hlock : s.cfgLock.all (fun l => l.hc == h.hc.val) = true) :
    let t : State := { s with cfgLock := some { hc := h.hc.val } }
    (s.flash.cfgStage = 1 → s.flash.cfgSize = size.toNat → s.flash.cfgHc = h.hc.val → s.takes (.configBegin h size) h t s.flash.cfgNext) ∧
    (¬ (s.flash.cfgStage = 1 ∧ s.flash.cfgSize = size.toNat ∧ s.flash.cfgHc = h.hc.val) →
      s.takes (.configBegin h size) h
        (t.modFlash (fun f => { f with cfgStaging := .bytes [], cfgStage := 1, cfgSize := size.toNat, cfgNext := 0, cfgHc := h.hc.val }))) := by
  intro t
  have hfree := State.cfgBegin_free (s := s.taken h.hc.val (.configBegin h size)) hlo hhi ((State.taken_mayBegin ..).trans hmay)
      ((congrArg (Option.all _) (State.taken_cfgLock ..)).trans hlock)
  rw [State.taken_flash] at hfree
  refine ⟨fun h1 h2 h3 => ?_, fun hnot => ?_⟩
  · refine State.takes_of_hosted hr exec_configBegin (fun o ht => ?_) ⟨rfl, rfl, rfl, rfl, rfl, rfl, rfl⟩
    rw [hfree, if_pos ⟨h1, h2, h3⟩, ht]
    rfl
  · refine State.takes_of_hosted hr exec_configBegin (fun o ht => ?_) ⟨rfl, rfl, rfl, rfl, rfl, rfl, rfl⟩
    rw [hfree, if_neg hnot, ht]
    rfl

/-! ### STATUS and CANCEL -/

theorem State.does_updateStatus (hr : s.runs h (.updateStatus h) = true) :
    let r := (s.taken h.hc.val (.updateStatus h)).drawBytes 32
    s.does (.updateStatus h) h r.2 s.flash.fwState (wordsOf r.1) := by
  intro r
  refine State.does_of_runI hr rfl ?_
  rw [State.taken_flash]
  rfl

theorem exec_updateCancel : exec (.updateCancel h) s = act (fun s => s.runI h (.updateCancel h) (fun t =>
    { s := (t.updCancel h.hc.val).1, status := (t.updCancel h.hc.val).2 })) s := rfl

theorem State.updCancel_passed {s : State} {hc : Nat} (hmine : s.owns hc 0x0A 4 = true ∨ ∃ l : StageLock, s.fwLock = some l ∧ l.hc = hc) :
    s.updCancel hc = match s.flash.fwState with
      | 1 | 2 => ({ s.modFlash Flash.unstage with fwLock := none }, St.ok)
      | 4 => (s.modFlash (fun f => { f with fwState := 5, revert := 3 }), St.ok)
      | _ => (s, St.badState) := by
  refine if_neg ?_
  rintro ⟨h1, h2⟩
  rcases hmine with h | ⟨l, hl, hh⟩
  · exact Bool.false_ne_true (h2.symm.trans h)
  · simp [hl, hh] at h1

theorem State.takes_updateCancel (hr : s.runs h (.updateCancel h) = true)
    (hmine : s.owns h.hc.val 0x0A 4 = true ∨ ∃ l : StageLock, s.fwLock = some l ∧ l.hc = h.hc.val) :
    (s.flash.fwState = 1 ∨ s.flash.fwState = 2 → s.takes (.updateCancel h) h { s.modFlash Flash.unstage with fwLock := none }) ∧
    (s.flash.fwState = 4 → s.takes (.updateCancel h) h (s.modFlash (fun f => { f with fwState := 5, revert := 3 }))) := by
  have hpass := State.updCancel_passed (s := s.taken h.hc.val (.updateCancel h)) (hc := h.hc.val)
    (by simpa only [State.taken_owns, State.taken_fwLock] using hmine)
  rw [State.taken_flash] at hpass
  refine ⟨fun hst => ?_, fun hst => ?_⟩
  · refine State.takes_of_hosted hr exec_updateCancel (fun o ht => ?_) ⟨rfl, rfl, rfl, rfl, rfl, rfl, rfl⟩
    dsimp only
    rcases hst with hst | hst <;> rw [hpass, hst, ht] <;> rfl
  · refine State.takes_of_hosted hr exec_updateCancel (fun o ht => ?_) ⟨rfl, rfl, rfl, rfl, rfl, rfl, rfl⟩
    rw [hpass, hst, ht]
    rfl

/-! ### DATA, END and CONFIRM -/

theorem dataRefused_none {lock : Option StageLock} {l : StageLock} {hc offset len next size : Nat} (hl : lock = some l) (hhc : l.hc = hc)
    (hoff : offset = next) (hfit : offset + len ≤ size) : dataRefused lock hc offset len next size = none := by
  subst hl
  rw [dataRefused, if_neg (by simp [hhc]), if_neg (not_not.mpr hoff), if_neg (Nat.not_lt.mpr hfit)]

theorem State.begins_updateData {offset : Word} {data : List Byte} {l : StageLock} (hr : s.runs h (.updateData h offset data) = true)
    (hlo : 1 ≤ data.length) (hhi : data.length ≤ 2048) (hl : s.fwLock = some l) (hhc : l.hc = h.hc.val) (hoff : offset.toNat = s.flash.fwNext)
    (hfit : offset.toNat + data.length ≤ s.flash.fwSize) : s.begins (.updateData h offset data) h s := by
  refine State.begins_same hr rfl ?_
  rw [if_neg (by omega), State.taken_fwLock, State.taken_flash, dataRefused_none hl hhc hoff hfit]
  rfl

theorem State.begins_configData {offset : Word} {data : List Byte} {l : StageLock} (hr : s.runs h (.configData h offset data) = true)
    (hlo : 1 ≤ data.length) (hhi : data.length ≤ 2048) (hl : s.cfgLock = some l) (hhc : l.hc = h.hc.val) (hoff : offset.toNat = s.flash.cfgNext)
    (hfit : offset.toNat + data.length ≤ s.flash.cfgSize) : s.begins (.configData h offset data) h s := by
  refine State.begins_same hr rfl ?_
  rw [if_neg (by omega), State.taken_cfgLock, State.taken_flash, dataRefused_none hl hhc hoff hfit]
  rfl

theorem State.begins_updateEnd (hr : s.runs h (.updateEnd h) = true)
    (hend : endAllowed s.fwLock h.hc.val (s.flash.fwState == 1) s.flash.fwNext s.flash.fwSize = true) : s.begins (.updateEnd h) h s := by
  refine State.begins_same hr rfl ?_
  rw [State.taken_fwLock, State.taken_flash, if_pos hend]
  rfl

theorem State.begins_configEnd (hr : s.runs h (.configEnd h) = true)
    (hend : endAllowed s.cfgLock h.hc.val (s.flash.cfgStage == 1) s.flash.cfgNext s.flash.cfgSize = true) : s.begins (.configEnd h) h s := by
  refine State.begins_same hr rfl ?_
  rw [State.taken_cfgLock, State.taken_flash, if_pos hend]
  rfl

theorem State.confirmRefused_none {s : State} {hc : Nat} (hst : s.flash.fwState = 4)
    (hmay : s.owns hc 0x0A 4 = true ∨ (s.onTrial = true ∧ s.flash.trialHc = hc)) : s.confirmRefused hc = none := by
  have hpass : ¬ (s.owns hc 0x0A 4 = false ∧ ¬ (s.onTrial = true ∧ s.flash.trialHc = hc)) := by
    rintro ⟨h1, h2⟩
    exact hmay.elim (fun h => Bool.false_ne_true (h1.symm.trans h)) h2
  rw [State.confirmRefused, if_neg hpass, if_neg (not_not.mpr hst)]

theorem State.begins_updateConfirm (hr : s.runs h (.updateConfirm h) = true) (hst : s.flash.fwState = 4)
    (hmay : s.owns h.hc.val 0x0A 4 = true ∨ (s.onTrial = true ∧ s.flash.trialHc = h.hc.val)) : s.begins (.updateConfirm h) h s := by
  refine State.begins_same hr rfl ?_
  rw [State.confirmRefused_none ((congrArg Flash.fwState (State.taken_flash ..)).trans hst)
    (by simpa only [State.taken_owns, State.taken_onTrial, State.taken_flash] using hmay)]
  rfl

end

/-- Settles O44. -/
theorem updateCommandsComplete : Obligations.UpdateCommandsComplete := by
  unfold Obligations.UpdateCommandsComplete
  refine ⟨?_, fun s h size hr => ⟨fun hsize => State.takes_updateBegin_size hr hsize, fun hlo hhi hmay => State.takes_updateBegin_source hr hlo hhi hmay⟩,
    ?_, ?_, ?_, fun s h offset data l hr hlo hhi hl hhc hoff hfit => State.begins_updateData hr hlo hhi hl hhc hoff hfit,
    fun s h offset data l hr hlo hhi hl hhc hoff hfit => State.begins_configData hr hlo hhi hl hhc hoff hfit,
    fun s h hr hend => State.begins_updateEnd hr hend, fun s h hr hend => State.begins_configEnd hr hend,
    fun s h hr hst hmay => State.begins_updateConfirm hr hst hmay⟩
  · intro s h size c t r hr hlo hhi hmay htrial
    exact ⟨fun hlock => ⟨State.takes_updateBegin hr hlo hhi hmay htrial hlock, State.updTake_status ..⟩,
      fun l hl hne => State.takes_updateBegin_busy hr hlo hhi hmay htrial hl hne⟩
  · intro s h size c hr hlo hhi hmay hlock
    exact State.takes_configBegin hr hlo hhi hmay hlock
  · intro s h c r hr
    exact State.does_updateStatus hr
  · intro s h c hr hmine
    exact State.takes_updateCancel hr hmine

end Sys2Proof.Machine
end

section
/-! PROOFS. Flash writes, locks, copies and the trial (spec/19). -/

namespace Sys2Proof.Machine

theorem actOtp_of_eq {f : State → State} {s u : State} (h : f s = u) : actOtp f s = .next (s.keepBurn u) := by rw [← h]; rfl

/-! ### The ends of flash writes -/

section
variable {s : State} (hup : s.sysUp = true) (hsys : s.domOn Dm.sys = true)
include hup hsys

theorem exec_flashWriteComplete_key {w : KeyWrite} (hw : s.keyWrite = some w) :
    exec .flashWriteComplete s = .next (s.keepBurn (((s.eraseKey w.key.slot).keyStep w).kickFlash)) := by
  refine show execFlashWriteComplete s = _ from actOtp_of_eq ?_
  rw [if_neg (by simp [hup, hsys])]
  simp only [hw]

theorem exec_flashWriteComplete_job {j : Job} (hw : s.keyWrite = none) (hj : s.writing = some j) :
    exec .flashWriteComplete s = .next (s.keepBurn (((s.written j).1.endJob j.id (s.written j).2.1 (s.written j).2.2).kickFlash)) := by
  refine show execFlashWriteComplete s = _ from actOtp_of_eq ?_
  rw [if_neg (by simp [hup, hsys])]
  simp only [hw, hj]

end

/-! ### Copies -/

section
variable {s : State} {c : Copying} {st : Nat} {rest : List Nat} (hc : s.flash.copying = some c) (hst : c.stages = st :: rest)
  (hphase : s.get pwrStart_phase = 4)
include hc hst hphase

/-- A copied block: erased, and its area in place or torn. -/
def State.copyLanded (s : State) (c : Copying) (st : Nat) (ok : Bool) : State := (s.erase (stageAddr st c.block)).modFlash (fun f => f.landed st c.block ok)

/-- The mark of how far the copy has come. -/
def State.copyMarked (s : State) (c : Copying) (st : Nat) : State := (s.copyLanded c st true).modFlash (fun f => { f with stage := st, block := c.block })

theorem State.copyBlock_done : s.copyBlock true =
    if c.block + 1 < stageBlocks st then (s.copyMarked c st).modFlash (fun f => { f with copying := some { c with block := c.block + 1, tries := 0 } })
    else if rest ≠ [] then (s.copyMarked c st).modFlash (fun f => { f with copying := some { c with stages := rest, block := 0, tries := 0 } })
    else (s.copyMarked c st).copyDone c.why := by
  unfold State.copyBlock
  simp only [hc, hst]
  rw [if_neg (not_not.mpr hphase), if_neg (by decide)]
  rfl

theorem State.copyBlock_failed : s.copyBlock false =
    if c.tries + 1 < 3 then (s.copyLanded c st false).modFlash (fun f => { f with copying := some { c with tries := c.tries + 1 } })
    else (s.copyLanded c st false).copyFailed c st := by
  unfold State.copyBlock
  simp only [hc, hst]
  rw [if_neg (not_not.mpr hphase), if_pos trivial]
  rfl

end

theorem exec_copyBlock (s : State) (ok : Bool) : exec (.copyBlock ok) s = .next (s.keep (s.copyBlock ok)) := rfl

/-! ### Staging locks -/

theorem exec_lockLapsed_firmware {s : State} {l : StageLock} (hl : s.fwLock = some l) (hidle : sec 60 ≤ l.idle) :
    exec (.lockLapsed false) s = .next (s.keep (({ s with fwLock := none } : State).updPost 0x06 0 l.hc s.flash.fwNext [l.hc])) := by
  refine show execLockLapsed false s = _ from act_of_eq ?_
  rw [if_neg Bool.false_ne_true]
  simp only [hl]
  exact if_neg (Nat.not_lt.mpr hidle)

theorem exec_lockLapsed_config {s : State} {l : StageLock} (hl : s.cfgLock = some l) (hidle : sec 60 ≤ l.idle) :
    exec (.lockLapsed true) s = .next (s.keep (({ s with cfgLock := none } : State).updPost 0x06 1 l.hc s.flash.cfgNext [l.hc])) := by
  refine show execLockLapsed true s = _ from act_of_eq ?_
  rw [if_pos rfl]
  simp only [hl]
  exact if_neg (Nat.not_lt.mpr hidle)

/-- Settles O45. -/
theorem flashEventsComplete : Obligations.FlashEventsComplete := by
  unfold Obligations.FlashEventsComplete
  refine ⟨fun s w hup hsys hw => exec_flashWriteComplete_key hup hsys hw, ?_, fun s l hl hidle => exec_lockLapsed_firmware hl hidle,
    fun s l hl hidle => exec_lockLapsed_config hl hidle, ?_, fun s htrial hrun => ?_, fun s hst hlimit => ?_, fun s hphase hup hsys => ?_⟩
  · intro s j hup hsys hw hj r
    exact exec_flashWriteComplete_job hup hsys hw hj
  · intro s c st rest hc hst hphase e t
    have hdone := State.copyBlock_done hc hst hphase
    have hfail := State.copyBlock_failed hc hst hphase
    refine ⟨fun hmore => ?_, fun hlast hrest => ?_, fun hlast hrest => ?_, fun htries => ?_, fun htries => ?_⟩
    · rw [exec_copyBlock, hdone, if_pos hmore]
      rfl
    · rw [exec_copyBlock, hdone, if_neg (Nat.not_lt.mpr hlast), if_neg (not_not.mpr hrest)]
      rfl
    · rw [exec_copyBlock, hdone, if_neg (Nat.not_lt.mpr hlast), if_pos hrest]
      rfl
    · rw [exec_copyBlock, hfail, if_pos (by omega)]
      rfl
    · rw [exec_copyBlock, hfail, if_neg (by omega)]
      rfl
  · exact show execTrialRuntimeWrite s = _ from act_of_eq_same (if_pos ⟨htrial, hrun⟩) rfl rfl rfl
  · exact show execTrialRuntimeLimit s = _ from act_of_eq (if_pos ⟨hst, hlimit⟩)
  · exact show execFallbackRepair s = _ from act_of_eq (if_pos ⟨hphase, hup, hsys⟩)

end Sys2Proof.Machine
end

section
/-! PROOFS. The UDS services (spec/19, R440). -/

namespace Sys2Proof.Machine

section
variable {s : State} {f : State → State}

/-! ### The server's gates -/

theorem act_udsTake_off (hoff : s.udsOn = false) : act (fun s => s.udsTake f) s = .next s :=
  act_of_eq_same (if_neg (by simp [hoff])) rfl rfl rfl

theorem act_udsTake_on {u : State} (hon : s.udsOn = true) (hf : f s.udsHeard = u) : act (fun s => s.udsTake f) s = .next (s.keep u) :=
  act_of_eq ((if_pos hon).trans hf)

theorem act_udsOpen_default {sid : Byte} (hon : s.udsOn = true) (hdef : s.uds.programming = false) :
    act (fun s => s.udsTake (fun t => t.udsOpen sid f)) s = .next (s.keep (s.udsHeard.udsNo sid 0x7F)) :=
  act_udsTake_on hon (if_pos hdef)

theorem act_udsOpen_locked {sid : Byte} (hon : s.udsOn = true) (hprog : s.uds.programming = true) (hlock : s.uds.unlocked = false) :
    act (fun s => s.udsTake (fun t => t.udsOpen sid f)) s = .next (s.keep (s.udsHeard.udsNo sid 0x33)) :=
  act_udsTake_on hon ((if_neg (ne_false_of_eq_true hprog)).trans (if_pos hlock))

theorem act_udsOpen {u : State} {sid : Byte} (hon : s.udsOn = true) (hprog : s.uds.programming = true) (hun : s.uds.unlocked = true)
    (hf : f s.udsHeard = u) : act (fun s => s.udsTake (fun t => t.udsOpen sid f)) s = .next (s.keep u) :=
  act_udsTake_on hon ((if_neg (ne_false_of_eq_true hprog)).trans ((if_neg (ne_false_of_eq_true hun)).trans hf))

theorem State.udsToken_paid {sid : Byte} (hact : s.udsMayAct = true) : s.udsToken sid f = f s.udsPaid := if_pos hact

end

/-! ### Sessions and SecurityAccess -/

section
variable {s : State} (hon : s.udsOn = true)
include hon

theorem exec_udsReadDataById :
    exec (.udsReadDataById [0xF1, 0x89]) s = .next (s.keep (s.udsHeard.udsSend ([0x62, 0xF1, 0x89] ++ beBytes 4 s.flash.active.version.toNat))) ∧
    exec (.udsReadDataById [0xF1, 0x8C]) s = .next (s.keep (s.udsHeard.udsSend ([0x62, 0xF1, 0x8C] ++ devId))) ∧
    exec (.udsReadDataById [0xF1, 0xA0]) s = .next (s.keep (s.udsHeard.udsSend ([0x62, 0xF1, 0xA0] ++ beBytes 4 (s.get updCfgver_value)))) :=
  ⟨show execUdsReadDataById [0xF1, 0x89] s = _ from act_udsTake_on hon (if_pos (by decide)),
    show execUdsReadDataById [0xF1, 0x8C] s = _ from act_udsTake_on hon ((if_neg (by decide)).trans (if_pos (by decide))),
    show execUdsReadDataById [0xF1, 0xA0] s = _ from
      act_udsTake_on hon ((if_neg (by decide)).trans ((if_neg (by decide)).trans (if_pos (by decide))))⟩

theorem exec_udsRequestSeed (hfree : s.udsHeard.udsLocked = false) : exec (.udsRequestSeed [0x11]) s = .next (s.keep s.udsHeard.udsSeed) := by
  refine show execUdsRequestSeed [0x11] s = _ from act_udsTake_on hon ?_
  exact (if_neg (by decide)).trans ((if_neg (by decide)).trans (if_neg (by simp [hfree])))

theorem exec_udsSendKey {key seed k : List Byte} (hfree : s.udsHeard.udsLocked = false) (hlen : key.length = 16) (hseed : s.uds.seed = some seed)
    (hk : s.udsHeard.useKey (s.get updUds_slot) 1 = some k) :
    exec (.udsSendKey (0x12 :: key)) s = .next (s.keep
      (if key = Config.aesCmac k (ascii "GZCH" ++ seed ++ devId) then s.udsHeard.udsGoodKey else s.udsHeard.udsBadKey)) := by
  refine show execUdsSendKey (0x12 :: key) s = _ from act_udsTake_on hon ?_
  dsimp only
  rw [if_neg (by decide), if_neg (by simp [hlen]), if_neg (by simp [hfree])]
  simp only [show s.udsHeard.uds.seed = some seed from hseed, show s.udsHeard.useKey (s.udsHeard.get updUds_slot) 1 = some k from hk]

theorem exec_udsTesterPresent :
    exec (.udsTesterPresent [0]) s = .next (s.keep (s.udsHeard.udsSend [0x7E, 0x00])) ∧
      exec (.udsTesterPresent [0x80]) s = .next (s.keep s.udsHeard) :=
  ⟨show execUdsTesterPresent [0] s = _ from act_udsTake_on hon (if_pos rfl),
    show execUdsTesterPresent [0x80] s = _ from act_udsTake_on hon ((if_neg (by decide)).trans (if_pos rfl))⟩

/-! ### Routines and transfer -/

section
variable (hprog : s.uds.programming = true) (hun : s.uds.unlocked = true) (hact : s.udsHeard.udsMayAct = true)
include hprog hun hact

theorem exec_udsRoutineControl_confirm :
    let u := s.udsHeard.udsPaid
    u.udsBusy = false → u.confirmRefused u.udsHc = none →
      exec (.udsRoutineControl [1, 2, 1]) s = .next (s.keep (u.udsJob (.updateConfirm u.udsHdr) [0x71, 1, 2, 1])) := by
  intro u hbusy hok
  refine show execUdsRoutineControl [1, 2, 1] s = _ from act_udsOpen hon hprog hun ?_
  refine (if_pos (by decide)).trans ((State.udsToken_paid hact).trans ?_)
  refine (if_neg (by simp [show s.udsHeard.udsPaid.udsBusy = false from hbusy])).trans ?_
  simp only [show s.udsHeard.udsPaid.confirmRefused s.udsHeard.udsPaid.udsHc = none from hok]
  rfl

theorem exec_udsRoutineControl_cancel :
    let u := s.udsHeard.udsPaid
    exec (.udsRoutineControl [1, 2, 2]) s = .next (s.keep ((u.updCancel u.udsHc).1.udsDone [0x71, 1, 2, 2] (u.updCancel u.udsHc).2)) :=
  show execUdsRoutineControl [1, 2, 2] s = _ from act_udsOpen hon hprog hun
    ((if_neg (by decide)).trans ((if_pos (by decide)).trans (State.udsToken_paid hact)))

theorem exec_udsRoutineControl_status :
    let u := s.udsHeard.udsPaid
    exec (.udsRoutineControl [3, 2, 0]) s = .next (s.keep (u.udsDone ([0x71, 3, 2, 0] ++ beBytes 4 u.flash.fwState) St.ok)) :=
  show execUdsRoutineControl [3, 2, 0] s = _ from act_udsOpen hon hprog hun
    ((if_neg (by decide)).trans ((if_neg (by decide)).trans ((if_pos (by decide)).trans (State.udsToken_paid hact))))

theorem exec_udsRequestDownload {size : List Byte} {a : Byte} (hlen : size.length = 4) (ha : a.toNat ≤ 1) :
    exec (.udsRequestDownload ([0, 0x44, 0, 0, 0, a] ++ size)) s = .next (s.keep (s.udsHeard.udsPaid.udsDownload (a == 1) (beNat size))) := by
  have haddr : beNat [0, 0, 0, a] = a.toNat := by simp [beNat]
  have hconfig : (beNat [0, 0, 0, a] == 1) = (a == 1) := by
    rw [haddr, beq_eq_beq, ← BitVec.toNat_inj]
    rfl
  refine show execUdsRequestDownload ([0, 0x44, 0, 0, 0, a] ++ size) s = _ from act_udsOpen hon hprog hun ?_
  rw [if_neg (by simp [hlen])]
  refine (if_neg ?_).trans ((State.udsToken_paid hact).trans ?_)
  · rintro (h | h | h)
    · exact h rfl
    · exact h rfl
    · exact absurd (haddr ▸ h : 1 < a.toNat) (by omega)
  · exact congrArg (fun b => s.udsHeard.udsPaid.udsDownload b (beNat size)) hconfig

variable (hactive : s.uds.active = true) (hbusy : s.udsHeard.udsBusy = false)
include hactive hbusy

theorem exec_udsTransferData {c : Byte} {rest : List Byte} (hseq : c.toNat = (s.uds.seq + 1) % 256)
    (hst : s.udsHeard.udsPaid.udsDataSt rest.length = St.ok) :
    exec (.udsTransferData (c :: rest)) s = .next (s.keep (s.udsHeard.udsPaid.udsData c rest)) := by
  have hnew : ¬ (c.toNat = s.uds.seq ∧ s.uds.answer ≠ []) := by
    rintro ⟨h, -⟩
    omega
  refine show execUdsTransferData (c :: rest) s = _ from act_udsOpen hon hprog hun ?_
  refine (if_neg (ne_false_of_eq_true hactive)).trans ((if_neg (by simp [hbusy])).trans ((if_neg hnew).trans ?_))
  exact (if_neg (not_not.mpr hseq)).trans ((State.udsToken_paid hact).trans (if_neg (not_not.mpr hst)))

theorem exec_udsTransferExit (hend : s.udsHeard.udsPaid.udsMayEnd = true) :
    exec (.udsTransferExit []) s = .next (s.keep s.udsHeard.udsPaid.udsExit) := by
  refine show execUdsTransferExit [] s = _ from act_udsOpen hon hprog hun ?_
  refine (if_neg (by simp)).trans ((if_neg (ne_false_of_eq_true hactive)).trans ((if_neg (by simp [hbusy])).trans ?_))
  exact (State.udsToken_paid hact).trans (if_neg (ne_false_of_eq_true hend))

end

end

/-- Settles O48. -/
theorem udsServicesComplete : Obligations.UdsServicesComplete := by
  unfold Obligations.UdsServicesComplete
  refine ⟨fun s sub hon hsub => ?_, fun s hon hact => ?_, fun s hon => exec_udsReadDataById hon, fun s hon hfree => exec_udsRequestSeed hon hfree,
    fun s key seed k hon hfree hlen hseed hk => exec_udsSendKey hon hfree hlen hseed hk, fun s e he hle => ?_, fun s hon => exec_udsTesterPresent hon,
    fun s hprog hlate => ?_, ?_, fun s data hoff => ⟨?_, ?_, ?_, ?_, ?_, ?_⟩, fun s data hon hdef => ⟨?_, ?_, ?_, ?_⟩,
    fun s data hon hprog hlock => ⟨?_, ?_, ?_, ?_⟩⟩
  · exact show execUdsSessionControl [sub] s = _ from act_udsTake_on hon (if_pos hsub)
  · exact show execUdsEcuReset [1] s = _ from act_udsTake_on hon ((if_pos rfl).trans (State.udsToken_paid hact))
  · refine show execUdsSecurityLockEnd s = _ from act_of_eq_same ?_ rfl rfl rfl
    simp only [he]
    exact if_pos hle
  · exact show execUdsSessionTimeout s = _ from act_of_eq_same (if_pos ⟨hprog, hlate⟩) rfl rfl rfl
  · intro s hon hprog hun hact u
    exact ⟨exec_udsRoutineControl_confirm hon hprog hun hact, exec_udsRoutineControl_cancel hon hprog hun hact,
      exec_udsRoutineControl_status hon hprog hun hact, fun size a hlen ha => exec_udsRequestDownload hon hprog hun hact hlen ha,
      fun hactive hbusy => ⟨fun c rest hseq hst => exec_udsTransferData hon hprog hun hact hactive hbusy hseq hst,
        fun hend => exec_udsTransferExit hon hprog hun hact hactive hbusy hend⟩⟩
  · exact show execUdsSessionControl data s = _ from act_udsTake_off hoff
  · exact show execUdsEcuReset data s = _ from act_udsTake_off hoff
  · exact show execUdsRoutineControl data s = _ from act_udsTake_off hoff
  · exact show execUdsRequestDownload data s = _ from act_udsTake_off hoff
  · exact show execUdsTransferData data s = _ from act_udsTake_off hoff
  · exact show execUdsTransferExit data s = _ from act_udsTake_off hoff
  · exact show execUdsRoutineControl data s = _ from act_udsOpen_default hon hdef
  · exact show execUdsRequestDownload data s = _ from act_udsOpen_default hon hdef
  · exact show execUdsTransferData data s = _ from act_udsOpen_default hon hdef
  · exact show execUdsTransferExit data s = _ from act_udsOpen_default hon hdef
  · exact show execUdsRoutineControl data s = _ from act_udsOpen_locked hon hprog hlock
  · exact show execUdsRequestDownload data s = _ from act_udsOpen_locked hon hprog hlock
  · exact show execUdsTransferData data s = _ from act_udsOpen_locked hon hprog hlock
  · exact show execUdsTransferExit data s = _ from act_udsOpen_locked hon hprog hlock

end Sys2Proof.Machine
end

section
/-! PROOFS. The register commands and single register accesses (spec/01, spec/04). -/

namespace Sys2Proof.Machine

/-! ### The expert window -/

/-- A command of class I that may burn one-time memory. -/
theorem exec_of_runI_burns {s : State} {h : Hdr} {c : Instr} {f : State → Ans} {a : Ans} (hr : s.runs h c = true)
    (hx : exec c s = actOtp (fun x => x.runI h c f) s) (hf : f (s.taken h.hc.val c) = a) :
    exec c s = .next (s.keepBurn (a.s.complete h (opcOf c) a.status a.result a.cont)) := by
  rw [hx, actOtp_of_eq (State.runI_turn (State.runs_turn hr) f), hf]

section
variable {s : State} {h : Hdr} {addr : Word}

theorem State.does_regRead {count : Byte} (hr : s.runs h (.regRead h addr count) = true) (ha : addr.toNat < 2 ^ 24) (hlo : 1 ≤ count.toNat)
    (hhi : count.toNat ≤ 60) :
    let r := (s.taken h.hc.val (.regRead h addr count)).readMany h.hc.val addr.toNat count.toNat []
    s.does (.regRead h addr count) h r.2.2 (if r.1 = St.ok then (r.2.1.getD 0 0).toNat else r.2.1.length) (padWords r.2.1) r.1 := by
  intro r
  have hzero : count ≠ 0 := by
    rintro rfl
    exact absurd hlo (by decide)
  exact State.does_of_runI hr rfl (if_neg (by simp only [hzero, false_or]; omega))

theorem exec_regWrite {data : Word} (hr : s.runs h (.regWrite h addr data) = true) (ha : addr.toNat < 2 ^ 24) :
    let r := (s.taken h.hc.val (.regWrite h addr data)).hostWrite h.hc.val addr.toNat allOnes data
    exec (.regWrite h addr data) s = .next (s.keepBurn (r.2.complete h (opcOf (.regWrite h addr data)) r.1 0)) :=
  exec_of_runI_burns hr rfl (if_neg (Nat.not_le.mpr ha))

theorem exec_regModify {mask value : Word} (hr : s.runs h (.regModify h addr mask value) = true) (ha : addr.toNat < 2 ^ 24) :
    let r := (s.taken h.hc.val (.regModify h addr mask value)).hostWrite h.hc.val addr.toNat mask value
    exec (.regModify h addr mask value) s = .next (s.keepBurn (r.2.complete h (opcOf (.regModify h addr mask value)) r.1
      (if r.1 = St.ok then r.2.peek h.hc.val addr.toNat else 0))) :=
  exec_of_runI_burns hr rfl (if_neg (Nat.not_le.mpr ha))

end

/-! ### Single accesses -/

/-- R15, R7: a write that succeeds is performed, or held where it must wait. -/
theorem State.accessWrite_ok {s : State} {hc a : Nat} {m v : Word} (hok : (s.hostWrite hc a m v).1 = St.ok) :
    s.accessWrite hc a m v = (St.ok, if s.accessWaits hc s.nextId a = true then s.holdWrite hc a m v else (s.hostWrite hc a m v).2) := by
  unfold State.accessWrite
  dsimp only
  split
  · rw [if_pos (.inl hok), hok]
  · exact Prod.ext hok rfl

theorem State.accessWrite_state {s : State} {hc a : Nat} {m v : Word} (hok : (s.hostWrite hc a m v).1 = St.ok) :
    (s.accessWrite hc a m v).2 = if s.accessWaits hc s.nextId a = true then s.holdWrite hc a m v else (s.hostWrite hc a m v).2 :=
  congrArg Prod.snd (State.accessWrite_ok hok)

theorem exec_compatWakesrcRead (hc : Fin 8) (s : State) :
    exec (.compatWakesrcRead hc) s = .next (s.keep (if s.accessHeld hc.val s.nextId compatWakesrc_wk.addr = true then s
      else (s.hostRead hc.val compatWakesrc_wk.addr).2.2)) := rfl

/-- Settles O49. -/
theorem registerRowsComplete : Obligations.RegisterRowsComplete := by
  unfold Obligations.RegisterRowsComplete
  refine ⟨?_, ?_, ?_, ?_, ?_, ?_, ?_, ?_, fun hc s _ => exec_compatWakesrcRead hc s⟩
  · intro s h addr count c r hr ha hlo hhi
    exact State.does_regRead hr ha hlo hhi
  · intro s h addr data c r hr ha
    exact exec_regWrite hr ha
  · intro s h addr mask value c r hr ha
    exact exec_regModify hr ha
  · intro hc addr data s r hok
    exact show execRegisterWrite hc addr data s = _ from actOtp_of_eq (State.accessWrite_state hok)
  · intro hc ch k data s r hok
    exact show execChannelCfgWrite hc ch k data s = _ from act_of_eq (State.accessWrite_state hok)
  · intro hc ax k data s r hok
    exact show execAxisCfgWrite hc ax k data s = _ from act_of_eq (State.accessWrite_state hok)
  · intro hc b s r hok
    exact show execCmptestRun hc b s = _ from act_of_eq (State.accessWrite_state hok)
  · intro hc data s r hok
    exact show execRequireOwnerWrite hc data s = _ from actOtp_of_eq (State.accessWrite_state hok)

end Sys2Proof.Machine
end

section
/-! PROOFS. SPI frames (spec/04, R68 to R76). -/

namespace Sys2Proof.Machine

/-! ### A frame of a row's type -/

theorem State.keepBurn_same {s u : State} (hp : u.pending = s.pending) (hn : u.now = s.now) (ho : u.otp = s.otp) : s.keepBurn u = u := by
  rw [State.keepBurn_eq_keep ho, State.noHosts_keep hp hn ho]

section
variable {s : State} {f : SpiFrame} {ty crcAt pos : Nat} {effect : State → State × List Byte} (hon : s.hifAnswers = true)
  (hty : (f.bytes.getD 0 0).toNat = ty) (hone : 1 ≤ crcAt) (hlen : crcAt < f.bytes.length)
include hon hty hone hlen

theorem State.spiFrame_whole : s.spiFrame f ty crcAt pos effect =
    if crc8 (f.bytes.take crcAt) ≠ f.bytes.getD crcAt 0 then
      { s.inc sysHifstat_frameErr with crce := true, sdo := spiOut f (s.gsbByte f) pos [0xFF] false }
    else { (effect s).1 with crce := false, sdo := spiOut f (s.gsbByte f) pos (effect s).2 true } := by
  have hne : f.bytes ≠ [] := List.ne_nil_of_length_pos (by omega)
  unfold State.spiFrame
  dsimp only
  rw [if_neg (by simp [hon, hne]), if_neg (by omega), if_neg (fun h => h.1 hty), if_neg (by omega)]

theorem State.spiFrame_good (hcrc : crc8 (f.bytes.take crcAt) = f.bytes.getD crcAt 0) : s.spiFrame f ty crcAt pos effect =
    { (effect s).1 with crce := false, sdo := spiOut f (s.gsbByte f) pos (effect s).2 true } :=
  (State.spiFrame_whole hon hty hone hlen).trans (if_neg (not_not.mpr hcrc))

theorem State.spiFrame_bad (hcrc : crc8 (f.bytes.take crcAt) ≠ f.bytes.getD crcAt 0) : s.spiFrame f ty crcAt pos effect =
    { s.inc sysHifstat_frameErr with crce := true, sdo := spiOut f (s.gsbByte f) pos [0xFF] false } :=
  (State.spiFrame_whole hon hty hone hlen).trans (if_pos hcrc)

end

/-! ### Single register accesses over SPI -/

theorem State.accessWrite_free {s : State} {hc a : Nat} {m v : Word} (hfree : s.accessWaits hc s.nextId a = false) :
    s.accessWrite hc a m v = s.hostWrite hc a m v := if_neg (by simp [hfree])

/-- What a read frame does and answers where its turnaround is long enough. -/
def State.spiRead (s : State) (a : Nat) : State × List Byte :=
  let r := s.hostRead 0 a
  let busy := s.accessHeld 0 s.nextId a && r.1 == St.ok
  let st := if busy then St.busy else r.1
  let x : State := if busy then s else { r.2.2 with freeCount := max r.2.2.freeCount s.freeCount }
  (x.put sysHifstat_lastStatus st.toNat, st :: beBytes 4 (if busy then 0 else r.2.1))

theorem State.spiRead_free {s : State} {a : Nat} (hfree : s.accessHeld 0 s.nextId a = false ∨ (s.hostRead 0 a).1 ≠ St.ok) :
    s.spiRead a = ((({ (s.hostRead 0 a).2.2 with freeCount := max (s.hostRead 0 a).2.2.freeCount s.freeCount } : State).put sysHifstat_lastStatus
      (s.hostRead 0 a).1.toNat), (s.hostRead 0 a).1 :: beBytes 4 (s.hostRead 0 a).2.1) := by
  have hbusy : (s.accessHeld 0 s.nextId a && (s.hostRead 0 a).1 == St.ok) = false := by
    rcases hfree with h | h
    · rw [h, Bool.false_and]
    · rw [beq_eq_false_iff_ne.mpr h, Bool.and_false]
  unfold State.spiRead
  dsimp only
  rw [hbusy]
  rfl

theorem State.spiRead_held {s : State} {a : Nat} (hheld : s.accessHeld 0 s.nextId a = true) (hok : (s.hostRead 0 a).1 = St.ok) :
    s.spiRead a = (s.put sysHifstat_lastStatus St.busy.toNat, St.busy :: beBytes 4 0) := by
  have hbusy : (s.accessHeld 0 s.nextId a && (s.hostRead 0 a).1 == St.ok) = true := by rw [hheld, hok]; rfl
  unfold State.spiRead
  dsimp only
  rw [hbusy]
  rfl

section
variable {s : State} {f : SpiFrame} (hon : s.hifAnswers = true)
include hon

theorem exec_spiRegRead (hty : f.bytes.getD 0 0 = 1) (hlen : 4 < f.bytes.length) (hcrc : crc8 (f.bytes.take 4) = f.bytes.getD 4 0)
    (htime : 280 ≤ (s.get sysHifcfg_rdwait + 1) * 8 * f.periodNs) :
    exec (.spiRegRead f) s = .next (s.keep { (s.spiRead (beNat ((f.bytes.drop 1).take 3))).1 with
      crce := false
      sdo := spiOut f (s.gsbByte f) (6 + s.get sysHifcfg_rdwait) (s.spiRead (beNat ((f.bytes.drop 1).take 3))).2 true }) := by
  have hpos : 5 + (s.get sysHifcfg_rdwait + 1) = 6 + s.get sysHifcfg_rdwait := by omega
  refine show execSpiRegRead f s = _ from act_of_eq ?_
  dsimp only
  rw [State.spiFrame_good hon (by rw [hty]; rfl) (by decide) hlen hcrc, hpos, if_pos htime]
  rfl

theorem exec_spiRegWrite {a : Nat} {v : Word} (ha : a = beNat ((f.bytes.drop 1).take 3)) (hv : v = word (beNat ((f.bytes.drop 4).take 4)))
    (hty : f.bytes.getD 0 0 = 2) (hlen : 8 < f.bytes.length) (hcrc : crc8 (f.bytes.take 8) = f.bytes.getD 8 0) :
    exec (.spiRegWrite f) s = .next (s.keepBurn { (s.accessWrite 0 a allOnes v).2.put sysHifstat_lastStatus (s.accessWrite 0 a allOnes v).1.toNat with
      crce := false, sdo := spiOut f (s.gsbByte f) 9 [(s.accessWrite 0 a allOnes v).1] true }) := by
  subst ha hv
  refine show execSpiRegWrite f s = _ from actOtp_of_eq ?_
  rw [State.spiFrame_good hon (by rw [hty]; rfl) (by decide) hlen hcrc]

theorem exec_spiRegWrite_badCrc (hty : f.bytes.getD 0 0 = 2) (hlen : 8 < f.bytes.length) (hcrc : crc8 (f.bytes.take 8) ≠ f.bytes.getD 8 0) :
    exec (.spiRegWrite f) s = .next { s.inc sysHifstat_frameErr with crce := true, sdo := spiOut f (s.gsbByte f) 9 [0xFF] false } := by
  refine show execSpiRegWrite f s = _ from (actOtp_of_eq (State.spiFrame_bad hon (by rw [hty]; rfl) (by decide) hlen hcrc)).trans ?_
  exact congrArg Host.Outcome.next (State.keepBurn_same rfl rfl rfl)

/-! ### Packets and rings -/

theorem exec_packetPush (hty : f.bytes.getD 0 0 = 3) (hlen : 9 + 4 * ceilDiv (readHdr (f.bytes.drop 1)).len 4 < f.bytes.length)
    (hcrc : crc8 (f.bytes.take (9 + 4 * ceilDiv (readHdr (f.bytes.drop 1)).len 4)) = f.bytes.getD (9 + 4 * ceilDiv (readHdr (f.bytes.drop 1)).len 4) 0) :
    exec (.packetPush f) s = .next (s.keep { (s.acceptPkt 0 ((f.bytes.drop 1).take (8 + (readHdr (f.bytes.drop 1)).len)) 2056).1 with
      crce := false
      sdo := spiOut f (s.gsbByte f) (10 + 4 * ceilDiv (readHdr (f.bytes.drop 1)).len 4)
        [(s.acceptPkt 0 ((f.bytes.drop 1).take (8 + (readHdr (f.bytes.drop 1)).len)) 2056).2] true }) := by
  refine show execPacketPush f s = _ from act_of_eq ?_
  dsimp only
  rw [State.spiFrame_good hon (by rw [hty]; rfl) (by omega) hlen hcrc]

theorem exec_ringPull (hty : f.bytes.getD 0 0 = 4) (hlen : 4 < f.bytes.length) (hcrc : crc8 (f.bytes.take 4) = f.bytes.getD 4 0)
    (hserves : s.serves 0 = true) (hring : (f.bytes.getD 1 0).toNat ≤ 1) (hack : (f.bytes.getD 2 0).toNat ≤ 32) (hlo : 16 ≤ (f.bytes.getD 3 0).toNat)
    (hhi : (f.bytes.getD 3 0).toNat ≤ 32) :
    exec (.ringPull f) s = .next (s.keep { (s.pullRing ((f.bytes.getD 1 0).toNat == 1) (f.bytes.getD 2 0).toNat (f.bytes.getD 3 0).toNat).1 with
      crce := false
      sdo := spiOut f (s.gsbByte f) 5
        (BitVec.ofNat 8 ((s.pullRing ((f.bytes.getD 1 0).toNat == 1) (f.bytes.getD 2 0).toNat (f.bytes.getD 3 0).toNat).2.length / 4) ::
          bytesOf (s.pullRing ((f.bytes.getD 1 0).toNat == 1) (f.bytes.getD 2 0).toNat (f.bytes.getD 3 0).toNat).2) true }) := by
  have hin : ¬ (s.serves 0 = false ∨ 1 < (f.bytes.getD 1 0).toNat ∨ 32 < (f.bytes.getD 2 0).toNat ∨ within 16 32 (f.bytes.getD 3 0).toNat = false) := by
    rintro (h | h | h | h)
    · exact Bool.false_ne_true (h.symm.trans hserves)
    · omega
    · omega
    · exact Bool.false_ne_true (h.symm.trans (by simp only [within, hlo, hhi, decide_true, Bool.and_self]))
  refine show execRingPull f s = _ from act_of_eq ?_
  rw [State.spiFrame_good hon (by rw [hty]; rfl) (by decide) hlen hcrc]
  dsimp only
  rw [if_neg hin]

end

/-- Settles O52. -/
theorem spiRowsComplete : Obligations.SpiRowsComplete := by
  unfold Obligations.SpiRowsComplete
  refine ⟨fun b s hon => ?_, ?_, ?_, ?_, ?_, fun f s hon hty hlen hcrc => exec_spiRegWrite_badCrc hon hty hlen hcrc⟩
  · exact show execStatusPoll b s = _ from act_of_eq_same (if_pos hon) rfl rfl rfl
  · intro f s hon hty hlen hcrc htime a r x
    have hrun := exec_spiRegRead hon hty hlen hcrc htime
    refine ⟨fun hfree => ?_, fun hheld hok => ?_⟩
    · rw [hrun, State.spiRead_free hfree]
    · rw [hrun, State.spiRead_held hheld hok]
  · intro f s hon hty hlen hcrc
    dsimp only
    have hrun := exec_spiRegWrite hon rfl rfl hty hlen hcrc
    refine ⟨fun hfree => ?_, fun hheld hok => ?_⟩
    · rw [hrun, State.accessWrite_free hfree]
    · rw [hrun, State.accessWrite_ok hok, if_pos hheld]
      rfl
  · intro f s
    dsimp only
    intro hon hty hlen hcrc
    exact exec_packetPush hon hty hlen hcrc
  · intro f s hon hty hlen hcrc hserves hring hack hlo hhi
    dsimp only
    exact exec_ringPull hon hty hlen hcrc hserves hring hack hlo hhi

end Sys2Proof.Machine
end

section
/-! PROOFS. Messages over the transports and the sideband (spec/04, R91 to R95; spec/15, R343 to R345). -/

namespace Sys2Proof.Machine

/-! ### Messages of HC1 to HC7 -/

section
variable {s : State} {hc : Fin 8} {m : TransportMsg} (hne : hc ≠ 0)
include hne

theorem State.recvMsg_discards (hno : s.closed hc.val = true ∨ s.bound hc.val = false ∨ s.serves hc.val = false) :
    s.recvMsg hc.val m = s.inc (hcRefused_discard hc.val) :=
  (if_neg (Fin.val_ne_of_ne hne)).trans (if_pos hno)

section
variable (hcl : s.closed hc.val = false) (hbound : s.bound hc.val = true) (hserves : s.serves hc.val = true)
include hcl hbound hserves

/-- A message that the flow takes: its sender and, where the flow is authenticated, its counter are noted, and its bytes go on. -/
theorem State.recvMsg_takes {t : State}
    (hgood : (!s.isAuth hc.val || ((s.flowKey? hc.val).isSome && decide ((s.hc hc.val).rxCount < m.counter) &&
      m.mac == macOf (s.flowKey hc.val) (m.bytes.take (msgLen m.kind.toNat m.bytes)) m.counter)) = true)
    (ht : s.modHc hc.val (fun h => { h with
      rxCount := if s.isAuth hc.val then m.counter else h.rxCount
      reply := if s.transport hc.val = 3 then (m.srcIp, m.srcPort) else h.reply }) = t) :
    (m.kind = 0 → s.recvMsg hc.val m = t.packetIn hc.val m.bytes) ∧
    (m.kind = 3 → 3 ≤ m.bytes.length → s.recvMsg hc.val m = t.ackRing hc.val (pB m.bytes 0) (pH m.bytes 1)) := by
  have hopen : ¬ (s.closed hc.val = true ∨ s.bound hc.val = false ∨ s.serves hc.val = false) := by simp [hcl, hbound, hserves]
  have htake : s.recvMsg hc.val m = if m.kind = 0 then t.packetIn hc.val m.bytes
      else if m.kind = 3 ∧ 3 ≤ m.bytes.length then t.ackRing hc.val (pB m.bytes 0) (pH m.bytes 1) else t := by
    rw [State.recvMsg, if_neg (show hc.val ≠ 0 from Fin.val_ne_of_ne hne), if_neg hopen, ← ht]
    exact if_neg (ne_false_of_eq_true hgood)
  refine ⟨fun h0 => htake.trans (if_pos h0), fun h3 hlen => htake.trans ((if_neg ?_).trans (if_pos ⟨h3, hlen⟩))⟩
  rw [h3]
  decide

theorem State.recvMsg_fails
    (hbad : (!s.isAuth hc.val || ((s.flowKey? hc.val).isSome && decide ((s.hc hc.val).rxCount < m.counter) &&
      m.mac == macOf (s.flowKey hc.val) (m.bytes.take (msgLen m.kind.toNat m.bytes)) m.counter)) = false) :
    s.recvMsg hc.val m = s.modHc hc.val (fun h => { h with authFail := h.authFail + 1 }) := by
  have hopen : ¬ (s.closed hc.val = true ∨ s.bound hc.val = false ∨ s.serves hc.val = false) := by simp [hcl, hbound, hserves]
  rw [State.recvMsg, if_neg (show hc.val ≠ 0 from Fin.val_ne_of_ne hne), if_neg hopen]
  exact if_pos hbad

end

end

section
variable {s u : State} {hc : Fin 8} {m : TransportMsg}

theorem exec_packetMessage (hm : m.kind = 0) (hu : s.recvMsg hc.val m = u) : exec (.packetMessage hc m) s = .next (s.keep u) :=
  show execPacketMessage hc m s = _ from act_of_eq ((if_pos hm).trans hu)

theorem exec_ringAck (hm : m.kind = 3) (hu : s.recvMsg hc.val m = u) : exec (.ringAck hc m) s = .next (s.keep u) :=
  show execRingAck hc m s = _ from act_of_eq ((if_pos hm).trans hu)

end

/-! ### Resending -/

theorem exec_recordsResend {hc : Fin 8} {s : State} (hne : hc ≠ 0) (hcl : s.closed hc.val = false) (hbound : s.bound hc.val = true)
    (hawake : s.asleepQuiet hc.val = false) (hserves : s.serves hc.val = true) :
    exec (.recordsResend hc false) s = .next (s.keep (s.sendGroups hc.val (s.flowKey hc.val)
      (fun r => r.delivered && decide (r.sentAt + ms 100 ≤ s.now)) (fun _ => false))) ∧
    exec (.recordsResend hc true) s = .next (s.keep (s.sendGroups hc.val (s.flowKey hc.val)
      (fun _ => false) (fun r => r.delivered && decide (r.sentAt + ms 100 ≤ s.now)))) := by
  have hsends : ¬ (hc.val = 0 ∨ s.closed hc.val = true ∨ s.bound hc.val = false ∨ s.asleepQuiet hc.val = true ∨ s.serves hc.val = false) := by
    rintro (h | h)
    · exact Fin.val_ne_of_ne hne h
    · simp [hcl, hbound, hawake, hserves] at h
  constructor
  · refine show execRecordsResend hc false s = _ from act_of_eq ((if_neg hsends).trans ?_)
    simp only [Bool.not_false, Bool.true_and, Bool.false_and]
  · refine show execRecordsResend hc true s = _ from act_of_eq ((if_neg hsends).trans ?_)
    simp only [Bool.not_true, Bool.true_and, Bool.false_and]

/-! ### Words read over the sideband -/

section
variable (s : State)

/-- What a read changes before it shows its word: registers, and a free draw. -/
theorem State.convert_keeps {α : Type} {g : State → α} (hwr : ∀ (u : State) (a : Nat) (w : Word), g (u.wr a w) = g u)
    (hdraw : ∀ (u : State) (n : Nat), g { u with freeCount := n } = g u) (a : Nat) (r : RegAt) : g (s.convert a r) = g s := by
  have hput (u : State) (f : Fld) (v : Nat) : g (u.put f v) = g u := hwr ..
  unfold State.convert
  split
  · unfold State.fiRaw
    split
    · exact (hput ..).trans (hdraw ..)
    · rfl
  · split
    · unfold State.fqLimits
      split
      · exact hput ..
      · exact (hput ..).trans (hdraw ..)
    · split
      · exact (hwr ..).trans (hdraw ..)
      · rfl

section
variable {α : Type} {g : State → α} (hwr : ∀ (u : State) (a : Nat) (w : Word), g (u.wr a w) = g u)
  (hdraw : ∀ (u : State) (n : Nat), g { u with freeCount := n } = g u) (hax : ∀ (u : State) (n : Nat) (f : Axis → Axis), g (u.modAx n f) = g u)
  (hport : ∀ (u : State) (n : Nat) (f : CanPort → CanPort), g (u.modPort n f) = g u) (htime : ∀ (u : State) (w : Word), g { u with timeHi := w } = g u)
  (has : ∀ (u : State) (w : Word), g { u with asHi := w } = g u)

include hax hport htime has in
theorem State.capture_keeps (r : RegAt) : g (s.capture r) = g s := by
  unfold State.capture
  split
  · exact hax ..
  · exact htime ..
  · exact hport ..
  · exact has ..
  · rfl

include hwr hdraw hax hport htime has in
theorem State.sbWord_keeps : g s.sbWord.2 = g { s with sbPtr := (s.sbPtr + 4) % 2 ^ 24 } := by
  have hread {p : Prop} [Decidable p] {v : Nat} {u t : State} (h : g u = g t) : g (if p then (v, u) else (0, t)).2 = g t := by
    split
    · exact h
    · rfl
  cases hreg : regAt s.sbPtr with
  | none => simp only [State.sbWord, hreg]
  | some p =>
    simp only [State.sbWord, hreg]
    exact hread ((State.capture_keeps _ hax hport htime has p.2).trans (State.convert_keeps _ hwr hdraw _ p.2))

end

theorem State.sbWord_moves : s.sbWord.2.sbPtr = (s.sbPtr + 4) % 2 ^ 24 ∧ s.sbWord.2.sbOut = s.sbOut :=
  ⟨s.sbWord_keeps (fun _ _ _ => rfl) (fun _ _ => rfl) (fun _ _ _ => rfl) (fun _ _ _ => rfl) (fun _ _ => rfl) (fun _ _ => rfl),
    s.sbWord_keeps (fun _ _ _ => rfl) (fun _ _ => rfl) (fun _ _ _ => rfl) (fun _ _ _ => rfl) (fun _ _ => rfl) (fun _ _ => rfl)⟩

/-- One word read: it goes out behind those before it. -/
def State.sbSends (s : State) : State := { s.sbWord.2 with sbOut := s.sbWord.2.sbOut ++ beBytes 4 s.sbWord.1 }

theorem State.sbSends_moves : s.sbSends.sbPtr = (s.sbPtr + 4) % 2 ^ 24 ∧ s.sbSends.sbOut.length = s.sbOut.length + 4 := by
  obtain ⟨hptr, hout⟩ := s.sbWord_moves
  refine ⟨hptr, ?_⟩
  show (s.sbWord.2.sbOut ++ beBytes 4 s.sbWord.1).length = _
  rw [List.length_append, hout]
  rfl

theorem State.sbReadWords_moves (n : Nat) :
    (s.sbReadWords n).sbOut.length = 4 * n ∧ (s.sbPtr < 2 ^ 24 → (s.sbReadWords n).sbPtr = (s.sbPtr + 4 * n) % 2 ^ 24) := by
  induction n with
  | zero => exact ⟨rfl, fun h => (Nat.mod_eq_of_lt h).symm⟩
  | succ n ih =>
    have hstep : s.sbReadWords (n + 1) = (s.sbReadWords n).sbSends := by
      unfold State.sbReadWords
      rw [List.range_succ, List.foldl_append]
      rfl
    obtain ⟨hptr, hlen⟩ := (s.sbReadWords n).sbSends_moves
    rw [hstep, hptr, hlen, ih.1]
    exact ⟨by omega, fun h => by rw [ih.2 h]; omega⟩

end

theorem State.wakeOn_sbCounted (s : State) : (s.inc pwrSbstat_matches).wakeOn 9 = s.wakeOn 9 := by
  unfold State.wakeOn State.wkf
  rw [s.rd_inc_ne pwrSbstat_matches (by decide)]

/-- Settles O53. -/
theorem transportRowsComplete : Obligations.TransportRowsComplete := by
  unfold Obligations.TransportRowsComplete
  refine ⟨?_, ?_, fun hc m s hne hno hm => exec_packetMessage hm (State.recvMsg_discards hne hno),
    fun hc s hne hcl hbound hawake hserves => exec_recordsResend hne hcl hbound hawake hserves, fun hc s k next at_ bytes hseg hlate => ?_,
    fun a s ha hsbi hsup => ⟨fun hoff => ?_, fun hon => ?_⟩, fun b s hsbi hlen => ?_, fun b s hsbi hlen hreg => ?_, fun b s hsbi hlen hreg => ?_,
    fun n s hsbi => ⟨?_, s.sbReadWords_moves n⟩⟩
  · intro hc m s hne hcl hbound hserves hauth t
    have htakes := State.recvMsg_takes (m := m) hne hcl hbound hserves (t := t) (by simp [hauth]) (by simp only [hauth]; rfl)
    exact ⟨fun hm => exec_packetMessage hm (htakes.1 hm), fun hm hlen => exec_ringAck hm (htakes.2 hm hlen)⟩
  · intro hc m s hne hcl hbound hserves hauth tag t
    refine ⟨fun hkey hcount hmac => ?_, fun hbad hm => ?_⟩
    · have htakes := State.recvMsg_takes (m := m) hne hcl hbound hserves (t := t)
        (by simp [hkey, hcount, hmac, tag]) (by simp only [hauth]; rfl)
      exact ⟨fun hm => exec_packetMessage hm (htakes.1 hm), fun hm hlen => exec_ringAck hm (htakes.2 hm hlen)⟩
    · refine exec_packetMessage hm (State.recvMsg_fails hne hcl hbound hserves ?_)
      rw [hauth, Bool.not_true, Bool.false_or]
      rcases hbad with h | h | h
      · rw [Option.isNone_iff_eq_none.mp h]
        rfl
      · rw [decide_eq_false (BitVec.not_lt.mpr h), Bool.and_false, Bool.false_and]
      · rw [beq_eq_false_iff_ne.mpr h, Bool.and_false]
  · refine show execCanSegmentTimeout hc s = _ from act_of_eq ?_
    simp only [hseg]
    exact if_pos hlate
  · refine show execSidebandAddressMatch a s = _ from act_of_eq ((if_neg (by simp [ha, hsbi, hsup])).trans (if_neg ?_))
    simp [State.wakeOn_sbCounted, hoff]
  · exact show execSidebandAddressMatch a s = _ from act_of_eq ((if_neg (by simp [ha, hsbi, hsup])).trans (if_pos ((s.wakeOn_sbCounted).trans hon)))
  · exact show execSidebandPointerWrite b s = _ from act_of_eq_same ((if_neg (by simp [hsbi])).trans (if_pos hlen)) rfl rfl rfl
  · exact show execSidebandWrite b s = _ from act_of_eq ((if_neg (by simp [hsbi])).trans (if_neg (by simp [hlen, hreg])))
  · exact show execSidebandWrite b s = _ from act_of_eq ((if_neg (by simp [hsbi])).trans (if_pos (.inr hreg)))
  · exact show execSidebandRead n s = _ from act_of_eq (if_neg (by simp [hsbi]))

end Sys2Proof.Machine
end

section
/-! PROOFS. Protection of a channel and of a bank (spec/06, spec/07). -/

namespace Sys2Proof.Machine

/-! ### Trips of a channel that is on -/

theorem State.trip_on {s : State} {n : Nat} (hdrive : (s.ch n).drive ≠ .off) (hbank : s.domOn (Dm.bank (bankOf n)) = true) (cause kind i v more : Nat) :
    s.trip n cause kind i v more = s.tripCore n cause kind i v more :=
  if_neg (by rintro (⟨h, -⟩ | h); exacts [hdrive h, Bool.false_ne_true (h.symm.trans hbank)])

section
variable {n : Fin 64} {i v : Half} {s : State} (hdrive : (s.ch n.val).drive ≠ .off) (hbank : s.domOn (Dm.bank (bankOf n.val)) = true)
include hdrive hbank

theorem exec_overcurrent {a : Nat} (hrush : (s.ch n.val).inrush = false) (hlim : (s.ch n.val).limAt = some a)
    (hlong : us 200 ≤ (s.ch n.val).limRun + (s.now - a)) :
    exec (.overcurrent n i v) s = .next (s.keep (s.tripCore n.val 2 0x02 i.toNat v.toNat 0)) := by
  refine show execOvercurrent n i v s = _ from act_of_eq ((if_pos ?_).trans (State.trip_on hdrive hbank ..))
  simp only [State.limitOver, hlim, hrush, Bool.not_false, Bool.true_and]
  exact decide_eq_true hlong

theorem exec_segImbalance {seg : Fin 3} {a : Nat} (hclass : chClass n.val = .H) (hlow : (s.ch n.val).segLow.getD seg.val none = some a)
    (hlong : a + ms 1 ≤ s.now) :
    exec (.segImbalance n seg i v) s = .next (s.keep (s.tripCore n.val 6 0x06 i.toNat v.toNat (seg.val * 0x100))) := by
  refine show execSegImbalance n seg i v s = _ from act_of_eq ((if_pos ⟨hclass, ?_⟩).trans (State.trip_on hdrive hbank ..))
  rw [hlow]
  exact decide_eq_true hlong

end

/-! ### The wire model -/

theorem exec_wireModelUpdate {n : Fin 64} {i v : Half} {s : State} (hbank : s.domOn (Dm.bank (bankOf n.val)) = true)
    (hms : (s.ch n.val).thetaAt + ms 1 ≤ s.now) :
    let t := s.modCh n.val (fun c => { c with sqSum := 0, sqCnt := 0, drove := decide (c.drive ≠ .off), thetaAt := s.now })
    let u := t.modCh n.val (fun c => { c with theta := s.thetaNext n.val })
    let on : Prop := bits (s.cfgw n.val 4) 15 0 ≠ 0 ∧ s.flag (bankSense_curValid (bankOf n.val)) = true
    (¬ on → exec (.wireModelUpdate n i v) s = .next t) ∧
    (on → s.thetaNext n.val < 1000000000 → exec (.wireModelUpdate n i v) s = .next u) ∧
    (on → 1000000000 ≤ s.thetaNext n.val → exec (.wireModelUpdate n i v) s = .next (s.keep (u.trip n.val 5 0x05 i.toNat v.toNat))) := by
  intro t u on
  have hdue : ¬ (s.domOn (Dm.bank (bankOf n.val)) = false ∨ s.now < (s.ch n.val).thetaAt + ms 1) := by
    rintro (h | h)
    · exact Bool.false_ne_true (h.symm.trans hbank)
    · omega
  have hon : on → ¬ (bits (s.cfgw n.val 4) 15 0 = 0 ∨ s.flag (bankSense_curValid (bankOf n.val)) = false) := by
    rintro ⟨hrated, hvalid⟩ (h | h)
    · exact hrated h
    · exact Bool.false_ne_true (h.symm.trans hvalid)
  have hoff : ¬ on → bits (s.cfgw n.val 4) 15 0 = 0 ∨ s.flag (bankSense_curValid (bankOf n.val)) = false := by
    intro h
    rw [← Bool.not_eq_true]
    exact or_iff_not_imp_left.mpr fun h0 hv => h ⟨h0, hv⟩
  refine ⟨fun h => ?_, fun h hcool => ?_, fun h hhot => ?_⟩
  · exact show execWireModelUpdate n i v s = _ from act_of_eq_same ((if_neg hdue).trans (if_pos (hoff h))) rfl rfl rfl
  · exact show execWireModelUpdate n i v s = _ from
      act_of_eq_same ((if_neg hdue).trans ((if_neg (hon h)).trans (if_neg (Nat.not_le.mpr hcool)))) rfl rfl rfl
  · exact show execWireModelUpdate n i v s = _ from act_of_eq ((if_neg hdue).trans ((if_neg (hon h)).trans (if_pos hhot)))

/-! ### Self-tests -/

theorem exec_selftestStart {n : Fin 64} {s : State} (hnone : (s.ch n.val).testAt = none) (hoff : (s.ch n.val).offAt + ms 1 ≤ s.now)
    (hsec : (s.ch n.val).testedAt = 0 ∨ (s.ch n.val).testedAt / sec 1 < s.now / sec 1) (hdrive : (s.ch n.val).drive = .off)
    (hbank : s.domOn (Dm.bank (bankOf n.val)) = true) :
    exec (.selftestStart n) s = .next (s.keep
      ((s.modCh n.val (fun c => { c with testAt := some s.now })).put ⟨(bankCmptest_pass (bankOf n.val)).addr, n.val % 8, n.val % 8⟩ 0)) :=
  show execSelftestStart n s = _ from act_of_eq ((if_pos ⟨by rw [hnone]; rfl, hoff, hsec⟩).trans (if_pos ⟨hdrive, hbank⟩))

theorem exec_selftestEnd {n : Fin 64} {pass : Bool} {func : Fin 5} {copyB : Bool} {s : State} {a : Nat} (ha : (s.ch n.val).testAt = some a)
    (hlong : a + us 200 ≤ s.now) : exec (.selftestEnd n pass func copyB) s = .next (s.keep (s.endTest n.val pass func.val copyB)) := by
  refine show execSelftestEnd n pass func copyB s = _ from act_of_eq ?_
  simp only [ha]
  exact if_pos hlong

/-! ### Restarts -/

section
variable {n : Fin 64} {s : State}

theorem State.mayRestart_cooled {e : Nat} (h : s.mayRestart e = true) : s.cooled e = true ∧ s.wanted e = true := by
  simp only [State.mayRestart, Bool.and_eq_true] at h
  exact h.1

theorem exec_restart (hmay : s.mayRestart (s.head n.val) = true) (hline : ∀ r ∈ s.line, r.src ≠ .restart (s.head n.val)) {limp : Bool}
    (hlimp : (s.limpOnNow || (s.bank (bankOf (s.head n.val))).ownLimp) = limp) :
    exec (.restart n) s = .next (s.keep (s.request (.restart (s.head n.val)) [(s.head n.val, s.budgetI (s.head n.val))]
      (if limp then 0 else s.chPrio (s.head n.val)) (if limp then none else s.owner 0 (s.head n.val)) none)) := by
  refine show execRestart n s = _ from act_of_eq ((if_neg ?_).trans ((if_pos ⟨hmay, ?_⟩).trans ?_))
  · rintro ⟨-, h⟩
    exact Bool.false_ne_true (h.symm.trans (State.mayRestart_cooled hmay).2)
  · dsimp only
    rw [hlimp]
  · rw [List.any_eq_false]
    intro r hr
    split
    next k hk =>
      rw [decide_eq_true_iff]
      rintro rfl
      exact hline r hr hk
    next => exact Bool.false_ne_true

theorem exec_restart_unwanted (hcool : s.cooled (s.head n.val) = true) (hwant : s.wanted (s.head n.val) = false)
    (hbr : s.bridged (s.head n.val) = false) :
    exec (.restart n) s = .next (s.modCh (s.head n.val) (fun c => { c with cooling := false })) := by
  refine show execRestart n s = _ from act_of_eq_same ((if_pos ⟨hcool, hwant⟩).trans ?_) rfl rfl rfl
  rw [State.pairOf_alone hbr]
  rfl

theorem State.restartN_aged (n : Nat) :
    (s.modCh n (fun c => { c with restarts := c.restarts.filter (fun x => decide (s.now < x + sec 10)) })).restartN n = s.restartN n := by
  have hhead : (s.modCh n (fun c => { c with restarts := c.restarts.filter (fun x => decide (s.now < x + sec 10)) })).head n = s.head n := rfl
  have hfilt (l : List Nat) : (l.filter (fun x => decide (s.now < x + sec 10))).filter (fun t => decide (t ≤ s.now) && decide (s.now < t + sec 10)) =
      l.filter (fun t => decide (t ≤ s.now) && decide (s.now < t + sec 10)) := by
    simp only [List.filter_filter, Bool.and_assoc, Bool.and_self]
  unfold State.restartN
  rw [hhead]
  by_cases h : s.head n = n
  · rw [h, State.ch_modCh_self]
    exact congrArg List.length (hfilt _)
  · rw [State.ch_modCh_ne _ _ h]
    rfl

end

/-- Settles O54. -/
theorem protectionRowsComplete : Obligations.ProtectionRowsComplete := by
  unfold Obligations.ProtectionRowsComplete
  refine ⟨fun n s hcond => ?_, fun n i v s hdrive hbank => ⟨?_, fun a hrush hlim hlong => exec_overcurrent hdrive hbank hrush hlim hlong, ?_, ?_,
      fun seg a hclass hlow hlong => exec_segImbalance hdrive hbank hclass hlow hlong⟩,
    fun n func copyB i v s hbank => ?_, fun n s hrush hend => ?_, ?_,
    fun n s hnone hoff hsec hdrive hbank => exec_selftestStart hnone hoff hsec hdrive hbank, ?_, ?_, ?_, fun n s => ⟨?_, State.restartN_aged n.val⟩,
    fun b s hcalm hhot => ?_, fun b s hwarn hcool => ?_⟩
  · exact show execCurrentLimit n s = _ from act_of_eq_same (if_pos hcond) rfl rfl rfl
  · exact show execShortHard n i v s = _ from act_of_eq (State.trip_on hdrive hbank ..)
  · exact show execOvertempDt n i v s = _ from act_of_eq (State.trip_on hdrive hbank ..)
  · exact show execOvertempAbs n i v s = _ from act_of_eq (State.trip_on hdrive hbank ..)
  · exact show execCmpMismatch n func copyB i v s = _ from act_of_eq (if_neg (by simp [hbank]))
  · exact show execInrushRegimeEnd n s = _ from act_of_eq_same (if_pos ⟨hrush, hend⟩) rfl rfl rfl
  · intro n i v s hbank hms t u on
    exact exec_wireModelUpdate hbank hms
  · intro n func copyB s a ha hlong t
    exact ⟨exec_selftestEnd ha hlong, exec_selftestEnd ha hlong⟩
  · intro n s e hmay hline
    refine ⟨fun hlimp => ?_, fun hlimp hown => ?_⟩
    · exact exec_restart hmay hline (limp := true) (by simpa using hlimp)
    · exact exec_restart hmay hline (limp := false) (by rw [hlimp, hown]; rfl)
  · intro n s e hcool hwant hbr
    exact exec_restart_unwanted hcool hwant hbr
  · exact show execRestartAgeOut n s = _ from act_of_eq_same rfl rfl rfl rfl
  · exact show execBankTempWarn b s = _ from act_of_eq (if_pos ⟨hcalm, hhot⟩)
  · exact show execBankTempWarnEnd b s = _ from act_of_eq (if_pos ⟨hwarn, hcool⟩)

end Sys2Proof.Machine
end

section
/-! PROOFS. The headroom governor's rows (spec/11). -/

namespace Sys2Proof.Machine

/-- Settles O59. -/
theorem governorRowsComplete : Obligations.GovernorRowsComplete := by
  unfold Obligations.GovernorRowsComplete
  refine ⟨fun n s => ?_, fun q r d s hr hlimit hdue => ?_, fun g s hcrk hdroop hfree => ?_, fun g s hfrozen => ?_, fun s hcrk => ?_,
    fun g m s hcrk hshares hother hlost hgone => ?_, fun g d s hhold hdue => ?_, fun g s hfall hgood => ?_⟩
  · refine show execGrantExpiry n s = _ from act_of_eq (congrArg s.release (funext fun g => ?_))
    cases g.edge <;> rfl
  · refine show execDeferralLimit q s = _ from act_of_eq ?_
    simp only [hr, hlimit]
    exact if_pos hdue
  · exact show execDroopFreeze g s = _ from act_of_eq (if_pos ⟨hcrk, hdroop, hfree⟩)
  · exact show execDroopFreezeEnd g s = _ from act_of_eq (if_pos hfrozen)
  · exact show execEpochBoundary s = _ from act_of_eq (if_pos hcrk)
  · refine show execMemberLost g m s = _ from act_of_eq (if_pos ⟨hcrk, hshares, hother, hlost, ?_⟩)
    rcases hgone with h | ⟨p, hp, hmem, hcount⟩
    · exact .inr h
    · exact .inl (List.any_eq_true.mpr ⟨p, hp, by simp [hmem, hcount]⟩)
  · refine show execFbHoldEnd g s = _ from act_of_eq ?_
    simp only [hhold]
    exact if_pos hdue
  · exact show execMembersRelinked g s = _ from act_of_eq (if_pos ⟨hfall, hgood⟩)

end Sys2Proof.Machine
end

section
/-! PROOFS. PWM, pulses, lamps and valves (spec/08). -/

namespace Sys2Proof.Machine

section
variable {n : Fin 64} {s : State}

theorem exec_pulseEnd {width : Word} {p : Pulse} {a : Nat} (hp : (s.ch n.val).pulse = some p) (ha : p.startAt = some a) (hdue : a + us p.width ≤ s.now) :
    exec (.pulseEnd n width) s = .next (s.keep (((s.endPulse n.val width.toNat).chanOff n.val).clearCmd n.val)) := by
  obtain ⟨w, job, start, delay⟩ := p
  obtain rfl : start = some a := ha
  refine show execPulseEnd n width s = _ from act_of_eq ?_
  simp only [hp]
  exact if_pos hdue

variable {p : Profile} (hp : (s.ch n.val).profile = some p)
include hp

theorem exec_rampEnd (hcode : p.code = 1) (hphase : p.phase = .ramp) (hdrive : (s.ch n.val).drive ≠ .off)
    (hdue : p.startAt + ms (setField p.set 1 31 16) ≤ s.now) :
    let t := s.modCh n.val (fun c => { c with profile := some { p with phase := .lampHold, duty := p.dutyEnd } })
    exec (.rampEnd n) s = .next (s.keep
      (((t.useDuty n.val (t.lampDuty (bankOf n.val) p.dutyEnd (setField p.set 1 15 0))).profileDone n.val 0).releaseCh n.val)) := by
  refine show execRampEnd n s = _ from act_of_eq ?_
  simp only [hp]
  exact if_pos ⟨hcode, hphase, hdrive, hdue⟩

/-- A valve's arrival is noted. -/
def State.arrived (s : State) (n : Nat) (p : Profile) (l : Nat) : State :=
  (s.modCh n (fun c => { c with profile := some { p with arrival := some l, arrivalAt := s.now } })).put (bankArrival_last (bankOf n) (n % 8)) l

theorem State.arrivalStep_eq {latency : Half} (hcode : p.code = 2) (hphase : p.phase = .peak) (harr : p.arrival = none) (hdet : p.det.found = true)
    (hvalid : s.flag (bankSense_curValid (bankOf n.val)) = true) {u : State}
    (hu : (let t := s.arrived n.val p (p.latencyOf latency.toNat)
      if t.reports (bankOf n.val) then t.leadLearn n.val 2 (10 * p.latencyOf latency.toNat) p.startV else t) = u) :
    exec (.arrivalConfirmed n latency) s = .next (s.keep u) := by
  refine show execArrivalConfirmed n latency s = _ from act_of_eq ?_
  simp only [hp]
  exact (if_pos ⟨hcode, hphase, by rw [harr]; rfl, hdet, hvalid⟩).trans hu

theorem exec_arrivalConfirmed {latency : Half} (hcode : p.code = 2) (hphase : p.phase = .peak) (harr : p.arrival = none) (hdet : p.det.found = true)
    (hvalid : s.flag (bankSense_curValid (bankOf n.val)) = true) :
    let l := p.latencyOf latency.toNat
    let t := s.arrived n.val p l
    (t.reports (bankOf n.val) = false → exec (.arrivalConfirmed n latency) s = .next t) ∧
    (t.reports (bankOf n.val) = true → exec (.arrivalConfirmed n latency) s = .next (s.keep (t.leadLearn n.val 2 (10 * l) p.startV))) := by
  intro l t
  refine ⟨fun hno => ?_, fun hyes => State.arrivalStep_eq hp hcode hphase harr hdet hvalid (if_pos hyes)⟩
  have hkeep : s.keep t = t := State.noHosts_keep rfl rfl rfl
  rw [State.arrivalStep_eq hp hcode hphase harr hdet hvalid (if_neg (ne_true_of_eq_false hno)), hkeep]

/-- The valve holds. -/
def State.valveHeld (s : State) (n : Nat) (p : Profile) : State :=
  (s.modCh n (fun c => { c with profile := some { p with phase := .valveHold, duty := setField p.set 3 15 4, chopOff := false }, div := 0 })).useDuty
    n (setField p.set 3 15 4)

/-- What a valve's profile reports at the end of its peak. -/
def State.peakReported (t : State) (n : Nat) (p : Profile) : State :=
  match p.arrival with
  | some l => t.profileDone n 0 l
  | none => ((t.inc (bankArrival_noarr (bankOf n) (n % 8))).chFault n 0x0E).profileDone n 1

omit hp in
theorem State.peakReported_arrived {t : State} {k l : Nat} (hl : p.arrival = some l) : t.peakReported k p = t.profileDone k 0 l := by
  rw [State.peakReported, hl]

omit hp in
theorem State.peakReported_silent {t : State} {k : Nat} (hnone : p.arrival = none) :
    t.peakReported k p = ((t.inc (bankArrival_noarr (bankOf k) (k % 8))).fault k 0x0E k).profileDone k 1 := by
  rw [State.peakReported, hnone]
  rfl

theorem exec_peakPhaseEnd (hcode : p.code = 2) (hphase : p.phase = .peak) (hdrive : (s.ch n.val).drive ≠ .off)
    (hdue : (p.arrival.isSome && decide (p.arrivalAt + us (100 * setField p.set 4 31 16) ≤ s.now)) = true ∨
      p.startAt + us (100 * setField p.set 1 31 16) ≤ s.now) :
    exec (.peakPhaseEnd n) s = .next (s.keep (((s.valveHeld n.val p).peakReported n.val p).releaseCh n.val)) := by
  refine show execPeakPhaseEnd n s = _ from act_of_eq ?_
  simp only [hp]
  exact if_pos ⟨hcode, hphase, hdrive, hdue⟩

end

/-- Settles O57. -/
theorem driveRowsComplete : Obligations.DriveRowsComplete := by
  unfold Obligations.DriveRowsComplete
  refine ⟨fun n s hdrive hbank hin => ?_, fun b p s hnew hends => ?_, fun n width p a s hp ha hdue => exec_pulseEnd hp ha hdue, ?_, ?_, ?_⟩
  · exact show execPwmPeriodEnd n s = _ from act_of_eq (if_neg (by simp [hdrive, hbank, hin]))
  · refine show execBaseFrameEnd b s = _ from act_of_eq_same ?_ (State.put_pending ..) (State.put_now ..) (State.put_otp ..)
    simp only [hnew]
    exact if_neg (by simp [hends])
  · intro n p s hp hcode hphase hdrive hdue
    exact exec_rampEnd hp hcode hphase hdrive hdue
  · intro n latency p s hp hcode hphase harr hdet hvalid
    exact exec_arrivalConfirmed hp hcode hphase harr hdet hvalid
  · intro n p s hp hcode hphase hdrive
    refine ⟨fun l hl hdue => ?_, fun hnone hdue => ?_⟩
    · rw [exec_peakPhaseEnd hp hcode hphase hdrive (by simpa [hl] using hdue), State.peakReported_arrived hl, State.valveHeld]
    · rw [exec_peakPhaseEnd hp hcode hphase hdrive (.inr hdue), State.peakReported_silent hnone, State.valveHeld]

end Sys2Proof.Machine
end

section
/-! PROOFS. What a reading keeps where a command ends. -/

namespace Sys2Proof.Machine

/-- A reading that looks at no host context and at nothing else that the end of a command writes. -/
structure JobBlind {α : Type} (g : State → α) : Prop where
  hosts : ∀ s : State, g s.noHosts = g s
  later : ∀ (s : State) (l : List (Hdr × Compl × Option Nat)), g { s with later := l } = g s
  jobs : ∀ (s : State) (l : List Job), g { s with jobs := l } = g s
  uds : ∀ (s : State) (x : Uds), g { s with uds := x } = g s

namespace JobBlind

variable {α : Type} {g : State → α} (hg : JobBlind g) (s : State)
include hg

theorem complete (h : Hdr) (opc : Nat) (st : Byte) (r : Nat) (cont : List Word) (resync : Bool) (time : Option Word) (slot : Option Nat) :
    g (s.complete h opc st r cont resync time slot) = g s := by
  unfold State.complete
  dsimp only
  split
  · exact State.eq_of_noHosts g hg.hosts (s.pushCompl_noHosts h _)
  · exact hg.later _ _

theorem udsSend (b : List Byte) : g (s.udsSend b) = g s := by
  unfold State.udsSend
  split
  · exact State.eq_of_noHosts g hg.hosts rfl
  · rfl

theorem udsAnswer (ok : List Byte) (since : Nat) (st : Byte) : g (s.udsAnswer ok since st) = g s := by
  unfold State.udsAnswer
  refine (hg.uds _ _).trans ((hg.udsSend _ _).trans ?_)
  split
  · exact hg.udsSend s _
  · rfl

theorem endJob (n : Nat) (st : Byte) (r : Nat) (cont : List Word) (time : Option Word) : g (s.endJob n st r cont time) = g s := by
  unfold State.endJob
  split
  · rfl
  · refine (foldl_keeps (g := g) (fun u h => hg.complete u ..) _ _).trans ?_
    split
    · exact (hg.udsAnswer ..).trans (hg.jobs _ _)
    · exact (hg.complete ..).trans (hg.jobs _ _)

end JobBlind

theorem JobBlind.chans : JobBlind State.chans := ⟨fun _ => rfl, fun _ _ => rfl, fun _ _ => rfl, fun _ _ => rfl⟩
theorem JobBlind.line : JobBlind State.line := ⟨fun _ => rfl, fun _ _ => rfl, fun _ _ => rfl, fun _ _ => rfl⟩

end Sys2Proof.Machine
end

section
/-! PROOFS. Motors and the profile microcode (spec/08). -/

namespace Sys2Proof.Machine

/-! ### Steps that begin no profile -/

theorem State.reexamine_empty {s : State} (h : s.line = []) : s.reexamine = s := by
  have hgrow : s.growLine = s := if_neg (by simp [h])
  rw [State.reexamine, hgrow, h]
  rfl

/-- With no request in the line, a step that leaves the line empty and begins no profile. -/
def State.fades (s t : State) : Prop := s.line = [] → t.line = [] ∧ ∀ m : Nat, (s.ch m).profile = none → (t.ch m).profile = none

section
variable {s t u : State}

theorem State.fades_refl (s : State) : s.fades s := fun h => ⟨h, fun _ hm => hm⟩

theorem State.fades_trans (hst : s.fades t) (htu : t.fades u) : s.fades u := fun h =>
  ⟨(htu (hst h).1).1, fun m hm => (htu (hst h).1).2 m ((hst h).2 m hm)⟩

theorem State.fades_of_same (hline : t.line = s.line) (hchans : t.chans = s.chans) : s.fades t :=
  fun h => ⟨hline.trans h, fun m hm => by rw [State.ch, hchans]; exact hm⟩

theorem State.fades_modCh (s : State) (n : Nat) {f : Chan → Chan} (hf : ∀ c : Chan, c.profile = none → (f c).profile = none) : s.fades (s.modCh n f) := by
  refine fun h => ⟨h, fun m hm => ?_⟩
  by_cases hmn : m = n
  · subst hmn
    rw [State.ch_modCh_self]
    exact hf _ hm
  · rw [State.ch_modCh_ne _ _ hmn]
    exact hm

theorem State.fades_foldl {β : Type} (f : State → β → State) (hf : ∀ (u : State) (x : β), u.fades (f u x)) (l : List β) (s : State) :
    s.fades (l.foldl f s) := by
  induction l generalizing s with
  | nil => exact s.fades_refl
  | cons x l ih => exact State.fades_trans (hf s x) (ih _)

theorem State.fades_endJob (s : State) (n : Nat) (st : Byte) (r : Nat) : s.fades (s.endJob n st r) :=
  State.fades_of_same (JobBlind.line.endJob ..) (JobBlind.chans.endJob ..)

theorem State.fades_driveTo (s : State) (n : Nat) (d : Drive) : s.fades (s.driveTo n d) := by
  refine s.fades_modCh n fun c hc => ?_
  split
  · exact hc
  · split
    · exact hc
    · split
      · exact hc
      · exact hc

theorem State.fades_modBr (s : State) (k : Nat) (f : Bridge → Bridge) : s.fades (s.modBr k f) := State.fades_of_same rfl rfl
theorem State.fades_put (s : State) (f : Fld) (v : Nat) : s.fades (s.put f v) := State.fades_of_same rfl rfl

theorem State.fades_bridgeTo (s : State) (k : Nat) (b : BridgeState) : s.fades (s.bridgeTo k b) := by
  have hdrives (d e : Drive) : s.fades ((s.driveTo (48 + 2 * k) d).driveTo (48 + 2 * k + 1) e) :=
    State.fades_trans (s.fades_driveTo _ _) (State.fades_driveTo _ _ _)
  unfold State.bridgeTo
  dsimp only
  refine State.fades_trans ?_ (State.fades_modBr _ _ _)
  cases b <;> exact hdrives _ _

theorem State.fades_setBridge (s : State) (k : Nat) (b : BridgeState) : s.fades (s.setBridge k b) := by
  unfold State.setBridge
  split
  · exact s.fades_refl
  · split
    · exact State.fades_trans (State.fades_foldl _ (fun u n => u.fades_driveTo _ _) _ s) (State.fades_of_same rfl rfl)
    · exact s.fades_bridgeTo k b

theorem State.fades_brake (s : State) (k tt : Nat) : s.fades (s.brake k tt) := by
  have hto : s.fades (s.brakeTo k tt) := State.fades_trans (s.fades_setBridge k .brakeLow) (State.fades_of_same rfl rfl)
  intro h
  rw [State.brake, State.reexamine_empty (hto h).1]
  exact hto h

theorem State.fades_clearCmd (s : State) (n : Nat) : s.fades (s.clearCmd n) :=
  State.fades_foldl (fun u c => u.modCh c (fun x => { x with cmdOn := false, lowSide := false })) (fun u c => u.fades_modCh c fun _ hc => hc) _ s

theorem State.fades_useDuty (s : State) (n duty : Nat) : s.fades (s.useDuty n duty) := by
  have hduty : s.fades (s.modCh n (fun c => { c with duty := duty })) := s.fades_modCh n fun _ hc => hc
  unfold State.useDuty
  dsimp only
  split
  · split
    · exact State.fades_trans hduty (State.fades_setBridge _ _ _)
    · exact State.fades_trans hduty (State.fades_setBridge _ _ _)
    · exact hduty
  · exact State.fades_trans hduty (State.fades_modCh _ _ fun _ hc => hc)

theorem State.fades_endMove (s : State) (k code : Nat) : s.fades (s.endMove k code) := by
  unfold State.endMove
  split
  · exact s.fades_refl
  · dsimp only
    split
    · exact State.fades_trans (State.fades_trans (State.fades_put _ _ _) (State.fades_modBr _ _ _)) (State.fades_endJob _ _ _ _)
    · exact State.fades_trans (State.fades_put _ _ _) (State.fades_modBr _ _ _)

/-- A motor profile's end code is shown. -/
def State.endcodeShown (s : State) (n : Nat) (p : Profile) (code : Nat) : State :=
  if 48 ≤ n ∧ 3 ≤ p.code then s.put (bankMotor_endcode (bankOf n) (bridgeOf n % 4)) code else s

/-- A bridge whose profile ended is idle, where it does not brake. -/
def State.bridgeRested (s : State) (n : Nat) : State :=
  if 48 ≤ n then s.modBr (bridgeOf n) (fun b => { b with mstate := if b.brakeEnd.isSome then b.mstate else .idle }) else s

theorem State.fades_endcodeShown (s : State) (n : Nat) (p : Profile) (code : Nat) : s.fades (s.endcodeShown n p code) := by
  unfold State.endcodeShown
  split
  · exact s.fades_put _ _
  · exact s.fades_refl

theorem State.fades_bridgeRested (s : State) (n : Nat) : s.fades (s.bridgeRested n) := by
  unfold State.bridgeRested
  split
  · exact s.fades_modBr _ _
  · exact s.fades_refl

/-- A channel's profile has ended, its command not yet. -/
def State.profileGone (s : State) (n : Nat) (p : Profile) (code : Nat) : State :=
  ((s.modCh n (fun c => { c with profile := none })).endcodeShown n p code).bridgeRested n

theorem State.profileGone_ends (s : State) (n : Nat) (p : Profile) (code : Nat) (hline : s.line = []) :
    s.fades (s.profileGone n p code) ∧ ((s.profileGone n p code).ch n).profile = none := by
  have hclear : s.fades (s.modCh n (fun c => { c with profile := none })) := s.fades_modCh n fun _ _ => rfl
  have hrest := State.fades_trans (State.fades_endcodeShown (s.modCh n (fun c => { c with profile := none })) n p code) (State.fades_bridgeRested _ n)
  exact ⟨State.fades_trans hclear hrest, (hrest (hclear hline).1).2 n (congrArg Chan.profile (State.ch_modCh_self ..))⟩

theorem State.endProfile_some (s : State) {n : Nat} {p : Profile} (hp : (s.ch n).profile = some p) (code : Nat) :
    s.endProfile n code = s.profileGone n p code ∨ ∃ j r : Nat, s.endProfile n code = (s.profileGone n p code).endJob j 0 r := by
  unfold State.endProfile
  simp only [hp]
  split
  · exact .inr ⟨_, _, rfl⟩
  · exact .inl rfl

theorem State.endProfile_none (s : State) {n : Nat} (hp : (s.ch n).profile = none) (code : Nat) : s.endProfile n code = s := by
  unfold State.endProfile
  simp only [hp]

theorem State.endProfile_ends (s : State) (n code : Nat) (hline : s.line = []) :
    s.fades (s.endProfile n code) ∧ ((s.endProfile n code).ch n).profile = none := by
  cases hp : (s.ch n).profile with
  | none =>
    rw [s.endProfile_none hp]
    exact ⟨s.fades_refl, hp⟩
  | some p =>
    obtain ⟨hfade, hnone⟩ := s.profileGone_ends n p code hline
    rcases s.endProfile_some hp code with h | ⟨j, r, h⟩
    · rw [h]
      exact ⟨hfade, hnone⟩
    · rw [h]
      have hjob := (s.profileGone n p code).fades_endJob j 0 r
      exact ⟨State.fades_trans hfade hjob, (hjob (hfade hline).1).2 n hnone⟩

/-- What follows a profile's end begins none. -/
theorem State.fades_stopped (s : State) (n : Nat) : s.fades (if s.isOn n then (s.brake (bridgeOf n) (ms 20)).clearCmd n else s.clearCmd n) := by
  split
  · exact State.fades_trans (s.fades_brake _ _) (State.fades_clearCmd _ _)
  · exact s.fades_clearCmd n

theorem State.romFallback_ends (s : State) (n code : Nat) (hline : s.line = []) :
    s.fades (s.romFallback n code) ∧ ((s.romFallback n code).ch n).profile = none := by
  unfold State.romFallback
  split
  next p hp =>
    obtain ⟨hend, hnone⟩ := s.endProfile_ends n code hline
    have hrest {v : State} (hv : (s.endProfile n code).fades v) : s.fades v ∧ (v.ch n).profile = none :=
      ⟨State.fades_trans hend hv, (hv (hend hline).1).2 n hnone⟩
    split
    · split
      · exact hrest (State.fades_useDuty _ _ _)
      · exact hrest (State.fades_refl _)
    · exact hrest (State.fades_stopped _ _)
  next hp =>
    have hrest {v : State} (hv : s.fades v) : s.fades v ∧ (v.ch n).profile = none := ⟨hv, (hv hline).2 n hp⟩
    split
    · exact hrest (State.fades_trans (s.fades_endMove _ _) (State.fades_stopped _ _))
    · exact hrest s.fades_refl

theorem State.romFallbacks_end (b : Nat) (l : List Nat) (s : State) (hline : s.line = []) :
    let t := forEach l (fun k u => u.romFallback (8 * b + k) 9) s
    s.fades t ∧ ∀ k ∈ l, (t.ch (8 * b + k)).profile = none := by
  induction l generalizing s with
  | nil => exact ⟨s.fades_refl, fun k hk => absurd hk (List.not_mem_nil)⟩
  | cons j l ih =>
    obtain ⟨hstep, hnone⟩ := s.romFallback_ends (8 * b + j) 9 hline
    obtain ⟨hrest, hall⟩ := ih _ (hstep hline).1
    refine ⟨State.fades_trans hstep hrest, fun k hk => ?_⟩
    rcases List.mem_cons.mp hk with rfl | hk
    · exact (hrest (hstep hline).1).2 _ hnone
    · exact hall k hk

/-- R181: with no request in the line no channel of a bank whose microcode failed keeps a profile. -/
theorem State.ucodeFail_ends (s : State) (b : Nat) (hline : s.line = []) {k : Nat} (hk : k < 8) : ((s.ucodeFail b).ch (8 * b + k)).profile = none :=
  (State.romFallbacks_end b (List.range 8) (s.modBank b (fun x => { x with storeOk := false })) hline).2 k (List.mem_range.mpr hk)

end

end Sys2Proof.Machine
end

section
/-! PROOFS. Motors and the profile microcode: the rows (spec/08). -/

namespace Sys2Proof.Machine

/-! ### Ripples and the ends of moves -/

section
variable {k : Fin 8} {s : State}

theorem exec_rippleCount {filled : Bool} {ax : Nat} (hbr : s.bridged (48 + 2 * k.val) = true) (hax : s.rippleAx k.val = some ax)
    (hdue : s.rippleDue k.val filled = true) :
    exec (.rippleCount k filled) s = .next (s.keep ((s.rippled k.val ax filled).reverseCount k.val)) := by
  refine show execRippleCount k filled s = _ from act_of_eq ?_
  simp only [hax]
  exact if_neg (by simp [hbr, hdue])

theorem exec_motionEnd (hbr : s.bridged (48 + 2 * k.val) = true) (hrev : (s.br k.val).reverseLeft = none) (huv : s.uvCh (48 + 2 * k.val) = false)
    (hdone : s.motionDone k.val = true) :
    (s.motionRuns k.val = true → exec (.motionEnd k) s = .next (s.keep (s.motionOver k.val))) ∧
    (s.motionRuns k.val = false → exec (.motionEnd k) s = .next (s.keep (s.axRest k.val))) := by
  have hgo : ¬ (s.bridged (48 + 2 * k.val) = false ∨ (s.br k.val).reverseLeft.isSome ∨ s.uvCh (48 + 2 * k.val) = true ∨ s.motionDone k.val = false) := by
    simp [hbr, hrev, huv, hdone]
  exact ⟨fun hruns => show execMotionEnd k s = _ from act_of_eq ((if_neg hgo).trans (if_neg (ne_false_of_eq_true hruns))),
    fun hrests => show execMotionEnd k s = _ from act_of_eq ((if_neg hgo).trans (if_pos hrests))⟩

theorem exec_targetCrossing {m : Move} (hm : (s.br k.val).move = some m) (hon : s.isOn (48 + 2 * k.val) = true) (hend : (s.br k.val).ending = none)
    (hpinch : (s.br k.val).mstate ≠ .pinch)
    (hcross : if s.closing k.val = true then s.axOut m.axis ≤ signed 64 m.target else signed 64 m.target ≤ s.axOut m.axis)
    (hseal : ¬ (setField m.set 0 31 24 = 4 ∧ s.closing k.val = true ∧ signed 64 m.target < ((setField m.set 1 15 0 : Nat) : Int))) :
    exec (.targetCrossing k) s = .next (s.keep
      (((s.modBr k.val (fun b => { b with ending := some 0 })).brake k.val (ms 20)).clearCmd (48 + 2 * k.val))) := by
  have hcross' : (if s.closing k.val then decide (s.axOut m.axis ≤ signed 64 m.target) else decide (signed 64 m.target ≤ s.axOut m.axis)) = true := by
    split at hcross
    next h => rw [if_pos h]; exact decide_eq_true hcross
    next h => rw [if_neg h]; exact decide_eq_true hcross
  have hseal' : (setField m.set 0 31 24 == 4 && s.closing k.val && decide (signed 64 m.target < ((setField m.set 1 15 0 : Nat) : Int))) = false := by
    rw [Bool.eq_false_iff]
    simpa only [Bool.and_eq_true, beq_iff_eq, decide_eq_true_eq, ne_eq, and_assoc] using hseal
  refine show execTargetCrossing k s = _ from act_of_eq ?_
  simp only [hm]
  exact if_pos ⟨hon, by rw [hend]; rfl, hpinch, hcross', hseal'⟩

/-! ### The ends of braking, and stalls -/

theorem exec_brakeEnd {e : Nat} (he : (s.br k.val).brakeEnd = some e) (hdue : e ≤ s.now) :
    let t := s.modBr k.val (fun b => { b with brakeEnd := none })
    ((s.br k.val).reverseLeft = none ∨ (s.br k.val).move = none →
      exec (.brakeEnd k) s = .next (s.keep ((t.modBr k.val (fun b => { b with mstate := .idle })).setBridge k.val .coast))) ∧
    (∀ m : Move, (s.br k.val).reverseLeft = some 0 → (s.br k.val).move = some m →
      exec (.brakeEnd k) s = .next (s.keep
        (((t.modBr k.val (fun b => { b with reverseLeft := none, ending := some 5, mstate := .idle })).setBridge k.val .coast).clearCmd (48 + 2 * k.val)))) ∧
    (∀ (r : Nat) (m : Move), (s.br k.val).reverseLeft = some r → r ≠ 0 → (s.br k.val).move = some m →
      exec (.brakeEnd k) s = .next (s.keep ((t.modCh (48 + 2 * k.val) (fun c => { c with duty := setField m.set 0 11 0 })).request (.pinch k.val)
        [(48 + 2 * k.val, s.budgetI (48 + 2 * k.val))] 0 none none))) := by
  refine ⟨fun hplain => ?_, fun m hrev hm => ?_, fun r m hrev hr hm => ?_⟩
  · refine show execBrakeEnd k s = _ from act_of_eq ?_
    simp only [he]
    refine (if_neg (Nat.not_lt.mpr hdue)).trans ?_
    split
    next r m hrev hm =>
      rcases hplain with h | h
      · exact absurd (hrev.symm.trans h) (Option.some_ne_none r)
      · exact absurd (hm.symm.trans h) (Option.some_ne_none m)
    next => rfl
  · refine show execBrakeEnd k s = _ from act_of_eq ?_
    simp only [he, hrev, hm]
    exact (if_neg (Nat.not_lt.mpr hdue)).trans (if_pos trivial)
  · refine show execBrakeEnd k s = _ from act_of_eq ?_
    simp only [he, hrev, hm]
    exact (if_neg (Nat.not_lt.mpr hdue)).trans (if_neg hr)

section
variable (hbr : s.bridged (48 + 2 * k.val) = true) (hon : s.isOn (48 + 2 * k.val) = true) (hstall : s.stalled k.val = true)
include hbr hon hstall

theorem State.stall_goes : ¬ (s.bridged (48 + 2 * k.val) = false ∨ s.isOn (48 + 2 * k.val) = false ∨ s.stalled k.val = false) := by
  simp [hbr, hon, hstall]

theorem exec_stall_move {m : Move} (hm : (s.br k.val).move = some m) (hend : (s.br k.val).ending = none) :
    let n := 48 + 2 * k.val
    let zone := setField m.set 0 31 24 = 4 ∧ s.closing k.val = true ∧ (s.br k.val).mstate ≠ .pinch ∧
      ((s.br k.val).norm = false ∨ s.axOut m.axis < ((setField m.set 1 15 0 : Nat) : Int))
    (zone → exec (.stall k) s = .next (s.keep
      (((((s.normalise k.val m.axis true).learnBins k.val).modBr k.val (fun b => { b with ending := some 0 })).brake k.val (ms 20)).clearCmd n))) ∧
    (setField m.set 0 31 24 = 6 → exec (.stall k) s = .next (s.keep
      ((((s.normalise k.val m.axis (s.br k.val).lastFwd).modBr k.val (fun b => { b with ending := some 0 })).brake k.val (ms 20)).clearCmd n))) ∧
    (¬ zone → setField m.set 0 31 24 ≠ 6 → exec (.stall k) s = .next (s.keep
      (((s.modBr k.val (fun b => { b with ending := some 4, runBins := [], reverseLeft := none })).brake k.val (ms 20)).clearCmd n))) := by
  have hgo := State.stall_goes hbr hon hstall
  have hend' : ¬ (s.br k.val).ending.isSome = true := by rw [hend]; exact Bool.false_ne_true
  refine ⟨fun hzone => ?_, fun hcode => ?_, fun hzone hcode => ?_⟩
  · refine show execStall k s = _ from act_of_eq ((if_neg hgo).trans ?_)
    simp only [hm]
    exact (if_neg hend').trans (if_pos hzone)
  · refine show execStall k s = _ from act_of_eq ((if_neg hgo).trans ?_)
    simp only [hm]
    exact (if_neg hend').trans ((if_neg fun h => absurd (hcode.symm.trans h.1) (by decide)).trans (if_pos hcode))
  · refine show execStall k s = _ from act_of_eq ((if_neg hgo).trans ?_)
    simp only [hm]
    exact (if_neg hend').trans ((if_neg hzone).trans (if_neg hcode))

theorem exec_stall_profile {p : Profile} (hm : (s.br k.val).move = none) (hp : (s.ch (48 + 2 * k.val)).profile = some p) :
    let n := 48 + 2 * k.val
    (p.code = 5 → p.startAt + ms (setField p.set 1 15 0) ≤ s.now →
      exec (.stall k) s = .next (s.keep (((s.endProfile n 0).chanOff n).clearCmd n))) ∧
    (p.code = 5 → s.now < p.startAt + ms (setField p.set 1 15 0) → exec (.stall k) s = .next s) ∧
    (p.code = 3 → exec (.stall k) s = .next (s.keep (((s.endProfile n 4).brake k.val (ms 20)).clearCmd n))) := by
  have hgo := State.stall_goes hbr hon hstall
  refine ⟨fun hcode hdue => ?_, fun hcode hearly => ?_, fun hcode => ?_⟩
  · refine show execStall k s = _ from act_of_eq ((if_neg hgo).trans ?_)
    simp only [hm, hp]
    exact if_pos ⟨hcode, hdue⟩
  · refine show execStall k s = _ from act_of_eq_same ((if_neg hgo).trans ?_) rfl rfl rfl
    simp only [hm, hp]
    exact (if_neg fun h => absurd h.2 (Nat.not_le.mpr hearly)).trans (if_neg fun h => absurd (hcode.symm.trans h) (by decide))
  · refine show execStall k s = _ from act_of_eq ((if_neg hgo).trans ?_)
    simp only [hm, hp]
    exact (if_neg fun h => absurd (hcode.symm.trans h.1) (by decide)).trans (if_pos hcode)

end

/-! ### Wipers, pinching and locks -/

section
variable {p : Profile} (hp : (s.ch (48 + 2 * k.val)).profile = some p)
include hp

theorem exec_parkTimeout {a : Nat} (hcode : p.code = 3) (hon : s.isOn (48 + 2 * k.val) = true) (ha : p.parkAt = some a)
    (hdue : a + ms (setField p.set 2 15 0) ≤ s.now) :
    exec (.parkTimeout k) s = .next (s.keep (((s.endProfile (48 + 2 * k.val) 6).brake k.val (ms 20)).clearCmd (48 + 2 * k.val))) := by
  obtain ⟨code, set, phase, start, job, duty, dutyEnd, chopping, chopOff, arrival, arrivalAt, det, startV, park⟩ := p
  obtain rfl : code = 3 := hcode
  obtain rfl : park = some a := ha
  refine show execParkTimeout k s = _ from act_of_eq ?_
  simp only [hp]
  exact if_pos ⟨hon, hdue⟩

theorem exec_park (hcode : p.code = 3) (hon : s.isOn (48 + 2 * k.val) = true) :
    let n := 48 + 2 * k.val
    let t := s.modBr k.val (fun b => { b with cycle := if b.parkSeen = true then b.sincePark else b.cycle, sincePark := 0, parkSeen := true })
    (p.parkAt = none → exec (.parkEdge k) s = .next t) ∧
    (p.parkAt.isSome = true → 7 < setField p.set 4 31 24 ∨ t.domOn Dm.crk = false →
      exec (.parkEdge k) s = .next (s.keep (((t.endProfile n 0).brake k.val (ms 50)).clearCmd n))) ∧
    (p.parkAt.isSome = true → setField p.set 4 31 24 ≤ 7 → t.domOn Dm.crk = true →
      exec (.parkEdge k) s = .next (s.keep ((((t.axRefMotor (setField p.set 4 31 24)).endProfile n 0).brake k.val (ms 50)).clearCmd n))) ∧
    (∀ a : Nat, p.parkAt = some a → a + ms (setField p.set 2 15 0) ≤ s.now →
      exec (.parkTimeout k) s = .next (s.keep (((s.endProfile n 6).brake k.val (ms 20)).clearCmd n))) := by
  intro n t
  have hgo : ¬ (p.code ≠ 3 ∨ s.isOn (48 + 2 * k.val) = false) := by
    rintro (h | h)
    · exact h hcode
    · exact Bool.false_ne_true (h.symm.trans hon)
  have hparks (h : p.parkAt.isSome = true) : ¬ p.parkAt.isNone = true := by
    rw [Option.isNone_iff_eq_none]
    intro h0
    rw [h0] at h
    exact Bool.false_ne_true h
  refine ⟨fun hnone => ?_, fun hsome hax => ?_, fun hsome hax hcrk => ?_, fun a ha hdue => exec_parkTimeout hp hcode hon ha hdue⟩
  · refine show execParkEdge k s = _ from act_of_eq_same ?_ rfl rfl rfl
    simp only [hp]
    exact (if_neg hgo).trans (if_pos (by rw [hnone]; rfl))
  · refine show execParkEdge k s = _ from act_of_eq ?_
    simp only [hp]
    refine (if_neg hgo).trans ((if_neg (hparks hsome)).trans ?_)
    exact congrArg (fun u : State => ((u.endProfile n 0).brake k.val (ms 50)).clearCmd n) (if_pos hax)
  · refine show execParkEdge k s = _ from act_of_eq ?_
    simp only [hp]
    refine (if_neg hgo).trans ((if_neg (hparks hsome)).trans ?_)
    refine congrArg (fun u : State => ((u.endProfile n 0).brake k.val (ms 50)).clearCmd n) (if_neg ?_)
    rintro (h | h)
    · exact absurd h (Nat.not_lt.mpr hax)
    · exact Bool.false_ne_true (h.symm.trans hcrk)

theorem exec_lockTimeLimit (hcode : p.code = 5) (hon : s.isOn (48 + 2 * k.val) = true) (hdue : p.startAt + ms (setField p.set 1 31 16) ≤ s.now) :
    exec (.lockTimeLimit k) s = .next (s.keep (((s.endProfile (48 + 2 * k.val) 1).chanOff (48 + 2 * k.val)).clearCmd (48 + 2 * k.val))) := by
  obtain ⟨code, set, phase, start, job, duty, dutyEnd, chopping, chopOff, arrival, arrivalAt, det, startV, park⟩ := p
  obtain rfl : code = 5 := hcode
  refine show execLockTimeLimit k s = _ from act_of_eq ?_
  simp only [hp]
  exact if_pos ⟨hon, hdue⟩

end

theorem exec_pinchDetection {m : Move} {a : Nat} (hm : (s.br k.val).move = some m) (hon : s.isOn (48 + 2 * k.val) = true)
    (hend : (s.br k.val).ending = none) (hrev : (s.br k.val).reverseLeft = none) (hzone : s.pinchZone k.val m = true)
    (ha : (s.br k.val).pinchAt = some a) (hdue : a + ms (setField m.set 2 15 8) ≤ s.now) :
    exec (.pinchDetection k) s = .next (s.keep (((s.inc (bankPinch_events (bankOf (48 + 2 * k.val)) (k.val % 4))).modBr k.val (fun b => { b with
      pinchPos := unsigned 32 (s.axOut m.axis), reverseLeft := some (16 * setField m.set 2 7 0), runBins := [] })).brake k.val (ms 20))) := by
  refine show execPinchDetection k s = _ from act_of_eq ?_
  simp only [hm]
  exact if_pos ⟨hon, by rw [hend]; rfl, by rw [hrev]; rfl, hzone, by rw [ha]; exact decide_eq_true hdue⟩

end

theorem State.fault_line (s : State) (src kind detail : Nat) : (s.fault src kind detail).line = s.line := rfl

theorem exec_ucodeCrc (b : Fin 8) (s : State) :
    exec (.ucodeCrc b) s = .next (s.keep ((s.fault (0x40 + b.val) 0x12 (b.val + (s.bank b.val).store * 0x100)).ucodeFail b.val)) := rfl

/-- Settles O58. -/
theorem motorRowsComplete : Obligations.MotorRowsComplete := by
  unfold Obligations.MotorRowsComplete
  refine ⟨fun k filled ax s hbr hax hdue => exec_rippleCount hbr hax hdue, fun k s hbr hrev huv hdone => exec_motionEnd hbr hrev huv hdone,
    fun k m s hm hon hend hpinch hcross hseal => exec_targetCrossing hm hon hend hpinch hcross hseal, ?_, ?_, ?_,
    fun k m a s hm hon hend hrev hzone ha hdue => exec_pinchDetection hm hon hend hrev hzone ha hdue,
    fun k p s hp hcode hon hdue => exec_lockTimeLimit hp hcode hon hdue, fun b s hpend hidle => ?_, fun b s => ⟨exec_ucodeCrc b s, fun hline t ht i hi => ?_⟩⟩
  · intro k e s he hdue
    exact exec_brakeEnd he hdue
  · intro k s hbr hon hstall
    exact ⟨fun m hm hend => exec_stall_move hbr hon hstall hm hend, fun p hm hp => exec_stall_profile hbr hon hstall hm hp⟩
  · intro k p s hp hcode hon
    exact exec_park hp hcode hon
  · refine show execUcodeIdlePoint b s = _ from act_of_eq_same (if_pos ⟨hpend, ?_⟩) rfl rfl rfl
    rw [List.any_eq_false]
    intro k hk
    rw [hidle k (List.mem_range.mp hk)]
    exact Bool.false_ne_true
  · rw [exec_ucodeCrc, Host.Outcome.next.injEq] at ht
    rw [← ht, State.keep_ch]
    exact State.ucodeFail_ends _ b.val ((State.fault_line s ..).trans hline) hi

end Sys2Proof.Machine
end

section
/-! PROOFS. Loops of which one round settles a reading. -/

namespace Sys2Proof.Machine

section
variable {R : State → State → Prop} (hrefl : ∀ s : State, R s s) (htrans : ∀ {s t u : State}, R s t → R t u → R s u) {f : Nat → State → State}
include hrefl htrans

theorem forEach_rel {l : List Nat} (hl : ∀ j ∈ l, ∀ u : State, R u (f j u)) (s : State) : R s (forEach l f s) := by
  induction l generalizing s with
  | nil => exact hrefl s
  | cons j l ih => exact htrans (hl j List.mem_cons_self s) (ih (fun i hi => hl i (List.mem_cons_of_mem j hi)) _)

/-- A loop over distinct numbers, of which every round but that of `k` leaves what `R` compares: at the end it stands as the round of `k` left
it, and that round found it as it was at first. -/
theorem forEach_rel_mem {k : Nat} {l : List Nat} (hstep : ∀ j ∈ l, j ≠ k → ∀ u : State, R u (f j u)) (hnd : l.Nodup) (hk : k ∈ l) (s : State) :
    ∃ u : State, R s u ∧ R (f k u) (forEach l f s) := by
  induction l generalizing s with
  | nil => exact absurd hk List.not_mem_nil
  | cons j l ih =>
    obtain ⟨hj, hnd⟩ := List.nodup_cons.mp hnd
    by_cases hjk : j = k
    · subst hjk
      exact ⟨s, hrefl s, forEach_rel hrefl htrans (fun i hi => hstep i (List.mem_cons_of_mem j hi) (fun h => hj (h ▸ hi))) _⟩
    · obtain ⟨u, hu, hend⟩ := ih (fun i hi => hstep i (List.mem_cons_of_mem j hi)) hnd ((List.mem_cons.mp hk).resolve_left (Ne.symm hjk)) (f j s)
      exact ⟨u, htrans (hstep j List.mem_cons_self hjk s) hu, hend⟩

end

end Sys2Proof.Machine
end

section
/-! PROOFS. Edge delays, clamp energies, dissipation and open loads (spec/06). -/

namespace Sys2Proof.Machine

/-! ### Edge delays and clamp energies -/

theorem exec_edgeDelayMeasured {n : Fin 64} {on : Bool} {delay : Half} {s : State} (hbank : s.domOn (Dm.bank (bankOf n.val)) = true) :
    let p := s.put (if on = true then chDelay_ton n.val else chDelay_toff n.val) delay.toNat
    let t := if on = true then
        p.modCh n.val (fun c => { c with pulse := c.pulse.map (fun x => if delay = 0xFFFF ∨ x.startAt = none then x else { x with onDelay := some delay.toNat }) })
      else p.pulseDone n.val (if delay = 0xFFFF then 65534 else delay.toNat)
    (delay = 0xFFFF ∨ s.reports (bankOf n.val) = false → exec (.edgeDelayMeasured n on delay) s = .next (s.keep t)) ∧
    (delay ≠ 0xFFFF → s.reports (bankOf n.val) = true →
      exec (.edgeDelayMeasured n on delay) s = .next (s.keep
        (t.leadLearn n.val (if on = true then 0 else 1) (rnear (delay.toNat : Int) 100).toNat (s.ch n.val).edgeV))) := by
  intro p t
  have hgo : ¬ s.domOn (Dm.bank (bankOf n.val)) = false := by simp [hbank]
  refine ⟨fun hno => ?_, fun hd hyes => ?_⟩
  · exact show execEdgeDelayMeasured n on delay s = _ from act_of_eq ((if_neg hgo).trans (if_pos hno))
  · refine show execEdgeDelayMeasured n on delay s = _ from act_of_eq ((if_neg hgo).trans (if_neg ?_))
    rintro (h | h)
    · exact hd h
    · exact Bool.false_ne_true (h.symm.trans hyes)

theorem exec_clampPulseEnd {n : Fin 64} {energy : Half} {r : Nat} {s : State} (hr : clampRep (chClass n.val) = some r) :
    let t := (s.put (chClamp_last n.val) energy.toNat).modBank (bankOf n.val) (fun x => { x with clampE := x.clampE + energy.toNat })
    (energy.toNat ≤ r → exec (.clampPulseEnd n energy) s = .next t) ∧
    (r < energy.toNat → exec (.clampPulseEnd n energy) s = .next (s.keep ((t.inc (chClamp_over n.val)).fault n.val 0x0D n.val))) := by
  intro t
  refine ⟨fun hle => ?_, fun hlt => ?_⟩
  · refine show execClampPulseEnd n energy s = _ from act_of_eq_same ?_ rfl rfl rfl
    simp only [hr]
    exact if_neg (Nat.not_lt.mpr hle)
  · refine show execClampPulseEnd n energy s = _ from act_of_eq ?_
    simp only [hr]
    exact if_pos hlt

/-! ### A bank's dissipation -/

theorem State.bank_modBank_ne (s : State) {m n : Nat} (f : Bank → Bank) (hne : m ≠ n) : (s.modBank n f).bank m = s.bank m := Sparse.get_set_ne hne

/-- A bank's edges and clamp energies start again. -/
def State.dissFresh (s : State) (b : Nat) : State :=
  forEach (List.range 8) (fun k w => w.modCh (8 * b + k) (fun c => { c with edges := 0 })) (s.modBank b (fun x => { x with clampE := 0 }))

/-- A bank's mean and its peak are shown. -/
def State.dissPut (s : State) (b m : Nat) : State :=
  let u := s.put (bankPdiss_mean b) m
  if u.get (bankPdiss_peak b) < m then u.put (bankPdiss_peak b) m else u

/-- A bank's estimate in a bank that gives one: its last means, the mean and its peak. -/
def State.dissShown (s : State) (b mean : Nat) : State :=
  let l := (s.bankMilli b :: (s.bank b).diss).take 100
  ((s.modBank b (fun x => { x with diss := l })).dissFresh b).dissPut b (satTo 65535 (nearDiss (meanDiss l) mean))

/-- One bank's round. -/
def State.dissRound (means : List Nat) (b : Nat) (s : State) : State :=
  if (s.bank b).curFail ∨ (s.bank b).auxFail ∨ s.domOn (Dm.bank b) = false then s.dissFresh b else s.dissShown b (means.getD b 0)

theorem State.bankDiss_eq (s : State) (means : List Nat) : s.bankDiss means = forEach (List.range 8) (State.dissRound means) s := rfl

/-- What a bank's dissipation depends on is the same. -/
structure DissSame (b : Nat) (s t : State) : Prop where
  bank : t.bank b = s.bank b
  ch : ∀ k : Nat, k < 8 → t.ch (8 * b + k) = s.ch (8 * b + k)
  doms : t.doms = s.doms
  rd : ∀ a : Nat, (∀ j : Nat, j ≠ b → a ≠ (bankPdiss_mean j).addr) → t.rd a = s.rd a

namespace DissSame

variable {b : Nat} {s t u : State}

theorem refl (s : State) : DissSame b s s := ⟨rfl, fun _ _ => rfl, rfl, fun _ _ => rfl⟩

theorem trans (hst : DissSame b s t) (htu : DissSame b t u) : DissSame b s u :=
  ⟨htu.bank.trans hst.bank, fun k hk => (htu.ch k hk).trans (hst.ch k hk), htu.doms.trans hst.doms, fun a ha => (htu.rd a ha).trans (hst.rd a ha)⟩

theorem get (h : DissSame b s t) {f : Fld} (hf : ∀ j : Nat, j ≠ b → f.addr ≠ (bankPdiss_mean j).addr) : t.get f = s.get f := by
  rw [State.get, State.get, h.rd _ hf]

theorem cfgw (h : DissSame b s t) (n k : Nat) (hk : k < 2) : t.cfgw n k = s.cfgw n k := by
  rw [State.cfgw, State.cfgw, h.rd _ fun j _ => by simp only [chCfg_word, bankPdiss_mean]; omega]

theorem chanDiss (h : DissSame b s t) {k : Nat} (hk : k < 8) : t.chanDiss (8 * b + k) = s.chanDiss (8 * b + k) := by
  unfold State.chanDiss
  rw [h.ch k hk, h.get (f := chI_mean _) fun j _ => by simp only [chI_mean, bankPdiss_mean]; omega,
    h.get (f := bankMeas_vbat _) fun j _ => by simp only [bankMeas_vbat, bankPdiss_mean]; omega,
    h.get (f := chVt_vout _) fun j _ => by simp only [chVt_vout, bankPdiss_mean]; omega, h.cfgw _ 0 (by decide)]

theorem bankMilli (h : DissSame b s t) : t.bankMilli b = s.bankMilli b := by
  unfold State.bankMilli
  rw [h.bank, List.map_congr_left fun k hk => h.chanDiss (List.mem_range.mp hk)]

theorem domOn (h : DissSame b s t) (d : Nat) : t.domOn d = s.domOn d := by rw [State.domOn, State.domOn, State.dom, State.dom, h.doms]

theorem modBank (s : State) {j : Nat} (hj : j ≠ b) (f : Bank → Bank) : DissSame b s (s.modBank j f) :=
  ⟨State.bank_modBank_ne _ _ hj.symm, fun _ _ => rfl, rfl, fun _ _ => rfl⟩

theorem modCh (s : State) {n : Nat} (hn : ∀ k : Nat, k < 8 → 8 * b + k ≠ n) (f : Chan → Chan) : DissSame b s (s.modCh n f) :=
  ⟨rfl, fun k hk => State.ch_modCh_ne _ _ (hn k hk), rfl, fun _ _ => rfl⟩

theorem put (s : State) {j : Nat} (hj : j ≠ b) {f : Fld} (hf : f.addr = (bankPdiss_mean j).addr) (v : Nat) : DissSame b s (s.put f v) :=
  ⟨rfl, fun _ _ => rfl, rfl, fun _ ha => State.rd_put_ne _ _ _ (hf ▸ ha j hj)⟩

theorem dissFresh (s : State) {j : Nat} (hj : j ≠ b) : DissSame b s (s.dissFresh j) := by
  refine (DissSame.modBank s hj _).trans (forEach_rel (R := DissSame b) DissSame.refl DissSame.trans (fun k hk u => ?_) _)
  have hk8 := List.mem_range.mp hk
  exact DissSame.modCh u (fun i hi => by omega) _

theorem dissPut (s : State) {j : Nat} (hj : j ≠ b) (m : Nat) : DissSame b s (s.dissPut j m) := by
  have hmean : DissSame b s (s.put (bankPdiss_mean j) m) := DissSame.put s hj (f := bankPdiss_mean j) rfl m
  unfold State.dissPut
  dsimp only
  split
  · exact hmean.trans (DissSame.put _ hj (f := bankPdiss_peak j) rfl m)
  · exact hmean

theorem dissShown (s : State) {j : Nat} (hj : j ≠ b) (mean : Nat) : DissSame b s (s.dissShown j mean) :=
  ((DissSame.modBank s hj _).trans (DissSame.dissFresh _ hj)).trans (DissSame.dissPut _ hj _)

theorem dissRound (means : List Nat) (s : State) {j : Nat} (hj : j ≠ b) : DissSame b s (State.dissRound means j s) := by
  unfold State.dissRound
  split
  · exact DissSame.dissFresh s hj
  · exact DissSame.dissShown s hj _

end DissSame

theorem State.dissFresh_rd (s : State) (b a : Nat) : (s.dissFresh b).rd a = s.rd a :=
  forEach_keeps (State.rd · a) (List.range 8) (fun k w => w.modCh (8 * b + k) (fun c => { c with edges := 0 })) (fun _ _ => rfl)
    (s.modBank b (fun x => { x with clampE := 0 }))

theorem satTo_lt {m n : Nat} (hm : m < 65536) : satTo m n < 65536 := by
  unfold satTo
  split <;> omega

theorem State.dissPut_get (u : State) (b : Nat) {m : Nat} (hm : m < 65536) :
    (u.dissPut b m).get (bankPdiss_mean b) = m ∧ (u.dissPut b m).get (bankPdiss_peak b) = max (u.get (bankPdiss_peak b)) m := by
  have hmean : (u.put (bankPdiss_mean b) m).get (bankPdiss_mean b) = m :=
    (State.get_put_self _ (bankPdiss_mean b) _ (of_decide_eq_true rfl) (of_decide_eq_true rfl)).trans (Nat.mod_eq_of_lt hm)
  have hpeak : (u.put (bankPdiss_mean b) m).get (bankPdiss_peak b) = u.get (bankPdiss_peak b) :=
    State.get_put_beside _ (bankPdiss_mean b) (bankPdiss_peak b) _ rfl rfl
  unfold State.dissPut
  dsimp only
  rw [hpeak]
  split
  next hlt =>
    refine ⟨(State.get_put_beside _ (bankPdiss_peak b) (bankPdiss_mean b) _ rfl rfl).trans hmean, ?_⟩
    rw [Nat.max_eq_right hlt.le]
    exact (State.get_put_self _ (bankPdiss_peak b) _ (of_decide_eq_true rfl) (of_decide_eq_true rfl)).trans (Nat.mod_eq_of_lt hm)
  next hge => exact ⟨hmean, hpeak.trans (Nat.max_eq_left (Nat.not_lt.mp hge)).symm⟩

/-- What a bank's estimate shows. -/
theorem State.dissShown_get (s : State) (b mean : Nat) :
    let m := satTo 65535 (nearDiss (meanDiss ((s.bankMilli b :: (s.bank b).diss).take 100)) mean)
    (s.dissShown b mean).get (bankPdiss_mean b) = m ∧ (s.dissShown b mean).get (bankPdiss_peak b) = max (s.get (bankPdiss_peak b)) m := by
  have hfirst (l : List Nat) : ((s.modBank b (fun x => { x with diss := l })).dissFresh b).get (bankPdiss_peak b) = s.get (bankPdiss_peak b) := by
    rw [State.get, State.get, State.dissFresh_rd]
    rfl
  unfold State.dissShown
  dsimp only
  rw [← hfirst ((s.bankMilli b :: (s.bank b).diss).take 100)]
  exact State.dissPut_get _ b (satTo_lt (by decide))

/-- R132: what the estimate shows of a bank that gives one. -/
theorem State.bankDiss_get {s : State} {b : Nat} (hb : b < 8) (hcur : (s.bank b).curFail = false) (haux : (s.bank b).auxFail = false)
    (hon : s.domOn (Dm.bank b) = true) (means : List Nat) :
    let m := satTo 65535 (nearDiss (meanDiss ((s.bankMilli b :: (s.bank b).diss).take 100)) (means.getD b 0))
    (s.bankDiss means).get (bankPdiss_mean b) = m ∧ (s.bankDiss means).get (bankPdiss_peak b) = max (s.get (bankPdiss_peak b)) m := by
  intro m
  obtain ⟨u, hsu, hend⟩ := forEach_rel_mem (R := DissSame b) DissSame.refl DissSame.trans (f := State.dissRound means)
    (fun j _ hj u => DissSame.dissRound means u hj) List.nodup_range (List.mem_range.mpr hb) s
  have hgives : State.dissRound means b u = u.dissShown b (means.getD b 0) := if_neg (by simp [hsu.bank, hcur, haux, hsu.domOn, hon])
  have haddr (f : Fld) (hf : f.addr = (bankPdiss_mean b).addr) : ∀ j : Nat, j ≠ b → f.addr ≠ (bankPdiss_mean j).addr := by
    intro j hj
    rw [hf]
    simp only [bankPdiss_mean]
    omega
  obtain ⟨hmean, hpeak⟩ := u.dissShown_get b (means.getD b 0)
  rw [hgives] at hend
  rw [hsu.bankMilli, hsu.bank] at hmean hpeak
  rw [hsu.get (haddr (bankPdiss_peak b) rfl)] at hpeak
  rw [State.bankDiss_eq]
  exact ⟨(hend.get (haddr (bankPdiss_mean b) rfl)).trans hmean, (hend.get (haddr (bankPdiss_peak b) rfl)).trans hpeak⟩

/-! ### Open loads -/

/-- A fault of a channel carries the channel's number. -/
theorem State.chFault_eq (s : State) (n k : Nat) : s.chFault n k = s.fault n k n := rfl

section
variable {n : Fin 64} {a : Nat} {s : State}

theorem exec_openLoadOn (htest : s.onTested n.val = true) (hlow : (s.ch n.val).olLow = some a)
    (hdue : max a (max ((s.ch n.val).edgeAt + ms (bits (s.cfgw n.val 0) 7 0)) (s.olFree n.val)) + s.olFilt n.val ≤ s.now) (hload : s.loadSeen n.val = false)
    (hlive : s.flag (chDiag_olonLive n.val) = false) :
    exec (.openLoadOn n) s = .next (s.keep (((s.put (chDiag_olonLive n.val) 1).put (chDiag_olon n.val) 1).fault n.val 0x0A n.val)) := by
  have hdue : (s.ch n.val).olLow.any (fun a =>
      decide (max a (max ((s.ch n.val).edgeAt + ms (bits (s.cfgw n.val 0) 7 0)) (s.olFree n.val)) + s.olFilt n.val ≤ s.now)) = true := by
    rw [hlow, Option.any_some]
    exact decide_eq_true hdue
  exact show execOpenLoadOn n s = _ from act_of_eq ((if_pos ⟨htest, hdue, hload, hlive⟩).trans (State.chFault_eq _ _ _))

theorem exec_offTestWindow (htest : s.offTested n.val = true) (hpull : bits (s.cfgw n.val 0) 29 28 = 2)
    (hdue : ∀ a : Nat, (s.ch n.val).olOpened = some a → a + ms 100 ≤ s.now) :
    exec (.offTestWindow n) s = .next (s.modCh n.val (fun c => { c with
      olWindow := some s.now, olVol := false, olSeen := c.olSeen && c.olWindow.isNone, olOpened := some s.now })) := by
  have hdue : (s.ch n.val).olOpened.all (fun a => decide (a + ms 100 ≤ s.now)) = true := by
    cases hopen : (s.ch n.val).olOpened with
    | none => exact Option.all_none
    | some a => exact Option.all_some.trans (decide_eq_true (hdue a hopen))
  exact show execOffTestWindow n s = _ from act_of_eq_same (if_pos ⟨htest, hpull, hdue⟩) rfl rfl rfl

/-- An open load with the output off is shown and reported. -/
def State.openFound (s : State) (n : Nat) : State := ((s.put (chDiag_oloffLive n) 1).put (chDiag_oloff n) 1).fault n 0x0B n

section
variable (htest : s.offTested n.val = true) (hlive : s.flag (chDiag_oloffLive n.val) = false)
include htest hlive

theorem exec_openLoadOff_pulled (hpull : bits (s.cfgw n.val 0) 29 28 = 1) (hvol : s.volSeen n.val = true) (ha : (s.ch n.val).volAt = some a)
    (hdue : a + ms 1 ≤ s.now) : exec (.openLoadOff n) s = .next (s.keep (s.openFound n.val)) := by
  refine show execOpenLoadOff n s = _ from act_of_eq ((if_neg (ne_false_of_eq_true htest)).trans ?_)
  simp only [hpull]
  exact (if_pos ⟨hvol, by rw [ha]; exact decide_eq_true hdue⟩).trans ((if_neg (ne_true_of_eq_false hlive)).trans (State.chFault_eq _ _ _))

theorem exec_openLoadOff_windowed (hpull : bits (s.cfgw n.val 0) 29 28 = 2) (hvol : (s.ch n.val).olVol = true) (ha : (s.ch n.val).olWindow = some a)
    (hdue : a + ms 1 ≤ s.now) :
    let t := s.modCh n.val (fun c => { c with olWindow := none, olSeen := true })
    ((s.ch n.val).olSeen = true → exec (.openLoadOff n) s = .next (s.keep (t.openFound n.val))) ∧
    ((s.ch n.val).olSeen = false → exec (.openLoadOff n) s = .next t) := by
  intro t
  refine ⟨fun hseen => ?_, fun hseen => ?_⟩
  · refine show execOpenLoadOff n s = _ from act_of_eq ((if_neg (ne_false_of_eq_true htest)).trans ?_)
    simp only [hpull, ha]
    exact (if_pos ⟨hdue, hvol⟩).trans ((if_pos hseen).trans ((if_neg (ne_true_of_eq_false hlive)).trans (State.chFault_eq _ _ _)))
  · refine show execOpenLoadOff n s = _ from act_of_eq_same ((if_neg (ne_false_of_eq_true htest)).trans ?_) rfl rfl rfl
    simp only [hpull, ha]
    exact (if_pos ⟨hdue, hvol⟩).trans (if_neg (ne_true_of_eq_false hseen))

end

theorem exec_shortToBat (hruns : s.olRuns (bankOf n.val) = true) (hdrive : (s.ch n.val).drive = .off) (ha : (s.ch n.val).stbAt = some a)
    (hdue : a + ms 1 ≤ s.now) (hvolt : 600 ≤ centiVolts (s.get (chVt_vout n.val))) (hlive : s.flag (chDiag_stbLive n.val) = false) :
    exec (.shortToBat n) s = .next (s.keep (((s.put (chDiag_stbLive n.val) 1).put (chDiag_stb n.val) 1).fault n.val 0x0C n.val)) :=
  show execShortToBat n s = _ from act_of_eq ((if_pos ⟨hruns, hdrive, by rw [ha]; exact decide_eq_true hdue, hvolt, hlive⟩).trans (State.chFault_eq _ _ _))

end

end Sys2Proof.Machine
end

section
/-! PROOFS. Current samples, auxiliary scans and the measurement rows (spec/06). -/

namespace Sys2Proof.Machine

/-! ### A current sample -/

/-- The sample's registers take its codes. -/
def State.sampleRead (s : State) (n code : Nat) (segs : List Nat) : State :=
  let t := (s.put (bankSense_curValid (bankOf n)) 1).put (chI_sample n) code
  if chClass n = .H then ((t.put (chSeg_sega n) (segs.getD 0 0)).put (chSeg_segb n) (segs.getD 1 0)).put (chSeg_segc n) (segs.getD 2 0)
  else t

/-- What looks at a sample after it stands in the registers. -/
def State.sampleChecks (s : State) (n code : Nat) (segs : List Nat) : State :=
  let ma := milliAmps (chClass n) code
  let t := ((((s.limitCheck n ma).segCheck n segs ma).loadCheck n).lookArrival n (codeInt (chClass n) code)).chop n code
  if t.bridged n = true ∧ n % 2 = 0 then t.bridgeSample (bridgeOf n) code else t

theorem State.takeSample_eq (s : State) (n code : Nat) (mean edge : Bool) (segs : List Nat) :
    s.takeSample n code mean edge segs = ((s.sampleRead n code segs).addSample n code mean edge).sampleChecks n code segs := rfl

/-- What the checks of a sample of channel `n` leave. -/
structure Sampled (n : Nat) (s t : State) : Prop where
  sqCnt : (t.ch n).sqCnt = (s.ch n).sqCnt
  others : ∀ m : Nat, m ≠ n → t.ch m = s.ch m
  banks : t.banks = s.banks
  rd : ∀ a : Nat, a ≠ (chDiag_olonLive n).addr → t.rd a = s.rd a

namespace Sampled

variable {n : Nat} {s t u : State}

theorem refl (s : State) : Sampled n s s := ⟨rfl, fun _ _ => rfl, rfl, fun _ _ => rfl⟩

theorem trans (hst : Sampled n s t) (htu : Sampled n t u) : Sampled n s u :=
  ⟨htu.sqCnt.trans hst.sqCnt, fun m hm => (htu.others m hm).trans (hst.others m hm), htu.banks.trans hst.banks,
    fun a ha => (htu.rd a ha).trans (hst.rd a ha)⟩

theorem modCh (s : State) {f : Chan → Chan} (hf : (f (s.ch n)).sqCnt = (s.ch n).sqCnt) : Sampled n s (s.modCh n f) :=
  ⟨(congrArg Chan.sqCnt (State.ch_modCh_self s n f)).trans hf, fun _ hm => State.ch_modCh_ne _ _ hm, rfl, fun _ _ => rfl⟩

theorem modBr (s : State) (k : Nat) (f : Bridge → Bridge) : Sampled n s (s.modBr k f) := ⟨rfl, fun _ _ => rfl, rfl, fun _ _ => rfl⟩

theorem put (s : State) (v : Nat) : Sampled n s (s.put (chDiag_olonLive n) v) :=
  ⟨rfl, fun _ _ => rfl, rfl, fun _ ha => State.rd_put_ne s (chDiag_olonLive n) v ha⟩

theorem ite {p : Prop} [Decidable p] (ht : Sampled n s t) (hu : Sampled n s u) : Sampled n s (if p then t else u) := by
  split
  · exact ht
  · exact hu

theorem limitCheck (s : State) (ma : Int) : Sampled n s (s.limitCheck n ma) := by
  unfold State.limitCheck
  dsimp only
  refine Sampled.ite (Sampled.modCh s ?_) (Sampled.refl s)
  split <;> rfl

theorem segCheck (s : State) (segs : List Nat) (ma : Int) : Sampled n s (s.segCheck n segs ma) :=
  Sampled.ite (Sampled.refl s) (Sampled.modCh s rfl)

theorem loadCheck (s : State) : Sampled n s (s.loadCheck n) :=
  Sampled.ite ((Sampled.put s 0).trans (Sampled.modCh _ rfl)) (Sampled.modCh s rfl)

theorem lookArrival (s : State) (code : Int) : Sampled n s (s.lookArrival n code) := by
  unfold State.lookArrival
  split
  · exact Sampled.ite (Sampled.modCh s rfl) (Sampled.refl s)
  · exact Sampled.refl s

theorem chop (s : State) (code : Nat) : Sampled n s (s.chop n code) := by
  unfold State.chop
  split
  · exact Sampled.ite (Sampled.refl s) (Sampled.ite (Sampled.modCh s rfl) (Sampled.ite (Sampled.modCh s rfl) (Sampled.refl s)))
  · exact Sampled.refl s

theorem bridgeSample (s : State) (k code : Nat) : Sampled n s (s.bridgeSample k code) := by
  unfold State.bridgeSample
  dsimp only
  generalize (s.br k).move = move
  cases move with
  | some m =>
    exact Sampled.ite ((Sampled.modBr _ _ _).trans (Sampled.modBr _ _ _))
      (((Sampled.modBr _ _ _).trans (Sampled.modBr _ _ _)).trans (Sampled.modBr _ _ _))
  | none => exact Sampled.modBr _ _ _

theorem sampleChecks (s : State) (code : Nat) (segs : List Nat) : Sampled n s (s.sampleChecks n code segs) := by
  have hchecks := ((((Sampled.limitCheck (n := n) s (milliAmps (chClass n) code)).trans (Sampled.segCheck _ segs (milliAmps (chClass n) code))).trans
    (Sampled.loadCheck _)).trans (Sampled.lookArrival _ (codeInt (chClass n) code))).trans (Sampled.chop _ code)
  unfold State.sampleChecks
  dsimp only
  split
  · exact hchecks.trans (Sampled.bridgeSample _ _ _)
  · exact hchecks

end Sampled

section
variable (s : State) (n code : Nat) (segs : List Nat)

theorem State.sampleRead_keeps {α : Type} (g : State → α) (hg : ∀ (u : State) (f : Fld) (v : Nat), g (u.put f v) = g u) :
    g (s.sampleRead n code segs) = g s := by
  unfold State.sampleRead
  split
  · rw [hg, hg, hg, hg, hg]
  · rw [hg, hg]

theorem State.sampleRead_ch (m : Nat) : (s.sampleRead n code segs).ch m = s.ch m :=
  s.sampleRead_keeps n code segs (State.ch · m) (fun u f v => u.put_ch f v m)

theorem State.sampleRead_banks : (s.sampleRead n code segs).banks = s.banks :=
  s.sampleRead_keeps n code segs State.banks State.put_banks

/-- The segments stand in a register of their own. -/
theorem State.sampleRead_rd {a : Nat} (ha : a ≠ (chSeg_sega n).addr) :
    (s.sampleRead n code segs).rd a = ((s.put (bankSense_curValid (bankOf n)) 1).put (chI_sample n) code).rd a := by
  unfold State.sampleRead
  dsimp only
  split
  · rw [State.rd_put_ne _ (chSeg_segc n) _ ha, State.rd_put_ne _ (chSeg_segb n) _ ha, State.rd_put_ne _ (chSeg_sega n) _ ha]
  · rfl

theorem State.sampleRead_sample (hcode : code < 16384) : (s.sampleRead n code segs).get (chI_sample n) = code := by
  rw [State.get, State.sampleRead_rd _ _ _ _ (by simp only [chI_sample, chSeg_sega]; omega)]
  exact (State.get_put_self _ (chI_sample n) _ (of_decide_eq_true rfl) (of_decide_eq_true rfl)).trans (Nat.mod_eq_of_lt hcode)

theorem State.sampleRead_mean : (s.sampleRead n code segs).get (chI_mean n) = s.get (chI_mean n) := by
  rw [State.get, State.sampleRead_rd _ _ _ _ (by simp only [chI_mean, chSeg_sega]; omega)]
  exact (State.get_put_beside _ (chI_sample n) (chI_mean n) _ rfl rfl).trans
    (State.get_put_ne _ _ (by simp only [chI_mean, bankSense_curValid, bankOf]; omega))

theorem State.sampleRead_curValid : (s.sampleRead n code segs).get (bankSense_curValid (bankOf n)) = 1 := by
  rw [State.get, State.sampleRead_rd _ _ _ _ (by simp only [bankSense_curValid, bankOf, chSeg_sega]; omega)]
  exact (State.get_put_ne _ _ (by simp only [chI_sample, bankSense_curValid, bankOf]; omega)).trans
    (State.get_put_self _ (bankSense_curValid (bankOf n)) 1 (of_decide_eq_true rfl) (of_decide_eq_true rfl))

theorem State.sampleRead_avg : (s.sampleRead n code segs).avg n = s.avg n := by
  unfold State.avg State.cfgw
  rw [State.sampleRead_rd _ _ _ _ (by simp only [chCfg_word, chSeg_sega]; omega),
    State.rd_put_ne _ (chI_sample n) _ (by simp only [chCfg_word, chI_sample]; omega),
    State.rd_put_ne _ (bankSense_curValid (bankOf n)) _ (by simp only [chCfg_word, bankSense_curValid, bankOf]; omega)]

end

section
variable (s : State) (n code : Nat) (mean edge : Bool)

/-- A sample adds to its channel's counts and may set the channel's mean. -/
theorem State.addSample_cases : ∃ f : Chan → Chan, (f (s.ch n)).sqCnt = (s.ch n).sqCnt + 1 ∧
    (s.addSample n code mean edge = s.modCh n f ∨ ∃ v : Nat, s.addSample n code mean edge = (s.modCh n f).put (chI_mean n) v) := by
  unfold State.addSample
  dsimp only
  split
  · cases edge with
    | true => exact ⟨_, rfl, Or.inl (if_pos rfl)⟩
    | false => exact ⟨_, rfl, Or.inr ⟨code, if_neg Bool.false_ne_true⟩⟩
  · exact ⟨_, rfl, Or.inl rfl⟩
  · exact ⟨_, rfl, Or.inr ⟨_, rfl⟩⟩

theorem State.addSample_ch_self : ((s.addSample n code mean edge).ch n).sqCnt = (s.ch n).sqCnt + 1 := by
  obtain ⟨f, hf, h | ⟨v, h⟩⟩ := s.addSample_cases n code mean edge
  · rw [h, State.ch_modCh_self, hf]
  · rw [h, State.put_ch, State.ch_modCh_self, hf]

theorem State.addSample_ch_ne {m : Nat} (hm : m ≠ n) : (s.addSample n code mean edge).ch m = s.ch m := by
  obtain ⟨f, -, h | ⟨v, h⟩⟩ := s.addSample_cases n code mean edge
  · rw [h, State.ch_modCh_ne _ _ hm]
  · rw [h, State.put_ch, State.ch_modCh_ne _ _ hm]

theorem State.addSample_banks : (s.addSample n code mean edge).banks = s.banks := by
  obtain ⟨f, -, h | ⟨v, h⟩⟩ := s.addSample_cases n code mean edge
  · rw [h]; rfl
  · rw [h, State.put_banks]; rfl

theorem State.addSample_get {g : Fld} (hg : ∀ (u : State) (v : Nat), (u.put (chI_mean n) v).get g = u.get g) :
    (s.addSample n code mean edge).get g = s.get g := by
  obtain ⟨f, -, h | ⟨v, h⟩⟩ := s.addSample_cases n code mean edge
  · rw [h]; rfl
  · rw [h, hg]; rfl

theorem State.addSample_mean {n code : Nat} (havg : s.avg n = 0) (hcode : code < 16384) :
    (s.addSample n code mean edge).get (chI_mean n) = if edge then s.get (chI_mean n) else code := by
  unfold State.addSample
  simp only [havg]
  cases edge with
  | true => rfl
  | false => exact (State.get_put_self _ (chI_mean n) code (of_decide_eq_true rfl) (of_decide_eq_true rfl)).trans (Nat.mod_eq_of_lt hcode)

end

/-- R122, R124, R129, R132 to R141: what a sample leaves. -/
theorem State.takeSample_result (s : State) {n code : Nat} (hcode : code < 16384) (mean edge : Bool) (segs : List Nat) :
    let t := s.takeSample n code mean edge segs
    t.get (chI_sample n) = code ∧ t.flag (bankSense_curValid (bankOf n)) = true ∧ (t.ch n).sqCnt = (s.ch n).sqCnt + 1 ∧
      (s.avg n = 0 → t.get (chI_mean n) = if edge then s.get (chI_mean n) else code) ∧ t.banks = s.banks ∧ (∀ m : Nat, m ≠ n → t.ch m = s.ch m) := by
  intro t
  obtain ⟨hcnt, hothers, hbanks, hrd⟩ := Sampled.sampleChecks (n := n) ((s.sampleRead n code segs).addSample n code mean edge) code segs
  have hget {g : Fld} (hg : g.addr ≠ (chDiag_olonLive n).addr) : t.get g = ((s.sampleRead n code segs).addSample n code mean edge).get g := by
    rw [State.get, State.get, ← hrd _ hg, ← State.takeSample_eq]
  refine ⟨?_, ?_, ?_, fun havg => ?_, ?_, fun m hm => ?_⟩
  · rw [hget (by simp only [chI_sample, chDiag_olonLive]; omega),
      State.addSample_get _ _ _ _ _ (fun u v => State.get_put_beside u (chI_mean n) (chI_sample n) v rfl rfl), State.sampleRead_sample _ _ _ _ hcode]
  · rw [State.flag, hget (by simp only [bankSense_curValid, bankOf, chDiag_olonLive]; omega),
      State.addSample_get _ _ _ _ _ (fun u v => State.get_put_ne u v (by simp only [bankSense_curValid, bankOf, chI_mean]; omega)),
      State.sampleRead_curValid]
    rfl
  · rw [← State.takeSample_eq] at hcnt
    rw [hcnt, State.addSample_ch_self, State.sampleRead_ch]
  · rw [hget (by simp only [chI_mean, chDiag_olonLive]; omega), State.addSample_mean _ _ _ ((s.sampleRead_avg n code segs).trans havg) hcode,
      State.sampleRead_mean]
  · rw [← State.takeSample_eq] at hbanks
    rw [hbanks, State.addSample_banks, State.sampleRead_banks]
  · rw [← State.takeSample_eq] at hothers
    rw [hothers m hm, State.addSample_ch_ne _ _ _ _ _ hm, State.sampleRead_ch]

theorem bankOf_slot (b slot : Fin 8) : bankOf (8 * b.val + slot.val) = b.val := by
  unfold bankOf
  omega

theorem exec_currentSample {b slot : Fin 8} (code : BitVec 14) (on edge settling : Bool) (segs : List (BitVec 10)) {s : State}
    (hon : s.domOn (Dm.bank b.val) = true) (hgood : (s.bank b.val).curFail = false) (hslot : (s.bank b.val).slot = slot.val) :
    let n := 8 * b.val + slot.val
    let t := (s.modBank b.val (fun x => { x with slot := (slot.val + 1) % 8 })).takeSample n code.toNat (on && !edge && !settling) edge
      (segs.map (fun x => x.toNat))
    exec (.currentSample b slot code on edge settling segs) s = .next (s.keep t) ∧
      t.get (chI_sample n) = code.toNat ∧ t.flag (bankSense_curValid b.val) = true ∧ (t.ch n).sqCnt = (s.ch n).sqCnt + 1 ∧
      (s.avg n = 0 → t.get (chI_mean n) = if edge then s.get (chI_mean n) else code.toNat) ∧ (t.bank b.val).slot = (slot.val + 1) % 8 ∧
      (∀ m : Nat, m ≠ n → t.ch m = s.ch m) := by
  intro n t
  obtain ⟨hsample, hvalid, hcnt, hmean, hbanks, hothers⟩ := State.takeSample_result (n := n)
    (s.modBank b.val (fun x => { x with slot := (slot.val + 1) % 8 })) code.isLt (on && !edge && !settling) edge (segs.map (fun x => x.toNat))
  rw [bankOf_slot] at hvalid
  refine ⟨?_, hsample, hvalid, hcnt, hmean, ?_, hothers⟩
  · refine show execCurrentSample b slot code on edge settling segs s = _ from act_of_eq (if_neg ?_)
    simp [hon, hgood, hslot]
  · have hbank : t.bank b.val = (s.modBank b.val (fun x => { x with slot := (slot.val + 1) % 8 })).bank b.val := by
      rw [State.bank, State.bank, hbanks]
    rw [hbank, State.bank_modBank_self]

/-! ### An auxiliary scan -/

/-- The channels' voltages and temperatures take their codes. -/
def State.scanRead (b : Nat) (vout tch : List (BitVec 12)) (k : Nat) (s : State) : State :=
  (s.put (chVt_vout (8 * b + k)) (vout.getD k 0).toNat).put (chVt_tch (8 * b + k)) (tch.getD k 0).toNat

/-- What looks at a channel's voltage and temperature after they stand in the registers. -/
def State.scanCheck (b k : Nat) (s : State) : State :=
  let n := 8 * b + k
  let u := s.offCheck n
  let off := decide ((u.ch n).drive = .off)
  let u := if off then u else u.loadCheck n
  u.modCh n (fun c => { c with
    scanMean := u.get (chI_mean n)
    hot := off && (u.aboveLevel n || (c.hot && !u.coolEnough n)) })

theorem State.scanAux_eq (s : State) (b : Nat) (vout tch : List (BitVec 12)) (vbat tcase : BitVec 12) : s.scanAux b vout tch vbat tcase =
    forEach (List.range 8) (State.scanCheck b) (forEach (List.range 8) (State.scanRead b vout tch)
      (((s.put (bankSense_auxValid b) 1).put (bankMeas_vbat b) vbat.toNat).put (bankMeas_tcase b) tcase.toNat)) := rfl

theorem State.offCheck_rd (s : State) (n : Nat) {a : Nat} (ha : a ≠ (chDiag_olonLive n).addr) : (s.offCheck n).rd a = s.rd a := by
  have hoff (u : State) (v : Nat) : (u.put (chDiag_oloffLive n) v).rd a = u.rd a := State.rd_put_ne u (chDiag_oloffLive n) v ha
  have hstb (u : State) (v : Nat) : (u.put (chDiag_stbLive n) v).rd a = u.rd a := State.rd_put_ne u (chDiag_stbLive n) v ha
  unfold State.offCheck
  rw [State.modCh_rd, apply_ite (State.rd · a), hstb, ite_self, apply_ite (State.rd · a), hoff, ite_self]

theorem State.scanCheck_rd (s : State) (b k : Nat) {a : Nat} (ha : a ≠ (chDiag_olonLive (8 * b + k)).addr) : (s.scanCheck b k).rd a = s.rd a := by
  unfold State.scanCheck
  rw [State.modCh_rd, apply_ite (State.rd · a), (Sampled.loadCheck (s.offCheck (8 * b + k))).rd a ha, ite_self, State.offCheck_rd _ _ ha]

theorem State.scanRead_rd (s : State) (b : Nat) (vout tch : List (BitVec 12)) (k : Nat) {a : Nat} (ha : a ≠ (chVt_vout (8 * b + k)).addr) :
    (State.scanRead b vout tch k s).rd a = s.rd a :=
  (State.rd_put_ne _ (chVt_tch (8 * b + k)) _ ha).trans (State.rd_put_ne s (chVt_vout (8 * b + k)) _ ha)

/-- The checks of a scan leave every register but the channels' diagnosis. -/
theorem forEach_scanCheck_get (s : State) (b : Nat) {f : Fld} (hf : ∀ k : Nat, f.addr ≠ (chDiag_olonLive (8 * b + k)).addr) :
    (forEach (List.range 8) (State.scanCheck b) s).get f = s.get f :=
  congrArg (fun w : Word => bits w.toNat f.hi f.lo)
    (forEach_keeps (State.rd · f.addr) (List.range 8) (State.scanCheck b) (fun k u => u.scanCheck_rd b k (hf k)) s)

theorem forEach_scanRead_get (s : State) (b : Nat) (vout tch : List (BitVec 12)) {f : Fld} (hf : ∀ k : Nat, f.addr ≠ (chVt_vout (8 * b + k)).addr) :
    (forEach (List.range 8) (State.scanRead b vout tch) s).get f = s.get f :=
  congrArg (fun w : Word => bits w.toNat f.hi f.lo)
    (forEach_keeps (State.rd · f.addr) (List.range 8) (State.scanRead b vout tch) (fun k u => u.scanRead_rd b vout tch k (hf k)) s)

theorem State.scanRead_get (s : State) (b : Nat) (vout tch : List (BitVec 12)) (k : Nat) :
    (State.scanRead b vout tch k s).get (chVt_vout (8 * b + k)) = (vout.getD k 0).toNat ∧
      (State.scanRead b vout tch k s).get (chVt_tch (8 * b + k)) = (tch.getD k 0).toNat :=
  ⟨(State.get_put_beside _ (chVt_tch (8 * b + k)) (chVt_vout (8 * b + k)) _ rfl rfl).trans
    ((State.get_put_self s (chVt_vout (8 * b + k)) _ (of_decide_eq_true rfl) (of_decide_eq_true rfl)).trans (Nat.mod_eq_of_lt (vout.getD k 0).isLt)),
    (State.get_put_self _ (chVt_tch (8 * b + k)) _ (of_decide_eq_true rfl) (of_decide_eq_true rfl)).trans (Nat.mod_eq_of_lt (tch.getD k 0).isLt)⟩

/-- Channel `k` of the bank shows its voltage and temperature after the loop over the bank. -/
theorem forEach_scanRead_own (s : State) (b : Nat) (vout tch : List (BitVec 12)) {k : Nat} (hk : k < 8) :
    (forEach (List.range 8) (State.scanRead b vout tch) s).get (chVt_vout (8 * b + k)) = (vout.getD k 0).toNat ∧
      (forEach (List.range 8) (State.scanRead b vout tch) s).get (chVt_tch (8 * b + k)) = (tch.getD k 0).toNat := by
  obtain ⟨u, -, hend⟩ := forEach_rel_mem (R := fun s t => t.rd (chVt_vout (8 * b + k)).addr = s.rd (chVt_vout (8 * b + k)).addr)
    (fun _ => rfl) (fun hst htu => htu.trans hst) (f := State.scanRead b vout tch)
    (fun j _ hj u => u.scanRead_rd b vout tch j (by simp only [chVt_vout]; omega)) List.nodup_range (List.mem_range.mpr hk) s
  obtain ⟨hvout, htch⟩ := u.scanRead_get b vout tch k
  exact ⟨(congrArg (fun w : Word => bits w.toNat (chVt_vout (8 * b + k)).hi (chVt_vout (8 * b + k)).lo) hend).trans hvout,
    (congrArg (fun w : Word => bits w.toNat (chVt_tch (8 * b + k)).hi (chVt_tch (8 * b + k)).lo) hend).trans htch⟩

theorem exec_auxiliaryScan {b : Fin 8} (vout tch : List (BitVec 12)) (vbat tcase : BitVec 12) {s : State} (hon : s.domOn (Dm.bank b.val) = true)
    (hgood : (s.bank b.val).auxFail = false) :
    let t := s.scanAux b.val vout tch vbat tcase
    exec (.auxiliaryScan b vout tch vbat tcase) s = .next (s.keep t) ∧ t.flag (bankSense_auxValid b.val) = true ∧
      t.get (bankMeas_vbat b.val) = vbat.toNat ∧ t.get (bankMeas_tcase b.val) = tcase.toNat ∧
      (∀ k : Nat, k < 8 → t.get (chVt_vout (8 * b.val + k)) = (vout.getD k 0).toNat ∧ t.get (chVt_tch (8 * b.val + k)) = (tch.getD k 0).toNat) := by
  intro t
  refine ⟨?_, ?_, ?_, ?_, fun k hk => ?_⟩
  · refine show execAuxiliaryScan b vout tch vbat tcase s = _ from act_of_eq (if_neg ?_)
    simp [hon, hgood]
  · have hshown : t.get (bankSense_auxValid b.val) = 1 := by
      rw [show t = _ from State.scanAux_eq s b.val vout tch vbat tcase,
        forEach_scanCheck_get _ _ (by intro k; simp only [bankSense_auxValid, chDiag_olonLive]; omega),
        forEach_scanRead_get _ _ _ _ (by intro k; simp only [bankSense_auxValid, chVt_vout]; omega),
        State.get_put_ne _ _ (by simp only [bankSense_auxValid, bankMeas_tcase]; omega),
        State.get_put_ne _ _ (by simp only [bankSense_auxValid, bankMeas_vbat]; omega)]
      exact State.get_put_self s (bankSense_auxValid b.val) 1 (of_decide_eq_true rfl) (of_decide_eq_true rfl)
    rw [State.flag, hshown]
    rfl
  · rw [show t = _ from State.scanAux_eq s b.val vout tch vbat tcase,
      forEach_scanCheck_get _ _ (by intro k; simp only [bankMeas_vbat, chDiag_olonLive]; omega),
      forEach_scanRead_get _ _ _ _ (by intro k; simp only [bankMeas_vbat, chVt_vout]; omega),
      State.get_put_beside _ (bankMeas_tcase b.val) (bankMeas_vbat b.val) _ rfl rfl]
    exact (State.get_put_self _ (bankMeas_vbat b.val) _ (of_decide_eq_true rfl) (of_decide_eq_true rfl)).trans (Nat.mod_eq_of_lt vbat.isLt)
  · rw [show t = _ from State.scanAux_eq s b.val vout tch vbat tcase,
      forEach_scanCheck_get _ _ (by intro k; simp only [bankMeas_tcase, chDiag_olonLive]; omega),
      forEach_scanRead_get _ _ _ _ (by intro k; simp only [bankMeas_tcase, chVt_vout]; omega)]
    exact (State.get_put_self _ (bankMeas_tcase b.val) _ (of_decide_eq_true rfl) (of_decide_eq_true rfl)).trans (Nat.mod_eq_of_lt tcase.isLt)
  · rw [show t = _ from State.scanAux_eq s b.val vout tch vbat tcase,
      forEach_scanCheck_get _ _ (by intro j; simp only [chVt_vout, chDiag_olonLive]; omega),
      forEach_scanCheck_get _ _ (by intro j; simp only [chVt_tch, chDiag_olonLive]; omega)]
    exact forEach_scanRead_own _ _ _ _ hk

/-! ### Converters and the module's dissipation -/

theorem exec_senseAdc_current (b : Fin 8) (s : State) : exec (.senseAdc b false) s = .next (s.keep
    ((((s.modBank b.val (fun x => { x with curFail := true })).put (bankSense_curValid b.val) 0).inc (bankSense_errcnt b.val)).fault
      (0x40 + b.val) 0x11 b.val)) :=
  show execSenseAdc b false s = _ from act_of_eq rfl

theorem exec_senseAdc_auxiliary (b : Fin 8) (s : State) : exec (.senseAdc b true) s = .next (s.keep
    ((((s.modBank b.val (fun x => { x with auxFail := true })).put (bankSense_auxValid b.val) 0).inc (bankSense_errcnt b.val)).fault
      (0x40 + b.val) 0x11 (b.val + 0x100))) :=
  show execSenseAdc b true s = _ from act_of_eq rfl

/-- The banks' estimates switch no domain. -/
theorem State.bankDiss_domOn (s : State) (means : List Nat) (d : Nat) : (s.bankDiss means).domOn d = s.domOn d := by
  have hsame := forEach_rel (R := DissSame 8) DissSame.refl DissSame.trans (f := State.dissRound means) (l := List.range 8)
    (fun j hj u => DissSame.dissRound means u (List.mem_range.mp hj).ne) s
  rw [State.bankDiss_eq, hsame.domOn]

theorem exec_dissipationEstimate (means : List Nat) {s : State} (hsys : s.domOn Dm.sys = true) :
    exec (.dissipationEstimate means) s = .next (s.keep (s.bankDiss means).moduleDiss) := by
  refine show execDissipationEstimate means s = _ from act_of_eq (if_neg ?_)
  rw [State.bankDiss_domOn, hsys]
  exact Bool.noConfusion

/-- Settles O56: the readings of a sample and of a scan follow from what each check of them leaves. -/
theorem measurementRowsComplete : Obligations.MeasurementRowsComplete := by
  unfold Obligations.MeasurementRowsComplete
  refine ⟨fun n on delay s => exec_edgeDelayMeasured, fun n energy r s => exec_clampPulseEnd, fun means s hsys => ?_, fun b s => ?_,
    fun b slot code on edge settling segs s => exec_currentSample code on edge settling segs,
    fun b vout tch vbat tcase s => exec_auxiliaryScan vout tch vbat tcase, fun n a s => exec_openLoadOn, fun n s => exec_offTestWindow,
    fun n a s htest hlive => ?_, fun n a s => exec_shortToBat⟩
  · exact ⟨exec_dissipationEstimate means hsys, fun b hb hcur haux hon => State.bankDiss_get hb hcur haux hon means⟩
  · exact ⟨exec_senseAdc_current b s, exec_senseAdc_auxiliary b s⟩
  · exact ⟨exec_openLoadOff_pulled htest hlive, exec_openLoadOff_windowed htest hlive⟩

end Sys2Proof.Machine
end

section
/-! PROOFS. The registers of the debounced inputs: what no turn-off, turn-on, sleep or wake-up of the model writes (spec/12). -/

namespace Sys2Proof.Machine

/-! ### The hub, jobs and completions -/

/-- The addresses of the inputs' debounced levels and of their change bits. -/
def swinAddr (a : Nat) : Prop := 0x80100 ≤ a ∧ a ≤ 0x8010C

/-- The inputs' debounced levels and change bits read in `t` as in `s`. -/
structure SwinKept (s t : State) : Prop where
  get : ∀ f : Fld, swinAddr f.addr → t.get f = s.get f

theorem not_hubWrites_of_swinAddr {a : Nat} (ha : swinAddr a) : ¬ hubWrites a := by
  obtain ⟨hlo, hhi⟩ := ha
  rintro (h | h | ⟨n, h⟩)
  · simp only [sysPoolstat_lowest] at h
    omega
  · simp only [evtHub_hubdrop] at h
    omega
  · simp only [evtStat_lost] at h
    omega

/-- A field of the inputs is read from the registers, of which completions, jobs and host contexts are no part. -/
theorem JobBlind.get (f : Fld) : JobBlind (State.get · f) := ⟨fun _ => rfl, fun _ _ => rfl, fun _ _ => rfl, fun _ _ => rfl⟩

namespace SwinKept

theorem refl (s : State) : SwinKept s s := ⟨fun _ _ => rfl⟩

section
variable {s t u : State} (h : SwinKept s t)

theorem ite {p : Prop} [Decidable p] (ht : SwinKept s t) (hu : SwinKept s u) : SwinKept s (if p then t else u) := by
  split
  · exact ht
  · exact hu

include h

theorem of_regs (hu : u.regs = t.regs) : SwinKept s u := by
  refine ⟨fun f hf => ?_⟩
  rw [← h.get f hf, State.get, State.get, State.rd, State.rd, hu]

theorem put {f : Fld} (hf : ¬ swinAddr f.addr) (v : Nat) : SwinKept s (t.put f v) :=
  ⟨fun g hg => (State.get_put_ne t v (fun hfg => hf (hfg ▸ hg))).trans (h.get g hg)⟩

theorem inc {f : Fld} (hf : ¬ swinAddr f.addr) : SwinKept s (t.inc f) := h.put hf _

theorem foldl {α : Type} {f : State → α → State} (hf : ∀ (t : State) (x : α), SwinKept s t → SwinKept s (f t x)) (l : List α) :
    SwinKept s (l.foldl f t) := by
  induction l generalizing t with
  | nil => exact h
  | cons x l ih => exact ih (hf t x h)

theorem forEach {f : Nat → State → State} (hf : ∀ (k : Nat) (t : State), SwinKept s t → SwinKept s (f k t)) (l : List Nat) :
    SwinKept s (Machine.forEach l f t) := by
  induction l generalizing t with
  | nil => exact h
  | cons k l ih => exact ih (hf k t h)

theorem offer (dest : List Nat) (e : EvRec) : SwinKept s (t.offer dest e) :=
  ⟨fun f hf => (t.offer_get (not_hubWrites_of_swinAddr hf) dest e).trans (h.get f hf)⟩

theorem post (dest : List Nat) (cls code src arg data : Nat) (cont : List Word) : SwinKept s (t.post dest cls code src arg data cont) := h.offer _ _

theorem postAt (dest : List Nat) (cls code src arg data : Nat) (time : Word) (cont : List Word) :
    SwinKept s (t.postAt dest cls code src arg data time cont) := h.offer _ _

theorem complete (hd : Hdr) (opc : Nat) (st : Byte) (r : Nat) (cont : List Word) (resync : Bool) (time : Option Word) (slot : Option Nat) :
    SwinKept s (t.complete hd opc st r cont resync time slot) :=
  ⟨fun f hf => ((JobBlind.get f).complete t hd opc st r cont resync time slot).trans (h.get f hf)⟩

theorem endJob (n : Nat) (st : Byte) (r : Nat) (cont : List Word) (time : Option Word) : SwinKept s (t.endJob n st r cont time) :=
  ⟨fun f hf => ((JobBlind.get f).endJob t n st r cont time).trans (h.get f hf)⟩

theorem modCh (n : Nat) (f : Chan → Chan) : SwinKept s (t.modCh n f) := h.of_regs rfl
theorem modBr (n : Nat) (f : Bridge → Bridge) : SwinKept s (t.modBr n f) := h.of_regs rfl
theorem modJob (n : Nat) (f : Job → Job) : SwinKept s (t.modJob n f) := h.of_regs rfl
theorem modDom (n : Nat) (f : Dom → Dom) : SwinKept s (t.modDom n f) := h.of_regs rfl
theorem modPort (n : Nat) (f : CanPort → CanPort) : SwinKept s (t.modPort n f) := h.of_regs rfl
theorem modNet (n : Nat) (f : NetPort → NetPort) : SwinKept s (t.modNet n f) := h.of_regs rfl
theorem modHc (n : Nat) (f : HostCtx → HostCtx) : SwinKept s (t.modHc n f) := h.of_regs rfl
theorem modImm (f : Imm → Imm) : SwinKept s (t.modImm f) := h.of_regs rfl
theorem setSlot (n : Nat) (x : Option Slot) : SwinKept s (t.setSlot n x) := h.of_regs rfl
theorem fault (src kind detail : Nat) : SwinKept s (t.fault src kind detail) := h.of_regs rfl

theorem settle (n : Nat) : SwinKept s (t.settle n) := by
  unfold State.settle
  split
  · exact h
  · exact SwinKept.ite (h.endJob _ _ _ _ _) h

theorem jobDone (n c : Nat) : SwinKept s (t.jobDone n c) := (h.modJob _ _).settle n
theorem jobFail (n c : Nat) (st : Byte) : SwinKept s (t.jobFail n c st) := (h.modJob _ _).settle n
theorem jobSkip (n c : Nat) : SwinKept s (t.jobSkip n c) := (h.modJob _ _).settle n
theorem edgeCommit (id c : Nat) : SwinKept s (t.edgeCommit id c) := SwinKept.ite (h.modCh _ _) (h.jobDone _ _)

theorem flushQueued (p : Nat → Instr → Bool) (st : Byte) : SwinKept s (t.flushQueued p st) := by
  refine h.forEach (fun n u hu => (hu.modHc n _).foldl (fun v e hv => ?_) _) _
  split
  · exact hv.complete _ _ _ _ _ _ _ _
  · exact hv

/-! ### Drives and works -/

theorem driveTo (n : Nat) (d : Drive) : SwinKept s (t.driveTo n d) := by
  unfold State.driveTo
  exact h.modCh _ _

theorem passLow (k : Nat) (b : BridgeState) : SwinKept s (t.passLow k b) := by
  unfold State.passLow
  exact (h.foldl (fun _ _ hu => hu.driveTo _ _) _).modBr _ _

theorem bridgeTo (k : Nat) (b : BridgeState) : SwinKept s (t.bridgeTo k b) := by
  unfold State.bridgeTo
  cases b <;> exact ((h.driveTo _ _).driveTo _ _).modBr _ _

theorem setBridge (k : Nat) (b : BridgeState) : SwinKept s (t.setBridge k b) := SwinKept.ite h (SwinKept.ite (h.passLow k b) (h.bridgeTo k b))

theorem putPending (n : Nat) (v : Nat) : SwinKept s (t.put (bankPwm_pending (n / 8) (n % 8)) v) :=
  h.put (by simp only [swinAddr, bankPwm_pending]; omega) v

theorem putEndcode (n k : Nat) (hk : k < 4) (v : Nat) : SwinKept s (t.put (bankMotor_endcode n k) v) :=
  h.put (by simp only [swinAddr, bankMotor_endcode]; omega) v

theorem limpDrive (n : Nat) : SwinKept s (t.limpDrive n) := by
  unfold State.limpDrive
  split
  · exact h.driveTo _ _
  · exact (h.driveTo _ _).modCh _ _
  · exact SwinKept.ite (((h.putPending n 0).modCh _ _).passLow _ _) (((h.putPending n 0).modCh _ _).driveTo _ _)

theorem applyPwm (n : Nat) : SwinKept s (t.applyPwm n) := (h.modCh _ _).putPending n 0

theorem turnOn (n : Nat) (full : Bool) : SwinKept s (t.turnOn n full) :=
  SwinKept.ite
    (((SwinKept.setBridge (SwinKept.ite ((h.applyPwm _).modCh _ _) (h.applyPwm _)) _ _).modCh _ _).modCh _ _)
    (((h.applyPwm n).driveTo _ _).modCh _ _)

theorem endProfile (n code detail : Nat) (st : Byte) : SwinKept s (t.endProfile n code detail st) := by
  unfold State.endProfile
  split
  · exact h
  · extract_lets t1 t2 t3
    have h1 : SwinKept s t1 := h.modCh _ _
    have h2 : SwinKept s t2 := SwinKept.ite (h1.putEndcode _ _ (Nat.mod_lt _ (by decide)) _) h1
    have h3 : SwinKept s t3 := SwinKept.ite (h2.modBr _ _) h2
    split
    · exact h3.endJob _ _ _ _ _
    · exact h3

theorem endPulse (n width : Nat) (st : Byte) : SwinKept s (t.endPulse n width st) := by
  unfold State.endPulse
  split
  · exact h
  · extract_lets t1
    have h1 : SwinKept s t1 := h.modCh _ _
    split
    · exact h1.endJob _ _ _ _ _
    · exact h1

theorem cutPulse (n : Nat) (st : Byte) : SwinKept s (t.cutPulse n st) := by
  unfold State.cutPulse
  split
  · exact SwinKept.ite (h.modCh _ _) (h.endPulse _ _ _)
  · exact h.endPulse _ _ _

theorem endMove (k code : Nat) (st : Byte) : SwinKept s (t.endMove k code st) := by
  unfold State.endMove
  split
  · exact h
  · extract_lets pos t1
    have h1 : SwinKept s t1 := (h.putEndcode _ _ (Nat.mod_lt _ (by decide)) _).modBr _ _
    split
    · exact h1.endJob _ _ _ _ _
    · exact h1

theorem endWork (n code : Nat) (st : Byte) : SwinKept s (t.endWork n code st) :=
  h.foldl (fun _ c hu => SwinKept.ite (((hu.cutPulse c st).endProfile c code 0 st).endMove _ _ _) ((hu.cutPulse c st).endProfile c code 0 st)) _

theorem preempt (n : Nat) : SwinKept s (t.preempt n) :=
  h.foldl (fun _ c hu => SwinKept.ite (((hu.endPulse c _ _).endProfile c 8 _ _).endMove _ _ _) ((hu.endPulse c _ _).endProfile c 8 _ _)) _

theorem clearCmd (n : Nat) : SwinKept s (t.clearCmd n) := h.foldl (fun _ _ hu => hu.modCh _ _) _
theorem dropGrant (src : ReqSrc) (c : Nat) : SwinKept s (t.dropGrant src c) := h.of_regs rfl
theorem dropGrants (n : Nat) : SwinKept s (t.dropGrants n) := h.of_regs rfl
theorem dropActs (n : Nat) : SwinKept s (t.dropActs n) := h.of_regs rfl
theorem markEdge (n : Nat) : SwinKept s (t.markEdge n) := h.of_regs rfl
theorem commitLater (n : Nat) : SwinKept s (t.commitLater n) := h.foldl (fun _ _ hu => hu.modCh _ _) _
theorem brakeTo (k tt : Nat) : SwinKept s (t.brakeTo k tt) := ((h.setBridge k _).modBr _ _).dropGrants _

theorem parkNow (n : Nat) : SwinKept s (t.parkNow n) :=
  (SwinKept.ite (((h.preempt n).brakeTo _ _).clearCmd n) h).putEndcode _ _ (Nat.mod_lt _ (by decide)) _

theorem storePulse (n width : Nat) : SwinKept s (t.storePulse n width) := by
  unfold State.storePulse
  exact (((h.endPulse n _ _).endProfile n 8 _ _).commitLater n).modCh _ _

theorem storeProfile (n code : Nat) (set : List Word) : SwinKept s (t.storeProfile n code set) :=
  by
  unfold State.storeProfile
  exact (((h.endPulse n _ _).endProfile n 8 _ _).commitLater n).modCh _ _

theorem storeMove (k : Nat) (m : Move) : SwinKept s (t.storeMove k m) :=
  by
  unfold State.storeMove
  exact ((((h.endPulse _ _ _).endProfile _ 8 _ _).endMove k 8 _).commitLater _).modBr _ _

theorem startPulse (n width : Nat) (job : Option Nat) : SwinKept s (t.startPulse n width job) := (h.turnOn n true).modCh _ _

theorem startMove (k : Nat) (m : Move) : SwinKept s (t.startMove k m) := by
  unfold State.startMove
  extract_lets n pos tgt up fwd duty t1
  have h1 : SwinKept s t1 := h.modBr _ _
  split
  · split
    · exact ((h1.brakeTo _ _).modBr _ _).modCh _ _
    · exact (h1.endMove _ _ _).dropGrants _
  · exact (h1.modCh _ _).setBridge _ _

theorem startProfile (n code : Nat) (set : List Word) (job : Option Nat) (fresh : Bool) : SwinKept s (t.startProfile n code set job fresh) := by
  unfold State.startProfile
  extract_lets base t1 t2
  have h2 : SwinKept s t2 := SwinKept.ite ((h.modCh _ _).applyPwm n) (h.modCh _ _)
  split
  · exact ((h2.modCh _ _).driveTo _ _).modCh _ _
  · split
    · exact (h2.driveTo _ _).modCh _ _
    · split
      · exact ((h2.modCh _ _).setBridge _ _).modBr _ _
      · split
        · exact ((h2.modCh _ _).setBridge _ _).modBr _ _
        · exact (h2.modCh _ _).endProfile _ _ _ _

theorem resume (n : Nat) : SwinKept s (t.resume n) := by
  unfold State.resume
  extract_lets c
  split
  · exact h.limpDrive n
  · split
    · exact h.startPulse _ _ _
    · exact SwinKept.ite ((h.endProfile _ _ _ _).clearCmd n) (h.startProfile _ _ _ _ _)
    · split
      · exact h.driveTo _ _
      · split
        · split
          · exact h.startMove _ _
          · exact h.turnOn _ _
        · exact h.turnOn _ _

theorem stayOn (n : Nat) : SwinKept s (t.stayOn n) := SwinKept.ite (h.modCh _ _) ((h.turnOn _ _).modBr _ _)

end

end SwinKept

end Sys2Proof.Machine
end

section
/-! PROOFS. The registers of the debounced inputs: grants, turn-offs, ports, links, domains and wake-ups (spec/12). -/

namespace Sys2Proof.Machine

namespace SwinKept

section
variable {s t u : State} (h : SwinKept s t)
include h

/-! ### The line of requests -/

theorem grantSlot (n : Nat) (x : Slot) : SwinKept s (t.grantSlot n x) := SwinKept.ite (h.setSlot _ _) (h.setSlot _ _)
theorem servedSlot (n : Nat) (x : Slot) : SwinKept s (t.servedSlot n x) := SwinKept.ite (h.setSlot _ _) (h.setSlot _ _)

theorem grantJob (id c : Nat) (j : Job) : SwinKept s (t.grantJob id c j) := by
  unfold State.grantJob
  extract_lets src t1
  have h1 : SwinKept s t1 := h.dropActs c
  have hdrop := h1.dropGrant src c
  split
  · exact hdrop.endJob _ _ _ _ _
  · split
    · split
      · exact hdrop.jobFail _ _ _
      · exact hdrop.endJob _ _ _ _ _
    · split
      · exact (hdrop.commitLater c).jobSkip _ _
      · exact (hdrop.storePulse c _).endJob _ _ _ _ _
      · exact (hdrop.storeProfile c _ _).endJob _ _ _ _ _
      · exact (hdrop.storeMove _ _).endJob _ _ _ _ _
      · exact hdrop
    · split
      · exact SwinKept.ite ((hdrop.stayOn c).jobSkip _ _) ((hdrop.stayOn c).jobDone _ _)
      · exact h1.startPulse _ _ _
      · exact SwinKept.ite ((hdrop.parkNow c).endJob _ _ _ _ _) ((h1.preempt c).startProfile _ _ _ _ _)
      · exact ((h1.preempt c).startMove _ _).markEdge c
      · exact h1
    · split
      · exact ((h1.turnOn c _).markEdge c).edgeCommit _ _
      · exact (h1.startPulse _ _ _).markEdge c
      · exact SwinKept.ite ((hdrop.parkNow c).endJob _ _ _ _ _) ((h1.startProfile _ _ _ _ _).markEdge c)
      · exact ((h1.preempt c).startMove _ _).markEdge c
      · exact h1

theorem grantRest (r : Req) : SwinKept s (t.grantRest r) := by
  unfold State.grantRest
  split
  · split
    · refine h.forEach (fun c u hu => ?_) _
      split
      · exact hu.commitLater c
      · exact hu.stayOn c
      · exact hu
    · exact h
  · exact h

theorem grantPart (r : Req) (c : Nat) : SwinKept s (t.grantPart r c) := by
  have hdrop := h.dropGrant r.src c
  unfold State.grantPart
  split
  · split
    · exact h
    · exact h.grantJob _ _ _
  · split
    · exact h
    · exact h.grantSlot _ _
  · split
    · exact hdrop
    · exact hdrop.commitLater c
    · exact hdrop
    · exact (h.turnOn c _).markEdge c
  · split
    · exact SwinKept.ite (((h.resume c).markEdge c).modCh _ _) ((h.resume c).markEdge c)
    · exact hdrop
  · split
    · exact (h.resume c).markEdge c
    · exact hdrop.modCh _ _
    · exact hdrop
  · exact SwinKept.ite hdrop (((h.modBr _ _).setBridge _ _).markEdge c)
  · split
    · exact (h.limpDrive c).markEdge c
    · exact hdrop.commitLater c
    · exact hdrop
  · split
    · exact (h.resume c).markEdge c
    · exact hdrop.commitLater c
    · exact hdrop

theorem notePeak : SwinKept s t.notePeak :=
  h.forEach (fun g _ hu => SwinKept.ite (hu.put (f := govPeak_peakuse g) (by simp only [swinAddr, govPeak_peakuse]; omega) _) hu) _

theorem noteOverdraw (was : State) : SwinKept s (t.noteOverdraw was) :=
  h.forEach (fun _ _ hu => SwinKept.ite (hu.post _ _ _ _ _ _ _) hu) _

theorem grantReq (r : Req) : SwinKept s (t.grantReq r) := by
  unfold State.grantReq
  extract_lets off gs t1 t2 t3 t4
  have hoff : SwinKept s off := h.of_regs rfl
  have h1 : SwinKept s t1 := h.of_regs rfl
  have h2 : SwinKept s t2 := SwinKept.ite (h1.notePeak.noteOverdraw t) h1.notePeak
  have h3 : SwinKept s t3 := SwinKept.ite (h2.grantRest r) h2
  have h4 : SwinKept s t4 := h3.foldl (fun _ p hu => hu.grantPart r p.1) _
  split
  · exact hoff.endJob _ _ _ _ _
  · split
    · exact SwinKept.ite (h4.settle _) h4
    · exact h4

theorem serve (r : Req) : SwinKept s (t.serve r) := by
  unfold State.serve
  extract_lets t1
  have h1 : SwinKept s t1 := h.of_regs rfl
  split
  · split
    · exact h1.servedSlot _ _
    · exact h1
  · exact h1.foldl (fun _ p hu => hu.grantPart r p.1) _

theorem growLine : SwinKept s t.growLine := by
  unfold State.growLine
  split
  · extract_lets line
    have h1 : SwinKept s { t with line := line } := h.of_regs rfl
    refine h1.foldl (fun u r hu => ?_) _
    split
    · exact hu.modJob _ _
    · exact hu
  · exact h

theorem examine1 (hu : t.examine1 = some u) : SwinKept s u := by
  unfold State.examine1 at hu
  split at hu
  · rw [← Option.some.inj hu]
    exact h.serve _
  · split at hu
    · rw [← Option.some.inj hu]
      exact h.grantReq _
    · exact absurd hu.symm (Option.some_ne_none u)

end

section
variable {s t : State}

theorem examine (k : Nat) (h : SwinKept s t) : SwinKept s (State.examine k t) := by
  induction k generalizing t with
  | zero => exact h
  | succ k ih =>
    unfold State.examine
    split
    next u hu => exact ih (h.examine1 hu).growLine
    next => exact h

variable (h : SwinKept s t)
include h

theorem reexamine : SwinKept s t.reexamine := h.growLine.examine _
theorem release (p : Grant → Bool) : SwinKept s (t.release p) := SwinKept.ite (SwinKept.reexamine (h.of_regs rfl)) h

/-! ### Turn-offs -/

theorem freeSlot (n : Nat) : SwinKept s (t.freeSlot n) := h.of_regs rfl

theorem endSlot (n : Nat) (st : Byte) (r : Nat) : SwinKept s (t.endSlot n st r) := by
  unfold State.endSlot
  split
  · exact h
  · split
    · exact h.freeSlot n
    · extract_lets t1 t2
      have h1 : SwinKept s t1 := h.of_regs rfl
      have h2 : SwinKept s t2 := h1.complete _ _ _ _ _ _ _ _
      exact SwinKept.ite (h2.freeSlot n) (h2.setSlot n _)

theorem incMiss (p : Prop) [Decidable p] : SwinKept s (t.inc (if p then spkMisscnt_late else spkMisscnt_skipped)) := by
  split
  · exact h.inc (f := spkMisscnt_late) (by simp only [swinAddr, spkMisscnt_late]; omega)
  · exact h.inc (f := spkMisscnt_skipped) (by simp only [swinAddr, spkMisscnt_skipped]; omega)

theorem fired (n outcome reason : Nat) (skipped : Bool) : SwinKept s (t.fired n outcome reason skipped) := by
  unfold State.fired
  split
  · exact h
  · extract_lets late t1 x' t2
    have h1 : SwinKept s t1 := SwinKept.ite h ((h.incMiss _).post _ _ _ _ _ _ _)
    have h2 : SwinKept s t2 := h1.of_regs rfl
    exact SwinKept.ite ((h2.setSlot n _).endSlot n _ _) (h2.setSlot n _)

theorem failReq (r : Req) (st : Byte) : SwinKept s (t.failReq r st) := by
  unfold State.failReq
  split
  · split
    · exact h
    · split
      · exact SwinKept.ite (h.endJob _ _ _ _ _) (h.foldl (fun _ p hu => hu.jobFail _ p.1 st) _)
      · exact h.endJob _ _ _ _ _
  · split
    · exact SwinKept.ite (h.fired _ _ _ _) (h.setSlot _ _)
    · exact h
  · exact h

theorem withdraw (p : Req → Bool) (st : Byte) : SwinKept s (t.withdraw p st) := by
  have h1 : SwinKept s { t with line := t.line.filter (fun r => !p r) } := h.of_regs rfl
  exact SwinKept.ite h (h1.foldl (fun _ r hu => hu.failReq r st) _).reexamine

theorem loseEdge (n : Nat) (st : Option Byte) : SwinKept s (t.loseEdge n st) := by
  unfold State.loseEdge
  split
  · extract_lets t1
    have h1 : SwinKept s t1 := h.modCh _ _
    split
    · exact h1.jobFail _ _ _
    · exact h1.jobSkip _ _
  · exact h

theorem outOff (n : Nat) : SwinKept s (t.outOff n) := SwinKept.ite (h.setBridge _ _) (h.driveTo _ _)
theorem chanOff (n : Nat) : SwinKept s (t.chanOff n) := (h.outOff n).release _

theorem cmdOff (n code : Nat) (st : Byte) : SwinKept s (t.cmdOff n code st) :=
  (((((h.loseEdge n _).withdraw _ _).endWork n code st).chanOff n).clearCmd n).foldl (fun _ _ hu => hu.modCh _ _) _

theorem cancelSlot (n : Nat) (st : Byte) : SwinKept s (t.cancelSlot n st) := by
  unfold State.cancelSlot
  split
  · exact h
  · split
    · exact h
    · have h1 : SwinKept s { t with line := t.line.filter (fun r => r.src != ReqSrc.spk n) } := h.of_regs rfl
      exact ((h1.endSlot n st 0).release _).reexamine

theorem cancelWhere (p : Nat → Slot → Bool) (st : Byte) : SwinKept s (t.cancelWhere p st) := by
  refine h.forEach (fun n u hu => ?_) _
  split
  · exact SwinKept.ite (hu.cancelSlot n st) hu
  · exact hu

theorem disableCh (n : Nat) : SwinKept s (t.disableCh n) :=
  ((((h.flushQueued _ _).cancelWhere _ _).dropActs n).cmdOff n 2 St.badState).foldl (fun _ _ hu => hu.modCh _ _) _

theorem bankDown (b : Nat) : SwinKept s (t.bankDown b) := h.forEach (fun _ _ hu => (hu.disableCh _).modCh _ _) _

end

end SwinKept

end Sys2Proof.Machine
end

section
/-! PROOFS. Sleep and wake-up leave the registers of the debounced inputs (spec/12, spec/15). -/

namespace Sys2Proof.Machine

namespace SwinKept

section
variable {s t : State} (h : SwinKept s t)
include h

/-! ### Ports and links -/

theorem endUnsent (n : Nat) (x : TxItem) (j : Nat) (st : Byte) : SwinKept s (t.endUnsent n x j st) := by
  have hspent : SwinKept s (t.txSpent n x).2.2 := by
    unfold State.txSpent
    split
    · exact h.of_regs rfl
    · split <;> exact h
  exact hspent.endJob _ _ _ _ _

theorem flushTx (n : Nat) (p : TxItem → Bool) : SwinKept s (t.flushTx n p) := by
  unfold State.flushTx
  extract_lets items t1
  have h1 : SwinKept s t1 := h.modPort n _
  refine h1.foldl (fun u x hu => ?_) _
  split
  · exact (hu.endUnsent _ _ _ _).foldl (fun _ _ hv => hv.complete _ _ _ _ _ _ _ _) _
  · exact hu

theorem stopTx (n : Nat) : SwinKept s (t.stopTx n) := (((h.flushQueued _ _).flushTx n _).modPort n _).cancelWhere _ _

theorem maySend (n : Nat) : SwinKept s (t.maySend n) := by
  unfold State.maySend
  split
  · split
    · exact h
    · have hdrawn : SwinKept s t.drawBool.2 := h.of_regs rfl
      exact SwinKept.ite (hdrawn.modPort _ _) hdrawn
  · exact h

theorem disableTx (n : Nat) : SwinKept s (t.disableTx n) := (h.maySend n).stopTx n

theorem tmRole (n : Nat) (on : Bool) : SwinKept s (t.tmRole n on) :=
  ((h.put (f := canState_tmActive n) (by simp only [swinAddr, canState_tmActive]; omega) _).modPort n _).post _ _ _ _ _ _ _

theorem cutTx (n : Nat) : SwinKept s (t.cutTx n) := by
  have hcut : SwinKept s (((t.disableTx n).flushTx n (fun _ => true)).modPort n (fun p => { p with onAir := none })) :=
    ((h.disableTx n).flushTx n _).modPort n _
  exact SwinKept.ite (hcut.tmRole n false) hcut

theorem stat (p kind idx by_ : Nat) : SwinKept s (t.stat p kind idx by_) := h.of_regs rfl

theorem noteT1s (p : Nat) : SwinKept s (t.noteT1s p) := by
  unfold State.noteT1s
  split
  · have hdrawn : SwinKept s t.drawNat.2.drawNat.2 := h.of_regs rfl
    exact (SwinKept.ite (hdrawn.stat _ _ _ _) hdrawn).stat _ _ _ _
  · exact h

theorem putLink (p v : Nat) : SwinKept s (t.put (phyStat_link p) v) := h.put (by simp only [swinAddr, phyStat_link]; omega) v

theorem plcaTo (p : Nat) (ok : Bool) : SwinKept s (t.plcaTo p ok) :=
  SwinKept.ite h ((h.put (f := phyStat_plcaOk p) (by simp only [swinAddr, phyStat_plcaOk]; omega) _).stat _ _ _ _)

theorem netLinkEvent (p : Nat) (up plca : Bool) : SwinKept s (t.netLinkEvent p up plca) := h.post _ _ _ _ _ _ _

theorem elect : SwinKept s t.elect :=
  ⟨fun f hf => (t.elect_get (fun hm => by rw [hm] at hf; simp only [swinAddr, crankTsync_master] at hf; omega)).trans (h.get f hf)⟩

theorem ridgeTo (l st peer : Nat) (swapped : Bool) : SwinKept s (t.ridgeTo l st peer swapped) := by
  unfold State.ridgeTo
  extract_lets was is_ t1 t2 t3
  have h1 : SwinKept s t1 := h.put (f := rdgStat_state l) (by simp only [swinAddr, rdgStat_state]; omega) _
  have h2 : SwinKept s t2 := (h1.post _ _ _ _ _ _ _).netLinkEvent _ _ _
  have h3 : SwinKept s t3 := h2.modNet _ _
  split
  · exact h1
  · split
    · exact h3.of_regs rfl
    · exact ((h3.stat _ _ _ _).fault _ _ _).elect

theorem ridgeDrop (l st : Nat) : SwinKept s (t.ridgeDrop l st) := h.ridgeTo _ _ _ _

theorem retrain (p : Nat) : SwinKept s (t.retrain p) :=
  SwinKept.ite (SwinKept.ite ((((h.noteT1s p).putLink p 0).plcaTo p false).netLinkEvent _ _ _) h) ((h.ridgeDrop _ _).modNet _ _)

/-! ### Field outputs -/

theorem fqSync : SwinKept s t.fqSync := by
  unfold State.fqSync
  extract_lets on t1
  have h1 : SwinKept s t1 := (h.put (f := fqState_on) (by simp only [swinAddr, fqState_on]; omega) _).put (f := fqFault_limit)
    (by simp only [swinAddr, fqFault_limit]; omega) _
  clear_value t1
  exact h1.of_regs rfl

theorem fqClear : SwinKept s t.fqClear := (h.put (f := fqState_cmd) (by simp only [swinAddr, fqState_cmd]; omega) _).fqSync

/-! ### Domains -/

theorem summaryWrite : SwinKept s t.summaryWrite := SwinKept.ite h (h.of_regs rfl)

theorem enterFx (d : Nat) : SwinKept s (t.enterFx d) := by
  unfold State.enterFx
  split
  · exact h.of_regs rfl
  · split
    · extract_lets t1 t2 ids
      have h1 : SwinKept s t1 := h.summaryWrite
      have h2 : SwinKept s t2 := SwinKept.ite (h1.cancelWhere _ _) h1
      refine h2.foldl (fun u n hu => ?_) _
      split
      · exact hu.endJob _ _ _ _ _
      · exact hu
    · split
      · exact h.cancelWhere _ _
      · split
        · exact (h.ridgeDrop 0 0).ridgeDrop 1 0
        · split
          · exact (h.retrain 0).retrain 1
          · split
            · exact (h.retrain 2).retrain 3
            · split
              · exact h.cutTx _
              · split
                · exact h.bankDown _
                · split
                  · exact ((h.flushQueued _ _).cancelWhere _ _).fqClear
                  · exact SwinKept.ite (h.modImm _) h

theorem beginEntry (d : Nat) : SwinKept s (t.beginEntry d) := by
  unfold State.beginEntry
  split
  · exact h
  · exact h
  · have hentered := (h.enterFx d).modDom d
    exact (SwinKept.ite ((hentered _).modPort _ _) (hentered _)).fqSync

theorem kickEntries : SwinKept s t.kickEntries := h.forEach (fun d _ hu => SwinKept.ite (hu.beginEntry d) hu) _
theorem kickExits : SwinKept s t.kickExits := h.forEach (fun d _ hu => SwinKept.ite (hu.modDom d _) hu) _

theorem settleDom (n : Nat) : SwinKept s (t.settleDom n) := by
  unfold State.settleDom
  split
  · exact h
  · split
    · split
      · exact h.endJob _ _ _ _ _
      · exact h.endJob _ _ _ _ _
    · exact h

theorem domOut (d : Nat) (p : Job → Bool) (ok : Bool) : SwinKept s (t.domOut d p ok) := h.foldl (fun _ n hu => (hu.modJob n _).settleDom n) _

theorem dropDom (d : Nat) : SwinKept s (t.dropDom d) := (SwinKept.ite ((h.modDom d _).modPort _ _) (h.modDom d _)).domOut _ _ _

theorem askDom (d : Nat) : SwinKept s (t.askDom d) := by
  unfold State.askDom
  extract_lets x back
  have hback {u : State} (hu : SwinKept s u) : SwinKept s (back u) := SwinKept.ite hu (hu.modDom d _)
  split
  · exact h.modDom d _
  · exact SwinKept.ite (h.modDom d _) (hback (h.dropDom d))
  · exact hback h

/-! ### A wake-up and the immobiliser -/

theorem parkRestart : SwinKept s t.parkRestart := by
  have hdrawn : SwinKept s t.drawNat.2 := h.of_regs rfl
  have hclock (f : Imm → Imm) := hdrawn.modImm f
  exact SwinKept.ite (hclock _) (((hclock _).modImm _).post _ _ _ _ _ _ _)

theorem mirror (c : Nat) : SwinKept s (t.mirror c) := by
  have hput {f : Fld} (hf : f.addr = 0xF0000) (v : Nat) : SwinKept s (t.put f v) := h.put (by rw [hf, swinAddr]; omega) v
  exact SwinKept.ite (hput rfl _) (SwinKept.ite (hput rfl _) (SwinKept.ite (hput rfl _) (SwinKept.ite (hput rfl _) h)))

theorem noteWake (c : Nat) : SwinKept s (t.noteWake c) := by
  unfold State.noteWake
  extract_lets src t1
  have h1 : SwinKept s t1 := SwinKept.ite (h.put (f := pwrWakeinfo_first) (by simp only [swinAddr, pwrWakeinfo_first]; omega) _) h
  exact ((h1.put (f := pwrWakesrc_src) (by simp only [swinAddr, pwrWakesrc_src]; omega) _).inc (f := pwrWakeinfo_count)
    (by simp only [swinAddr, pwrWakeinfo_count]; omega)).mirror c

theorem wakeTo (c : Nat) (ds : List Nat) : SwinKept s (t.wakeTo c ds) := by
  unfold State.wakeTo
  extract_lets t1 woken t2 t3 t4
  have h1 : SwinKept s t1 := by
    show SwinKept s (match t.hibAt with | some _ => _ | none => _)
    split
    · refine SwinKept.put ?_ (f := pwrSlept_ms) (by simp only [swinAddr, pwrSlept_ms]; omega) _
      exact h.of_regs rfl
    · exact h
  have h2 : SwinKept s t2 := h1.forEach (fun d _ hu => SwinKept.askDom (SwinKept.ite (hu.modPort _ _) hu) d) _
  have h3 : SwinKept s t3 := h2.kickExits.kickEntries
  clear_value t3
  have h4 : SwinKept s t4 := SwinKept.ite (h3.of_regs rfl) h3
  exact (h4.post _ _ _ _ _ _ _).parkRestart

theorem wake (c : Nat) : SwinKept s (t.wake c) :=
  SwinKept.ite h (SwinKept.ite (h.noteWake c) ((h.noteWake c).wakeTo c _))

theorem endRelease (reason : Nat) : SwinKept s (t.endRelease reason) :=
  SwinKept.ite ((h.post _ _ _ _ _ _ _).modImm _).parkRestart h

theorem immCheck : SwinKept s t.immCheck := by
  unfold State.immCheck
  extract_lets r t1
  have h1 : SwinKept s t1 := h.modImm _
  exact SwinKept.ite h (SwinKept.ite h1 (h1.endRelease _))

theorem axRef (n tm : Nat) : SwinKept s (t.axRef n tm) := by
  have hvalue (v : Nat) : SwinKept s (t.put (axRef_value n) v) := h.put (by simp only [swinAddr, axRef_value]; omega) v
  have htime (v : Nat) : SwinKept s ((t.put (axRef_value n) v).put (axReftime_value n) tm) :=
    (hvalue v).put (by simp only [swinAddr, axReftime_value]; omega) tm
  unfold State.axRef
  exact (htime _).postAt _ _ _ _ _ _ _ _

theorem axRefInput (code tm : Nat) : SwinKept s (t.axRefInput code tm) :=
  SwinKept.ite (h.forEach (fun n _ hu => SwinKept.ite (hu.axRef n tm) hu) _) h

end

end SwinKept

end Sys2Proof.Machine
end

section
/-! PROOFS. Inputs: their commands, debounced levels and change bits (spec/12). -/

namespace Sys2Proof.Machine

/-! ### Bits of a register -/

theorem bitOf_eq_testBit (n k : Nat) : bitOf n k = n.testBit k := by
  rw [Nat.testBit_eq_decide_div_mod_eq, bitOf, beq_eq_decide]

theorem State.get_word (s : State) (a : Nat) : s.get ⟨a, 31, 0⟩ = (s.rd a).toNat := by
  rw [State.get, bits, Nat.pow_zero, Nat.div_one]
  exact Nat.mod_eq_of_lt (s.rd a).isLt

/-- One bit of a register is written. -/
theorem State.get_word_put_bit (s : State) (a : Nat) {b : Nat} (hb : b < 32) (v i : Nat) :
    bitOf ((s.put ⟨a, b, b⟩ v).get ⟨a, 31, 0⟩) i = if i = b then v.testBit 0 else bitOf (s.get ⟨a, 31, 0⟩) i := by
  have hval : (s.put ⟨a, b, b⟩ v).get ⟨a, 31, 0⟩ = setBits (s.rd a).toNat b b v := by
    rw [State.get_word, State.put, State.rd_wr_self, word_toNat]
    exact Nat.mod_eq_of_lt (setBits_lt _ _ _ _ (Nat.le_succ b) (s.rd a).isLt (Nat.le_of_lt_succ hb))
  rw [hval, State.get_word, bitOf_eq_testBit, bitOf_eq_testBit, setBits_testBit _ _ _ _ _ (Nat.le_succ b)]
  by_cases hib : i = b
  · rw [if_pos (by omega), if_pos hib, hib, Nat.sub_self]
  · rw [if_neg (by omega), if_neg hib]

theorem b2n_testBit_zero (c : Bool) : (b2n c).testBit 0 = c := by cases c <;> rfl

/-! ### Static inputs -/

theorem State.swin_eq (s : State) (n : Nat) : s.swin n = bitOf (s.get (swinState_state (swinBit n).1)) (swinBit n).2 := by
  unfold State.swin swinBit
  split <;> rfl

theorem swinBit_lt {n : Nat} (hn : n < 40) : (swinBit n).1 < 2 ∧ (swinBit n).2 < 32 := by
  unfold swinBit
  split <;> constructor <;> dsimp only <;> omega

theorem swinBit_injective {m n : Nat} (h : swinBit m = swinBit n) (hm : m < 40) (hn : n < 40) : m = n := by
  unfold swinBit at h
  split at h <;> split at h <;> simp only [Prod.mk.injEq] at h <;> omega

theorem State.swin_of_kept {s t : State} (h : SwinKept s t) {n : Nat} (hn : n < 40) : t.swin n = s.swin n := by
  have hr := (swinBit_lt hn).1
  rw [State.swin_eq, State.swin_eq, h.get _ (by simp only [swinAddr, swinState_state]; omega)]

theorem State.setSwin_swin_self (s : State) {n : Nat} (closed : Bool) (hn : n < 40) : (s.setSwin n closed).swin n = closed := by
  rw [State.swin_eq]
  exact (State.get_word_put_bit s _ (swinBit_lt hn).2 _ _).trans ((if_pos rfl).trans (b2n_testBit_zero closed))

theorem State.setSwin_swin_ne (s : State) {m n : Nat} (closed : Bool) (hm : m < 40) (hn : n < 40) (hmn : m ≠ n) :
    (s.setSwin n closed).swin m = s.swin m := by
  rw [State.swin_eq, State.swin_eq]
  by_cases hreg : (swinBit m).1 = (swinBit n).1
  · rw [hreg]
    refine (State.get_word_put_bit s _ (swinBit_lt hn).2 _ _).trans (if_neg fun hbit => hmn ?_)
    exact swinBit_injective (Prod.ext hreg hbit) hm hn
  · rw [State.setSwin, State.get_put_ne]
    simp only [swinState_state]
    omega

/-- An input's new level and its change bit are set. -/
def State.swinMarked (s : State) (n : Nat) (closed : Bool) : State :=
  (s.setSwin n closed).immCheck.put ⟨(swinChg_chg (swinBit n).1).addr, (swinBit n).2, (swinBit n).2⟩ 1

/-- The event, the axis reference and the wake-up that follow a change write neither levels nor change bits. -/
theorem State.swinChange_kept (s : State) (n : Nat) (closed : Bool) : SwinKept (s.swinMarked n closed) (s.swinChange n closed) := by
  unfold State.swinChange State.swinMarked
  generalize swinBit n = place
  obtain ⟨r, b⟩ := place
  generalize ht : (s.setSwin n closed).immCheck.put ⟨(swinChg_chg r).addr, b, b⟩ 1 = t
  have h1 := SwinKept.refl t
  have h2 (tm : Nat) : SwinKept t (if s.swf n 28 28 = 1 then t.postAt (t.ownerList 7 n) 13 0x01 n (b2n closed) 0 (word tm) else t) :=
    SwinKept.ite (h1.postAt _ _ _ _ _ _ _ _) h1
  dsimp only
  rw [ht]
  exact SwinKept.ite (SwinKept.wake (SwinKept.ite ((h2 _).axRefInput _ _) (h2 _)) 8) (SwinKept.ite ((h2 _).axRefInput _ _) (h2 _))

theorem State.swinMarked_swin (s : State) {m n : Nat} (closed : Bool) (hm : m < 40) (hn : n < 40) :
    (s.swinMarked n closed).swin m = (s.setSwin n closed).swin m := by
  have hmr := (swinBit_lt hm).1
  have hnr := (swinBit_lt hn).1
  have hput : (s.swinMarked n closed).swin m = (s.setSwin n closed).immCheck.swin m := by
    rw [State.swin_eq, State.swin_eq, State.swinMarked, State.get_put_ne]
    simp only [swinState_state, swinChg_chg]
    omega
  rw [hput, State.swin_of_kept (SwinKept.refl _).immCheck hm]

/-- R256, R259: what a debounced change leaves in the registers. -/
theorem State.swinChange_result (s : State) {n : Nat} (closed : Bool) (hn : n < 40) :
    (s.swinChange n closed).swin n = closed ∧
      (s.swinChange n closed).get ⟨(swinChg_chg (swinBit n).1).addr, (swinBit n).2, (swinBit n).2⟩ = 1 ∧
      ∀ m : Nat, m < 40 → m ≠ n → (s.swinChange n closed).swin m = s.swin m := by
  have hkept := s.swinChange_kept n closed
  obtain ⟨hreg, hbit⟩ := swinBit_lt hn
  refine ⟨?_, ?_, fun m hm hmn => ?_⟩
  · rw [State.swin_of_kept hkept hn, s.swinMarked_swin closed hn hn, s.setSwin_swin_self closed hn]
  · rw [hkept.get _ (by simp only [swinAddr, swinChg_chg]; omega), State.swinMarked,
      State.get_put_self _ _ _ (Nat.le_succ _) (Nat.le_of_lt_succ hbit), Nat.add_sub_cancel_left]
    rfl
  · rw [State.swin_of_kept hkept hm, s.swinMarked_swin closed hm hn, s.setSwin_swin_ne closed hm hn hmn]

end Sys2Proof.Machine
end

section
/-! PROOFS. Field inputs, the input commands and the input rows (spec/12). -/

namespace Sys2Proof.Machine

/-! ### Field inputs -/

theorem HubBlind.fiDeb : HubBlind State.fiDeb := ⟨fun _ _ _ => rfl, fun _ _ _ => rfl, fun _ _ => rfl, fun _ _ => rfl⟩

theorem State.fiState_testBit (s : State) {m : Nat} (hm : m < 16) : s.fiState.testBit m = (s.fiDeb.testBit m != (s.fif m 25 25 == 1)) := by
  have hinv : s.fiInv.testBit m = (s.fif m 25 25 == 1) := by
    rw [State.fiInv, testBit_listMask, Bool.eq_iff_iff]
    simp [hm]
  rw [State.fiState, show 65536 = 2 ^ 16 from rfl, Nat.testBit_mod_two_pow, Nat.testBit_xor, hinv, decide_eq_true hm, Bool.true_and]

theorem State.fiState_testBit_above (s : State) {m : Nat} (hm : 16 ≤ m) : s.fiState.testBit m = false := by
  rw [State.fiState, show 65536 = 2 ^ 16 from rfl, Nat.testBit_mod_two_pow, decide_eq_false (Nat.not_lt.mpr hm), Bool.false_and]

/-- The addresses of the field inputs' settings and of their change bits. -/
def fiAddr (a : Nat) : Prop := (0x88040 ≤ a ∧ a ≤ 0x8807C) ∨ a = 0x88090

/-- The field inputs read in `t` as in `s`. -/
structure FiKept (s t : State) : Prop where
  deb : t.fiDeb = s.fiDeb
  get : ∀ f : Fld, fiAddr f.addr → t.get f = s.get f

theorem not_hubWrites_of_fiAddr {a : Nat} (ha : fiAddr a) : ¬ hubWrites a := by
  rintro (h | h | ⟨n, h⟩)
  · simp only [sysPoolstat_lowest, fiAddr] at h ha
    omega
  · simp only [evtHub_hubdrop, fiAddr] at h ha
    omega
  · simp only [evtStat_lost, fiAddr] at h ha
    omega

namespace FiKept

variable {s t u : State} (h : FiKept s t)

theorem refl (s : State) : FiKept s s := ⟨rfl, fun _ _ => rfl⟩

theorem ite {p : Prop} [Decidable p] (ht : FiKept s t) (hu : FiKept s u) : FiKept s (if p then t else u) := by
  split
  · exact ht
  · exact hu

include h

theorem put {f : Fld} (hf : ¬ fiAddr f.addr) (v : Nat) : FiKept s (t.put f v) :=
  ⟨h.deb, fun g hg => (State.get_put_ne t v (fun hfg => hf (hfg ▸ hg))).trans (h.get g hg)⟩

theorem postAt (dest : List Nat) (cls code src arg data : Nat) (time : Word) (cont : List Word) :
    FiKept s (t.postAt dest cls code src arg data time cont) :=
  ⟨(HubBlind.fiDeb.offer t _ _).trans h.deb, fun f hf => (t.offer_get (not_hubWrites_of_fiAddr hf) _ _).trans (h.get f hf)⟩

theorem axRef (n tm : Nat) : FiKept s (t.axRef n tm) := by
  have hvalue (v : Nat) : FiKept s (t.put (axRef_value n) v) := h.put (by simp only [fiAddr, axRef_value]; omega) v
  have htime (v : Nat) : FiKept s ((t.put (axRef_value n) v).put (axReftime_value n) tm) :=
    (hvalue v).put (by simp only [fiAddr, axReftime_value]; omega) tm
  unfold State.axRef
  exact (htime _).postAt _ _ _ _ _ _ _ _

theorem forEach {f : Nat → State → State} (hf : ∀ (k : Nat) (t : State), FiKept s t → FiKept s (f k t)) (l : List Nat) :
    FiKept s (Machine.forEach l f t) := by
  induction l generalizing t with
  | nil => exact h
  | cons k l ih => exact ih (hf k t h)

theorem axRefInput (code tm : Nat) : FiKept s (t.axRefInput code tm) := FiKept.ite (h.forEach (fun n _ hu => FiKept.ite (hu.axRef n tm) hu) _) h

theorem fiState_testBit (m : Nat) : t.fiState.testBit m = s.fiState.testBit m := by
  by_cases hm : m < 16
  · have hfif : t.fif m 25 25 = s.fif m 25 25 := h.get ⟨(fiCfg_word m).addr, 25, 25⟩ (by simp only [fiAddr, fiCfg_word]; omega)
    rw [t.fiState_testBit hm, s.fiState_testBit hm, h.deb, hfif]
  · rw [t.fiState_testBit_above (Nat.not_lt.mp hm), s.fiState_testBit_above (Nat.not_lt.mp hm)]

end FiKept

/-- A field input's new level and its change bit are set. -/
def State.fiMarked (s : State) (n : Nat) (active : Bool) : State :=
  let t : State := { s with fiDeb := setBits s.fiDeb n n (b2n (active != (s.fif n 25 25 == 1))) }
  t.put fiChg_chg (t.get fiChg_chg ||| 2 ^ n)

theorem State.fiChange_kept (s : State) {n : Nat} {active : Bool} (hne : s.fiState.testBit n ≠ active) :
    FiKept (s.fiMarked n active) (s.fiChange n active) := by
  have h1 := FiKept.refl (s.fiMarked n active)
  have h2 (u : State) (tm : Nat) (hu : u = s.fiMarked n active) :
      FiKept (s.fiMarked n active) (if s.fif n 24 24 = 1 then u.postAt (u.ownerList 9 Dm.field) 14 0x01 n (b2n active) 0 (word tm) else u) := by
    subst hu
    exact FiKept.ite (h1.postAt _ _ _ _ _ _ _ _) h1
  unfold State.fiChange
  rw [if_neg hne]
  exact FiKept.ite ((h2 _ _ rfl).axRefInput _ _) (h2 _ _ rfl)

theorem State.fiMarked_fif (s : State) (n : Nat) (active : Bool) {m : Nat} (hm : m < 16) : (s.fiMarked n active).fif m 25 25 = s.fif m 25 25 :=
  State.get_put_ne (f := fiChg_chg) (g := ⟨(fiCfg_word m).addr, 25, 25⟩) _ _ (by simp only [fiCfg_word, fiChg_chg]; omega)

theorem State.fiMarked_testBit (s : State) {n : Nat} (active : Bool) {m : Nat} (hm : m < 16) :
    (s.fiMarked n active).fiState.testBit m = if m = n then active else s.fiState.testBit m := by
  have hdeb : (s.fiMarked n active).fiDeb = setBits s.fiDeb n n (b2n (active != (s.fif n 25 25 == 1))) := rfl
  rw [State.fiState_testBit _ hm, State.fiMarked_fif _ _ _ hm, hdeb, setBits_testBit _ _ _ _ _ (Nat.le_succ n)]
  by_cases hmn : m = n
  · rw [if_pos (by omega), if_pos hmn, hmn, Nat.sub_self, b2n_testBit_zero]
    cases active <;> cases s.fif n 25 25 == 1 <;> rfl
  · rw [if_neg (by omega), if_neg hmn, s.fiState_testBit hm]

/-- R262: what a debounced change leaves. -/
theorem State.fiChange_result (s : State) {n : Nat} {active : Bool} (hn : n < 16) (hne : s.fiState.testBit n ≠ active) :
    (s.fiChange n active).fiState.testBit n = active ∧ ((s.fiChange n active).get fiChg_chg).testBit n = true ∧
      ∀ m : Nat, m ≠ n → (s.fiChange n active).fiState.testBit m = s.fiState.testBit m := by
  have hkept := s.fiChange_kept hne
  refine ⟨?_, ?_, fun m hmn => ?_⟩
  · rw [hkept.fiState_testBit, s.fiMarked_testBit active hn, if_pos rfl]
  · have hword : (s.fiMarked n active).get fiChg_chg = (s.get fiChg_chg ||| 2 ^ n) % 2 ^ 16 :=
      State.get_put_self _ fiChg_chg _ (by decide) (by decide)
    rw [hkept.get fiChg_chg (.inr rfl), hword, Nat.testBit_mod_two_pow, Nat.testBit_or, Nat.testBit_two_pow_self, Bool.or_true,
      decide_eq_true hn]
    rfl
  · rw [hkept.fiState_testBit]
    by_cases hm : m < 16
    · rw [s.fiMarked_testBit active hm, if_neg hmn]
    · rw [State.fiState_testBit_above _ (Nat.not_lt.mp hm), State.fiState_testBit_above _ (Nat.not_lt.mp hm)]

/-! ### The rows of inputs -/

theorem exec_swinDebouncedChange {n : Fin 40} {closed : Bool} {s : State} (hset : s.swf n.val 31 30 ≠ 0) (hne : s.swin n.val ≠ closed) :
    exec (.swinDebouncedChange n closed) s = .next (s.keep (s.swinChange n.val closed)) :=
  show execSwinDebouncedChange n closed s = _ from act_of_eq (if_neg (not_or.mpr ⟨hset, hne⟩))

theorem exec_fiDebouncedChange {n : Fin 16} (active : Bool) {s : State} (hlive : s.fieldLive = true) :
    exec (.fiDebouncedChange n active) s = .next (s.keep (s.fiChange n.val active)) :=
  show execFiDebouncedChange n active s = _ from act_of_eq (if_pos hlive)

section
variable {n : Fin 8} {level : Bool} {s : State}

theorem exec_staticWakeInput_unarmed (hoff : s.wakeOn n.val = false) :
    exec (.staticWakeInput n level) s = .next { s with wkLevel := setBits s.wkLevel n.val n.val (b2n level) } :=
  show execStaticWakeInput n level s = _ from act_of_eq_same (if_pos hoff) rfl rfl rfl

theorem exec_staticWakeInput_level (hon : s.wakeOn n.val = true) (hedge : s.wkf n.val 0 30 29 = 3)
    (hwake : ({ s with wkLevel := setBits s.wkLevel n.val n.val (b2n level) } : State).levelWake n.val = true) :
    exec (.staticWakeInput n level) s = .next (s.keep (({ s with wkLevel := setBits s.wkLevel n.val n.val (b2n level) } : State).wake n.val)) := by
  refine show execStaticWakeInput n level s = _ from act_of_eq ((if_neg (ne_false_of_eq_true hon)).trans ?_)
  simp only [hedge]
  exact if_pos hwake

theorem exec_staticWakeInput_edge (hon : s.wakeOn n.val = true) {e : Nat} (hedge : s.wkf n.val 0 30 29 = e) (he : e ≠ 3)
    (hchange : s.wkLevel.testBit n.val ≠ level) (hmeets : e = 2 ∨ (e = 0) = (level = true)) :
    exec (.staticWakeInput n level) s = .next (s.keep (({ s with wkLevel := setBits s.wkLevel n.val n.val (b2n level) } : State).wake n.val)) := by
  refine show execStaticWakeInput n level s = _ from act_of_eq ((if_neg (ne_false_of_eq_true hon)).trans ?_)
  split
  next h3 => exact absurd (hedge.symm.trans h3) he
  next => exact if_pos ⟨hchange, hedge ▸ hmeets⟩

end

/-! ### The input commands -/

section
variable {s : State} {h : Hdr} {w : Word}

theorem State.does_swinConfig {input : Byte} (hr : s.runs h (.swinConfig h input [w, 0]) = true) (hown : s.owns h.hc.val 7 input.toNat = true)
    (hn : input.toNat < 40) (hok : swinOk w.toNat = true) (hwet : s.wetOk input.toNat w.toNat = true) :
    s.does (.swinConfig h input [w, 0]) h ((s.taken h.hc.val (.swinConfig h input [w, 0])).swinCommit input.toNat w) := by
  refine State.does_of_runI hr rfl ?_
  rw [if_neg (by simp [hn]), if_neg (by simp [hok, hwet]), if_neg (by simp; omega), State.taken_owns, if_neg (not_not.mpr hown),
    if_pos (decide_eq_true hn)]
  rfl

theorem State.takes_swinConfig {input : Byte} (hr : s.runs h (.swinConfig h input [w, 0]) = true) (hown : s.owns h.hc.val 7 input.toNat = true)
    (hlo : 64 ≤ input.toNat) (hhi : input.toNat < 68) (hw : bits w.toNat 30 0 = 0) :
    s.takes (.swinConfig h input [w, 0]) h (s.wr (ainCfg_word (input.toNat - 64)).addr w) := by
  refine State.takes_of_hosted hr rfl (fun o ht => ?_) (s.calm_wr_above w h.hc.isLt (by simp only [ainCfg_word]; omega))
  rw [if_neg (by simp [hlo, hhi]), if_neg (by simp; omega), if_neg (by simp [hw]), State.taken_owns, if_neg (not_not.mpr hown), if_neg (by simp; omega), ht]
  rfl

theorem State.does_fieldOut {mask value : Half} (hr : s.runs h (.fieldOut h mask value) = true) :
    let r := (s.taken h.hc.val (.fieldOut h mask value)).fieldOutBy h.hc.val mask.toNat value.toNat h.atomic
    s.does (.fieldOut h mask value) h r.1 0 [] r.2 :=
  State.does_of_runI hr rfl rfl

theorem State.takes_fieldConfig {ch : Byte} (hr : s.runs h (.fieldConfig h ch [w, 0]) = true) (hn : ch.toNat ≤ 31)
    (hok : fieldRecOk (decide (16 ≤ ch.toNat)) w.toNat = true)
    (hown : (if 16 ≤ ch.toNat then s.owns h.hc.val 9 Dm.field else s.owns h.hc.val 6 ch.toNat) = true) :
    s.takes (.fieldConfig h ch [w, 0]) h (s.fieldCommit (decide (16 ≤ ch.toNat)) (ch.toNat % 16) w) := by
  refine State.takes_of_hosted hr rfl (fun o ht => ?_) (s.calm_wr_above w h.hc.isLt ?_)
  · rw [if_neg (by simp [hok, hn]), State.taken_owns, State.taken_owns, if_neg (by simpa using hown), ht]
    rfl
  · split
    · simp only [fiCfg_word]
      omega
    · simp only [fqCfg_word]
      omega

theorem State.fiState_wr_fiCfg (s : State) {k : Nat} (hk : k < 16) (w : Word) :
    (s.wr (fiCfg_word k).addr w).fiState.testBit k = (s.fiDeb.testBit k != (bits w.toNat 25 25 == 1)) := by
  rw [State.fiState_testBit _ hk, State.fif, State.rd_wr_self]
  rfl

end

/-- Settles O32: the event, the axis reference and the wake-up after a change leave the inputs' registers as the change set them. -/
theorem inputRowsComplete : Obligations.InputRowsComplete := by
  unfold Obligations.InputRowsComplete
  refine ⟨fun s h input w => ?_, fun s h mask value => State.does_fieldOut, fun s h ch w => ?_, fun n closed s hset hne => ?_, fun n level s => ?_,
    fun n active s hlive hne => ?_⟩
  · intro c n hr hown
    exact ⟨State.does_swinConfig hr hown, State.takes_swinConfig hr hown⟩
  · intro c n hr hn hok
    refine ⟨fun hlow hown => ?_, fun hhigh hown => ⟨?_, ?_⟩⟩
    · have htakes := State.takes_fieldConfig hr hn hok (by rw [if_neg (Nat.not_le.mpr hlow)]; exact hown)
      rw [decide_eq_false (Nat.not_le.mpr hlow), Nat.mod_eq_of_lt hlow] at htakes
      exact htakes
    · have htakes := State.takes_fieldConfig hr hn hok (by rw [if_pos hhigh]; exact hown)
      rw [decide_eq_true hhigh, show ch.toNat % 16 = n - 16 by omega] at htakes
      exact htakes
    · exact s.fiState_wr_fiCfg (by omega) w
  · exact ⟨exec_swinDebouncedChange hset hne, s.swinChange_result closed n.isLt⟩
  · refine ⟨exec_staticWakeInput_unarmed, exec_staticWakeInput_level, fun hon hedge hwas hlevel => ?_, fun hon hedge hwas hlevel => ?_,
      fun hon hedge hwas => ?_⟩
    · exact exec_staticWakeInput_edge hon hedge (by decide) (by simp [hwas, hlevel]) (.inr (by simp [hlevel]))
    · exact exec_staticWakeInput_edge hon hedge (by decide) (by simp [hwas, hlevel]) (.inr (by simp [hlevel]))
    · exact exec_staticWakeInput_edge hon hedge (by decide) hwas (.inl rfl)
  · exact ⟨exec_fiDebouncedChange active hlive, s.fiChange_result n.isLt hne⟩

end Sys2Proof.Machine
end
